-- ==== Sys2Proof/Word.lean ====
section
/-! DEFINITION. Sys2Proof/Word.lean: the word types of the manual (R6, R18) and their plainest arithmetic. -/

namespace Sys2Proof

/-- One byte (R6). -/
abbrev Byte := BitVec 8

/-- A 32-bit word. -/
abbrev W32 := BitVec 32

/-- A 64-bit word. -/
abbrev W64 := BitVec 64

/-- A count on the team cycle count, compared modulo 2^64 (R224). -/
abbrev Cycle := BitVec 64

end Sys2Proof
end

