-- ==== Sys2Proof/Types.lean ====
section
/-! DEFINITION. Sys2Proof/Types.lean: the plain data that commands and the state are made of: tiles and tags, ring
requests, Hopper slots, the binary and its sections, descriptors, and the messages of Windrow and Acre. -/

namespace Sys2Proof

/-! ### Tiles -/

/-- The tile tag of R136, field by field; its reserved bits read 0. -/
structure Tag where
  check : W32 := 0
  tensorId : W32 := 0
  stepLo : W32 := 0
  shard : W32 := 0
  blockOffset : BitVec 40 := 0
  linkSlot : BitVec 24 := 0
  format : BitVec 8 := 0
  rowsM1 : BitVec 8 := 191
  colsM1 : BitVec 8 := 191
  attempt : BitVec 4 := 0
  valid : Bool := false
  poison : Bool := false
  spec : Bool := false
  parity : Bool := false
  deriving DecidableEq, Repr

/-- A tile: its tag and its payload bytes (R42, R43, R139). -/
structure Tile where
  tag : Tag := {}
  payload : List Byte := []
  deriving DecidableEq, Repr

/-- A place that holds a tile in a plot: a Crib region, a region of its own Loam slice, a pool region or a part of
one of the tile buffers T0 to T3 (R129, R103). -/
inductive Loc where
  | crib (region : Nat)
  | loam (region : Nat)
  | pool (slice region : Nat)
  | buffer (i : Nat) (part : Nat)
  deriving DecidableEq, Repr

/-- The field role an instruction names (R141, R175). -/
inductive FieldRole where
  | none | sealed | fallow
  deriving DecidableEq, Repr

/-- The template a reader compares a region's tag with (R141). The step is the plot's own step, less `stepBack`, or the fixed
step of state that no step of the job has written, as the weights of a serving job are. -/
structure TagTemplate where
  tensorId : W32 := 0
  stepBack : Nat := 0
  fixedStep : Option W32 := none
  shard : W32 := 0
  blockOffset : BitVec 40 := 0
  format : BitVec 8 := 0
  rowsM1 : BitVec 8 := 191
  colsM1 : BitVec 8 := 191
  role : FieldRole := .none
  deriving DecidableEq, Repr

/-- A tile read by an instruction: where it lies and what it must be. -/
structure TileRef where
  loc : Loc
  tmpl : TagTemplate := {}
  deriving DecidableEq, Repr

/-! ### Requests to the dictionary -/

/-- Who sends a request: the ring master (source 0x00) or a mirror slot (sources 0x10 to 0x13) (R383, R390). -/
inductive Source where
  | master
  | mirror (slot : Nat)
  deriving DecidableEq, Repr

/-- One request, as the ring frame of R377 or the slot of R383 carries it. -/
structure Req where
  src : Source := .master
  dest : BitVec 8 := 0
  epoch : BitVec 8 := 0
  op : BitVec 4 := 1
  seq : BitVec 8 := 0
  index : BitVec 16 := 0
  sub : BitVec 8 := 0
  offset : W32 := 0
  length : Nat := 0
  reserved : BitVec 16 := 0
  data : List Byte := []
  crc : W32 := 0
  deriving DecidableEq, Repr

/-- What a READ reads: a dictionary entry, or a word of the read-only mirror area of BAR0 (R382). -/
inductive ReadTarget where
  | entry (r : Req)
  | bar0 (offset : Nat)
  deriving DecidableEq, Repr

/-- A ring frame that is not a request to this device (R375). -/
structure RingFrame where
  dest : BitVec 8 := 0
  type : BitVec 4 := 1
  crcOk : Bool := true
  bytes : List Byte := []
  deriving DecidableEq, Repr

/-- What the host writes into the MSI-X control and table of BAR0 (R382, R404). -/
structure MsixWrite where
  enable : Bool := true
  functionMask : Bool := false
  vectorMask : BitVec 8 := 0
  deriving DecidableEq, Repr

/-! ### The Hopper table -/

/-- A Hopper slot: the header of R397 and the body (R401) or completion record (R403). -/
structure Slot where
  check : W32 := 0
  userTag : W64 := 0
  ticket : W64 := 0
  kind : BitVec 8 := 0
  reserved : BitVec 80 := 0
  state : BitVec 8 := 0
  body : BitVec 1792 := 0
  poisoned : Bool := false
  deriving DecidableEq, Repr

/-- A record presented to one sweep: the host's tag and the body (R397, R401). -/
structure RecordIn where
  userTag : W64 := 0
  body : BitVec 1792 := 0
  deriving DecidableEq, Repr

/-! ### Descriptors of instructions -/

/-- Where the elements of a tile stand in the tensor's full logical shape (R51): element (i, j) has the index
`base + i * rowStride + j * colStride` when it is no padding. The column stride is not 1 when the tile's columns run along
another axis than the tensor's last. -/
structure GlobalIndex where
  base : Nat := 0
  rowStride : Nat := 192
  colStride : Nat := 1
  validRows : Nat := 192
  validCols : Nat := 192
  deriving DecidableEq, Repr

/-- A Furrow instruction (R70): operands along K, widths, guard, spill period, output and spill mode. `split` says that
its K extent is one share of a larger extent (R80), `holders` how many maxima records come to it, and `below` how many of them it
combines with its own before it sends this one on. -/
structure FurrowDesc where
  a : List TileRef := []
  b : List TileRef := []
  wA : Nat := 8
  wB : Nat := 8
  rows : Nat := 192
  k : Nat := 32
  kPass : Nat := 576
  guard : Nat := 0
  accumulate : Bool := false
  split : Bool := false
  holders : Nat := 0
  below : Nat := 0
  out : Loc := .crib 0
  outTensor : W32 := 0
  outShard : W32 := 0
  outOffset : BitVec 40 := 0
  gidx : GlobalIndex := {}
  digestSlot : Option Nat := none
  bundle : Nat := 0
  deriving DecidableEq, Repr

/-- The operand sources of a chain stage (R101). -/
inductive ChainSrc where
  | p | x | y | v | const (i : Nat)
  deriving DecidableEq, Repr

/-- The sign modifiers of R100. -/
inductive SignMod where
  | none | neg | abs | negAbs
  deriving DecidableEq, Repr

/-- The conditions of cmpsel (R100). -/
inductive Cond where
  | eq | ne | lt | le | gt | ge | unord
  deriving DecidableEq, Repr

/-- The stage catalogue of R100. -/
inductive StageOp where
  | mul | add | fma | min | max
  | cmpsel (c : Cond)
  | exp2 | log2 | rsqrt
  | convert (format : BitVec 8)
  | tally (slot : Nat) (threshold : Nat)
  deriving DecidableEq, Repr

/-- What a chain does to the exponents of the block and frame elements it reads (R62): nothing, the loss scale added at the
gradient's source, or the loss scale removed from a reduced gradient. -/
inductive ScaleUse where
  | keep | add | remove
  deriving DecidableEq, Repr

/-- One stage: its operation and its operands with sign modifiers. -/
structure Stage where
  op : StageOp
  args : List (ChainSrc × SignMod) := []
  deriving DecidableEq, Repr

/-- A Tilth chain (R101 to R103, R116, R118): its stages, its streams, the tile whose entries from a first one on are the
per-row vector, its constants, and its output. The tally slot counts for an output that the tensor table does not hold; a tensor
of the table has its slot there (R56, R158). -/
structure ChainDesc where
  stages : List Stage := []
  x : Option TileRef := none
  y : Option TileRef := none
  v : Option (TileRef × Nat) := none
  consts : List W32 := []
  rows : Nat := 192
  cols : Nat := 192
  reducing : Bool := false
  out : Loc := .crib 0
  scale : ScaleUse := .keep
  outTensor : W32 := 0
  outShard : W32 := 0
  outOffset : BitVec 40 := 0
  outRole : FieldRole := .none
  gidx : GlobalIndex := {}
  digestSlot : Option Nat := none
  tallySlot : Option Nat := none
  domain : Option W32 := none
  group : Nat := 0
  bundle : Nat := 0
  deriving DecidableEq, Repr

/-- An operation of the full-width adder (R105 to R111, R182): an FWP addition; the sending of a tile's frame record; FW-w
blocks on the combined frames, for a reduction group; the addition of received FW-w blocks; the exponent ex of a holder's inputs
of an exact reduction, and the larger of two holders' exponents; its partial over tiles, with the count N and the tile of the
exponent that the holders agreed on; and the conversion of a total to FP32, which delivers Q when it is the global norm. -/
inductive FullWidthOp where
  | add (a b : TileRef)
  | sendFrames (a : TileRef)
  | encode (a : TileRef) (width group : Nat)
  | addBlocks (a b : TileRef)
  | exponent (inputs : List TileRef) (squares : Bool)
  | maxExponent (a b : TileRef)
  | exactPartial (inputs : List TileRef) (squares : Bool) (count : Nat) (ex : Option TileRef)
  | total (a : TileRef) (asQ : Bool)
  deriving DecidableEq, Repr

/-- A full-width instruction with the identity of its output (R105, R116); `records` is how many frame records of its tile it
names (R108, R120). -/
structure FullWidthDesc where
  op : FullWidthOp
  records : Nat := 0
  out : Loc := .crib 0
  outTensor : W32 := 0
  outShard : W32 := 0
  outOffset : BitVec 40 := 0
  outRole : FieldRole := .none
  rows : Nat := 192
  cols : Nat := 192
  gidx : GlobalIndex := {}
  digestSlot : Option Nat := none
  bundle : Nat := 0
  deriving DecidableEq, Repr

/-- A move-slot transfer (R130). -/
structure MoveDesc where
  src : TileRef
  dst : Loc
  bundle : Nat := 0
  deriving DecidableEq, Repr

/-- The kinds of step boundary a STEP_MARK marks (R123). -/
inductive MarkKind where
  | entry | sealArrival
  deriving DecidableEq, Repr

/-! ### The binary (R155 to R158, R235, R268 to R270, R325, R341) -/

/-- A section directory entry (R156); `reserved` says that a reserved bit of it is set. -/
structure DirEntry where
  offset : Nat := 0
  length : Nat := 0
  inst : W32 := 0xFFFFFFFF
  type : BitVec 16 := 0
  reserved : Bool := false
  deriving DecidableEq, Repr

/-- A tensor table entry (R158); `reserved` says that a reserved bit of it is set. -/
structure TensorEntry where
  tensorId : W32 := 0
  cls : BitVec 8 := 0
  format : BitVec 8 := 0
  dims : Nat := 1
  blockAxis : Nat := 0
  shape : List Nat := [1]
  layout : Nat := 0
  tallySlot : BitVec 16 := 0xFFFF
  digestSlot : BitVec 16 := 0xFFFF
  reserved : Bool := false
  deriving DecidableEq, Repr

/-- The marks of a plot image whose order R202 and R462 judge. -/
inductive ProgramMark where
  | sealWait | sealArrival | gateArrival | entryMark
  deriving DecidableEq, Repr

/-- A plot image (R121, R157): its bundles, its descriptor table (the tine and WAIT_CYCLE descriptors as the bits that the manual
gives them, the others as their fields), the entry bundle of the training step and those of its evaluation or batch entries (R203,
R461), those of the boundary and the commit program for an even and an odd season_ptr (R299), and the figures of the checks of R164. -/
structure PlotImage where
  role : Nat := 0
  plot : Nat := 0
  bytes : Nat := 0
  bundles : List (BitVec 256) := []
  tineDescs : List (BitVec 512) := []
  waitCycleDescs : List (BitVec 512) := []
  furrowDescs : List FurrowDesc := []
  chainDescs : List ChainDesc := []
  fullWidthDescs : List FullWidthDesc := []
  moveDescs : List MoveDesc := []
  loopCounts : List Nat := []
  loopNesting : Nat := 0
  tokens : List Nat := []
  marks : List ProgramMark := []
  entryBundle : Nat := 0
  workBundles : List Nat := []
  seasonBundles : List Nat := []
  deriving DecidableEq, Repr

/-- A tier binding (R341). -/
structure TierBinding where
  backingOffset : Nat := 0
  peerRank : Nat := 0
  peerRegion : Nat := 0
  region : Nat := 0
  triggerToken : Nat := 0
  triggerCount : Nat := 0
  doneToken : Nat := 0
  kind : Nat := 0
  deriving DecidableEq, Repr

/-- An HBM region of a role (R159, R402). -/
structure HbmRegion where
  number : Nat := 0
  start : Nat := 0
  bytes : Nat := 0
  intake : Option Nat := none
  isPool : Bool := false
  deriving DecidableEq, Repr

/-- The regions of one logical plot (R129, R164). -/
structure PlotRegions where
  plot : Nat := 0
  crib : List (Nat × Nat) := []
  loam : List (Nat × Nat) := []
  credits : Nat := 64
  deriving DecidableEq, Repr

/-- The region table of a role (R157, type 0x0004), with its tier bindings (R341). -/
structure RegionTable where
  role : Nat := 0
  plots : List PlotRegions := []
  pool : List (Nat × Nat × Nat) := []
  hbm : List HbmRegion := []
  tiers : List (BitVec 256) := []
  deriving DecidableEq, Repr

/-- A slot plan entry (R235). -/
structure SlotEntry where
  entryId : BitVec 24 := 1
  port : Nat := 0
  kind : Nat := 0
  anchor : W32 := 0
  firstSlot : Nat := 0
  slotCount : Nat := 1
  plot : Nat := 0
  ringFirst : Nat := 0
  ringLen : Nat := 1
  outPort : Nat := 0
  outEntry : BitVec 24 := 1
  tensorId : W32 := 0
  shard : W32 := 0
  reserved : Bool := false
  deriving DecidableEq, Repr

/-- A role's part of a slot plan, the base plan or the variant of a reduction group at a width (R157, R161): its entries, 256
bits each (R235). -/
structure SlotPlan where
  group : Nat := 0
  width : Nat := 0
  role : Nat := 0
  words : List (BitVec 256) := []
  deriving DecidableEq, Repr

/-- A phase descriptor (R269); its placements are a run of the section's placement entries. -/
structure PhaseDesc where
  entryBarrier : W32 := 0
  firstPlacement : Nat := 0
  placementCount : Nat := 0
  relayoutSlots : Nat := 0
  phaseId : Nat := 0
  kind : Nat := 0
  reserved : Bool := false
  deriving DecidableEq, Repr

/-- A placement entry (R270). `oddRegion` is the first region of the odd field's copy of step-mutable state, whose place the
manual does not give (log entry 9). -/
structure Placement where
  tensorId : W32 := 0
  shard : W32 := 0
  boFirst : Nat := 0
  boCount : Nat := 1
  rank : Nat := 0
  plot : Nat := 0
  store : Nat := 1
  region : Nat := 0
  oddRegion : Nat := 0
  primary : Bool := false
  reserved : Bool := false
  deriving DecidableEq, Repr

/-- The phase map section (R268). -/
structure PhaseMaps where
  dataDegree : Nat := 1
  tensorDegree : Nat := 1
  sequenceDegree : Nat := 1
  pipelineDegree : Nat := 1
  expertDegree : Nat := 1
  placementCount : Nat := 0
  phaseCount : Nat := 0
  reserved : Bool := false
  phases : List PhaseDesc := []
  placements : List Placement := []
  deriving DecidableEq, Repr

/-- A layout descriptor (R325). -/
structure LayoutDesc where
  tensorId : W32 := 0
  srcFormat : BitVec 8 := 1
  compression : Nat := 0
  srcKind : Nat := 0
  axisOrder : List Nat := [0, 1, 2, 3, 4, 5]
  srcBlockAxis : Nat := 0
  expAdjust : Int := 0
  reserved : Bool := false
  deriving DecidableEq, Repr

/-- A role's part of the slot maps (R157): which tensor each tally and digest slot is assigned to, and the digest check pairs
(R117). -/
structure SlotMap where
  role : Nat := 0
  tallies : List (Nat × W32) := []
  digests : List (Nat × W32) := []
  pairs : List (Nat × Nat) := []
  deriving DecidableEq, Repr

/-- The numerics section (R157, type 0x000A): job seed, initial loss-scale entries, seed domains, merge recipe. -/
structure Numerics where
  jobSeed : BitVec 128 := 0
  scaleExp : Option Int := none
  growthInterval : Option Nat := none
  scaleMin : Option Int := none
  scaleMax : Option Int := none
  domains : List W32 := []
  mergeRecipe : List Byte := []
  deriving DecidableEq, Repr

/-- The season tensors of one weight tensor on this device (R299; log entry 9): the identities of the anchor, momentum and
residual copies, the snapshot and the merge input, and the elements placed here. -/
structure SeasonDecl where
  weight : W32 := 0
  anchors : W32 × W32 := (0, 0)
  momenta : W32 × W32 := (0, 0)
  residuals : W32 × W32 := (0, 0)
  snapshot : W32 := 0
  merge : W32 := 0
  base : Nat := 0
  count : Nat := 0
  primary : Bool := true
  deriving DecidableEq, Repr

/-- A shard of a tensor (R136): where its tile grid lies in the tensor seen as a matrix whose columns are its last axis, and the
tensor's extents with its padding, where it has any (R277). The manual does not say how a binary tells it (log entry 9); a shard
that is not declared is the whole tensor. -/
structure ShardDecl where
  tensorId : W32 := 0
  shard : W32 := 0
  firstRow : Nat := 0
  firstCol : Nat := 0
  rows : Nat := 1
  cols : Nat := 1
  padded : List Nat := []
  deriving DecidableEq, Repr

/-- One link of the port map (R157, type 0x000D). -/
structure PortLink where
  rank : Nat := 0
  port : Nat := 0
  peerRank : Nat := 0
  peerPort : Nat := 0
  unused : Bool := false
  deriving DecidableEq, Repr

/-- A Zomarex binary (R155 to R158). The header, the directory, the tensor table, the phase maps, the yoke profile, the layout
descriptors and the initial data are read from its bytes (Machine/Layouts.lean); what stands in the sections whose bytes the manual
does not lay out is held as the values that its rules name, the entries and descriptors that have bits as those bits (log
entry 9). `reserved` says that a reserved bit of the header is set, `actualDigest` is SHAKE256 over the bytes in the window, and
`reservedEncoding` says that some code or reserved field that R163 names under 0x0060_0008 is present in a part that the manual
gives no bits for. -/
structure Binary where
  magic : W32 := 0x39584D5A
  formatVersion : BitVec 16 := 1
  sectionCount : Nat := 0
  plots : Nat := 160
  deviceCount : Nat := 1
  latencyProfile : W32 := 0xB0
  yokePeak : Nat := 0
  minFirmware : Nat := 0
  singleField : Bool := false
  compilerBuild : W64 := 0
  reserved : Bool := false
  digest : BitVec 256 := 0
  actualDigest : BitVec 256 := 0
  bytes : Nat := 0
  directory : List DirEntry := []
  tensors : List TensorEntry := []
  rankMap : List Nat := [0]
  images : List PlotImage := []
  regions : List RegionTable := []
  phaseMaps : PhaseMaps := {}
  oddRegions : List Nat := []
  slotPlans : List SlotPlan := []
  groupWidths : List (Nat × Nat) := []
  yoke : List (Nat × Nat × Nat) := []
  latency : List Byte := []
  layouts : List LayoutDesc := []
  numerics : Numerics := {}
  slotMaps : List SlotMap := []
  initialData : List (W32 × List Byte) := []
  portMap : List PortLink := []
  serving : Bool := false
  entries : List Nat := []
  intakeRegion : Nat := 0
  seasonTensors : List SeasonDecl := []
  shards : List ShardDecl := []
  reservedEncoding : Bool := false
  deriving DecidableEq, Repr

/-- What the host writes into the CXL.mem window, the tier window or the save holder before a sweep (R399, R341, R367): of a
binary, its bytes and the contents of the sections whose bytes the manual does not lay out (log entry 9); into the tap area, the
roster and the bales of a regeneration (R313; log entry 154). -/
inductive HostWrite where
  | slot (i : Nat) (v : Slot)
  | window (addr : Nat) (bytes : List Byte)
  | tier (addr : Nat) (bytes : List Byte)
  | holder (addr : Nat) (bytes : List Byte)
  | binary (addr : Nat) (bytes : List Byte) (rest : Binary)
  | tapSeason (offset : Nat) (roster : List Byte) (signatureOk : Bool) (bales : List (List Byte))
  deriving DecidableEq, Repr

/-! ### Messages of the team -/

/-- The fault signature of R168, 128 bits, field by field; its reserved bits read 0. -/
structure Signature where
  kind : BitVec 8 := 0
  plot : BitVec 16 := 0
  rank : BitVec 16 := 0
  bundle : BitVec 16 := 0
  region : BitVec 16 := 0
  stepLo : W32 := 0
  deriving DecidableEq, Repr

/-- The seal report of R186. -/
structure SealReport where
  signature : Signature := {}
  widthGroup : BitVec 24 := 0xFFFFFF
  attempt : BitVec 4 := 0
  stepLo : W32 := 0
  numerical : Bool := false
  widthOverflow : Bool := false
  faultClass : BitVec 2 := 0
  arrivalKind : BitVec 16 := 1
  deriving DecidableEq, Repr

/-- The outcome codes of R189. -/
inductive OutcomeCode where
  | seal | skip | replay | replayWider | hold
  deriving DecidableEq, Repr

/-- The seal outcome message of R189, with the status of a hold (R169) and the step it judges (log entry 19). -/
structure SealOutcome where
  code : OutcomeCode := .seal
  signature : Signature := {}
  release : Cycle := 0
  widthGroup : BitVec 24 := 0xFFFFFF
  attempt : BitVec 4 := 0
  status : W32 := 0
  gate : Bool := false
  stepLo : W32 := 0
  deriving DecidableEq, Repr

/-- A barrier arrival message (R249), its header and its reports, with the largest save time of the subtree's devices in cycles,
from the save sizes they report (R365; log entry 10). -/
structure ArrivalMsg where
  barrier : W32 := 0
  stepLo : W32 := 0
  attempt : BitVec 4 := 0
  numericalAny : Bool := false
  widthAny : Bool := false
  portsLost : Bool := false
  widthGroup : BitVec 24 := 0xFFFFFF
  reports : List SealReport := []
  count : Nat := 1
  ranks : List Nat := []
  saveTime : Nat := 0
  deriving DecidableEq, Repr

/-- A release or outcome message (R251). -/
inductive ReleaseMsg where
  | barrier (number : W32) (stepLo : W32) (attempt : BitVec 4) (t : Cycle)
  | outcome (o : SealOutcome)
  deriving DecidableEq, Repr

/-- What a port's neighbour says of itself (R242, R243): its team entries and port, whether it is forming, and the data that the
tree, the alignment and the disabled-unit maps of R207 are made of: the lead device's generation, its hops to the lead device,
whether its parent is this device, the ranks of its subtree, whether they are all aligned, the largest sum of hop times below
it, and d_max once its team is formed; `links` is what it knows of the discovered port map (R243): per rank, the ports that
have a neighbour of the team, with that neighbour's rank and port. `hopTime`, `linkDelay` and `offset` are what the port measures of
the link (R245, R250; log entry 12). -/
structure Identity where
  teamId : W64 := 0
  rank : Nat := 0
  teamSize : Nat := 1
  successors : List Nat := [0]
  peerPort : Nat := 0
  forming : Bool := false
  generation : Nat := 0
  hops : Option Nat := none
  child : Bool := false
  subtree : List Nat := []
  aligned : Bool := false
  reach : Nat := 0
  formed : Option Nat := none
  maps : List (Nat × Nat) := []
  links : List (Nat × List (Nat × Nat × Nat)) := []
  hopTime : Nat := 0
  linkDelay : Nat := 0
  offset : Int := 0
  deriving DecidableEq, Repr

/-- A scheduled slot frame (R232): `payload` holds the payload bytes in use, the rest of the 16,384 is 0; `check` is its
frame_check. `slot` is the slot it comes in (R231), `fecOk` says that every codeword of it was correctable (R234), and `corrected`
how many codewords the FEC corrected (R264). -/
structure SlotFrame where
  sequence : BitVec 24 := 0
  retry : Bool := false
  late : Bool := false
  packed : Bool := false
  lastPiece : Bool := true
  piece : Nat := 0
  tiles : Nat := 1
  tag : Tag := {}
  payload : List Byte := []
  check : W32 := 0
  slot : Nat := 0
  fecOk : Bool := true
  corrected : Nat := 0
  deriving DecidableEq, Repr

/-- The link header of a best-effort frame (R232, R234, R240): `frameOk` says that every codeword was correctable and that the frame
check holds, over bytes that the manual does not lay out; `corrected` is how many codewords the FEC corrected (R264). -/
structure LinkHead where
  sequence : BitVec 24 := 0
  retry : Bool := false
  linkSlot : BitVec 24 := 0xFFFFFF
  frameOk : Bool := true
  corrected : Nat := 0
  deriving DecidableEq, Repr

/-- The acknowledgement and credit words of a bout (R230, R234, R240): every frame below `upTo` has arrived, `again` is asked
for again, and so many best-effort credits return. -/
structure AckWord where
  upTo : BitVec 24 := 0
  again : List (BitVec 24) := []
  credits : Nat := 0
  deriving DecidableEq, Repr

/-- A bale header (R305). -/
structure BaleHeader where
  bodyDigest : BitVec 128 := 0
  keptBlocks : Nat := 0
  firstBlock : Nat := 0
  span : Nat := 131072
  tensorId : W32 := 0
  baleSeason : Nat := 0
  part : Nat := 0
  team : Nat := 0
  late : Bool := false
  keyPrefix : W64 := 0
  deriving DecidableEq, Repr

/-- A bale: header and body bytes (R304, R305). -/
structure Bale where
  header : BaleHeader := {}
  body : List Byte := []
  deriving DecidableEq, Repr

/-- The commit modes of R310. -/
inductive CommitMode where
  | merge | isolate | join
  deriving DecidableEq, Repr

/-- The season tile (R310). -/
structure SeasonTile where
  mode : CommitMode := .merge
  season : Nat := 0
  rosterDigest : BitVec 128 := 0
  deriving DecidableEq, Repr

/-- A chunk of a drill's source as it reaches a member of a drill line, or the word that the head may read its next chunk; or the
manifest that a drill line sends first (R331, R333);
`drillId` is the shard field of its tiles, `tag` the tag of the tile that carries it down a line, and `failures` counts the reads
that failed before this one. -/
structure DrillChunk where
  copy : Nat := 0
  drillId : W32 := 0
  manifest : Option (List Byte) := none
  index : Nat := 0
  bytes : List Byte := []
  tag : Tag := {}
  failures : Nat := 0
  poisoned : Bool := false
  deriving DecidableEq, Repr

/-- A roster entry (R308). -/
structure RosterEntry where
  setDigest : BitVec 128 := 0
  baleSeason : Nat := 0
  baleCount : Nat := 0
  team : Nat := 0
  sigma : Nat := 0
  late : Bool := false
  deriving DecidableEq, Repr

/-- A roster (R307); `signatureOk` says that its Falcon-1024 signature verifies (log entry 8). -/
structure Roster where
  parentDigest : BitVec 128 := 0
  keyPrefix : BitVec 128 := 0
  anchorDigest : W64 := 0
  deadline : Nat := 0
  meanFactor : W32 := 0x3F800000
  season : Nat := 0
  generation : Nat := 0
  wardenTeam : Nat := 0
  successorIndex : Nat := 0
  entries : List RosterEntry := []
  digest : BitVec 128 := 0
  signatureOk : Bool := true
  deriving DecidableEq, Repr

/-- The content of a best-effort frame (R240). -/
inductive BestEffort where
  | tierTile (region offset : Nat) (t : Tile)
  | repairFetch (from_ : Nat) (tensorId : W32) (shard : W32) (blockOffset : BitVec 40)
  | repairReply (tensorId : W32) (shard : W32) (blockOffset : BitVec 40) (t : Option Tile)
  | drillChunk (c : DrillChunk)
  | histogram (tensorId : W32) (season part : Nat) (rank : Nat) (counts : List (Nat × Nat))
  | ready (rank season : Nat) (mode : CommitMode)
  | seasonTile (t : SeasonTile) (write : Cycle)
  | saveFrame (offset : Nat) (bytes : List Byte)
  | bale (b : Bale)
  | roster (r : Roster)
  deriving DecidableEq, Repr

/-- A best-effort frame on its way (R240): source and destination rank, and its content. -/
structure BeFrame where
  dest : Nat := 0
  source : Nat := 0
  content : BestEffort
  deriving DecidableEq, Repr

/-- A time word exchange (R245): the four stamps in 1/16 cycle. -/
structure TimeStamps where
  t1 : Int := 0
  t2 : Int := 0
  t3 : Int := 0
  t4 : Int := 0
  deriving DecidableEq, Repr

/-- A heartbeat word (R254, R255). -/
structure Heartbeat where
  generation : Nat := 0
  successorIndex : Nat := 0
  sender : Nat := 0
  bout : Nat := 0
  deriving DecidableEq, Repr

/-! ### Acre -/

/-- The Acre header of R288, field by field, with what the engine finds on receipt (R287): `intact` says that checksum,
length, version and GCM tag hold (log entry 8). -/
structure AcreHeader where
  epoch : W32 := 1
  counter : W32 := 0
  senderRank : W32 := 0
  senderTeam : BitVec 16 := 0
  type : BitVec 8 := 1
  objectId : W64 := 0
  stripe : Nat := 0
  chunk : Nat := 0
  k : Nat := 16
  m : Nat := 4
  length : Nat := 0
  intact : Bool := true
  deriving DecidableEq, Repr

/-- Where a datagram leaves and goes (R287): the Acre port, its local address, the address of the peer's endpoint, and the UDP port. -/
structure UdpPath where
  port : Nat := 0
  source : List Byte := []
  dest : List Byte := []
  udpPort : Nat := 0
  deriving DecidableEq, Repr

/-- A key agreement message (R289): `intact` says that checksum, length and version hold (R287); with what verifying it gave (log entry 8): whether the initiator sent it or the responder, its
sender, the endpoint of the sender's team that its address is, the peer's job and season key, the encapsulation key of an initiator,
the shared secret that a responder's ciphertext gives, and the transcript: the initiator's message, or the whole of what the
responder signed. -/
structure KeyAgreement where
  intact : Bool := true
  fromInitiator : Bool := true
  peerTeam : Nat := 0
  peerRank : Nat := 0
  endpoint : Nat := 0
  attestationOk : Bool := true
  jobId : W64 := 0
  seasonKey : BitVec 256 := 0
  encapsulation : List Byte := []
  sharedSecret : List Byte := []
  transcript : List Byte := []
  deriving DecidableEq, Repr

/-- A PTP message as it reaches the management port (R450). -/
structure PtpMessage where
  kind : Nat := 0
  domainNumber : Nat := 0
  transportOk : Bool := true
  fromSelectedMaster : Bool := true
  seconds : Nat := 0
  deriving DecidableEq, Repr

/-! ### Faults, firmware, recovery -/

/-- The monitors of R425 and the control SRAM of R347. -/
inductive Monitor where
  | inputVoltage | intermediateRail
  | regulator (domain : Nat)
  | fieldTemperature | headlandTemperature | hbmTemperature
  | crystal
  | pll (i : Nat)
  | controlSram
  deriving DecidableEq, Repr

/-- What a read of stored data finds (R347). -/
inductive EccResult where
  | clean | corrected | uncorrectable | miscorrected
  deriving DecidableEq, Repr

/-- The stores the patrol reads (R347, R350): Crib, Loam and pool regions each with its tag, a word of a tile buffer, a plot's program
memory and descriptor table, what buffers frames and chunks (retry buffers, staging rings, bale stores), the control processor's SRAM,
and a record of the fault log. -/
inductive PatrolStore where
  | hbmLine (line : Nat)
  | crib (plot region : Nat)
  | loam (plot region : Nat)
  | pool (slice region : Nat)
  | buffer (plot i word : Nat)
  | program (plot : Nat)
  | transport
  | control
  | faultLog (record : Nat)
  deriving DecidableEq, Repr

/-- A firmware image (R428): its header's fields, the hash of its signer's key, whether its payload has the header's digest, and whether its
signature is valid (log entry 8). -/
structure FwImage where
  imageType : Nat := 1
  version : Nat := 0
  fwInterface : Nat := 0
  rollbackIndex : Nat := 0
  keySlot : Nat := 0
  payloadDigest : BitVec 256 := 0
  payloadOk : Bool := true
  keyHash : BitVec 256 := 0
  signatureOk : Bool := true
  build : Nat := 0
  deriving DecidableEq, Repr

/-- A spare row or column put in the place of a faulty one (R362). -/
structure SpareAssign where
  site : Nat := 0
  column : Bool := false
  spare : Nat := 0
  physical : Nat := 0
  deriving DecidableEq, Repr

/-- A soft-repair map (R362). -/
structure RepairMap where
  sites : List Nat := []
  stackList : List Nat := []
  slices : List Nat := []
  spares : List SpareAssign := []
  sequence : Nat := 0
  deriving DecidableEq, Repr

/-- How a domain's Gleaner test ended (R360). -/
structure GleanResult where
  failed : Bool := false
  mends : List SpareAssign := []
  badSites : List Nat := []
  badSlices : List Nat := []
  badStacks : List Nat := []
  suspectStacks : List Nat := []
  deriving DecidableEq, Repr

end Sys2Proof
end

