-- ==== Sys2Proof/Syntax.lean ====
section
/-! DEFINITION. Sys2Proof/Syntax.lean: the commands, one constructor per row of spec/opcode_table.json, in the table's
order. An operand is what comes from outside the device, or the decoded instruction that issues (log entry 10). -/

namespace Sys2Proof

/-- The commands of the device. -/
inductive Instr where
  | powerGood
  | powerGoodDeasserted
  | resetInReleased
  | cxlConventionalReset (linkDown : Bool)
  | functionLevelReset
  | flashOwnChange (level : Bool)
  | monitorTrip (m : Monitor)
  | watchdogExpiry
  | ppsEdge (stamp : Cycle) (highNs : Nat)
  | ptpMessage (m : PtpMessage)
  | fuseReadDone
  | firmwareVerify
  | cxlConfigReady
  | hbmTrainingDone
  | startUpSelfTest (secondGroup : Bool) (failing : List Nat) (mends : List SpareAssign)
  | bootComplete
  | ringFramePass (f : RingFrame)
  | bypassChange (opens : Bool)
  | joinNoticeResend
  | enumerate (epoch count : BitVec 8)
  | timeOfDay (arrival : Cycle) (ns : Nat)
  | read (t : ReadTarget)
  | write (r : Req)
  | begin_ (r : Req)
  | commit (r : Req)
  | rollBack (r : Req)
  | txnTimeout
  | eventAck (r : Req)
  | exportCursorWrite (r : Req)
  | msixEnable (w : MsixWrite)
  | completionHoldoffExpiry
  | wake (r : Req)
  | fallow (r : Req)
  | reset (r : Req)
  | harvest (r : Req)
  | form (r : Req)
  | glean (r : Req)
  | attest (r : Req)
  | attestReportReady
  | fwUpdate (r : Req)
  | fwUpdateDone (writeOk : Bool)
  | rollbackCommit (r : Req)
  | idleTimeout
  | sweepIntervalExpiry (w : List HostWrite) (keysAgree : Bool)
  | load (r : RecordIn) (w : List HostWrite)
  | start (r : RecordIn) (keysAgree : Bool)
  | step (r : RecordIn)
  | batch (r : RecordIn)
  | evaluation (r : RecordIn)
  | drill (r : RecordIn) (w : List HostWrite)
  | switch (r : RecordIn)
  | nop (plot : Nat)
  | waitTile (plot : Nat) (t : TileRef) (seasonTile : Bool)
  | waitTileRelease (plot : Nat)
  | waitToken (plot token count : Nat)
  | waitTokenRelease (plot : Nat)
  | waitCycle (plot : Nat) (d : BitVec 512)
  | waitCycleRelease (plot : Nat)
  | loop (plot count endOffset : Nat)
  | stepMark (plot : Nat) (k : MarkKind)
  | sealWait (plot : Nat)
  | halt (plot : Nat)
  | waitTimeout (plot : Nat)
  | furrowIssue (plot : Nat) (d : FurrowDesc)
  | headlandScanDone (plot : Nat)
  | maximaRecord (plot : Nat) (t : Tile)
  | furrowPass (plot : Nat) (checksumOk : Bool)
  | passOverflow (plot : Nat)
  | spill (plot : Nat)
  | furrowReady (plot : Nat)
  | chainIssue (plot : Nat) (d : ChainDesc)
  | chainDone (plot : Nat)
  | fullWidthIssue (plot : Nat) (d : FullWidthDesc)
  | frameRecord (plot : Nat) (t : Tile)
  | move (plot : Nat) (d : MoveDesc)
  | tineStart (plot tine : Nat) (descs : List (BitVec 512))
  | tineStop (plot tine : Nat)
  | regionRelease (plot region : Nat)
  | tineNop (plot tine : Nat)
  | tineLoad (plot tine : Nat)
  | tineStore (plot tine : Nat)
  | tineMark (plot tine : Nat)
  | tineEnd (plot tine : Nat)
  | tineRequestIssue (plot tine : Nat)
  | tineDataReturn (plot tine : Nat) (ecc : EccResult)
  | storeAck (plot tine : Nat)
  | tokenSignal (plot token : Nat)
  | tierMoveDone (region : Nat) (content : List Byte) (checkOk : Bool)
  | tierTimeout
  | barrierArrive (plot : Nat) (barrier : W32)
  | sealArrive (plot : Nat) (gate : Bool)
  | ledgerMark (plot : Nat)
  | earlyAbort (rank : Nat) (r : SealReport)
  | earlyAbortWindowExpiry
  | barrierArrivalMessage (fromPort : Nat) (m : ArrivalMsg)
  | barrierTimeout (barrier : W32)
  | releaseMessage (m : ReleaseMsg)
  | sealRelease
  | gateRelease
  | rollbackRelease
  | undoComplete
  | hbmTimeout
  | restart
  | portTrainingDone (port : Nat) (ok partnerReady : Bool)
  | trainingRetry (port : Nat)
  | readyQuery (port : Nat) (arrives : Bool)
  | notReadyReceived (port : Nat)
  | portDown (port : Nat)
  | identityExchange (port : Nat) (identity : Identity)
  | formTimeout
  | boutStart
  | slotPositionStart (port : Nat) (slot : Nat)
  | slotFrameReceive (port : Nat) (f : SlotFrame)
  | ackWord (port : Nat) (w : AckWord)
  | bestEffortFrame (port : Nat) (h : LinkHead) (f : BeFrame)
  | timeWord (port : Nat) (t : TimeStamps)
  | heartbeatReceive (port : Nat) (h : Heartbeat)
  | leadSilence
  | leadTakeover
  | linkWaitExpiry (lostRank : Option Nat)
  | baleChunk (h : AcreHeader) (bytes : List Byte)
  | stripeAck (h : AcreHeader) (sample : Nat)
  | stripeNack (h : AcreHeader) (missing : List Nat)
  | nackTimer (team rank : Nat) (objectId : W64) (stripe : Nat)
  | rosterChunk (h : AcreHeader) (bytes : List Byte) (signatureOk : Bool)
  | anchorChunk (h : AcreHeader) (bytes : List Byte) (season : Nat)
  | fetchRequest (h : AcreHeader)
  | keyAgreement (k : KeyAgreement)
  | probe (h : AcreHeader)
  | probeEcho (h : AcreHeader) (sample : Nat)
  | pacingProbe (session : Nat)
  | keyEpochChange (session : Nat)
  | oldKeyErase (session : Nat)
  | winnowPassOne
  | winnowPassTwo
  | seasonDeadline (now : Nat)
  | successorPublish (now : Nat)
  | rosterWaitExpiry (now : Nat)
  | commitModeChoice
  | seasonTileWrite
  | holdoverExpiry
  | patrolRead (store : PatrolStore) (ecc : EccResult)
  | repairServe (port source : Nat) (tensorId shard : W32) (blockOffset : BitVec 40)
  | repairReply (tensorId shard : W32) (blockOffset : BitVec 40) (t : Option Tile)
  | gleanSegment
  | gleanDomainDone (r : GleanResult)
  | harvestControlWord (rank : Nat) (deadline : Cycle) (save ledgerHoldMs : Nat)
  | latestStopMessage (t deadline : Cycle) (save ledgerHoldMs : Nat)
  | latestStop
  | saveDone
  | saveCutoff
  | saveFrameReceive (port : Nat) (offset : Nat) (bytes : List Byte)
  | ledgerHoldExpiry
  | scrubDone
  | yokeSample (watts : Nat)
  | governorWindow
  | drillChunk (c : DrillChunk)
  | drillComplete (copy : Nat)
  | drillLineTimeout (copy : Nat)
  | resetInAsserted
  | ppsLost
  | managementLinkChange (up : Bool)
  | acrePortLinkChange (port : Nat) (up training : Bool)
  | mergeSumWritten
  | repairPeerTimeout
  deriving DecidableEq, Repr

end Sys2Proof
end

