-- ==== Sys2Proof/WellFormed.lean ====
section
/-! DEFINITION. Sys2Proof/WellFormed.lean: what an operand can be: the numbers of ports, plots, tines, tokens and stores, and the
widths of the fields that commands carry. -/

namespace Sys2Proof

/-- A Windrow port of a device (R226). -/
def portOk (p : Nat) : Bool := p < 28
/-- A logical plot (R22). -/
def plotOk (p : Nat) : Bool := p < 160
/-- A tine of a plot (R131). -/
def tineOk (t : Nat) : Bool := t < 32
/-- A token number (R135). -/
def tokenOk (n : Nat) : Bool := n < 4096
/-- A token count (R135). -/
def countOk (n : Nat) : Bool := n < 2 ^ 18
/-- A rank (R262). -/
def rankOk (r : Nat) : Bool := r < 65536

/-- A region, which has a tag and a ready bit; a tile buffer has neither (R129). -/
def Loc.tagged : Loc → Bool
  | .buffer _ _ => false
  | _ => true

/-- A place in a plot exists (R129, R103): a tile buffer of 147,456 B has 64 parts of 2,304 B. -/
def Loc.ok : Loc → Bool
  | .crib r => r < 1024
  | .loam r => r < 4096
  | .pool s r => s < 16 && r < 4096
  | .buffer i part => i < 4 && part < 64

/-- A request's source, lengths and data (R377, R383). -/
def Req.ok (r : Req) : Bool :=
  (match r.src with | .master => true | .mirror n => n < 4) && r.data.length ≤ 256 && r.length ≤ 256

/-- A request that names an entry (R394, R404). -/
def Req.names (r : Req) (entry : Nat) : Bool := r.ok && r.index.toNat * 256 + r.sub.toNat == entry

/-- A tile's payload has bytes (R42, R43). -/
def Tile.ok (t : Tile) : Bool := !t.payload.isEmpty

/-- A Furrow instruction's places, its widths (R36), its rows in the 192 × 192 array (R22, R67) and its figures (R70, R75); its
output is a region, since a tile buffer has no ready bit (R129). -/
def FurrowDesc.ok (d : FurrowDesc) : Bool :=
  d.out.ok && d.out.tagged && d.a.all (·.loc.ok) && d.b.all (·.loc.ok) && [4, 8, 16, 24].contains d.wA &&
    [4, 8, 12, 16, 20, 24].contains d.wB && 1 ≤ d.rows && d.rows * ((d.wA + 7) / 8) ≤ 192 && d.guard ≤ 24 && d.k % 32 == 0 &&
    32 ≤ d.k && d.k ≤ 1048576 && d.kPass % 32 == 0 && 576 ≤ d.kPass && d.kPass ≤ 8192 && d.bundle < 65536

/-- A chain has one to eight stages and at most 16 constants, and its places exist (R101). -/
def ChainDesc.ok (d : ChainDesc) : Bool :=
  d.out.ok && 1 ≤ d.stages.length && d.stages.length ≤ 8 && d.consts.length ≤ 16 && d.bundle < 65536

/-- A full-width instruction's figures (R105). -/
def FullWidthDesc.ok (d : FullWidthDesc) : Bool := d.rows ≤ 192 && d.cols ≤ 192 && d.bundle < 65536

/-- A moved tile's places exist (R130). -/
def MoveDesc.ok (d : MoveDesc) : Bool := d.src.loc.ok && d.dst.ok && d.bundle < 65536

/-- A monitor that the device has (R425, R414). -/
def Monitor.ok : Monitor → Bool
  | .regulator d => d < 21
  | .pll i => i < 8
  | _ => true

/-- A store that the patrol reads (R350). -/
def PatrolStore.ok : PatrolStore → Bool
  | .crib p r => plotOk p && r < 1024
  | .loam p r => plotOk p && r < 4096
  | .pool s r => s < 16 && r < 4096
  | _ => true

/-- A command whose operands the device's parts can carry. -/
def Instr.wf : Instr → Bool
  | .monitorTrip m => m.ok
  | .read (.entry r) | .write r | .begin_ r | .commit r | .rollBack r => r.ok
  | .eventAck r => r.names 0x102002
  | .exportCursorWrite r => r.names 0x801003
  | .wake r => r.names 0x100201
  | .fallow r => r.names 0x100202
  | .reset r => r.names 0x100203
  | .harvest r => r.names 0x207001
  | .form r => r.names 0x400005
  | .glean r => r.names 0x607001
  | .attest r => r.names 0x901102
  | .fwUpdate r => r.names 0x903001
  | .rollbackCommit r => r.names 0x903005
  | .startUpSelfTest _ failing _ => failing.all (· < 176)
  | .nop p | .waitTileRelease p | .waitTokenRelease p | .waitCycle p _ | .waitCycleRelease p | .stepMark p _ => plotOk p
  | .sealWait p | .halt p | .waitTimeout p | .headlandScanDone p | .furrowPass p _ | .passOverflow p => plotOk p
  | .spill p | .furrowReady p | .chainDone p | .ledgerMark p | .sealArrive p _ | .barrierArrive p _ => plotOk p
  | .waitTile p t _ => plotOk p && t.loc.ok
  | .waitToken p n c => plotOk p && tokenOk n && countOk c
  | .loop p c o => plotOk p && 1 ≤ c && c ≤ 2 ^ 24 && o < 4096
  | .furrowIssue p d => plotOk p && d.ok
  | .maximaRecord p t | .frameRecord p t => plotOk p && t.ok
  | .chainIssue p d => plotOk p && d.ok
  | .fullWidthIssue p d => plotOk p && d.ok
  | .move p d => plotOk p && d.ok
  | .tineStart p n _ => plotOk p && tineOk n
  | .tineStop p n | .tineNop p n | .tineLoad p n | .tineStore p n | .tineMark p n | .tineEnd p n => plotOk p && tineOk n
  | .tineRequestIssue p n | .tineDataReturn p n _ | .storeAck p n => plotOk p && tineOk n
  | .regionRelease p r => plotOk p && r < 4096
  | .tokenSignal p n => plotOk p && tokenOk n
  | .tierMoveDone r _ _ => r < 256
  | .earlyAbort r _ => rankOk r
  | .barrierArrivalMessage p m => portOk p && m.ranks.all rankOk && decide (m.count < 2 ^ 17) && decide (m.reports.length ≤ 2)
  | .portTrainingDone p _ _ | .trainingRetry p | .readyQuery p _ | .notReadyReceived p | .portDown p => portOk p
  | .identityExchange p i => portOk p && rankOk i.rank && portOk i.peerPort && i.maps.all fun m => rankOk m.1 && decide (m.2 < 2 ^ 376)
  | .slotPositionStart p _ => portOk p
  | .slotFrameReceive p f => portOk p && f.payload.length ≤ 16384 && f.piece < 65536 && 1 ≤ f.tiles && f.tiles < 65536
  | .ackWord p _ | .timeWord p _ | .heartbeatReceive p _ | .saveFrameReceive p _ _ => portOk p
  | .bestEffortFrame p h f => portOk p && h.linkSlot == 0xFFFFFF && rankOk f.dest && rankOk f.source
  | .linkWaitExpiry r => r.all rankOk
  | .baleChunk h b | .rosterChunk h b _ => 1 ≤ h.k && h.k ≤ 32 && h.m ≤ 8 && h.chunk < h.k + h.m && b.length ≤ 8192
  | .patrolRead s _ => s.ok
  | .repairServe p s _ _ _ => portOk p && rankOk s
  | .harvestControlWord r _ s _ => rankOk r && s ≤ 2
  | .latestStopMessage _ _ s _ => s ≤ 2
  | .drillChunk c => c.copy < 2
  | .drillComplete c | .drillLineTimeout c => c < 2
  | .acrePortLinkChange p _ _ => p < 2
  | .yokeSample w => w < 65536
  | .powerGood | .powerGoodDeasserted | .resetInReleased | .resetInAsserted | .cxlConventionalReset _ => true
  | .functionLevelReset | .flashOwnChange _ | .watchdogExpiry | .ppsEdge _ _ | .ptpMessage _ | .fuseReadDone => true
  | .firmwareVerify | .cxlConfigReady | .hbmTrainingDone | .bootComplete | .ringFramePass _ | .bypassChange _ => true
  | .joinNoticeResend | .enumerate _ _ | .timeOfDay _ _ | .read (.bar0 _) | .txnTimeout | .msixEnable _ => true
  | .completionHoldoffExpiry | .attestReportReady | .fwUpdateDone _ | .idleTimeout | .sweepIntervalExpiry _ _ => true
  | .load _ _ | .start _ _ | .step _ | .batch _ | .evaluation _ | .drill _ _ | .switch _ | .tierTimeout => true
  | .earlyAbortWindowExpiry | .barrierTimeout _ | .releaseMessage _ | .sealRelease | .gateRelease => true
  | .rollbackRelease | .undoComplete | .hbmTimeout | .restart | .formTimeout | .boutStart | .leadSilence => true
  | .leadTakeover | .stripeAck _ _ | .stripeNack _ _ | .nackTimer _ _ _ _ => true
  | .anchorChunk _ _ _ | .fetchRequest _ | .keyAgreement _ | .probe _ | .probeEcho _ _ | .pacingProbe _ => true
  | .keyEpochChange _ | .oldKeyErase _ | .winnowPassOne | .winnowPassTwo | .seasonDeadline _ => true
  | .successorPublish _ | .rosterWaitExpiry _ | .commitModeChoice | .seasonTileWrite | .holdoverExpiry => true
  | .repairReply _ _ _ _ | .gleanSegment | .gleanDomainDone _ | .latestStop | .saveDone => true
  | .saveCutoff | .ledgerHoldExpiry | .scrubDone | .governorWindow | .ppsLost | .managementLinkChange _ => true
  | .mergeSumWritten | .repairPeerTimeout => true

end Sys2Proof
end

