-- ==== Sys2Proof/Config.lean ====
section
/-! DEFINITION. Sys2Proof/Config.lean: what the manual leaves open, as constants without a body, and the constants of one
implementation. No proof can see the value of an opaque constant. -/

namespace Sys2Proof.Config

/-- A fresh unconstrained value, applied to the counter `State.freeCount` (log entry 4): analogue readings (R413, R415,
R426) and every other value the manual does not state. -/
opaque freeValue : Nat → Nat

/-- The bytes of the latency profile table that a profile names (R150, R160): the manual does not give them (log entry 6). -/
opaque profileTable : BitVec 32 → List (BitVec 8)

/-- The window address that boot sets for slot 0 of the Hopper table (R406; log entry 7). -/
opaque hopperBase : Nat
/-- The window address of Ledger ring slot 0 (R218; log entry 7). -/
opaque ledgerBase : Nat
/-- The window address of digest ring slot 0 (R218; log entry 7). -/
opaque digestRingBase : Nat
/-- The window address of tally ring slot 0 (R218; log entry 7). -/
opaque tallyRingBase : Nat
/-- The window address of the tap area (R222; log entry 7). -/
opaque tapBase : Nat

/-- The HBM row that a line lies in (R351): the manual does not give the rows of a stack (log entry 23). -/
opaque rowOfLine : Nat → Nat
/-- Whether an HBM row lies in HBM east, domain 15 (log entry 23). -/
opaque rowEast : Nat → Bool
/-- Whether an HBM stack belongs to HBM east, domain 15 (log entry 23). -/
opaque stackEast : Nat → Bool

/-- The Falcon-1024 public key that the standard derives from a seed (R435; log entry 8). -/
opaque falconPublicKey : List Byte → List Byte
/-- The Falcon-1024 signature in padded form of a message under a seed's private key (R436, R307; log entry 8). -/
opaque falconSign : List Byte → List Byte → List Byte
/-- Whether a Falcon-1024 signature of a message verifies under a public key: key, message, signature (R428; log entry 8). -/
opaque falconVerify : List Byte → List Byte → List Byte → Bool
/-- The build number of the control firmware whose payload has a digest (R404, 0x1000.06; log entry 157). -/
opaque fwBuild : BitVec 256 → Nat
/-- The ML-KEM-1024 ciphertext and shared secret that answer an encapsulation key (R289; log entry 8). -/
opaque mlKemEncaps : List Byte → List Byte × List Byte
/-- The ML-KEM-1024 encapsulation key that a fresh random value gives (R289; log entry 8). -/
opaque mlKemKey : Nat → List Byte
/-- The AES-256-GCM ciphertext and tag of a payload under a key, a nonce and associated data (R288, R290; log entry 8). -/
opaque gcmSeal : List Byte → List Byte → List Byte → List Byte → List Byte

/-- What the other devices of a team add to the anchor digest of a season (R312), by the equivalence key, the season and this
device's own part (log entry 32). -/
opaque anchorOthers : List (BitVec 8) → Nat → BitVec 64 → BitVec 64

/-- The parts of a team's bale sets, which its binary fixes (R304); how another team learns the number the manual does not say
(log entry 36). -/
opaque partCount : Nat → Nat
/-- Whether a part of a team's bale sets holds a block that is placed on a rank of this team (log entry 36). -/
opaque partHeld : Nat → Nat → Nat → Bool
/-- The number of the first part that a rank of this team forms (R304; log entry 36). -/
opaque firstPart : Nat → Nat

/-- An anchor or momentum element that another device of the team holds, as it stands in a reply to a fetch request (R318; log
entry 42). -/
opaque heldElsewhere : Nat → BitVec 32 → Nat → Nat

end Sys2Proof.Config
end

