-- ==== Sys2Proof/Machine/State.lean ====
section
/-! DEFINITION. Sys2Proof/Machine/State.lean: everything the manual gives the device, as plain data, and the state a power-on
reset leaves. INVENTORY.md lists every field with its rule. -/

namespace Sys2Proof.Machine

/-- A sparse table in one canonical form: keys strictly rising, and no entry equal to what an unlisted key reads as. -/
abbrev SMap (α : Type) := List (Nat × α)

/-- The device states of R29. -/
inductive DevState where
  | fallow | tilled | sown | growing | harvest | gleaning | faulted
  deriving DecidableEq, Repr

/-- How far the boot of R421 has come: the last row of its table that is complete. `off` is unpowered, `asleep` is Fallow
without a boot running, `stopped` a boot stopped under R423. -/
inductive BootStage where
  | off | fuseRead | ring | firmware | cxl | hbm | selfTestOne | selfTestTwo | done | asleep | stopped
  deriving DecidableEq, Repr

/-- Fuses (R433, R435, R437, R406, R363, R92). -/
structure Fuses where
  product : W32 := 0x160
  stepping : W32 := 0xB0
  serial : List Byte := List.replicate 16 0
  keyHash : List (BitVec 256) := [0, 0, 0, 0]
  securityConfig : W32 := 0x21
  fwRollback : Nat := 0
  secret : List Byte := List.replicate 64 0
  sites : List Nat := []
  stackList : List Nat := []
  slices : List Nat := []
  spares : List SpareAssign := []
  deriving DecidableEq, Repr

/-- The external flash (R427): firmware slots, soft-repair map copies, identity certificate, Gleaner patterns and log. -/
structure Flash where
  slotA : List FwImage := []
  slotB : List FwImage := []
  mapOne : Option RepairMap := none
  mapTwo : Option RepairMap := none
  cert : List Byte := []
  patterns : Option FwImage := none
  gleanerLog : List (Nat × GleanResult) := []
  deriving DecidableEq, Repr

/-- A fault log record (R371); one that is lost reads as all zeros (R347). -/
structure FaultRecord where
  signature : BitVec 128 := 0
  time : Nat := 0
  sealedLo : W32 := 0
  domain : Nat := 0
  cause : Nat := 0
  state : DevState := .fallow
  lost : Bool := false
  deriving DecidableEq, Repr

/-- The last request answered to a source, and its response (R380). -/
structure Answered where
  src : Source
  seq : BitVec 8
  crc : W32
  response : List Byte
  abort : Option W32
  deriving DecidableEq, Repr

/-- A mirror request slot (R383). -/
structure MirrorSlot where
  op : BitVec 8 := 0
  index : BitVec 16 := 0
  sub : BitVec 8 := 0
  offset : W32 := 0
  length : Nat := 0
  result : W32 := 0
  data : List Byte := []
  go : Bool := false
  done : Bool := false
  deriving DecidableEq, Repr

/-- The always-on domain, the pins, the boot and the CXL port. -/
structure Ctl where
  powerGood : Bool := false
  resetLow : Bool := false
  flashOwn : Bool := false
  flashBlocked : Bool := false
  bypassOpen : Bool := false
  cur : DevState := .fallow
  tgt : DevState := .tilled
  stage : BootStage := .off
  bootFault : Bool := false
  tripOnBoot : Bool := false
  cxlFaultOff : Bool := false
  wakeRunning : Bool := false
  reachedTilled : Bool := false
  answered : List Answered := []
  faultLog : List FaultRecord := []
  cxlUp : Bool := false
  cxlConfigured : Bool := false
  memoryActive : Bool := false
  mirror : List MirrorSlot := [{}, {}, {}, {}]
  msixEnable : Bool := false
  msixFunctionMask : Bool := false
  msixVectorMask : BitVec 8 := 0
  msixPending : BitVec 8 := 0
  maskedRise : BitVec 8 := 0
  holdoffRunning : Bool := false
  holdoffPending : Bool := false
  deriving DecidableEq, Repr

/-- Identity, firmware in force and attestation (R429 to R436). -/
structure Security where
  slotInForce : Nat := 0
  images : List FwImage := []
  identityReady : Bool := false
  attestNonce : Option (List Byte) := none
  attestSnapshot : List Byte := []
  fwWriting : Option (List FwImage) := none
  deriving DecidableEq, Repr

/-- Site time (R296, R381, R449, R450). -/
structure SiteTime where
  lastPps : Option Cycle := none
  ignored : List Cycle := []
  ppsOk : Bool := false
  todOk : Bool := false
  waitingTod : Option Nat := none
  ptpSeconds : Option Nat := none
  mgmtUp : Bool := false
  gnssAtPps : Nat := 0
  lostAt : Option Cycle := none
  deriving DecidableEq, Repr

/-- The value a write stages or stores: a number or bytes (R384). -/
inductive EntryValue where
  | num (n : Nat)
  | octets (b : List Byte)
  deriving DecidableEq, Repr

/-- The open transaction (R390 to R392): its owner and its staged writes, by entry. -/
structure Txn where
  owner : Source
  staged : List (Nat × EntryValue) := []
  deriving DecidableEq, Repr

/-- What the host has placed in the windows (R155, R341, R367). -/
structure HostMemory where
  window : List Host.Cell := []
  tier : List Host.Cell := []
  holder : List Host.Cell := []
  held : List Host.Cell := []
  binaries : SMap Binary := []
  lineMeta : SMap (BitVec 36) := []
  deriving DecidableEq, Repr

/-- A taken intake record (R401): the ticket, the host's tag, entry, input offsets and batch descriptor. -/
structure Intake where
  ticket : W64 := 0
  userTag : W64 := 0
  entry : Nat := 0
  offsets : List W64 := []
  descriptor : BitVec 512 := 0
  deriving DecidableEq, Repr

/-- Attempts on one batch (R64, R168, R186, R188): how many, the previous signature, and what the present attempt met. -/
structure Attempt where
  count : Nat := 1
  prev : Signature := {}
  lastSignature : Signature := {}
  fault : Option (Nat × Signature) := none
  numerical : Bool := false
  widthGroup : Option Nat := none
  widened : List (Nat × Nat) := []
  checksum : Bool := false
  arrived : Bool := false
  gateArrived : Bool := false
  gatePassed : Bool := false
  aborted : Bool := false
  repeats : Nat := 0
  q : W32 := 0
  tapStart : Nat := 0
  deriving DecidableEq, Repr

/-- A tally slot (R118): three 40-bit counters; a counter at 2^40 - 1 is stuck. -/
structure Tally where
  zeros : Nat := 0
  saturations : Nat := 0
  nonfinite : Nat := 0
  deriving DecidableEq, Repr

/-- The digest and tally tables of one attempt, by slot (R116, R118). -/
structure Tables where
  digest : SMap W64 := []
  tally : SMap Tally := []
  deriving DecidableEq, Repr

/-- An admitted serving batch (R336, R461), with the tables of its attempt. -/
structure Batch where
  intake : Intake := {}
  copy : Nat := 0
  attempt : Attempt := {}
  tables : Tables := {}
  deriving DecidableEq, Repr

/-- A Ledger record (R215), its fields without the check, which is computed over them. -/
structure LedgerRecord where
  index : Nat := 0
  step : Nat := 0
  season : Nat := 0
  evalSeq : Nat := 0
  seedEpoch : Nat := 0
  scaleExp : Nat := 0
  repeats : Nat := 0
  q : Nat := 0
  kind : Nat := 0
  widthEscalated : Bool := false
  checksumOn : Bool := false
  tallyStuck : Bool := false
  gap : Bool := false
  attempts : Nat := 0
  cleanRunAfter : Nat := 0
  hasTables : Bool := false
  digestPtr : Nat := 0
  tallyPtr : Nat := 0
  gnssTime : Nat := 0
  sealCycle : Nat := 0
  stepCycles : Nat := 0
  keyPrefix : BitVec 128 := 0
  seedFingerprint : W64 := 0
  signature : Signature := {}
  batchTag : W64 := 0
  scaleAfter : Nat := 0
  deriving DecidableEq, Repr

/-- The loaded job (R33, R163): its binary and what the load fixed. `evalQueue` holds the
evaluations that run at this seal release, `evalPending` those for the next one (R203). -/
structure Job where
  binary : Binary
  role : Nat := 0
  sites : List Nat := []
  poolSites : List Nat := []
  assigned : List Intake := []
  batches : List Batch := []
  attempt : Attempt := {}
  ahead : Attempt := {}
  evalPending : List Intake := []
  evalRunning : Option (Intake × Attempt) := none
  evalSeq : Nat := 0
  evalQueue : List Intake := []
  heldStatus : Option W32 := none
  outcomes : List SealOutcome := []
  lastOutcome : Option SealOutcome := none
  undoing : Bool := false
  undoFloor : Nat := 0
  undone : Bool := false
  undoReported : Bool := false
  restartAt : Option Cycle := none
  running : Bool := false
  lastRelease : Cycle := 0
  firstStep : Nat := 0
  haltRecord : Option Nat := none
  deriving DecidableEq, Repr

/-- The Ledger and its tables and taps (R213 to R222). -/
structure Records where
  ledger : List LedgerRecord := []
  current : Tables := {}
  tables : SMap Tables := []
  taps : List Tile := []
  atLevel : Bool := false
  deriving DecidableEq, Repr

/-- A region: its tile and its ready bit (R129, R130). -/
structure Region where
  tile : Tile := {}
  ready : Bool := false
  deriving DecidableEq, Repr

/-- What a plot waits for (R124): a held Furrow or full-width issue is a wait too (R73, R105). -/
inductive WaitKind where
  | tile (t : TileRef) (season : Bool)
  | token (n count : Nat)
  | cycle (target : Cycle)
  | barrier (number : W32) (offset : Cycle)
  | seal
  | furrow (d : FurrowDesc)
  | fullWidth (d : FullWidthDesc)
  deriving DecidableEq, Repr

/-- A Furrow instruction that waits at its issue or is in progress (R70 to R87): since when its scan or its present pass runs, the
maxima, the records that it still waits for and has taken, whether it has sent its own, the next product, the repeat number, the shadow registers with the repeat number of
their pass, when that pass was copied there, and whether it has spilled or stopped. -/
structure FurrowRun where
  desc : FurrowDesc
  since : Cycle := 0
  xaMax : List Nat := []
  xbMax : List Nat := []
  scanDone : Bool := false
  recordsLeft : Nat := 0
  taken : Nat := 0
  sent : Bool := false
  next : Nat := 0
  rep : Nat := 0
  shadow : Option (Nat × List (List (Option Int))) := none
  copied : Cycle := 0
  spilled : Bool := false
  stopped : Bool := false
  deriving DecidableEq, Repr

/-- A chain in flight (R149): its instruction, its issue cycle, its latency, and what it will write. -/
structure ChainRun where
  desc : ChainDesc
  issue : Cycle := 0
  latency : Nat := 0
  beats : Nat := 0
  result : Tile := {}
  digest : W64 := 0
  tallies : List (Nat × Tally) := []
  numerical : Bool := false
  dead : Bool := false
  deriving DecidableEq, Repr

/-- A tine's transfer: the descriptor, the requests made, those whose data or acknowledgement has returned, and whether a line of
the present tile came wrong or was lost (R139). -/
structure Transfer where
  desc : BitVec 512
  next : Nat := 0
  done : Nat := 0
  bad : Bool := false
  lost : Bool := false
  deriving DecidableEq, Repr

/-- A tine (R131): its descriptor list, its place in it, its transfer, the requests in flight of transfers that a start has
dropped, its marks of this step's entry, of the next step's and of the seal arrival (R123), and whether it serves the next step
(R142). -/
structure Tine where
  descs : List (BitVec 512) := []
  pos : Nat := 0
  running : Bool := false
  xfer : Option Transfer := none
  stale : Nat := 0
  markPos : Nat := 0
  markRunning : Bool := false
  nextMark : Option (Nat × Bool) := none
  arrivalMark : Option (Nat × Bool) := none
  ahead : Bool := false
  deriving DecidableEq, Repr

/-- One logical plot (R22, R121 to R135). A wait holds what it waits for, since when, and whether it has timed out (R126). The four
tile buffers are bytes without a tag (R103, R129), and the words of them that no code corrects are noted (R347); `scan` is the Furrow instruction at the issue slot (R71, R73); maxima and frame
records wait here for the instructions that name them (R120); the send queue holds its tiles with the pieces sent (R237). -/
structure Plot where
  site : Nat := 0
  pc : Nat := 0
  entry : Nat := 0
  workEntries : List Nat := []
  seasonEntries : List Nat := []
  loops : List (Nat × Nat × Nat) := []
  wait : Option (WaitKind × Cycle × Bool) := none
  stopped : Bool := false
  halted : Bool := false
  entered : Bool := false
  arrived : Bool := false
  gateDone : Bool := false
  enteredNext : Bool := false
  lastTicket : W64 := 0
  crib : SMap Region := []
  loam : SMap Region := []
  buffers : List Host.Cell := []
  badWords : List Nat := []
  scan : Option FurrowRun := none
  furrow : Option FurrowRun := none
  chains : List ChainRun := []
  maxima : List Tile := []
  frames : List Tile := []
  tines : SMap Tine := []
  digests : SMap W64 := []
  tallies : SMap Tally := []
  sendQueue : List (Tile × Nat) := []
  spareRows : Nat := 4
  spareCols : Nat := 4
  credits : Nat := 64
  creditsUsed : Nat := 0
  deriving DecidableEq, Repr

/-- The states of a Windrow port (R257). -/
inductive PortState where
  | off | training | notReady | upBestEffort | upScheduled | down | foreign
  deriving DecidableEq, Repr

/-- A frame that a port has sent (R234): a scheduled piece or a best-effort frame. -/
inductive LinkFrame where
  | slot (f : SlotFrame)
  | best (f : BeFrame)
  deriving DecidableEq, Repr

/-- A frame in a port's retry buffer, by its sequence, with how often it has failed (R234). -/
structure Retry where
  sequence : BitVec 24 := 0
  frame : LinkFrame
  fails : Nat := 0
  deriving DecidableEq, Repr

/-- One Windrow port (R226 to R262): what it knows of its neighbour; its sequences and retry buffer, the frames that the
neighbour asked for again and those it asks for itself; credits, and the best-effort frames that wait. -/
structure Port where
  state : PortState := .off
  backoffMs : Nat := 10
  partnerNotReady : Bool := false
  named : Bool := false
  identity : Option Identity := none
  sendSeq : BitVec 24 := 0
  expectSeq : BitVec 24 := 0
  retryBuffer : List Retry := []
  resend : List (BitVec 24) := []
  missing : List (BitVec 24) := []
  ask : List (BitVec 24) := []
  held : List (BitVec 24 × BeFrame) := []
  upSince : Cycle := 0
  credits : Nat := 64
  creditsDue : Nat := 0
  beQueue : List BeFrame := []
  deriving DecidableEq, Repr

/-- A barrier that the lead device collects (R249 to R253), and the end of its window for early aborts (R188). -/
structure Collect where
  barrier : W32 := 0
  stepLo : W32 := 0
  attempt : BitVec 4 := 0
  first : Cycle := 0
  count : Nat := 0
  ranks : List Nat := []
  reports : List SealReport := []
  numericalAny : Bool := false
  widthAny : Bool := false
  widthGroup : BitVec 24 := 0xFFFFFF
  portsLost : Bool := false
  window : Option Cycle := none
  deriving DecidableEq, Repr

/-- What one device of the team holds of a barrier in its subtree (R249): its own arrival and its children's. -/
structure Subtree where
  barrier : W32 := 0
  own : Bool := false
  heard : List Nat := []
  msg : ArrivalMsg := {}
  forwarded : Bool := false
  deriving DecidableEq, Repr

/-- A tile whose pieces arrive by a receive entry (R233, R238): its place, its tag, the pieces that have come and the last
piece's index, once known. -/
structure Assembly where
  entry : Nat := 0
  plot : Nat := 0
  region : Nat := 0
  tag : Tag := {}
  pieces : List (Nat × List Byte) := []
  last : Option Nat := none
  bad : Bool := false
  deriving DecidableEq, Repr

/-- Team, time and slots (R235 to R265). Per plan entry, by the key of its port and ID: the pieces that arrived, the pieces sent,
the tiles begun, and forwarded pieces that wait for their slots. -/
structure Fabric where
  ports : List Port := List.replicate 28 {}
  plan : List SlotEntry := []
  arrived : List (Nat × Nat) := []
  sent : List (Nat × Nat) := []
  begun : List (Nat × Nat) := []
  relay : List (Nat × SlotFrame) := []
  assembling : List Assembly := []
  anchors : List (Nat × Nat) := []
  children : List Nat := []
  maps : SMap Nat := []
  links : SMap (List (Nat × Nat × Nat)) := []
  subtrees : List Subtree := []
  collects : List Collect := []
  plotArrivals : List (Nat × Nat) := []
  releases : List (Nat × Cycle) := []
  lastHeartbeat : Cycle := 0
  heartbeatBout : Nat := 0
  heardSuccessor : Nat := 0
  leadSilent : Bool := false
  judgeRollback : List (W32 × BitVec 4) := []
  lateBouts : Nat := 0
  lastSlew : Cycle := 0
  withhold : Bool := false
  portsLost : Bool := false
  saveTime : Nat := 0
  deriving DecidableEq, Repr

/-- One season tensor on this device: anchor and momentum copies as FP32, residual copies and the pass's delta as FWP
elements (m, F), snapshot and merge input, block keys (R299 to R303). -/
structure SeasonTensor where
  decl : SeasonDecl := {}
  anchor0 : List W32 := []
  anchor1 : List W32 := []
  momentum0 : List W32 := []
  momentum1 : List W32 := []
  residual0 : List (Int × Int) := []
  residual1 : List (Int × Int) := []
  snapshot : List W32 := []
  merge : List W32 := []
  keys : List Nat := []
  tau : Option Nat := none
  deriving DecidableEq, Repr

/-- A histogram of Winnow keys of one primary holder (R302): part 0 over the top 12 bits, part 1 over the low 12 bits in the bin
where the kept count is reached. -/
structure KeyCounts where
  tensorId : W32 := 0
  season : Nat := 0
  part : Nat := 0
  rank : Nat := 0
  counts : SMap Nat := []
  deriving DecidableEq, Repr

/-- Seasons of this team (R298 to R319): season_ptr and the season tensors; Winnow; the bale store, verified rosters and what this
team published; the join under way; the commit's readiness, chosen season tile and write cycle. -/
structure Seasons where
  ptr : Bool := false
  tensors : List SeasonTensor := []
  nextBoundary : Nat := 0
  winnowDue : Bool := false
  winnowStage : Nat := 0
  winnowFailed : Bool := false
  winnowSeason : Nat := 0
  winnowLate : Bool := false
  keyCounts : List KeyCounts := []
  store : List Bale := []
  rosters : List Roster := []
  committedRoster : BitVec 128 := 0
  anchorDigest : Option W64 := none
  named : List (Nat × Nat × Bool) := []
  published : List Nat := []
  seenGeneration : Option Nat := none
  warden : Bool := false
  wasIsolated : Bool := false
  forked : Bool := false
  joinDue : Bool := false
  fetchNumber : Nat := 0
  fetchAsked : Bool := false
  fetched : Option Nat := none
  lateOffered : Bool := false
  mergedRoster : Option (BitVec 128) := none
  ready : List (Nat × Nat × CommitMode) := []
  chosen : Option SeasonTile := none
  writeAt : Option Cycle := none
  tile : Option SeasonTile := none
  deriving DecidableEq, Repr

/-- An Acre session (R289 to R295): its peer, its secret, the epochs and counter of its directions, and its pacing. -/
structure Session where
  peerTeam : Nat := 0
  peerRank : Nat := 0
  endpoint : Nat := 0
  initiator : Bool := false
  secret : List Byte := []
  sendEpoch : Nat := 1
  sendCounter : Nat := 0
  recvEpoch : Nat := 1
  oldEpoch : Option Nat := none
  srtt : Nat := 0
  rates : List Nat := []
  samples : List (Cycle × Nat) := []
  minRtt : Option Nat := none
  deviations : Nat := 0
  resetLeft : Nat := 0
  resetMin : Option Nat := none
  deriving DecidableEq, Repr

/-- A stripe being received (R293, R294). -/
structure Stripe where
  objectId : W64 := 0
  stripe : Nat := 0
  senderTeam : Nat := 0
  senderRank : Nat := 0
  k : Nat := 16
  m : Nat := 4
  chunks : SMap (List Byte) := []
  nacks : Nat := 0
  decoded : Bool := false
  abandoned : Bool := false
  deriving DecidableEq, Repr

/-- A chunk that the limit of R295 holds back: its peer, and its stripe and number. -/
structure HeldChunk where
  team : Nat := 0
  rank : Nat := 0
  objectId : W64 := 0
  stripe : Nat := 0
  chunk : Nat := 0
  deriving DecidableEq, Repr

/-- A stripe sent and not yet acknowledged (R294, R295): its object's type, its peer, its data chunks, the bytes in use, and the bytes
of its chunks that have left. -/
structure SentStripe where
  team : Nat := 0
  rank : Nat := 0
  type : Nat := 1
  objectId : W64 := 0
  stripe : Nat := 0
  k : Nat := 16
  m : Nat := 4
  data : List (List Byte) := []
  inUse : Nat := 0
  flying : Nat := 0
  deriving DecidableEq, Repr

/-- An object that waits for a session with an endpoint of a team (R289, R306). -/
structure Outgoing where
  team : Nat := 0
  endpoint : Nat := 0
  type : Nat := 1
  objectId : W64 := 0
  bytes : List Byte := []
  deriving DecidableEq, Repr

/-- The Acre engine (R285 to R295). -/
structure Acre where
  portUp : List Bool := [false, false]
  sessions : List Session := []
  stripes : List Stripe := []
  sentStripes : List SentStripe := []
  held : List HeldChunk := []
  outgoing : List Outgoing := []
  requested : List (Nat × Nat) := []
  deriving DecidableEq, Repr

/-- A drill (R326 to R335): running or queued on a copy, its source, and how far it has come. -/
structure Drill where
  ticket : W64 := 0
  userTag : W64 := 0
  copy : Nat := 0
  queued : Bool := false
  chain : Bool := false
  inTier : Bool := false
  sourceAddr : Nat := 0
  sourceBytes : Nat := 0
  sourceDigest : BitVec 256 := 0
  crcs : List W32 := []
  drillId : W32 := 0
  member : Bool := false
  nextChunk : Nat := 0
  received : List Byte := []
  staged : Nat := 0
  tally : Tally := {}
  manifest : List Byte := []
  written : List Nat := []
  deriving DecidableEq, Repr

/-- Drills and tier moves in progress (R330 to R343). -/
structure Tiers where
  drills : List Drill := []
  moves : List Nat := []
  fired : List Nat := []
  waiting : List Nat := []
  firedAhead : List Nat := []
  deriving DecidableEq, Repr

/-- A tile on the repair list and the rank asked for it (R354, R355). -/
structure Repair where
  tensorId : W32 := 0
  shard : W32 := 0
  blockOffset : BitVec 40 := 0
  addr : Nat := 0
  asked : Nat := 0
  tried : List Nat := []
  deriving DecidableEq, Repr

/-- Recovery (R347 to R362): repair list, error rows, suspects, Gleaner, maps of this boot. -/
structure Recovery where
  repairs : List Repair := []
  rowErrors : SMap Nat := []
  pendingRows : List Nat := []
  suspectSites : List Nat := []
  suspectStacks : List Nat := []
  gleanLeft : List Nat := []
  gleanDomain : Option Nat := none
  mapInForce : Option RepairMap := none
  selfTestSites : List Nat := []
  selfTestSpares : List SpareAssign := []
  proposals : RepairMap := {}
  gleanStop : Bool := false
  deriving DecidableEq, Repr

/-- The phases of a Harvest (R364 to R368). -/
inductive HarvestPhase where
  | stopping | saving | holding | scrubbing
  deriving DecidableEq, Repr

/-- A Harvest in progress, or the scrub of a boot. -/
structure HarvestRun where
  phase : HarvestPhase := .stopping
  deadline : Cycle := 0
  save : Nat := 0
  holdCycles : Nat := 0
  latestStop : Option Cycle := none
  fixedByLead : Bool := false
  incomplete : Bool := false
  deriving DecidableEq, Repr

/-- The yoke meter and the governor (R416 to R419), with the releases of phase entry barriers that are to come. -/
structure Power where
  samples : List Nat := []
  lowWindows : Nat := 0
  phase : Option Nat := none
  upcoming : List (Cycle × Nat) := []
  ranBase : Cycle := 0
  ranFrom : Cycle := 0
  deriving DecidableEq, Repr

/-- What leaves the device, in the order it leaves. -/
inductive OutMsg where
  | response (r : Req) (abort : Option W32) (data : List Byte)
  | ringForward (bytes : List Byte)
  | bar0 (offset value : Nat)
  | eventNotice (cause : W32)
  | joinNotice
  | enumerate (epoch count : BitVec 8)
  | timeOfDay (ns : Nat)
  | msix (vector : Nat)
  | notReady (port : Nat)
  | readyQuery (port : Nat)
  | identity (port : Nat) (i : Identity)
  | boutMarker (port : Nat) (bout : Nat)
  | timeWord (port : Nat) (departure : Nat)
  | heartbeat (port : Nat) (h : Heartbeat)
  | heartbeatReply (port rank generation : Nat)
  | frame (port : Nat) (f : SlotFrame)
  | ack (port : Nat) (w : AckWord)
  | bestEffort (port : Nat) (h : LinkHead) (f : BeFrame)
  | saveFrame (port dest offset : Nat) (bytes : List Byte)
  | credit (port : Nat)
  | arrival (port : Nat) (m : ArrivalMsg)
  | earlyAbort (r : SealReport)
  | release (m : ReleaseMsg)
  | harvestPass (deadline : Cycle) (save hold : Nat)
  | latestStop (t deadline : Cycle) (save hold : Nat)
  | acre (udp : UdpPath) (team rank : Nat) (h : AcreHeader) (payload : List Byte)
  | keyAgreement (udp : UdpPath) (h : AcreHeader) (team endpoint : Nat) (reply : Bool) (bytes : List Byte)
  | baleFetch (team season : Nat) (late : Bool)
  deriving DecidableEq, Repr

/-- The device. -/
structure State where
  ctl : Ctl := {}
  fuses : Fuses := {}
  flash : Flash := {}
  sec : Security := {}
  time : SiteTime := {}
  cycle : Cycle := 0
  nums : SMap Nat := []
  octs : SMap (List Byte) := []
  txn : Option Txn := none
  hopper : SMap Slot := []
  host : HostMemory := {}
  job : Option Job := none
  records : Records := {}
  plots : List Plot := []
  pool : SMap Region := []
  tokens : SMap Nat := []
  aheadTokens : SMap Nat := []
  fabric : Fabric := {}
  seasons : Seasons := {}
  acre : Acre := {}
  tiers : Tiers := {}
  recovery : Recovery := {}
  harvest : Option HarvestRun := none
  power : Power := {}
  freeCount : Nat := 0
  outbox : List OutMsg := []
  pending : List Instr := []
  deriving DecidableEq, Repr

/-- Where the machine would stop because the manual gives a command no effect. -/
inductive Fault where
  /-- A command that breaches the rule of this number and to which the manual gives no effect. Raised by no command: where a breach
  leaves a result undefined (R4) the result is a free value (log entries 56 and 143). Safe: nothing stops by it. -/
  | undefinedBreach (rule : Nat)
  deriving DecidableEq, Repr

/-- Why a command has no meaning. -/
inductive Refusal where
  /-- Raised by the dispatch for a command without a meaning. Safe: the model stops. -/
  | notModelled (mnemonic : String)
  deriving DecidableEq, Repr

/-- The sites fused off in the part that reset shows: row 10, two sites of every cluster (R23; DESIGN CHOICE, log entry 3). -/
def State.resetFuses : Fuses :=
  { sites := [160, 161, 162, 163, 164, 165, 166, 167, 168, 169, 170, 171, 172, 173, 174, 175] }

/-- The device after a power-on reset: power-good deasserted, every entry at its default (R369, R410, R386; log entry 1). -/
def State.reset : State := { fuses := State.resetFuses }

end Sys2Proof.Machine
end

