-- ==== Sys2Proof/Machine/Bits.lean ====
section
/-! DEFINITION. Sys2Proof/Machine/Bits.lean: byte order, sparse tables, counters that stick, CRC-32C, SHAKE256 and the
arithmetic of GF(2^8). -/

namespace Sys2Proof.Machine

/-! ### Bytes, least significant first (R6) -/

/-- The low `n` bytes of a number, least significant first (R6). -/
def leBytes : Nat → Nat → List Byte
  | 0, _ => []
  | n + 1, v => BitVec.ofNat 8 v :: leBytes n (v / 256)

/-- The number that bytes spell, least significant first (R6). -/
def leNat : List Byte → Nat
  | [] => 0
  | b :: bs => b.toNat + 256 * leNat bs

/-- Bits [hi:lo] of a number (R7). -/
def bitsOf (hi lo v : Nat) : Nat := (v / 2 ^ lo) % 2 ^ (hi + 1 - lo)

/-- The two's-complement pattern of an integer in `w` bits. -/
def toPattern (w : Nat) (i : Int) : Nat := (i % (2 ^ w : Nat)).toNat

/-- The integer that a two's-complement pattern of `w` bits stands for. -/
def ofPattern (w : Nat) (v : Nat) : Int := if v % 2 ^ w < 2 ^ (w - 1) then (v % 2 ^ w : Nat) else (v % 2 ^ w : Nat) - (2 ^ w : Nat)

/-- The i-th element of a list, or a default. -/
def nth {α : Type} (d : α) : List α → Nat → α
  | [], _ => d
  | a :: _, 0 => a
  | _ :: as, n + 1 => nth d as n

/-- The list with its i-th element changed. -/
def modifyNth {α : Type} (f : α → α) : List α → Nat → List α
  | [], _ => []
  | a :: as, 0 => f a :: as
  | a :: as, n + 1 => a :: modifyNth f as n

/-- The numbers a to a + n - 1. -/
def range (a n : Nat) : List Nat := (List.range n).map (· + a)

/-! ### Sparse tables in canonical form -/

namespace SMap

/-- What a sparse table reads at a key: its entry, or the default. -/
def get {α : Type} (d : α) : SMap α → Nat → α
  | [], _ => d
  | (j, a) :: m, k => if j = k then a else get d m k

/-- The table with no entry at a key. -/
def erase {α : Type} : SMap α → Nat → SMap α
  | [], _ => []
  | (j, a) :: m, k => if j = k then m else (j, a) :: erase m k

/-- The table with an entry put in its place in the order of keys. -/
def put {α : Type} : SMap α → Nat → α → SMap α
  | [], k, v => [(k, v)]
  | (j, a) :: m, k, v => if j < k then (j, a) :: put m k v else if j = k then (k, v) :: m else (k, v) :: (j, a) :: m

/-- A write keeps the canonical form: writing the default removes the entry. -/
def set {α : Type} [DecidableEq α] (d : α) (m : SMap α) (k : Nat) (v : α) : SMap α :=
  if v = d then erase m k else put m k v

/-- Every key of the table lies above `k`. -/
def above {α : Type} (k : Nat) : SMap α → Bool
  | [] => true
  | (j, _) :: _ => k < j

/-- The canonical form when every key has a default of its own: keys strictly rising and no entry equal to its key's default. -/
def wfBy {α : Type} [DecidableEq α] (d : Nat → α) : SMap α → Bool
  | [] => true
  | (j, a) :: m => above j m && decide (a ≠ d j) && wfBy d m

/-- The canonical form: keys strictly rising and no entry equal to the default. -/
def wf {α : Type} [DecidableEq α] (d : α) (m : SMap α) : Bool := wfBy (fun _ => d) m

/-- Every entry changed; those that become the default leave the table. -/
def mapValues {α β : Type} [DecidableEq β] (d : β) (f : α → β) : SMap α → SMap β
  | [] => []
  | (j, a) :: m => if f a = d then mapValues d f m else (j, f a) :: mapValues d f m

/-- The entry at a key, if one is listed. -/
def find? {α : Type} : SMap α → Nat → Option α
  | [], _ => none
  | (j, a) :: m, k => if j = k then some a else find? m k

end SMap

/-! ### Memory of bytes: an unlisted address reads 0 (R368) -/

namespace Memory

/-- What an unlisted address reads as: the zero that the scrub writes (R368). -/
def unlisted : Byte := 0

/-- The byte at an address. -/
def readByte (m : List Host.Cell) (a : Nat) : Byte := SMap.get unlisted m a

/-- The memory with one byte written. -/
def writeByte (m : List Host.Cell) (a : Nat) (b : Byte) : List Host.Cell := SMap.set unlisted m a b

/-- `n` bytes from an address on. -/
def readBytes (m : List Host.Cell) (a : Nat) : Nat → List Byte
  | 0 => []
  | n + 1 => readByte m a :: readBytes m (a + 1) n

/-- The memory with bytes written from an address on. -/
def writeBytes (m : List Host.Cell) (a : Nat) : List Byte → List Host.Cell
  | [] => m
  | b :: bs => writeBytes (writeByte m a b) (a + 1) bs

/-- The memory with `n` bytes from an address on set to what an unlisted address reads. -/
def zero (m : List Host.Cell) (a n : Nat) : List Host.Cell := m.filter fun c => c.1 < a || a + n ≤ c.1

/-- The canonical form of a memory. -/
def wf (m : List Host.Cell) : Bool := SMap.wf unlisted m

end Memory

/-! ### CRC-32C (R137) -/

/-- One bit of the reflected CRC-32C of polynomial 0x1EDC_6F41. -/
def crcBit (c : Nat) : Nat := if c % 2 = 1 then (c / 2) ^^^ 0x82F63B78 else c / 2

/-- One byte of CRC-32C. -/
def crcByte (c : Nat) (b : Byte) : Nat :=
  crcBit (crcBit (crcBit (crcBit (crcBit (crcBit (crcBit (crcBit (c ^^^ b.toNat))))))))

/-- CRC-32C with reflected input and output, initial value and final exclusive-or all ones (R137). -/
def crc32c (bs : List Byte) : W32 := BitVec.ofNat 32 (bs.foldl crcByte 0xFFFFFFFF ^^^ 0xFFFFFFFF)

/-! ### SHAKE256 (FIPS 202, R5) -/

namespace Shake

/-- Rotation of a 64-bit lane to the left. -/
def rot (v n : Nat) : Nat := ((v <<< n) ||| (v >>> (64 - n))) % 2 ^ 64

/-- The rotation offsets of the rho step, by lane x + 5y. -/
def offsets : List Nat :=
  [0, 1, 62, 28, 27, 36, 44, 6, 55, 20, 3, 10, 43, 25, 39, 41, 45, 15, 21, 8, 18, 2, 61, 56, 14]

/-- The round constants of the iota step. -/
def constants : List Nat :=
  [0x0000000000000001, 0x0000000000008082, 0x800000000000808A, 0x8000000080008000, 0x000000000000808B,
   0x0000000080000001, 0x8000000080008081, 0x8000000000008009, 0x000000000000008A, 0x0000000000000088,
   0x0000000080008009, 0x000000008000000A] ++
  [0x000000008000808B, 0x800000000000008B, 0x8000000000008089, 0x8000000000008003, 0x8000000000008002,
   0x8000000000000080, 0x000000000000800A, 0x800000008000000A, 0x8000000080008081, 0x8000000000008080,
   0x0000000080000001, 0x8000000080008008]

/-- One round of Keccak-f[1600] on 25 lanes. -/
def round (a : List Nat) (rc : Nat) : List Nat :=
  let c := (List.range 5).map fun x =>
    nth 0 a x ^^^ nth 0 a (x + 5) ^^^ nth 0 a (x + 10) ^^^ nth 0 a (x + 15) ^^^ nth 0 a (x + 20)
  let d := (List.range 5).map fun x => nth 0 c ((x + 4) % 5) ^^^ rot (nth 0 c ((x + 1) % 5)) 1
  let t := (List.range 25).map fun i => rot (nth 0 a i ^^^ nth 0 d (i % 5)) (nth 0 offsets i)
  -- pi: lane (x, y) of the result comes from lane ((x + 3y) mod 5, x)
  let b := (List.range 25).map fun i => nth 0 t (((i % 5 + 3 * (i / 5)) % 5) + 5 * (i % 5))
  let e := (List.range 25).map fun i =>
    let y := 5 * (i / 5)
    nth 0 b i ^^^ ((nth 0 b ((i + 1) % 5 + y) ^^^ 0xFFFFFFFFFFFFFFFF) &&& nth 0 b ((i + 2) % 5 + y))
  modifyNth (· ^^^ rc) e 0

/-- Keccak-f[1600]. -/
def permute (a : List Nat) : List Nat := constants.foldl round a

/-- The lanes of a block of bytes, eight bytes a lane. -/
def lanes : Nat → List Byte → List Nat
  | 0, _ => []
  | n + 1, bs => leNat (bs.take 8) :: lanes n (bs.drop 8)

/-- Absorb the padded message, 136 bytes a block. -/
def absorb : Nat → List Nat → List Byte → List Nat
  | 0, a, _ => a
  | n + 1, a, bs =>
    absorb n (permute ((a.zip (lanes 25 (bs.take 136))).map fun p => p.1 ^^^ p.2)) (bs.drop 136)

/-- Squeeze blocks of 136 bytes. -/
def squeeze : Nat → List Nat → List Byte
  | 0, _ => []
  | n + 1, a => ((a.take 17).flatMap (leBytes 8)) ++ squeeze n (permute a)

/-- The padding of SHAKE: the suffix 0x1F and a last bit. -/
def pad (bs : List Byte) : List Byte :=
  let r := 136 - bs.length % 136
  if r = 1 then bs ++ [0x9F] else bs ++ [0x1F] ++ List.replicate (r - 2) 0 ++ [0x80]

end Shake

/-- The first `n` bytes of SHAKE256 of a message (FIPS 202). -/
def shake256 (n : Nat) (bs : List Byte) : List Byte :=
  let p := Shake.pad bs
  (Shake.squeeze ((n + 135) / 136) (Shake.absorb (p.length / 136) (List.replicate 25 0) p)).take n

/-- ASCII bytes of a text. -/
def ascii (t : String) : List Byte := t.toList.map fun c => BitVec.ofNat 8 c.toNat

/-! ### GF(2^8) with polynomial 0x11D (R293) -/

namespace Gf

/-- Product in GF(2^8): `n` bits of the second factor are left. -/
def mulAux : Nat → Nat → Nat → Nat → Nat
  | 0, _, _, acc => acc
  | n + 1, a, b, acc =>
    mulAux n (if a * 2 < 256 then a * 2 else (a * 2) ^^^ 0x11D) (b / 2) (if b % 2 = 1 then acc ^^^ a else acc)

/-- Product in GF(2^8) (R293). -/
def mul (a b : Nat) : Nat := mulAux 8 a b 0

/-- Power in GF(2^8). -/
def pow (a : Nat) : Nat → Nat
  | 0 => 1
  | n + 1 => mul a (pow a n)

/-- Inverse in GF(2^8): the 254th power. -/
def inv (a : Nat) : Nat := pow a 254

end Gf

/-! ### Counters that stick (R224) -/

/-- A count raised by `n` that sticks at 2^w - 1. -/
def stick (w v n : Nat) : Nat := Nat.min (v + n) (2 ^ w - 1)

/-- Whether the count `now` has reached `t`, compared modulo 2^64 (R224). -/
def reached (now t : Cycle) : Bool := !(now - t).msb

/-- The later of two counts, compared modulo 2^64. -/
def later (a b : Cycle) : Cycle := if reached a b then a else b

/-- Quotient rounded up. -/
def ceilDiv (a b : Nat) : Nat := (a + b - 1) / b

/-- ⌈1.5 R⌉, the cycles in which a tile of R rows passes a datapath (R98). -/
def beats (rows : Nat) : Nat := ceilDiv (3 * rows) 2

/-- Bytes cut or filled with zeros to a length. -/
def fit (n : Nat) (l : List Byte) : List Byte := (l ++ List.replicate n 0).take n

end Sys2Proof.Machine
end

