-- ==== Sys2Proof/Machine/Layouts.lean ====
section
/-! DEFINITION. Sys2Proof/Machine/Layouts.lean: the layouts that the manual gives bits for: the binary's header, directory, tensor
table, phase maps, layout descriptors and slot plan entries (R155 to R158, R235, R268 to R270, R325, R341). Bits are numbered within a
structure, bit 0 in the first byte (R6, R7). -/

namespace Sys2Proof.Machine

/-! ### Bytes and bits -/

/-- The number in bytes a to a + n - 1 of a byte string. -/
def field (bs : List Byte) (a n : Nat) : Nat := leNat ((bs.drop a).take n)

/-- The structures of `n` bytes that a section holds one after another, `count` of them. -/
def structures (bs : List Byte) (n count : Nat) : List Nat := (List.range count).map fun i => field bs (n * i) n

/-! ### The profile table (R152, R160) -/

/-- The first 16 bytes of SHAKE256 over a latency profile table (R152). -/
def digest16 (bs : List Byte) : BitVec 128 := BitVec.ofNat 128 (leNat (shake256 16 bs))

/-- The digest of a profile's table (R150, R152). -/
def profileDigest (p : W32) : BitVec 128 := digest16 (Config.profileTable p)

/-! ### Directory and sections (R156, R157) -/

/-- A directory entry of 256 bits (R156). -/
def dirEntryOf (w : Nat) : DirEntry :=
  { offset := bitsOf 255 192 w, length := bitsOf 191 128 w, inst := BitVec.ofNat 32 (bitsOf 63 32 w)
    type := BitVec.ofNat 16 (bitsOf 15 0 w), reserved := bitsOf 127 64 w != 0 || bitsOf 31 16 w != 0 }

/-- The directory entries of a section type. -/
def sectionsOf (b : Binary) (t : Nat) : List DirEntry := b.directory.filter fun e => e.type.toNat == t

/-- The bytes of a section, of the bytes that follow the header. -/
def sectionBytes (body : List Byte) (e : DirEntry) : List Byte := (body.drop (e.offset - 96)).take e.length

/-! ### Sections with bits -/

/-- A tensor table entry of 512 bits (R158). -/
def tensorEntryOf (w : Nat) : TensorEntry :=
  { tensorId := BitVec.ofNat 32 (bitsOf 31 0 w), cls := BitVec.ofNat 8 (bitsOf 39 32 w), format := BitVec.ofNat 8 (bitsOf 47 40 w)
    dims := bitsOf 51 48 w, blockAxis := bitsOf 55 52 w
    shape := (List.range 6).map fun d => bitsOf (64 + 32 * d + 31) (64 + 32 * d) w
    layout := bitsOf 271 256 w, tallySlot := BitVec.ofNat 16 (bitsOf 287 272 w), digestSlot := BitVec.ofNat 16 (bitsOf 303 288 w)
    reserved := bitsOf 511 304 w != 0 || bitsOf 63 56 w != 0 }

/-- The 64 bytes of a tensor table entry whose reserved bits are 0 (R158). -/
def tensorBytes (t : TensorEntry) : List Byte :=
  leBytes 64 (t.tensorId.toNat + t.cls.toNat * 2 ^ 32 + t.format.toNat * 2 ^ 40 + t.dims % 16 * 2 ^ 48 +
    t.blockAxis % 16 * 2 ^ 52 +
    ((List.range 6).foldl (fun v d => v + nth 1 t.shape d % 2 ^ 32 * 2 ^ (64 + 32 * d)) 0) +
    t.layout % 2 ^ 16 * 2 ^ 256 + t.tallySlot.toNat * 2 ^ 272 + t.digestSlot.toNat * 2 ^ 288)

/-- A slot plan entry of 256 bits (R235). -/
def slotEntryOf (w : Nat) : SlotEntry :=
  { entryId := BitVec.ofNat 24 (bitsOf 255 232 w), port := bitsOf 231 227 w, kind := bitsOf 226 224 w
    anchor := BitVec.ofNat 32 (bitsOf 223 192 w), firstSlot := bitsOf 191 164 w, slotCount := bitsOf 163 148 w
    plot := bitsOf 143 136 w, ringFirst := bitsOf 135 126 w, ringLen := bitsOf 125 118 w, outPort := bitsOf 117 113 w
    outEntry := BitVec.ofNat 24 (bitsOf 112 89 w), tensorId := BitVec.ofNat 32 (bitsOf 63 32 w)
    shard := BitVec.ofNat 32 (bitsOf 31 0 w), reserved := bitsOf 147 144 w != 0 || bitsOf 88 64 w != 0 }

/-- The entries of a role's part of a slot plan. -/
def planSlots (p : SlotPlan) : List SlotEntry := p.words.map fun w => slotEntryOf w.toNat

/-- A phase descriptor of 256 bits (R269). -/
def phaseDescOf (w : Nat) : PhaseDesc :=
  { entryBarrier := BitVec.ofNat 32 (bitsOf 255 224 w), firstPlacement := bitsOf 223 192 w, placementCount := bitsOf 191 160 w
    relayoutSlots := bitsOf 159 128 w, phaseId := bitsOf 31 16 w, kind := bitsOf 15 8 w
    reserved := bitsOf 127 32 w != 0 || bitsOf 7 0 w != 0 }

/-- A placement entry of 256 bits (R270), with the odd field's first region. -/
def placementOf (w odd : Nat) : Placement :=
  { tensorId := BitVec.ofNat 32 (bitsOf 255 224 w), shard := BitVec.ofNat 32 (bitsOf 223 192 w), boFirst := bitsOf 191 152 w
    boCount := bitsOf 151 112 w, rank := bitsOf 111 80 w, plot := bitsOf 79 64 w, store := bitsOf 63 60 w
    region := bitsOf 47 32 w, oddRegion := odd, primary := w.testBit 31, reserved := bitsOf 59 48 w != 0 || bitsOf 30 0 w != 0 }

/-- The phase map section (R268): its header, its phase descriptors and its placement entries, 32 bytes each. -/
def phaseMapsOf (bs : List Byte) (odd : List Nat) : PhaseMaps :=
  let h := field bs 0 32
  let phases := bitsOf 95 64 h
  let placements := bitsOf 127 96 h
  let rows := structures (bs.drop 32) 32 (min (phases + placements) (bs.length / 32))
  { dataDegree := bitsOf 255 240 h, tensorDegree := bitsOf 239 224 h, sequenceDegree := bitsOf 223 208 h
    pipelineDegree := bitsOf 207 192 h, expertDegree := bitsOf 191 176 h, placementCount := placements, phaseCount := phases
    reserved := bitsOf 175 128 h != 0 || bitsOf 63 0 h != 0
    phases := (rows.take phases).map phaseDescOf
    placements := (rows.drop phases).zipIdx.map fun x => placementOf x.1 (nth 0 odd x.2) }

/-- The placements of a phase (R269). -/
def phasePlacements (m : PhaseMaps) (p : PhaseDesc) : List Placement := (m.placements.drop p.firstPlacement).take p.placementCount

/-- The placements of the harrow phase (R269): phases of kind 5. -/
def harrowPlacements (m : PhaseMaps) : List Placement := (m.phases.filter fun p => p.kind == 5).flatMap (phasePlacements m)

/-- A layout descriptor of 512 bits (R325). -/
def layoutDescOf (w : Nat) : LayoutDesc :=
  { tensorId := BitVec.ofNat 32 (bitsOf 511 480 w), srcFormat := BitVec.ofNat 8 (bitsOf 479 472 w), compression := bitsOf 471 468 w
    srcKind := bitsOf 467 464 w, axisOrder := (List.range 6).map fun i => bitsOf (463 - 4 * i) (460 - 4 * i) w
    srcBlockAxis := bitsOf 439 436 w, expAdjust := ofPattern 8 (bitsOf 431 424 w)
    reserved := bitsOf 435 432 w != 0 || bitsOf 423 0 w != 0 }

/-- A tier binding of 256 bits (R341). -/
def tierBindingOf (w : BitVec 256) : TierBinding :=
  let v := w.toNat
  { backingOffset := bitsOf 255 192 v, peerRank := bitsOf 191 160 v, peerRegion := bitsOf 159 144 v, region := bitsOf 143 128 v
    triggerToken := bitsOf 127 116 v, triggerCount := bitsOf 115 98 v, doneToken := bitsOf 97 86 v, kind := bitsOf 85 84 v }

/-- The tier bindings of a region table (R341). -/
def tierBindings (t : RegionTable) : List TierBinding := t.tiers.map tierBindingOf

/-- The yoke profile (R157): phase ID, peak and mean yokes of each phase, 16 bits each. -/
def yokeOf (bs : List Byte) : List (Nat × Nat × Nat) :=
  (structures bs 6 (bs.length / 6)).map fun w => (bitsOf 15 0 w, bitsOf 31 16 w, bitsOf 47 32 w)

/-- The slot maps of a role (R157). -/
def slotMapOf (b : Binary) (role : Nat) : SlotMap := (b.slotMaps.find? fun m => m.role == role).getD { role := role }

/-! ### The binary (R155) -/

/-- The directory that follows the header (R155, R156). -/
def directoryOf (count : Nat) (body : List Byte) : List DirEntry :=
  (structures body 32 (min count (body.length / 32))).map dirEntryOf

/-- The binary that its header's first 64 bytes, its digest field, the digest over its bytes and the bytes after its header
make, with the sections whose bytes the manual does not lay out (R155 to R157). A section's contents count only where the
directory has the section. -/
def binaryOf (rest : Binary) (h digest actual : Nat) (body : List Byte) : Binary :=
  let dir := directoryOf (bitsOf 63 48 h) body
  let only (t : Nat) : List Byte := ((dir.find? fun e => e.type.toNat == t).map (sectionBytes body)).getD []
  let has_ (t inst : Nat) : Bool := dir.any fun e => e.type.toNat == t && e.inst.toNat == inst
  let image (e : DirEntry) : PlotImage :=
    let i := (rest.images.find? fun i => i.role * 65536 + i.plot == e.inst.toNat).getD {}
    { i with role := e.inst.toNat / 65536, plot := e.inst.toNat % 65536, bytes := e.length }
  let layouts := only 9
  { rest with
    magic := BitVec.ofNat 32 (bitsOf 31 0 h), formatVersion := BitVec.ofNat 16 (bitsOf 47 32 h), sectionCount := bitsOf 63 48 h
    plots := bitsOf 79 64 h, deviceCount := bitsOf 127 96 h, latencyProfile := BitVec.ofNat 32 (bitsOf 159 128 h)
    yokePeak := bitsOf 175 160 h, minFirmware := bitsOf 223 192 h, singleField := h.testBit 224
    compilerBuild := BitVec.ofNat 64 (bitsOf 511 448 h)
    reserved := bitsOf 95 80 h != 0 || bitsOf 191 176 h != 0 || bitsOf 255 225 h != 0 || bitsOf 447 256 h != 0
    digest := BitVec.ofNat 256 digest, actualDigest := BitVec.ofNat 256 actual
    directory := dir
    tensors := (structures (only 1) 64 ((only 1).length / 64)).map tensorEntryOf
    images := (dir.filter fun e => e.type.toNat == 3).map image
    regions := rest.regions.filter fun t => has_ 4 t.role
    phaseMaps := phaseMapsOf (only 5) rest.oddRegions
    slotPlans := rest.slotPlans.filter fun p => has_ 6 (p.group * 256 + p.width)
    yoke := yokeOf (only 7)
    layouts := (structures layouts 64 (layouts.length / 64)).map layoutDescOf
    initialData := (dir.filter fun e => e.type.toNat == 12).map fun e => (e.inst, sectionBytes body e) }

/-- The binary that bytes spell (R155): the digest is over header bytes 0 to 63 and every byte after the header. -/
def readBinary (rest : Binary) (bs : List Byte) : Binary :=
  let b := binaryOf rest (field bs 0 64) (field bs 64 32) (leNat (shake256 32 (bs.take 64 ++ bs.drop 96))) (bs.drop 96)
  { b with bytes := bs.length }

/-- The binary that stands at a window address, of so many bytes (R155, R401); none where the host has written none. -/
def State.binaryAt (s : State) (addr bytes : Nat) : Option Binary :=
  (SMap.find? s.host.binaries addr).map fun rest => readBinary rest (Memory.readBytes s.host.window addr bytes)

/-! ### Firmware images (R428) -/

/-- The bytes of an image before its payload: header, padded key and signature. -/
def imageHead : Nat := 3392

/-- The magic of an image header, the bytes "LZFW". -/
def imageMagic : Nat := 0x57465A4C

/-- The image that its bytes spell (R428, R429): the signature is over the header and the padded key. -/
def imageOf (bs : List Byte) : FwImage :=
  let h := field bs 0 256
  let digest := bitsOf 2047 1792 h
  { imageType := bitsOf 1135 1128 h, version := bitsOf 1215 1184 h, fwInterface := bitsOf 1183 1152 h
    rollbackIndex := bitsOf 1151 1144 h, keySlot := bitsOf 1143 1136 h, payloadDigest := BitVec.ofNat 256 digest
    payloadOk := leNat (shake256 32 ((bs.drop imageHead).take (bitsOf 1279 1216 h))) == digest
    keyHash := BitVec.ofNat 256 (leNat (shake256 32 ((bs.drop 256).take 1793)))
    signatureOk := Config.falconVerify ((bs.drop 256).take 1793) (bs.take 2112) ((bs.drop 2112).take 1280)
    build := Config.fwBuild (BitVec.ofNat 256 digest) }

/-- The images that stand one after another from an address, each on a 64-byte boundary, up to the image type that ends them
(R428); none where a header has no magic or an image reaches past `left` bytes (DESIGN CHOICE, log entry 157). -/
def imagesFrom (m : List Host.Cell) : Nat → Nat → Nat → Option (List FwImage)
  | 0, _, _ => none
  | n + 1, a, left =>
    let h := leNat (Memory.readBytes m a 256)
    let size := ceilDiv (imageHead + bitsOf 1279 1216 h) 64 * 64
    if left < 64 || bitsOf 1135 1128 h = 0 then some []
    else if bitsOf 31 0 h ≠ imageMagic || left < size then none
    else (imagesFrom m n (a + size) (left - size)).map
      (imageOf (Memory.readBytes m a (imageHead + bitsOf 1279 1216 h)) :: ·)

/-- The image set at a window address (R431): as long as a slot of 32 MiB, or as the pattern area of 384 MiB where a pattern set comes
first (R427). -/
def State.imageSetAt (s : State) (addr : Nat) : Option (List FwImage) :=
  let first := bitsOf 1135 1128 (leNat (Memory.readBytes s.host.window addr 256))
  imagesFrom s.host.window 8 addr ((if first = 4 then 384 else 32) * 2 ^ 20)

end Sys2Proof.Machine
end

