-- ==== Sys2Proof/Machine/Catalogue.lean ====
section
/-! DEFINITION. Sys2Proof/Machine/Catalogue.lean: the catalogue of the object dictionary (R13, R384 to R386, R405): type, right,
default, range, write states and kind of every entry. The key of entry index.sub is index × 256 + sub. -/

namespace Sys2Proof.Machine

/-- Entry types (R384): unsigned of so many bytes, I32, F32, OCTETS of a maximum length, VERB. -/
inductive EType where
  | u (bytes : Nat)
  | i32
  | f32
  | octets (max : Nat)
  | verb
  deriving DecidableEq, Repr

/-- Access rights (R385). -/
inductive Access where
  | ro | rw | wo | rwt | fuse
  deriving DecidableEq, Repr

/-- The states in which an entry may be written: every state, Tilled, or Tilled and Sown (R53, R262, R321). -/
inductive WriteIn where
  | every | tilled | tilledSown
  deriving DecidableEq, Repr

/-- One entry of the dictionary. `job` marks the entries of R458, `kept` those that a device reset keeps (R370). -/
structure Entry where
  type : EType
  access : Access := .ro
  dflt : Nat := 0
  octDflt : List Byte := []
  lo : Int := 0
  hi : Option Int := none
  when_ : WriteIn := .every
  job : Bool := false
  kept : Bool := false
  deriving DecidableEq, Repr

/-- The size in bytes of a type that is not OCTETS (R384). -/
def EType.size : EType → Nat
  | .u n => n
  | .i32 => 4
  | .f32 => 4
  | .octets n => n
  | .verb => 8

/-- A read-only number of `n` bytes with default 0. -/
def Entry.count (n : Nat) : Entry := { type := .u n }
/-- A read-only number of a job (R458). -/
def Entry.jobCount (n : Nat) : Entry := { type := .u n, job := true }
/-- A verb (R385). -/
def Entry.aVerb : Entry := { type := .verb, access := .wo }
/-- A number fixed at manufacture. -/
def Entry.fused (n : Nat) : Entry := { type := .u n, access := .fuse }
/-- A number written inside a transaction while Tilled or Sown (R53), with its default. -/
def Entry.set (n d : Nat) : Entry := { type := .u n, access := .rwt, dflt := d, when_ := .tilledSown }
/-- Read-only bytes. -/
def Entry.bytes (n : Nat) : Entry := { type := .octets n }

/-- The entries of one index at sub-indices 1, 2, 3, … -/
def blockOf (index : Nat) : List Entry :=
  match index with
  | 0x1000 => [.fused 4, .fused 4, .fused 4, { type := .octets 16, access := .fuse }, .count 4, .count 8, .count 1]
  | 0x1002 => [.aVerb, .aVerb, .aVerb, { type := .u 4, access := .rw, hi := some 86400000 }]
  | 0x1010 => [{ type := .u 1, kept := true }, { type := .u 1, kept := true }, { type := .u 4, kept := true },
               { type := .u 4, kept := true }]
  | 0x1020 => [.count 4, { type := .u 4, access := .wo, hi := some 0xFF }, { type := .u 4, access := .rw, dflt := 0xFF },
               { type := .u 4, access := .rw, hi := some 1000000 }]
  | 0x1030 => [.fused 4, { type := .u 1, access := .rwt, hi := some 1, when_ := .tilled }, .jobCount 4,
               { type := .octets 16, job := true }]
  | 0x1040 => [{ type := .u 1, dflt := 0xFF }, .count 2, .count 4,
               { type := .u 4, access := .rw, dflt := 10000, lo := 100, hi := some 600000 }]
  | 0x2010 => [{ type := .u 4, access := .rw, dflt := 10000, lo := 2000, hi := some 1000000000 }, .count 8,
               { type := .u 4, dflt := 4096 }, { type := .u 8, dflt := 1 }, .jobCount 8, .jobCount 8]
  | 0x2030 => [.set 4 16777216]
  | 0x2040 => [.count 4, .jobCount 1, { type := .octets 16, octDflt := List.replicate 16 0, job := true },
               { Entry.set 1 8 with lo := 2, hi := some 15 }, .jobCount 4, .count 4,
               { type := .u 8, dflt := 1720000000000 }]
  | 0x2050 => [.jobCount 8, .jobCount 1, .jobCount 4, .jobCount 8, .jobCount 4, .jobCount 4,
               { type := .f32, job := true }, .jobCount 1]
  | 0x2060 => [.jobCount 1, .jobCount 1, .jobCount 1, .jobCount 1, .jobCount 1, .jobCount 4]
  | 0x2061 => [{ type := .octets 131072, access := .rwt, when_ := .tilledSown },
               { Entry.set 1 2 with lo := 1, hi := some 8 }, .jobCount 4, .jobCount 4, .jobCount 4]
  | 0x2062 => [.set 8 0, .set 8 0, .set 4 1600000, .jobCount 8, .jobCount 8]
  | 0x2070 => [.aVerb, { type := .u 4, access := .rw, dflt := 40000, lo := 1, hi := some 4000000 },
               { type := .u 8, access := .rw }, { type := .u 1, access := .rw, dflt := 0xFF },
               { type := .u 8, access := .rw, when_ := .tilled }, .jobCount 8,
               { type := .u 8, access := .rw, dflt := 60000 * 2 ^ 32 }]
  | 0x3010 => [{ Entry.set 8 0 with job := true }, { Entry.set 8 0 with job := true }]
  | 0x3011 => [{ Entry.set 4 0 with job := true }]
  | 0x3020 => [{ type := .i32, access := .rwt, dflt := 16, when_ := .tilledSown, job := true },
               { Entry.set 4 2000 with job := true },
               { type := .i32, access := .rwt, when_ := .tilledSown, job := true },
               { type := .i32, access := .rwt, dflt := 24, when_ := .tilledSown, job := true },
               .jobCount 4, .jobCount 4, .jobCount 4]
  | 0x3030 => [.jobCount 4, .jobCount 4]
  | 0x3040 => [.jobCount 4, .jobCount 4, .jobCount 4]
  | 0x4000 => [{ type := .u 8, access := .rwt, when_ := .tilled },
               { type := .u 4, access := .rwt, dflt := 1, lo := 1, hi := some 65536, when_ := .tilled },
               { type := .u 4, access := .rwt, when_ := .tilled },
               { type := .octets 18, access := .rwt, octDflt := [0, 0], when_ := .tilled }, .aVerb, .count 1, .count 4,
               .count 4, .count 4, { type := .u 4, access := .rwt, when_ := .tilled }, .count 4,
               { type := .u 1, dflt := 0xFF }]
  | 0x4001 => [.count 8, { type := .u 4, access := .rwt, dflt := 1600000, when_ := .tilled },
               { type := .u 4, access := .rwt, dflt := 3200000000, when_ := .tilled }, .count 1, { type := .i32 }]
  | 0x4010 => List.replicate 28 (.count 4)
  | 0x4011 => List.replicate 28 { type := .u 1, access := .rw, hi := some 1, when_ := .tilled }
  | 0x4012 => List.replicate 28 { type := .i32, access := .rw, when_ := .tilled }
  | 0x4013 => List.replicate 28 (.count 4)
  | 0x4020 => [{ type := .octets 131072, access := .rwt }]
  | 0x4040 => List.replicate 8 (.count 4)
  | 0x5000 => [.set 8 0, { Entry.set 2 0 with hi := some 255 }, { Entry.set 2 1 with lo := 1, hi := some 256 },
               .set 4 1000, .set 4 100, .set 8 0, .set 8 10000000000, .set 2 16, .set 1 2, .set 4 8,
               .set 8 30000000000, .set 8 5000000000,
               { type := .octets 18, access := .rwt, octDflt := [0, 0], when_ := .tilledSown },
               { Entry.set 1 0 with hi := some 1 }, .jobCount 4, .jobCount 1, .jobCount 4,
               { type := .octets 32, octDflt := List.replicate 32 0, job := true }]
  | 0x5010 => List.replicate 2 { type := .u 1, access := .rw, hi := some 2, when_ := .tilled }
  | 0x5011 => List.replicate 2 (.count 1)
  | 0x5012 => List.replicate 2 { type := .octets 16, access := .rwt, octDflt := List.replicate 16 0, when_ := .tilled }
  | 0x5030 => [{ type := .u 1, access := .rwt, dflt := 1, lo := 1, hi := some 2, when_ := .tilled }, .count 1, .count 8,
               { type := .u 4, access := .rwt, dflt := 600, when_ := .tilled }]
  | 0x5040 => List.replicate 12 (.jobCount 4)
  | 0x6000 => [.bytes 512]
  | 0x6010 => [.count 4, .count 4, .count 4, .count 4, .count 4,
               { Entry.set 4 86400 with lo := 3600, hi := some 604800 },
               { type := .u 2, access := .rwt, dflt := 16, lo := 1, hi := some 65535 }, .count 2]
  | 0x6020 => [.jobCount 4, .jobCount 4, .jobCount 2]
  | 0x6030 => [.bytes 22, .count 4]
  | 0x6040 => [.set 4 0, .count 4, .count 4, { type := .u 1, dflt := 4 }, { type := .u 1, dflt := 4 }]
  | 0x6050 => List.replicate 8 (.jobCount 4)
  | 0x6070 => [.aVerb, { type := .u 8, kept := true }]
  | 0x6071 => (List.range 20).map fun i =>
      { type := .u 1, dflt := if i = 0 || i = 1 || i = 17 || i = 19 then 4 else 0, kept := true }
  | 0x6080 => [{ type := .octets 131072, access := .rwt, when_ := .tilled }, .count 4, .bytes 131072, .bytes 47]
  | 0x7000 => [{ type := .u 2, access := .rw, dflt := 3000, lo := 1200, hi := some 3000, kept := true }, .count 2,
               .jobCount 2, { type := .u 1, dflt := 64 }, .jobCount 8, .jobCount 4]
  | 0x7010 => List.replicate 3 { type := .i32 }
  | 0x7020 => [{ type := .i32 }, .count 4]
  | 0x7030 => List.replicate 20 (.count 1)
  | 0x7040 => [.count 4, .count 4]
  | 0x8010 => [.count 8, .jobCount 8, { type := .u 8, access := .rw, job := true }, .jobCount 4, .count 8, .count 8,
               { type := .u 4, access := .rw, dflt := 786432, lo := 1, hi := some 1048576 }]
  | 0x8020 => [{ Entry.set 8 0 with job := true }, { Entry.set 8 0 with job := true },
               { type := .octets 256, access := .rwt, when_ := .tilledSown, job := true }, .count 8, .jobCount 8,
               .jobCount 1]
  | 0x9000 => [.fused 4, { type := .octets 32, access := .fuse }, { type := .octets 32, access := .fuse },
               { type := .octets 32, access := .fuse }, { type := .octets 32, access := .fuse }, .fused 1, .bytes 32]
  | 0x9010 => [.bytes 1793, .bytes 131072]
  | 0x9011 => [{ type := .octets 32, access := .rw, octDflt := List.replicate 32 0 }, .aVerb, .bytes 1536, .count 4]
  | 0x9020 => List.replicate 3 { type := .octets 32, octDflt := List.replicate 32 0, job := true }
  | 0x9030 => [.aVerb, .count 4, .count 1, .bytes 8, .aVerb]
  | _ => []

/-- The entries that hold their value at sub-index 0x00 (R386). -/
def soloOf (index : Nat) : Option Entry :=
  match index with
  | 0x1001 => some { type := .u 2 }
  | 0x5013 => some { type := .u 2, access := .rwt, dflt := 47936, when_ := .tilled }
  | 0x5014 => some { type := .octets 131072, access := .rwt, when_ := .tilled }
  | 0x5015 => some { type := .u 2, access := .rwt, dflt := 0x1004, when_ := .tilled }
  | 0x5016 => some { type := .u 4, access := .rwt, dflt := 300, lo := 10, hi := some 86400, when_ := .tilled }
  | _ => none

/-- Whether an index is in the dictionary (R405). -/
def indexKnown (index : Nat) : Bool := (soloOf index).isSome || !(blockOf index).isEmpty

/-- The entry at index and sub-index (R13, R386). Sub-index 0x00 of an entry with sub-indices is a U8, RO. -/
def entryAt (index sub : Nat) : Option Entry :=
  match soloOf index with
  | some e => if sub = 0 then some e else none
  | none =>
    let b := blockOf index
    if b.isEmpty then none
    else if sub = 0 then some { type := .u 1, dflt := b.length }
    else b[sub - 1]?

/-- The entry of a key. -/
def entryOf (key : Nat) : Option Entry := entryAt (key / 256) (key % 256)

/-- The default of a number (R386). -/
def dfltNum (key : Nat) : Nat := (entryOf key).elim 0 (·.dflt)

/-- The default of an OCTETS entry (R386). -/
def dfltOct (key : Nat) : List Byte := (entryOf key).elim [] (·.octDflt)

/-- Whether a key belongs to the job entries of R458. -/
def isJobEntry (key : Nat) : Bool := (entryOf key).elim false (·.job)

/-- Whether a device reset keeps the entry (R370). -/
def isKeptEntry (key : Nat) : Bool := (entryOf key).elim false (·.kept)

/-- The value that bytes spell for a type, as an integer (R384). -/
def EType.valueOf (t : EType) (v : Nat) : Int :=
  match t with
  | .i32 => ofPattern 32 v
  | _ => v

/-- The largest value of a type. -/
def EType.top (t : EType) : Int :=
  match t with
  | .i32 => 2147483647
  | t => (2 ^ (8 * t.size) : Nat) - 1

/-- Whether a number lies in the entry's range (R386). An I32 without a stated range takes every value. -/
def Entry.inRange (e : Entry) (v : Nat) : Bool :=
  let i := e.type.valueOf v
  let lo : Int := if e.type = .i32 && e.lo = 0 then -2147483648 else e.lo
  decide (lo ≤ i) && decide (i ≤ e.hi.getD e.type.top)

end Sys2Proof.Machine
end

