-- ==== Sys2Proof/Machine/Ops.lean ====
section
/-! DEFINITION. Sys2Proof/Machine/Ops.lean: the named operations over the dictionary's stored values, the outbox, the free values
and the lists of plots, ports and regions. Every other file of the machine changes these through them. -/

namespace Sys2Proof.Machine

/-- What a meaning answers. -/
abbrev Out := Host.Outcome State Fault Refusal

/-! ### Stored values of the dictionary -/

/-- The stored number of an entry: what was written last, or its default (R386). -/
def State.num (s : State) (key : Nat) : Nat := SMap.get (dfltNum key) s.nums key

/-- The state with a number stored. -/
def State.setNum (s : State) (key v : Nat) : State := { s with nums := SMap.set (dfltNum key) s.nums key v }

/-- The stored bytes of an OCTETS entry. -/
def State.oct (s : State) (key : Nat) : List Byte := SMap.get (dfltOct key) s.octs key

/-- The state with bytes stored. -/
def State.setOct (s : State) (key : Nat) (v : List Byte) : State :=
  { s with octs := SMap.set (dfltOct key) s.octs key v }

/-- The bits of an entry of a number type. -/
def widthOf (key : Nat) : Nat := (entryOf key).elim 32 fun e => 8 * e.type.size

/-- A counter of the dictionary raised by `n`: it sticks at its largest value (R224). -/
def State.bump (s : State) (key : Nat) (n : Nat := 1) : State := s.setNum key (stick (widthOf key) (s.num key) n)

/-- A table of stored values without the entries that a test picks. -/
def dropKeys {α : Type} (p : Nat → Bool) (m : SMap α) : SMap α := m.filter fun e => !p e.1

/-- The job entries back at their defaults (R458, R386). -/
def State.clearJobEntries (s : State) : State :=
  { s with nums := dropKeys isJobEntry s.nums, octs := dropKeys isJobEntry s.octs }

/-- An entry of U16 ranks or teams, least significant byte first. -/
def words16 : List Byte → List Nat
  | a :: b :: bs => (a.toNat + 256 * b.toNat) :: words16 bs
  | _ => []

/-- An entry of 4-byte tensor IDs. -/
def words32 : List Byte → List Nat
  | a :: b :: c :: d :: bs => leNat [a, b, c, d] :: words32 bs
  | _ => []

/-! ### What leaves the device -/

/-- The state with a message sent (log entry 5). -/
def State.send (s : State) (m : OutMsg) : State := { s with outbox := s.outbox ++ [m] }

/-- The state with messages sent in order. -/
def State.sendAll (s : State) (ms : List OutMsg) : State := { s with outbox := s.outbox ++ ms }

/-! ### Free values (log entry 4) -/

/-- A fresh free value. -/
def State.fresh (s : State) : Nat := Config.freeValue s.freeCount

/-- The state after one free value was used. -/
def State.useFree (s : State) : State := { s with freeCount := s.freeCount + 1 }

/-! ### Time -/

/-- The state with its count moved up to an instant that has come (R224; log entry 11). -/
def State.upTo (s : State) (t : Cycle) : State := { s with cycle := later s.cycle t }

/-- The cycles that a plot runs among the first `c` of the count, at run fraction `r` (R417): cycle j of a group of 64 runs when
⌊(j + 1) r / 64⌋ is above ⌊j r / 64⌋. -/
def runsIn (r c : Nat) : Nat := c / 64 * r + c % 64 * r / 64

/-- The least count before which a plot runs `n` cycles. -/
def countAt (r n : Nat) : Nat := n / r * 64 + ceilDiv (n % r * 64) r

/-- The count of the cycles that the plots run: cycles that the governor withholds do not count (R127, R417). -/
def State.plotCycle (s : State) : Cycle :=
  let r := s.num 0x700004
  s.power.ranBase + BitVec.ofNat 64 (runsIn r s.cycle.toNat) - BitVec.ofNat 64 (runsIn r s.power.ranFrom.toNat)

/-- The state with its count moved up to an instant of the plots' own count that has come (R127). -/
def State.upToPlot (s : State) (t : Cycle) : State :=
  if reached s.plotCycle t then s
  else
    let r := s.num 0x700004
    s.upTo (BitVec.ofNat 64 (countAt r (runsIn r s.cycle.toNat + (t - s.plotCycle).toNat)))

/-- A run fraction takes effect (R417): what the plots have run stays counted. -/
def State.setRun (s : State) (r : Nat) : State :=
  ({ s with power := { s.power with ranBase := s.plotCycle, ranFrom := s.cycle } } : State).setNum 0x700004 r

/-- The step on an empty queue: one cycle of the arithmetic clock passes on the device's count, and nothing else (DESIGN CHOICE,
log entry 14); an increment that the slew withholds does not come (R246). -/
def State.tick (s : State) : State :=
  if s.fabric.withhold then { s with fabric := { s.fabric with withhold := false } } else { s with cycle := s.cycle + 1 }

/-- Cycles from one count to a later one. -/
def cyclesSince (now t : Cycle) : Nat := (now - t).toNat

/-- 16 cycles are 10 ns (R12). -/
def nsOfCycles (c : Nat) : Nat := c * 5 / 8

/-- Milliseconds as cycles (R12). -/
def cyclesOfMs (ms : Nat) : Nat := ms * 1600000

/-- GNSS time now, in ns since the GPS epoch (R296): the time at the last PPS edge and the cycles since; 0 without time. -/
def State.gnssNow (s : State) : Nat :=
  if s.num 0x503002 = 0 then 0
  else match s.time.lastPps with
    | some p => s.time.gnssAtPps + nsOfCycles (cyclesSince s.cycle p)
    | none => s.time.gnssAtPps

/-! ### Jobs -/

/-- The state with its job changed; without a job nothing changes. -/
def State.mapJob (s : State) (f : Job → Job) : State := { s with job := s.job.map f }

/-- The state with the present attempt changed. -/
def State.mapAttempt (s : State) (f : Attempt → Attempt) : State := s.mapJob fun j => { j with attempt := f j.attempt }

/-- Whether the loaded job is a serving job (R203). -/
def State.serving (s : State) : Bool := s.job.elim false (·.binary.serving)

/-- Whether the job is held (R169). -/
def State.held (s : State) : Bool := s.num 0x204002 == 1

/-! ### Plots and regions -/

/-- The plot of a logical number. -/
def State.plotAt (s : State) (p : Nat) : Option Plot := s.plots[p]?

/-- The state with one plot changed. -/
def State.mapPlot (s : State) (p : Nat) (f : Plot → Plot) : State := { s with plots := modifyNth f s.plots p }

/-- The state with every plot changed. -/
def State.mapPlots (s : State) (f : Plot → Plot) : State := { s with plots := s.plots.map f }

/-- The key of a pool region: its slice and its number (R129). -/
def poolKey (slice region : Nat) : Nat := slice * 4096 + region

/-- The bytes of a tile buffer, and of a part of it: 64 parts of 2,304 B (R103; log entry 139). -/
def bufferBytes : Nat := 147456
/-- The address of a part of a tile buffer in the plot's buffers. -/
def bufferAddr (i part : Nat) : Nat := i * bufferBytes + part * 2304

/-- Bytes read from a tile buffer; there are none behind its end. -/
def readBuffer (pl : Plot) (i part n : Nat) : List Byte :=
  Memory.readBytes pl.buffers (bufferAddr i part) (min n (bufferBytes - part * 2304))

/-- Bytes written into a tile buffer; those behind its end are dropped. -/
def writeBuffer (i part : Nat) (bs : List Byte) (pl : Plot) : Plot :=
  let l := bs.take (bufferBytes - part * 2304)
  let a := bufferAddr i part
  { pl with buffers := Memory.writeBytes pl.buffers a l
            badWords := pl.badWords.filter fun w => 8 * w + 8 ≤ a || a + l.length ≤ 8 * w }

/-- Whether a read of a tile buffer meets a word that no code corrects (R347). -/
def bufferLost (pl : Plot) (i part n : Nat) : Bool :=
  let a := bufferAddr i part
  pl.badWords.any fun w => a < 8 * w + 8 && 8 * w < a + n

/-- The region at a place of a plot. A tile buffer has no tag and no ready bit (R129); its bytes are read by `readBuffer`. -/
def State.regionAt (s : State) (p : Nat) (l : Loc) : Region :=
  match s.plotAt p with
  | none => {}
  | some pl =>
    match l with
    | .crib r => SMap.get {} pl.crib r
    | .loam r => SMap.get {} pl.loam r
    | .pool sl r => SMap.get {} s.pool (poolKey sl r)
    | .buffer _ _ => { ready := true }

/-- The state with a region at a place of a plot changed. -/
def State.setRegion (s : State) (p : Nat) (l : Loc) (r : Region) : State :=
  match l with
  | .crib n => s.mapPlot p fun pl => { pl with crib := SMap.set {} pl.crib n r }
  | .loam n => s.mapPlot p fun pl => { pl with loam := SMap.set {} pl.loam n r }
  | .pool sl n => { s with pool := SMap.set {} s.pool (poolKey sl n) r }
  | .buffer i part => s.mapPlot p (writeBuffer i part r.tile.payload)

/-! ### Ports -/

/-- The Windrow port of a number. -/
def State.portAt (s : State) (n : Nat) : Port := nth {} s.fabric.ports n

/-- The state with one port changed. -/
def State.mapPort (s : State) (n : Nat) (f : Port → Port) : State :=
  { s with fabric := { s.fabric with ports := modifyNth f s.fabric.ports n } }

/-- The state with the fabric's record changed. -/
def State.mapFabric (s : State) (f : Fabric → Fabric) : State := { s with fabric := f s.fabric }

/-- The state with the seasons' record changed. -/
def State.mapSeasons (s : State) (f : Seasons → Seasons) : State := { s with seasons := f s.seasons }

/-- The state with the recovery record changed. -/
def State.mapRecovery (s : State) (f : Recovery → Recovery) : State := { s with recovery := f s.recovery }

/-- The state with the always-on domain changed. -/
def State.mapCtl (s : State) (f : Ctl → Ctl) : State := { s with ctl := f s.ctl }

/-- This device's rank and its team's size (R262). -/
def State.rank (s : State) : Nat := s.num 0x400003
/-- The team's size (R262). -/
def State.teamSize (s : State) : Nat := s.num 0x400002
/-- Whether this device belongs to a formed team (R242). -/
def State.formed (s : State) : Bool := s.num 0x400006 == 2
/-- Whether this device acts as lead device: it is the lead of its team, or it stands alone (R188, R253). -/
def State.isLead (s : State) : Bool := !s.formed || s.num 0x400007 == s.rank

/-- The devices whose arrivals the lead device counts (R244, R251). -/
def State.devices (s : State) : Nat := if s.formed then s.teamSize else 1

/-- Whether a list holds a number. -/
def has (l : List Nat) (n : Nat) : Bool := l.any (· == n)

/-- A list with a number added once. -/
def addOnce (l : List Nat) (n : Nat) : List Nat := if has l n then l else l ++ [n]

end Sys2Proof.Machine
end

