-- ==== Sys2Proof/Machine/Flags.lean ====
section
/-! DEFINITION. Sys2Proof/Machine/Flags.lean: event causes and their signals (R404), the device state (R29, R30), the fault log
(R371). -/

namespace Sys2Proof.Machine

/-! ### Events (R404) -/

/-- The key of event_cause. -/
def eventCause : Nat := 0x102001

/-- The vectors of R404. -/
inductive Vec where
  | completion | state | held | ledger | harvest | fault | season | verbDone
  deriving DecidableEq, Repr

/-- The number of a vector. -/
def Vec.n : Vec → Nat
  | .completion => 0
  | .state => 1
  | .held => 2
  | .ledger => 3
  | .harvest => 4
  | .fault => 5
  | .season => 6
  | .verbDone => 7

/-- Whether a vector's message may leave now (R404): enabled and neither masked itself nor by the function mask. -/
def Ctl.vectorOpen (c : Ctl) (v : Nat) : Bool := c.msixEnable && !c.msixFunctionMask && !c.msixVectorMask.getLsbD v

/-- The pending bits with one bit set or cleared. -/
def setBit8 (b : BitVec 8) (v : Nat) (on : Bool) : BitVec 8 :=
  if on then b ||| BitVec.ofNat 8 (2 ^ v) else b &&& ~~~(BitVec.ofNat 8 (2 ^ v))

/-- Delivery of a vector through MSI-X: nothing while the link is down or not configured, the message when the vector is open, else its
pending bit (R404). -/
def State.deliver (s : State) (v : Nat) : State :=
  if !(s.ctl.cxlUp && s.ctl.cxlConfigured) then s
  else if s.ctl.vectorOpen v then s.send (.msix v)
  else s.mapCtl fun c => { c with msixPending := setBit8 c.msixPending v true }

/-- The event notice on the ring (R378); it needs the open bypass (R376). -/
def State.notice (s : State) : State :=
  if s.ctl.bypassOpen then s.send (.eventNotice (BitVec.ofNat 32 (s.num eventCause))) else s

/-- A vector signalled on both paths. -/
def State.signal (s : State) (v : Nat) : State := (s.notice).deliver v

/-- The completion vector signalled, or held off (R404, 0x1020.04). -/
def State.signalCompletion (s : State) : State :=
  if s.ctl.holdoffRunning then s.mapCtl fun c => { c with holdoffPending := true }
  else (s.signal 0).mapCtl fun c => { c with holdoffRunning := s.num 0x102004 != 0, holdoffPending := false }

/-- A signal of any vector, with the hold-off of vector 0. -/
def State.signalVec (s : State) (v : Nat) : State := if v = 0 then s.signalCompletion else s.signal v

/-- An event sets its cause bit; the vector is signalled when the bit rises while event_mask lets it through (R404). -/
def State.raise (s : State) (v : Vec) : State :=
  if (s.num eventCause).testBit v.n then s
  else
    let s := s.setNum eventCause (s.num eventCause ||| 2 ^ v.n)
    if (s.num 0x102003).testBit v.n then s.signalVec v.n
    else s.mapCtl fun c => { c with maskedRise := setBit8 c.maskedRise v.n true }

/-- A write of event_mask: a cause that rose while masked is signalled when it is unmasked (R404). -/
def State.writeEventMask (s : State) (m : Nat) : State :=
  (List.range 8).foldl (fun s v =>
      if m.testBit v && s.ctl.maskedRise.getLsbD v && (s.num eventCause).testBit v then
        (s.mapCtl fun c => { c with maskedRise := setBit8 c.maskedRise v false }).signalVec v
      else s)
    (s.setNum 0x102003 m)

/-- A write of event_ack: each 1 clears its cause (R404). -/
def State.ackEvents (s : State) (m : Nat) : State :=
  (s.setNum eventCause (s.num eventCause &&& ((2 ^ 32 - 1) ^^^ m))).mapCtl
    fun c => { c with maskedRise := c.maskedRise &&& ~~~(BitVec.ofNat 8 m) }

/-! ### The device state (R29, R30) -/

/-- The code of a state (R29). -/
def DevState.code : DevState → Nat
  | .fallow => 1
  | .tilled => 2
  | .sown => 3
  | .growing => 4
  | .harvest => 5
  | .gleaning => 6
  | .faulted => 15

/-- The state entry 0x1001.00 (R30). -/
def Ctl.stateEntry (c : Ctl) : Nat := c.tgt.code * 256 + c.cur.code

/-- Whether a boot is running (R31). -/
def Ctl.booting (c : Ctl) : Bool := c.cur == .fallow && c.tgt == .tilled && c.stage != .off

/-- Whether the device pulls FAULT# low: while Faulted, and while a boot has stopped (R452). -/
def Ctl.faultLow (c : Ctl) : Bool := c.cur == .faulted || c.stage == .stopped

/-- The device moves to a state, on its way to another or at rest there; the change raises vector 1 (R404). -/
def State.moveTo (s : State) (cur tgt : DevState) : State :=
  if s.ctl.cur = cur && s.ctl.tgt = tgt then s
  else (s.mapCtl fun c => { c with cur := cur, tgt := tgt }).raise .state

/-- The device rests in a state. -/
def State.restIn (s : State) (d : DevState) : State := s.moveTo d d

/-- The signature of R168 as a 128-bit value: kind, plot, rank, bundle, region, step and reserved bits at 0. -/
def Signature.bits (g : Signature) : BitVec 128 :=
  BitVec.ofNat 128
    (g.kind.toNat * 2 ^ 120 + g.plot.toNat * 2 ^ 96 + g.rank.toNat * 2 ^ 64 + g.bundle.toNat * 2 ^ 48 +
      g.region.toNat * 2 ^ 32 + g.stepLo.toNat)

/-- A record of the fault log, newest first, at most 16 (R371). -/
def State.logFault (s : State) (cause domain : Nat) (sig : BitVec 128) : State :=
  let r : FaultRecord :=
    { signature := sig, time := s.gnssNow, sealedLo := BitVec.ofNat 32 (s.num 0x205001), domain := domain, cause := cause,
      state := s.ctl.cur }
  s.mapCtl fun c => { c with faultLog := (r :: c.faultLog).take 16 }

/-- The bytes of a fault log record, bits [7:0] first (R371), all 0 where its word is lost (R347). -/
def FaultRecord.bytes (r : FaultRecord) : List Byte :=
  if r.lost then List.replicate 32 0
  else [BitVec.ofNat 8 r.state.code, BitVec.ofNat 8 r.cause, BitVec.ofNat 8 r.domain, 0] ++ leBytes 4 r.sealedLo.toNat ++
    leBytes 8 r.time ++ leBytes 16 r.signature.toNat

end Sys2Proof.Machine
end

