-- ==== Sys2Proof/Machine/Domains.lean ====
section
/-! DEFINITION. Sys2Proof/Machine/Domains.lean: the disabled-unit map and the effective grade (R24, R25, R361), the used sites and
the pool (R26, R27), the states of the power domains and the PLLs (R411 to R414). -/

namespace Sys2Proof.Machine

/-! ### The disabled-unit map (R24, R361) -/

/-- The soft-repair map in force for this boot, or an empty one (R362). -/
def State.softMap (s : State) : RepairMap := s.recovery.mapInForce.getD {}

/-- Loam slices out of service (R361). -/
def State.slicesOut (s : State) : List Nat := s.fuses.slices ++ s.softMap.slices

/-- HBM stacks out of service (R361). -/
def State.stacksOut (s : State) : List Nat := s.fuses.stackList ++ s.softMap.stackList

/-- Plot sites out of service (R361); a slice out of service takes its site with it (R24). -/
def State.sitesOut (s : State) : List Nat :=
  s.fuses.sites ++ s.softMap.sites ++ s.recovery.selfTestSites ++ s.slicesOut

/-- The cluster of a site: half its column (R20). -/
def clusterOf (site : Nat) : Nat := (site % 16) / 2

/-- The power domain of a cluster (R20). -/
def domainOfSite (site : Nat) : Nat := 3 + clusterOf site

/-- The sites of a cluster in rising order. -/
def sitesOfCluster (c : Nat) : List Nat := (List.range 176).filter fun x => clusterOf x = c

/-- The bits of a list of unit numbers. -/
def maskOf (l : List Nat) : Nat := l.foldl (fun m i => m ||| 2 ^ i) 0

/-- The 376-bit disabled-unit map: sites, stacks, slices (R207). -/
def mapBits (sites stackList slices : List Nat) : Nat :=
  maskOf (sites.filter (· < 176)) + maskOf (stackList.filter (· < 24)) * 2 ^ 176 + maskOf (slices.filter (· < 176)) * 2 ^ 200

/-- This device's disabled-unit map as R207 lays it out. -/
def State.unitMap (s : State) : Nat := mapBits s.sitesOut s.stacksOut s.slicesOut

/-- The grade that lists of disabled units give: 0 none, 1 LZ9-144, 2 LZ9-160 (R25). -/
def gradeOf (lifecycle : Nat) (sites stackList slices : List Nat) : Nat :=
  let active (c : Nat) : Nat := ((sitesOfCluster c).filter fun x => !has sites x && !has slices x).length
  let atLeast (n : Nat) : Bool := (List.range 8).all fun c => n ≤ active c
  let stacksOk := (List.range 24).all fun k => !has stackList k
  let slicesIn := ((List.range 176).filter fun x => !has slices x).length
  if lifecycle = 3 then 0
  else if atLeast 20 && stacksOk then 2
  else if atLeast 18 && stacksOk && 160 ≤ slicesIn then 1
  else 0

/-- The lifecycle code of the security configuration (R433). -/
def State.lifecycle (s : State) : Nat := bitsOf 7 4 s.fuses.securityConfig.toNat

/-- The effective grade now (R25). -/
def State.gradeNow (s : State) : Nat := gradeOf s.lifecycle s.sitesOut s.stacksOut s.slicesOut

/-- The active sites a binary of so many plots uses: plots/8 in each cluster, the lowest first (R26). -/
def State.usedSites (s : State) (plots : Nat) : List Nat :=
  let out := s.sitesOut
  let used := (List.range 8).flatMap fun c => ((sitesOfCluster c).filter fun x => !has out x).take (plots / 8)
  (List.range 176).filter (has used)

/-- The sites whose slices form the pool: the lowest unused ones in service (R27). -/
def State.poolSites (s : State) (plots : Nat) : List Nat :=
  let used := s.usedSites plots
  ((List.range 176).filter fun x => !has used x && !has s.slicesOut x).take (160 - plots)

/-- Spare assignments in force at a site: fused, of the soft-repair map, and of this boot's self-test (R92, R357, R361). -/
def State.sparesOf (s : State) (site : Nat) (column : Bool) : Nat :=
  ((s.fuses.spares ++ s.softMap.spares ++ s.recovery.selfTestSpares).filter
    fun a => a.site == site && a.column == column).length

/-- The fewest unused spares of one axis over the sites in service (0x6040.04, 0x6040.05). -/
def State.minFreeSpares (s : State) (column : Bool) : Nat :=
  let out := s.sitesOut
  ((List.range 176).filter fun x => !has out x).foldl (fun m x => min m (4 - s.sparesOf x column)) 4

/-! ### Power domains (R411 to R414) -/

/-- Whether the boot has powered a domain, by the last complete row of the boot table (R421). -/
def bootDomain (st : BootStage) (resetLow : Bool) (d : Nat) : Nat :=
  if d = 1 then (if st = .off then 0 else 2)
  else if d = 20 then (if st = .fuseRead then 2 else 0)
  else if d = 2 || (16 ≤ d && d ≤ 18) then
    match st with
    | .off | .fuseRead | .asleep | .stopped => 0
    | .ring => if resetLow then 0 else 2
    | _ => 2
  else if 13 ≤ d && d ≤ 15 then
    match st with
    | .firmware | .cxl | .hbm | .selfTestOne | .selfTestTwo | .done => 2
    | _ => 0
  else if d = 11 || d = 12 then (if st = .hbm || st = .selfTestOne then 2 else 0)
  else if 3 ≤ d && d ≤ 6 then (if st = .hbm then 2 else 0)
  else if 7 ≤ d && d ≤ 10 then (if st = .selfTestOne then 2 else 0)
  else 0

/-- The domains that the loaded binary uses (R412). -/
def State.usedDomain (s : State) (d : Nat) : Bool := s.job.elim false fun j => j.sites.any fun x => domainOfSite x == d

/-- The state code of a domain (R411, R412, R425). -/
def State.domainState (s : State) (d : Nat) : Nat :=
  let under := s.recovery.gleanDomain == some d
  match s.ctl.cur with
  | .fallow => bootDomain s.ctl.stage s.ctl.resetLow d
  | .faulted =>
    if d ≤ 2 then (if s.ctl.bootFault && bootDomain s.ctl.stage s.ctl.resetLow d = 0 then 0 else 2)
    else if d = 16 || d = 17 || d = 18 then
      if s.ctl.bootFault && bootDomain s.ctl.stage s.ctl.resetLow d = 0 then 0
      else if d = 18 && s.ctl.cxlFaultOff then 0 else 3
    else 0
  | .gleaning =>
    if d ≤ 2 then 2 else if under then 4
    else if d = 13 || d = 14 || d = 16 || d = 17 || d = 18 || d = 20 then 2 else 0
  | .tilled =>
    if d ≤ 2 then 2 else if d ≤ 12 then 0 else if d ≤ 18 then 2
    else if d = 19 then (if s.num 0x501001 != 0 || s.num 0x501002 != 0 then 2 else 0) else 0
  | .sown =>
    if d ≤ 2 then 2 else if d ≤ 10 then (if s.usedDomain d then 1 else 0) else if d ≤ 12 then 1
    else if d ≤ 18 then 2 else if d = 19 then (if s.num 0x500001 != 0 then 2 else 0) else 0
  | .growing | .harvest =>
    if d ≤ 2 then 2 else if d ≤ 10 then (if s.usedDomain d then 2 else 0) else if d ≤ 18 then 2
    else if d = 19 then (if s.num 0x500001 != 0 then 2 else 0) else 0

/-- CX_CLKREQ# is driven low whenever domain 18 is On (R448). -/
def State.clkreqLow (s : State) : Bool := s.domainState 18 == 2

/-- Bits of the locked PLLs, in the order of R414: arithmetic, HBM west, HBM east, Headland A, Headland B, Acre, control,
CXL. -/
def State.pllLocked (s : State) : Nat :=
  let on (d : Nat) : Bool := s.domainState d == 2
  let bit (b : Bool) (i : Nat) : Nat := if b then 2 ^ i else 0
  bit ((range 3 11).any on) 0 + bit (on 14) 1 + bit (on 15) 2 + bit (on 16) 3 + bit (on 17) 4 + bit (on 19) 5 +
    bit (on 2) 6 + bit (on 18) 7

end Sys2Proof.Machine
end

