-- ==== Sys2Proof/Machine/Team.lean ====
section
/-! DEFINITION. Sys2Proof/Machine/Team.lean: the states of Windrow ports (R257), what a device says of itself to its neighbours
(R242, log entry 12), the team tree (R243), and the formation of a team (R242, R244, R250). -/

namespace Sys2Proof.Machine

/-! ### Ports -/

/-- The code of a port state (R257). -/
def PortState.code : PortState → Nat
  | .off => 0
  | .training => 1
  | .notReady => 2
  | .upBestEffort => 3
  | .upScheduled => 4
  | .down => 5
  | .foreign => 6

/-- The ports of a Headland: 0 to 13 on A, 14 to 27 on B (R226). -/
def headlandPorts (d : Nat) : List Nat := if d = 16 then range 0 14 else if d = 17 then range 14 14 else []

/-- Whether a port is Up (R257). -/
def Port.up (p : Port) : Bool := p.state == .upBestEffort || p.state == .upScheduled

/-- Whether a port is trained. -/
def Port.trained (p : Port) : Bool := p.up || p.state == .notReady || p.state == .foreign

/-- The neighbour's rank, as it said. -/
def Port.neighbourRank (p : Port) : Nat := p.identity.elim 0 (·.rank)

/-- The neighbour's port, as it said. -/
def Port.neighbourPort (p : Port) : Nat := p.identity.elim 0 (·.peerPort)

/-- The port status entry of a port (R262). -/
def Port.status (p : Port) : Nat :=
  let bit (b : Bool) (i : Nat) : Nat := if b then 2 ^ i else 0
  p.state.code + bit p.partnerNotReady 9 + bit p.named 10 +
    (if p.up then p.neighbourPort % 32 * 2 ^ 11 + p.neighbourRank % 65536 * 2 ^ 16 else 0)

/-- Whether this device is ready for traffic: Tilled or in a state after it, and not Faulted (R257, R258). -/
def State.ready (s : State) : Bool := s.ctl.cur != .fallow && s.ctl.cur != .faulted

/-- Whether a port's neighbour carries this device's team_id (R242). -/
def State.sameTeam (s : State) (p : Port) : Bool := p.identity.any fun i => i.teamId.toNat == s.num 0x400001

/-- The Up ports whose neighbours belong to the team (R254). -/
def State.teamPorts (s : State) : List Nat := (List.range 28).filter fun n => (s.portAt n).up && s.sameTeam (s.portAt n)

/-- The ports that are trained. -/
def State.trainedPorts (s : State) : List Nat := (List.range 28).filter fun n => (s.portAt n).trained

/-! ### What a device knows of the tree (R243, R250) -/

/-- The ranks of the successors entry, the lead device of the formation first (R262). -/
def State.successors (s : State) : List Nat := words16 (s.oct 0x400004)

/-- Whether a formation runs. -/
def State.forming (s : State) : Bool := s.num 0x400006 == 1

/-- Whether this device's rank is the lead rank. -/
def State.leads (s : State) : Bool := s.num 0x400007 == s.rank

/-- The identity of a port's neighbour, when it belongs to the formation or to the team under the present lead device. -/
def State.peerOf (s : State) (n : Nat) : Option Identity :=
  let p := s.portAt n
  if p.up && s.sameTeam p then
    p.identity.filter fun i => if s.forming then i.forming || i.formed.isSome else i.generation == s.num 0x400008
  else none

/-- The peers by port. -/
def State.peers (s : State) : List (Nat × Identity) := (List.range 28).filterMap fun n => (s.peerOf n).map fun i => (n, i)

/-- The hops to the lead device over the parent (R243). -/
def State.ownHops (s : State) : Option Nat :=
  if s.leads then some 0 else (s.peerOf (s.num 0x40000C)).bind fun i => i.hops.map (· + 1)

/-- The peers whose parent this device is. -/
def State.childPeers (s : State) : List (Nat × Identity) := s.peers.filter (·.2.child)

/-- The ranks of this device's subtree, itself first. -/
def State.subtreeRanks (s : State) : List Nat := s.rank :: s.childPeers.flatMap (·.2.subtree)

/-- The largest sum of hop times below this device (R250). -/
def State.reach (s : State) : Nat := (s.childPeers.map fun c => c.2.hopTime + c.2.reach).foldl max 0

/-- Whether this device's time and that of its whole subtree is aligned (R242). -/
def State.subtreeAligned (s : State) : Bool := s.num 0x400104 == 2 && s.childPeers.all (·.2.aligned)

/-- This device's part of the discovered port map (R243): its Up ports in the team, each with its neighbour's rank and port. -/
def State.ownLinks (s : State) : List (Nat × Nat × Nat) :=
  s.teamPorts.map fun n => (n, (s.portAt n).neighbourRank, (s.portAt n).neighbourPort)

/-- What this device says of itself on a port. -/
def State.ownIdentity (s : State) (n : Nat) : Identity :=
  { teamId := BitVec.ofNat 64 (s.num 0x400001), rank := s.rank, teamSize := s.teamSize, successors := s.successors, peerPort := n
    forming := s.forming, generation := s.num 0x400008, hops := s.ownHops, child := s.num 0x40000C == n && !s.leads
    subtree := s.subtreeRanks, aligned := s.subtreeAligned, reach := s.reach
    formed := if s.formed then some (s.num 0x400009) else none
    maps := (s.rank, s.unitMap) :: s.fabric.maps.filter fun m => m.1 != s.rank
    links := (s.rank, s.ownLinks) :: s.fabric.links.filter fun m => m.1 != s.rank }

/-- The device's identity goes out on every trained port, once the device is ready (R242, R258). -/
def State.sendIdentities (s : State) : State :=
  if s.ready then s.sendAll (s.trainedPorts.map fun n => .identity n (s.ownIdentity n)) else s

/-- The identity goes out again on the ports where it differs from what the device said before. -/
def State.resendIdentities (s before : State) : State :=
  if s.ready then
    s.sendAll ((s.trainedPorts.filter fun n => s.ownIdentity n != before.ownIdentity n).map fun n => .identity n (s.ownIdentity n))
  else s

/-! ### The tree (R243) -/

/-- Whether one place in the tree comes before another: fewer hops, then the lower rank, then the lower port (R243). -/
def closer (a b : Nat × Nat × Nat) : Bool :=
  a.1 < b.1 || (a.1 == b.1 && (a.2.1 < b.2.1 || (a.2.1 == b.2.1 && a.2.2 < b.2.2)))

/-- The port towards the parent among the peers that know a way of at most 64 hops (R243, R244). A peer whose parent is this
device is none. -/
def State.bestParent (s : State) : Option Nat :=
  let places := s.peers.filterMap fun c =>
    if c.2.child then none else c.2.hops.bind fun h => if h < 64 then some (h, c.2.rank, c.1) else none
  (places.foldl (fun best x => match best with
    | none => some x
    | some b => if closer x b then some x else some b) none).map (·.2.2)

/-- The tree around this device is made anew: parent and children. -/
def State.settleTree (s : State) : State :=
  let s := if s.leads then s.setNum 0x40000C 0xFF
    else match s.bestParent with
      | some n => s.setNum 0x40000C n
      | none => if s.forming then s.setNum 0x40000C 0xFF else s
  s.mapFabric fun f => { f with children := s.childPeers.map (·.1) }

/-! ### Formation (R242, R244) -/

/-- The barrier margin that a d_max gives (R250). -/
def State.marginOf (s : State) (dMax : Nat) : Nat := ceilDiv (3 * (16 + dMax)) 2 + 96 + s.num 0x40000A

/-- d_max and the barrier margin are set (R250). -/
def State.setReach (s : State) (dMax : Nat) : State := (s.setNum 0x400009 dMax).setNum 0x40000B (s.marginOf dMax)

/-- The team is formed on this device; the Form verb completes (R242, R404). -/
def State.formTeam (s : State) (dMax : Nat) : State :=
  let s := (s.setNum 0x400006 2).setReach dMax
  (s.mapFabric fun f => { f with lastHeartbeat := s.cycle, heartbeatBout := 0, heardSuccessor := 0, leadSilent := false }).raise
    .verbDone

/-- Formation fails on this device; the Form verb ends (R242, R244, R404). -/
def State.failForming (s : State) : State := (s.setNum 0x400006 3).raise .verbDone

/-- Whether a neighbour with this device's team_id has another team_size or successors entry, in the formation or failed in it
already (R242). -/
def State.mismatched (s : State) : Bool :=
  s.teamPorts.any fun n => (s.portAt n).identity.any fun i => i.teamSize != s.teamSize || i.successors != s.successors

/-- Whether a list holds a number twice. -/
def repeats : List Nat → Bool
  | [] => false
  | a :: l => has l a || repeats l

/-- The formation goes on as far as what the neighbours said allows: it fails on other team entries, the lead device judges the
ranks that it reaches once all are aligned, fails on one held twice and forms the team when every rank is reached, and another
device is formed when its parent is (R242). A rank that passes from one parent to another while the tree is made is in two lists
for a moment, so a rank held twice is judged only then (DEDUCED, log entry 151). -/
def State.settleForming (s : State) : State :=
  if !s.forming then s
  else if s.mismatched then s.failForming
  else if s.leads then
    let ranks := s.subtreeRanks
    if !s.subtreeAligned then s
    else if repeats ranks then s.failForming
    else if (List.range s.teamSize).all (has ranks) then s.formTeam s.reach
    else s
  else match (s.peerOf (s.num 0x40000C)).bind (·.formed) with
    | some d => s.formTeam d
    | none => s

/-- The lead device of a team that has changed its lead device knows the whole new tree: d_max and the margin are its own (R255). -/
def State.settleSuccession (s : State) : State :=
  if s.formed && s.leads && (List.range s.teamSize).all (has s.subtreeRanks) then s.setReach s.reach else s

/-- The team after news of a neighbour: the tree is made while a formation runs and after a succession (R243, R255), and what
changed is said to the neighbours. -/
def State.settleTeam (s : State) (before : State) : State :=
  let s := if s.forming then s.settleTree.settleForming
    else if s.formed && s.num 0x400008 != 0 then s.settleTree.settleSuccession
    else s
  s.resendIdentities before

/-- A port whose neighbour is known is Up, or Foreign when the neighbour belongs to another team (R242, R257). -/
def State.settlePort (s : State) (n : Nat) : State :=
  let p := s.portAt n
  if s.ready && p.trained && !p.partnerNotReady && p.identity.isSome then
    s.mapPort n fun p =>
      { p with state := if !s.sameTeam p then .foreign else if p.state = .upScheduled then .upScheduled else .upBestEffort
               upSince := if p.up then p.upSince else s.cycle }
  else s

/-- Every port settled, after a change of this device's team entries. -/
def State.settlePorts (s : State) : State := (List.range 28).foldl (fun s n => s.settlePort n) s

/-- FORM (R242): the device forms a team with its neighbours; what they said of an earlier team no longer counts. -/
def State.beginForming (s : State) : State :=
  let lead := (s.successors.head?).getD 0
  let s := ((s.setNum 0x400006 1).setNum 0x400007 lead).setNum 0x400008 0
  let s := ((s.setNum 0x400009 0).setNum 0x40000B 0).setNum 0x40000C 0xFF
  let s := s.setNum 0x400104 (if lead = s.rank then 2 else 1)
  let s := s.mapFabric fun f => { f with
    maps := [], links := [], children := [], lateBouts := 0, judgeRollback := []
    ports := f.ports.map fun p => { p with identity := p.identity.map fun i => { i with formed := none } } }
  let s := s.settlePorts
  (s.settleTree.settleForming).sendIdentities

end Sys2Proof.Machine
end

