-- ==== Sys2Proof/Machine/Attest.lean ====
section
/-! DEFINITION. Sys2Proof/Machine/Attest.lean: the identity key (R435) and the attestation report (R436). -/

namespace Sys2Proof.Machine

/-- What the seed of the identity key is made of (R435); the key pair is the one that Falcon-1024 derives from SHAKE256 over it
(log entry 8). -/
def State.identitySeed (s : State) : List Byte := ascii "lz9-id" ++ s.fuses.secret

/-- The identity public key, once the boot has derived it (R435). -/
def State.identityKey (s : State) : List Byte := if s.sec.identityReady then Config.falconPublicKey s.identitySeed else []

/-- A signature with the identity key (R436). -/
def State.sign (s : State) (bs : List Byte) : List Byte := Config.falconSign s.identitySeed bs

/-- The active latency profile's digest, entry 0x1030.04: the native profile's with nothing loaded (R152). -/
def State.profileEntry (s : State) : List Byte :=
  let b := s.oct 0x103004
  if b.isEmpty then leBytes 16 (profileDigest s.fuses.stepping).toNat else b

/-- The 256 bytes of the attestation report over a nonce (R436), bits [7:0] first. -/
def State.reportBytes (s : State) (nonce : List Byte) : List Byte :=
  let b := s.job.map (·.binary)
  leBytes 4 0x54535441 ++ [1, BitVec.ofNat 8 s.ctl.cur.code] ++ leBytes 2 s.rank ++ leBytes 4 s.fuses.fwRollback ++
    leBytes 4 (s.num 0x100005) ++ fit 16 s.fuses.serial ++ leBytes 4 s.fuses.securityConfig.toNat ++
    leBytes 4 (b.elim 0 (·.deviceCount)) ++ leBytes 8 (s.num 0x500001) ++ fit 32 (s.oct 0x500012) ++ fit 32 (s.oct 0x902001) ++
    fit 16 s.profileEntry ++ fit 32 (s.oct 0x902003) ++ leBytes 32 (b.elim 0 (·.digest.toNat)) ++ fit 32 (s.oct 0x900007) ++
    fit 32 nonce

/-- The report with its signature (R436). -/
def State.signedReport (s : State) (nonce : List Byte) : List Byte :=
  let r := s.reportBytes nonce
  r ++ s.sign r

end Sys2Proof.Machine
end

