-- ==== Sys2Proof/Machine/Numbers.lean ====
section
/-! DEFINITION. Sys2Proof/Machine/Numbers.lean: exact values, rounding (R47), the Seedbed generator (R49, R50), the formats of
R46 and the conversions between them (R54 to R61, R464), and the binary32 arithmetic of the Tilth stages (R99, R100, R112, R113). -/

namespace Sys2Proof.Machine

/-! ### Rounding -/

/-- The rounding modes of R47. -/
inductive Mode where
  | rne | sr
  deriving DecidableEq, Repr

/-- `round_shift` of R47: m / 2^n rounded by the mode, with the random value r under SR. -/
def roundShift (m : Int) (n : Nat) (mode : Mode) (r : Nat) : Int :=
  if n = 0 then m
  else if n > 254 then 0
  else
    let fl := m / (2 ^ n : Nat)
    let rem := (m - fl * (2 ^ n : Nat)).toNat
    let up := match mode with
      | .rne => 2 ^ (n - 1) < rem || (rem == 2 ^ (n - 1) && fl % 2 != 0)
      | .sr => r < (if n ≤ 32 then rem * 2 ^ (32 - n) else rem / 2 ^ (n - 32)) % 2 ^ 32
    if up then fl + 1 else fl

/-- The position of the highest set bit of |m|, for m not 0 (R55). -/
def msb (m : Int) : Int := (Nat.log2 m.natAbs : Nat)

/-- m × 2^f as an integer multiple of 2^q, rounded. -/
def alignTo (m f q : Int) (mode : Mode) (r : Nat) : Int :=
  if q ≤ f then m * (2 ^ (f - q).toNat : Nat) else roundShift m (q - f).toNat mode r

/-! ### Seedbed (R49 to R51) -/

/-- Rotation of a 32-bit value to the left. -/
def rotl32 (v n : Nat) : Nat := (v * 2 ^ n + v / 2 ^ (32 - n)) % 2 ^ 32

/-- One round i of the Seedbed generator on (a, b, c, d) under the key words k. -/
def seedbedRound (k : List Nat) (s : Nat × Nat × Nat × Nat) (i : Nat) : Nat × Nat × Nat × Nat :=
  let (a, b, c, d) := s
  let a := (a + b) % 2 ^ 32
  let d := rotl32 (d ^^^ a) 16
  let c := (c + d) % 2 ^ 32
  let b := rotl32 (b ^^^ c) 12
  let a := (a + b) % 2 ^ 32
  let d := rotl32 (d ^^^ a) 8
  let c := (c + d) % 2 ^ 32
  let b := rotl32 (b ^^^ c) 7
  if i % 2 = 1 then ((a + nth 0 k ((i + 1) % 4)) % 2 ^ 32, b, c, d ^^^ (i + 1)) else (a, b, c, d)

/-- `seedbed` of R50: 32 bits for one 64-bit index. -/
def seedbed (k : List Nat) (idx : Nat) : Nat :=
  let s := (List.range 8).foldl (seedbedRound k)
    (idx % 2 ^ 32 ^^^ nth 0 k 0, (idx / 2 ^ 32) % 2 ^ 32 ^^^ nth 0 k 1, nth 0 k 2, nth 0 k 3 ^^^ 0x9E3779B9)
  s.1 ^^^ s.2.1 ^^^ s.2.2.1 ^^^ s.2.2.2

/-- The stream key of R49 as four words. -/
def streamKey (seed domain counter tensorId : Nat) : List Nat :=
  let b := shake256 16 (leBytes 16 seed ++ leBytes 4 domain ++ leBytes 8 counter ++ leBytes 4 tensorId)
  [leNat (b.take 4), leNat ((b.drop 4).take 4), leNat ((b.drop 8).take 4), leNat ((b.drop 12).take 4)]

/-! ### Formats (R46) -/

/-- A floating-point format: exponent bits, mantissa bits, bias, and how its top exponent reads. -/
structure FpFormat where
  ebits : Nat
  mbits : Nat
  bias : Nat
  hasInf : Bool := true
  allFinite : Bool := false
  deriving DecidableEq, Repr

/-- The significand width p of R59. -/
def FpFormat.p (t : FpFormat) : Nat := t.mbits + 1
/-- The smallest normal exponent emin of R59. -/
def FpFormat.emin (t : FpFormat) : Int := 1 - (t.bias : Int)
/-- The width of the format in bits. -/
def FpFormat.bits (t : FpFormat) : Nat := 1 + t.ebits + t.mbits

def fp32 : FpFormat := { ebits := 8, mbits := 23, bias := 127 }
def fp16 : FpFormat := { ebits := 5, mbits := 10, bias := 15 }
def bf16 : FpFormat := { ebits := 8, mbits := 7, bias := 127 }
def e4m3 : FpFormat := { ebits := 4, mbits := 3, bias := 7, hasInf := false }
def e5m2 : FpFormat := { ebits := 5, mbits := 2, bias := 15 }
def e3m2 : FpFormat := { ebits := 3, mbits := 2, bias := 3, hasInf := false, allFinite := true }
def e2m3 : FpFormat := { ebits := 2, mbits := 3, bias := 1, hasInf := false, allFinite := true }
def e2m1 : FpFormat := { ebits := 2, mbits := 1, bias := 1, hasInf := false, allFinite := true }

/-- The largest finite value of a format, as (s, q) with value s × 2^q. -/
def FpFormat.largest (t : FpFormat) : Int × Int :=
  let top : Nat := 2 ^ t.ebits - 1
  if t.hasInf then ((2 ^ (t.mbits + 1) - 1 : Nat), (top : Int) - 1 - t.bias - t.mbits)
  else if t.allFinite then ((2 ^ (t.mbits + 1) - 1 : Nat), (top : Int) - t.bias - t.mbits)
  else ((2 ^ (t.mbits + 1) - 2 : Nat), (top : Int) - t.bias - t.mbits)

/-- What a format code of R46 stands for. -/
inductive Fmt where
  | raw
  | fp (t : FpFormat)
  | mx (t : FpFormat)
  | mxint8
  | field (w : Nat)
  | fwp
  | fw (w : Nat)
  | u32 | i32
  | reserved
  deriving DecidableEq, Repr

/-- The format codes of R46. -/
def fmtOf (c : BitVec 8) : Fmt :=
  match c.toNat with
  | 0x00 => .raw
  | 0x01 => .fp fp32
  | 0x02 => .fp fp16
  | 0x03 => .fp bf16
  | 0x04 => .fp e4m3
  | 0x05 => .fp e5m2
  | 0x06 => .mx e4m3
  | 0x07 => .mx e5m2
  | 0x08 => .mx e3m2
  | 0x09 => .mx e2m3
  | 0x0A => .mx e2m1
  | 0x0B => .mxint8
  | 0x10 => .field 4
  | 0x11 => .field 8
  | 0x12 => .field 12
  | 0x13 => .field 16
  | 0x14 => .field 20
  | 0x15 => .field 24
  | 0x20 => .fwp
  | 0x21 => .fw 48
  | 0x22 => .fw 64
  | 0x23 => .fw 96
  | 0x30 => .u32
  | 0x31 => .i32
  | _ => .reserved

/-- Element bits of a format (R46). -/
def Fmt.bits : Fmt → Nat
  | .raw => 8
  | .fp t => t.bits
  | .mx t => t.bits
  | .mxint8 => 8
  | .field w => w
  | .fwp => 128
  | .fw w => w
  | .u32 | .i32 => 32
  | .reserved => 8

/-- Whether a format carries an exponent byte per block of 32 (R46). -/
def Fmt.isBlock : Fmt → Bool
  | .mx _ | .mxint8 | .field _ => true
  | _ => false

/-! ### Decoded elements (R54) -/

/-- A decoded element: m × 2^f, or a non-finite value with its sign. -/
inductive Elem where
  | fin (m f : Int)
  | inf (neg : Bool)
  | nan
  deriving DecidableEq, Repr

/-- Whether an element is finite. -/
def Elem.isFinite : Elem → Bool
  | .fin _ _ => true
  | _ => false

/-- A floating-point element read from its bits (R54): both zeros are m = 0. -/
def decodeFp (t : FpFormat) (v : Nat) : Elem :=
  let neg := bitsOf (t.bits - 1) (t.bits - 1) v = 1
  let e := bitsOf (t.ebits + t.mbits - 1) t.mbits v
  let man := v % 2 ^ t.mbits
  let top := 2 ^ t.ebits - 1
  if t.hasInf && e = top then (if man = 0 then .inf neg else .nan)
  else if !t.hasInf && !t.allFinite && e = top && man = 2 ^ t.mbits - 1 then .nan
  else
    let m : Nat := if e = 0 then man else man + 2 ^ t.mbits
    let f : Int := (if e = 0 then 1 else (e : Int)) - t.bias - t.mbits
    .fin (if neg then -(m : Int) else m) f

/-- A Field element's value: e × 2^(X − 127 − (w − 2)), non-finite in a void block (R35, R38). -/
def decodeField (w x : Nat) (v : Nat) : Elem :=
  if x = 255 then .nan else .fin (ofPattern w v) ((x : Int) - 127 - ((w : Int) - 2))

/-- An MX element: the element format's value scaled by 2^(X − 127); non-finite at scale 0xFF (R54). A lone Inf or NaN element
of another block is non-finite too, as a NaN (DESIGN CHOICE, log entry 140). -/
def decodeMx (t : FpFormat) (x : Nat) (v : Nat) : Elem :=
  if x = 255 then .nan
  else match decodeFp t v with
    | .fin m f => .fin m (f + x - 127)
    | _ => .nan

/-- The FWP value that stands for NaF (R78, R79). -/
def naf : Int := -(2 ^ 127 : Nat)

/-! ### Conversion out (R59, R60, R464) -/

/-- Round m × 2^f, m not 0, to p bits with smallest normal exponent emin: (s, qt) (R59). -/
def roundTo (p : Nat) (emin : Int) (m f : Int) (mode : Mode) (r : Nat) : Int × Int :=
  let qt := max (msb m + f) emin - ((p : Int) - 1)
  (alignTo m f qt mode r, qt)

/-- Whether s × 2^q lies beyond the format's largest finite value. -/
def FpFormat.beyond (t : FpFormat) (s q : Int) : Bool :=
  let (ls, lq) := t.largest
  if lq ≤ q then decide (ls < (s.natAbs : Int) * (2 ^ (q - lq).toNat : Nat))
  else decide (ls * (2 ^ (lq - q).toNat : Nat) < (s.natAbs : Int))

/-- The bits of a finite value that fits: magnitude s × 2^q with s below 2^(p+1). -/
def FpFormat.pack (t : FpFormat) (neg : Bool) (s : Nat) (q : Int) : Nat :=
  let sign := if neg then 2 ^ (t.ebits + t.mbits) else 0
  if s = 0 then sign
  else
    let s' := if s = 2 ^ t.p then 2 ^ t.mbits else s
    let q' := if s = 2 ^ t.p then q + 1 else q
    if s' < 2 ^ t.mbits then sign + s'
    else sign + (q' + t.bias + t.mbits).toNat * 2 ^ t.mbits + (s' - 2 ^ t.mbits)

/-- The bits of infinity. -/
def FpFormat.infBits (t : FpFormat) (neg : Bool) : Nat :=
  (if neg then 2 ^ (t.ebits + t.mbits) else 0) + (2 ^ t.ebits - 1) * 2 ^ t.mbits

/-- The canonical NaN of R60 and R464. -/
def FpFormat.nanBits (t : FpFormat) : Nat :=
  if t.hasInf then (2 ^ t.ebits - 1) * 2 ^ t.mbits + 2 ^ (t.mbits - 1) else 2 ^ (t.ebits + t.mbits) - 1

/-- The bits of a format's largest finite value. -/
def FpFormat.maxBits (t : FpFormat) (neg : Bool) : Nat :=
  let (s, q) := t.largest
  t.pack neg s.toNat q

/-- What a conversion tells the tally: zeros, saturations, non-finite values (R56). -/
structure Counts where
  zeros : Nat := 0
  saturations : Nat := 0
  nonfinite : Nat := 0
  deriving DecidableEq, Repr

/-- Two counts taken together. -/
def Counts.plus (a b : Counts) : Counts :=
  ⟨a.zeros + b.zeros, a.saturations + b.saturations, a.nonfinite + b.nonfinite⟩

/-- Conversion of a finite value to a floating-point format (R59, R60): its bits, and what it counts as. A result of zero
is +0. -/
def convertFin (t : FpFormat) (m f : Int) (mode : Mode) (r : Nat) : Nat × Counts :=
  if m = 0 then (0, { zeros := 1 })
  else
    let (s, q) := roundTo t.p t.emin m f mode r
    if s = 0 then (0, { zeros := 1 })
    else if t.beyond s q then
      (if t.hasInf then (t.infBits (decide (s < 0)), { nonfinite := 1 })
       else (t.maxBits (decide (s < 0)), { saturations := 1 }))
    else (t.pack (decide (s < 0)) s.natAbs q, {})

/-- A convert stage into FP32, FP16, BF16, E4M3 or E5M2 (R59, R60, R464). `fromBlock` says that the source is no
floating-point format, so that a non-finite input is a void input (R60). -/
def convertOut (t : FpFormat) (e : Elem) (mode : Mode) (r : Nat) : Nat × Counts :=
  match e with
  | .fin m f => convertFin t m f mode r
  | .inf neg => (if t.hasInf then t.infBits neg else t.nanBits, { nonfinite := 1 })
  | .nan => (t.nanBits, { nonfinite := 1 })

/-! ### Conversion into blocks (R55, R58, R61) -/

/-- A block: its exponent byte, its 32 element patterns and what the conversion counts. -/
structure Block where
  x : Nat := 0
  e : List Nat := []
  counts : Counts := {}
  isVoid : Bool := false
  deriving DecidableEq, Repr

/-- One element of a block before conversion: its value (none for padding) and its random value. -/
abbrev BlockIn := List (Option Elem × Nat)

/-- The number of elements that are no padding. -/
def BlockIn.real (b : BlockIn) : Nat := (b.filter (·.1.isSome)).length

/-- The void block (R38): every real element counts as non-finite. -/
def voidBlock (b : BlockIn) : Block :=
  { x := 255, e := b.map fun _ => 0, counts := { nonfinite := BlockIn.real b }, isVoid := true }

/-- The largest exponent among the nonzero real elements, if there is one (R55). -/
def blockMax (b : BlockIn) : Option Int :=
  b.foldl (fun acc p => match p.1 with
    | some (.fin m f) => if m = 0 then acc else
        match acc with
        | none => some (msb m + f)
        | some e => some (max e (msb m + f))
    | _ => acc) none

/-- Whether a real element is non-finite. -/
def blockNonFinite (b : BlockIn) : Bool :=
  b.any fun p => match p.1 with
    | some e => !e.isFinite
    | none => false

/-- One element of `to_field`: its integer, clamped, and whether the clamp acted (R40, R55). -/
def fieldElement (w : Nat) (q : Int) (mode : Mode) (e : Option Elem) (r : Nat) : Int × Bool :=
  match e with
  | some (.fin m f) =>
    let t := alignTo m f q mode r
    let lim : Int := (2 ^ (w - 1) : Nat) - 1
    if lim < t then (lim, true) else if t < -lim then (-lim, true) else (t, false)
  | _ => (0, false)

/-- `to_field` of R55: a block of 32 decoded elements as Field-w. -/
def toField (w : Nat) (mode : Mode) (b : BlockIn) : Block :=
  if blockNonFinite b then voidBlock b
  else match blockMax b with
    | none => { x := 0, e := b.map fun _ => 0, counts := { zeros := BlockIn.real b } }
    | some emax =>
      if emax + 127 > 254 then voidBlock b
      else
        let x := (max (emax + 127) 0).toNat
        let q : Int := (x : Int) - 127 - ((w : Int) - 2)
        let es := b.map fun p => fieldElement w q mode p.1 p.2
        { x := x
          e := es.map fun t => toPattern w t.1
          counts :=
            { zeros := ((b.zip es).filter fun p => p.1.1.isSome && p.2.1 = 0).length
              saturations := (es.filter (·.2)).length } }

/-- The largest element exponent of an MX element format (R61). -/
def emaxElem (t : FpFormat) : Int := let (s, q) := t.largest; msb s + q

/-- Conversion of a block to an MX format (R61): the scale from the largest magnitude, then each element rounded, a result
beyond the largest finite value clamped to it. -/
def toMx (t : FpFormat) (mode : Mode) (b : BlockIn) : Block :=
  if blockNonFinite b then voidBlock b
  else match blockMax b with
    | none => { x := 0, e := b.map fun _ => 0, counts := { zeros := BlockIn.real b } }
    | some emax =>
      let x := (max 0 (min 254 (emax - emaxElem t + 127))).toNat
      let es := b.map fun p => match p.1 with
        | some (.fin m f) =>
          if m = 0 then (0, ({ zeros := 1 } : Counts))
          else
            let (s, q) := roundTo t.p t.emin m (f - x + 127) mode p.2
            if s = 0 then (0, { zeros := 1 })
            else if t.beyond s q then (t.maxBits (decide (s < 0)), { saturations := 1 })
            else (t.pack (decide (s < 0)) s.natAbs q, {})
        | _ => (0, {})
      { x := x, e := es.map (·.1), counts := (es.map (·.2)).foldl Counts.plus {} }

/-- Copy between MXINT8 and Field-8 (R58): bytes unchanged, zeros counted, a void block counted as non-finite. -/
def copyBlock (x : Nat) (e : List Nat) (real : List Bool) : Block :=
  let n := (real.filter id).length
  if x = 255 then { x := x, e := e, counts := { nonfinite := n }, isVoid := true }
  else { x := x, e := e, counts := { zeros := ((e.zip real).filter fun p => p.2 && p.1 = 0).length } }

/-! ### Binary32 of the chain datapath (R99, R100) -/

/-- The canonical quiet NaN of R99. -/
def qnan : Nat := 0x7FC00000

/-- The sign bit of an FP32 pattern. -/
def negBit (a : Nat) : Bool := bitsOf 31 31 a = 1

/-- An exact value whose significand is cut to 101 bits and a last bit that stands for the rest: it rounds to FP32 as the
whole value does. R47's own cut at 254 belongs to operands of a format, not to the exact sum of a fused operation. -/
def cutLong (m f : Int) : Int × Int :=
  let k := Nat.log2 m.natAbs - 100
  let t : Int := (2 * (m.natAbs / 2 ^ k) + (if m.natAbs % 2 ^ k = 0 then 0 else 1) : Nat)
  (if m < 0 then -t else t, f + k - 1)

/-- Round a nonzero exact value to FP32 under RNE with a given sign of a zero result. -/
def fp32Round (neg : Bool) (m f : Int) : Nat :=
  let (m, f) := cutLong m f
  let (s, q) := roundTo 24 (-126) m f .rne 0
  if s = 0 then fp32.pack neg 0 0
  else if fp32.beyond s q then fp32.infBits neg else fp32.pack neg s.natAbs q

/-- An exact value as FP32 under RNE, +0 for zero (R59). -/
def fp32FromExact (m f : Int) : Nat := (convertFin fp32 m f .rne 0).1

/-- a + b of exact values, as (m, f). -/
def exactAdd (m1 f1 m2 f2 : Int) : Int × Int :=
  let f := min f1 f2
  (m1 * (2 ^ (f1 - f).toNat : Nat) + m2 * (2 ^ (f2 - f).toNat : Nat), f)

/-- a × b + c, rounded once (R100), for given exact product operands. -/
def fp32Fma (a b c : Nat) : Nat :=
  let sp := negBit a != negBit b
  match decodeFp fp32 a, decodeFp fp32 b, decodeFp fp32 c with
  | .nan, _, _ | _, .nan, _ | _, _, .nan => qnan
  | .fin ma fa, .fin mb fb, .fin mc fc =>
    let (m, f) := exactAdd (ma * mb) (fa + fb) mc fc
    if m = 0 then (if ma * mb = 0 && mc = 0 && sp && negBit c then 0x80000000 else 0)
    else fp32Round (decide (m < 0)) m f
  | .fin _ _, .fin _ _, .inf n => fp32.infBits n
  | x, y, z =>
    let zero : Bool := (match x with | .fin m _ => m == 0 | _ => false) || (match y with | .fin m _ => m == 0 | _ => false)
    if zero then qnan
    else match z with
      | .inf n => if n = sp then fp32.infBits n else qnan
      | _ => fp32.infBits sp

/-- a + b, rounded once (R100). -/
def fp32Add (a b : Nat) : Nat :=
  match decodeFp fp32 a, decodeFp fp32 b with
  | .nan, _ | _, .nan => qnan
  | .inf n, .inf n' => if n = n' then fp32.infBits n else qnan
  | .inf n, _ => fp32.infBits n
  | _, .inf n => fp32.infBits n
  | .fin ma fa, .fin mb fb =>
    let (m, f) := exactAdd ma fa mb fb
    if m = 0 then (if negBit a && negBit b then 0x80000000 else 0) else fp32Round (decide (m < 0)) m f

/-- a × b, rounded once (R100). -/
def fp32Mul (a b : Nat) : Nat :=
  let s := negBit a != negBit b
  match decodeFp fp32 a, decodeFp fp32 b with
  | .nan, _ | _, .nan => qnan
  | .fin ma fa, .fin mb fb => if ma * mb = 0 then fp32.pack s 0 0 else fp32Round s (ma * mb) (fa + fb)
  | .fin ma _, .inf _ => if ma = 0 then qnan else fp32.infBits s
  | .inf _, .fin mb _ => if mb = 0 then qnan else fp32.infBits s
  | .inf _, .inf _ => fp32.infBits s

/-- A key that orders FP32 patterns that are no NaN, −0 below +0. -/
def fp32Order (a : Nat) : Int := if negBit a then -((a % 2 ^ 31 : Nat) : Int) - 1 else (a % 2 ^ 31 : Nat)

/-- Whether an FP32 pattern is a NaN. -/
def isNan (a : Nat) : Bool := decodeFp fp32 a == .nan

/-- IEEE 754-2019 minimum (R100). -/
def fp32Min (a b : Nat) : Nat := if isNan a || isNan b then qnan else if fp32Order a ≤ fp32Order b then a else b
/-- IEEE 754-2019 maximum (R100). -/
def fp32Max (a b : Nat) : Nat := if isNan a || isNan b then qnan else if fp32Order a ≤ fp32Order b then b else a

/-- The numeric value's order, with equal zeros. -/
def fp32Value (a : Nat) : Int := if a % 2 ^ 31 = 0 then 0 else fp32Order a + (if negBit a then 1 else 0)

/-- The conditions of cmpsel: a NaN makes every condition false except NE and UNORD (R100). -/
def condHolds (c : Cond) (a b : Nat) : Bool :=
  let un := isNan a || isNan b
  match c with
  | .eq => !un && fp32Value a == fp32Value b
  | .ne => un || fp32Value a != fp32Value b
  | .lt => !un && fp32Value a < fp32Value b
  | .le => !un && fp32Value a ≤ fp32Value b
  | .gt => !un && fp32Value b < fp32Value a
  | .ge => !un && fp32Value b ≤ fp32Value a
  | .unord => un

/-- A NaN leaves a stage as the canonical NaN (R99). -/
def canon (a : Nat) : Nat := if isNan a then qnan else a

/-- The sign modifiers, which change only the sign bit of a number (R100). -/
def signMod (s : SignMod) (a : Nat) : Nat :=
  match s with
  | .none => a
  | .neg => a ^^^ 0x80000000
  | .abs => a % 2 ^ 31
  | .negAbs => a % 2 ^ 31 + 2 ^ 31

/-! ### Transcendental stages (R112, R113) -/

/-- The integer square root: bits from 2^k down. -/
def isqrtAux : Nat → Nat → Nat → Nat
  | 0, r, _ => r
  | k + 1, r, n => isqrtAux k (if (r + 2 ^ k) * (r + 2 ^ k) ≤ n then r + 2 ^ k else r) n

/-- ⌊√n⌋. -/
def isqrt (n : Nat) : Nat := isqrtAux (Nat.log2 n / 2 + 1) 0 n

/-- Terms of ln 2 = Σ 1 / (k 2^k) on a fixed point of q bits. -/
def ln2Aux : Nat → Nat → Nat → Nat
  | 0, _, acc => acc
  | n + 1, q, acc => ln2Aux n q (acc + 2 ^ q / ((n + 1) * 2 ^ (n + 1)))

/-- Terms of the exponential series from the k-th on, on a fixed point of 256 bits. -/
def expAux : Nat → Nat → Nat → Nat → Nat → Nat
  | 0, _, _, _, acc => acc
  | n + 1, k, z, term, acc => let t := term * z / 2 ^ 256 / k; expAux n (k + 1) z t (acc + t)

/-- 2^(frac / 2^200) on a fixed point of 256 bits, for a fraction below 1. -/
def exp2Frac (frac : Nat) : Nat :=
  expAux 70 1 (frac * ln2Aux 260 256 0 / 2 ^ 200) (2 ^ 256) (2 ^ 256)

/-- exp2, correctly rounded (R112): the exact result is a power of two or lies strictly between the fixed-point value and
the next, so that its last bit stands for the rest. -/
def fp32Exp2 (a : Nat) : Nat :=
  match decodeFp fp32 a with
  | .nan => qnan
  | .inf n => if n then 0 else fp32.infBits false
  | .fin m f =>
    -- x on a fixed point of 200 bits: exact, since f is at least -149
    if 128 * (2 ^ 200 : Nat) ≤ m * (2 ^ (f + 200).toNat : Nat) then fp32.infBits false
    else if m * (2 ^ (f + 200).toNat : Nat) < -(151 * (2 ^ 200 : Nat) : Int) then 0
    else
      let x := m * (2 ^ (f + 200).toNat : Nat)
      let i := x / (2 ^ 200 : Nat)
      let frac := (x - i * (2 ^ 200 : Nat)).toNat
      if frac = 0 then fp32FromExact 1 i
      else fp32Round false (2 * (exp2Frac frac : Int) + 1) (i - 257)

/-- Bits of log2 of u in [1, 2), u on a fixed point of 400 bits, by repeated squaring. -/
def log2Aux : Nat → Nat → Nat → Nat
  | 0, _, acc => acc
  | n + 1, u, acc =>
    let s := u * u / 2 ^ 400
    if 2 ^ 401 ≤ s then log2Aux n (s / 2) (2 * acc + 1) else log2Aux n s (2 * acc)

/-- log2, correctly rounded (R112). -/
def fp32Log2 (a : Nat) : Nat :=
  match decodeFp fp32 a with
  | .nan => qnan
  | .inf n => if n then qnan else fp32.infBits false
  | .fin m f =>
    if m = 0 then fp32.infBits true
    else if m < 0 then qnan
    else
      let e := msb m + f
      let u := m.toNat * 2 ^ (400 - Nat.log2 m.toNat)
      if u = 2 ^ 400 then fp32FromExact e 0
      else fp32FromExact (2 * (e * (2 ^ 200 : Nat) + (log2Aux 200 u 0 : Nat)) + 1) (-201)

/-- The coefficient RCn[i] of R113: the integer nearest to 2^30 × a_n × c_i^(−(2n+1)/2). -/
def rsqrtCoeff (n i : Nat) : Int :=
  let a := nth 0 [16, 8, 6, 5] n
  let num := 4 * 2 ^ 60 * a * a * 128 ^ (2 * n + 1)
  let den := 256 * (2 * i + 129) ^ (2 * n + 1)
  ((isqrt (num / den) + 1) / 2 : Nat)

/-- `rsqrt_stage` of R113 on the normalised significand and exponent. -/
def rsqrtStage (mant : Nat) (e : Int) : Nat :=
  let k := e / 2
  let u := if e % 2 != 0 then mant * 2 else mant
  let i : Nat := u / 2 ^ 17 - 64
  let d : Int := (u : Int) - ((2 * i + 129) * 65536 : Nat)
  let t := rsqrtCoeff 3 i * d / (2 ^ 23 : Nat)
  let t := (rsqrtCoeff 2 i - t) * d / (2 ^ 23 : Nat)
  let t := (rsqrtCoeff 1 i - t) * d / (2 ^ 23 : Nat)
  fp32FromExact (rsqrtCoeff 0 i - t) (-30 - k)

/-- rsqrt with its special values (R112, R113). -/
def fp32Rsqrt (a : Nat) : Nat :=
  match decodeFp fp32 a with
  | .nan => qnan
  | .inf n => if n then qnan else 0
  | .fin m f =>
    if m = 0 then fp32.infBits (negBit a)
    else if m < 0 then qnan
    else rsqrtStage (m.toNat * 2 ^ (23 - Nat.log2 m.toNat)) (msb m + f)

/-! ### Sheaf digests (R114) -/

/-- Rotation of a 64-bit value to the left. -/
def rotl64 (v n : Nat) : Nat := (v * 2 ^ n + v / 2 ^ (64 - n)) % 2 ^ 64

/-- The digest key of a tensor (R114). -/
def sheafKey (tensorId : Nat) : Nat := leNat (shake256 8 (ascii "sheaf" ++ leBytes 4 tensorId))

/-- `sheaf_mix` of R114. -/
def sheafMix (key idx v : Nat) : Nat :=
  let x := (idx * 0x9E3779B97F4A7C15 + key) % 2 ^ 64
  let x := rotl64 (x ^^^ v) 27 * 0xC2B2AE3D27D4EB4F % 2 ^ 64
  let x := (x ^^^ rotl64 x 31 ^^^ key) * 0x165667B19E3779F9 % 2 ^ 64
  x ^^^ rotl64 x 17

end Sys2Proof.Machine
end

