-- ==== Sys2Proof/Machine/Operands.lean ====
section
/-! DEFINITION. Sys2Proof/Machine/Operands.lean: tiles and their elements (R37, R42, R43, R45), the tag and its check value (R136,
R137), the step, the attempt and the field that a plot works in (R142, R175), and the tag check of R141. -/

namespace Sys2Proof.Machine

/-! ### The tag and its check value -/

/-- The tile's rows. -/
def tileRows (t : Tile) : Nat := t.tag.rowsM1.toNat + 1
/-- The tile's columns. -/
def tileCols (t : Tile) : Nat := t.tag.colsM1.toNat + 1

/-- Tag bits [223:88] as a number (R137). -/
def tagIdentity (g : Tag) : Nat :=
  g.blockOffset.toNat + g.shard.toNat * 2 ^ 40 + g.stepLo.toNat * 2 ^ 72 + g.tensorId.toNat * 2 ^ 104

/-- Tag bits [63:40] as a number (R137). -/
def tagShape (g : Tag) : Nat := g.colsM1.toNat + g.rowsM1.toNat * 2 ^ 8 + g.format.toNat * 2 ^ 16

/-- The check value of a tile: CRC-32C over payload, tag bits [223:88] and tag bits [63:40] (R137). -/
def checkValue (g : Tag) (payload : List Byte) : W32 := crc32c (payload ++ leBytes 17 (tagIdentity g) ++ leBytes 3 (tagShape g))

/-- Whether a tile's check value holds. -/
def tileCheckOk (t : Tile) : Bool := t.tag.check == checkValue t.tag t.payload

/-- The tile with its check value made (R138). -/
def sealTile (t : Tile) : Tile := { t with tag := { t.tag with check := checkValue t.tag t.payload } }

/-- The 32 bytes of a tag, bits [7:0] first (R136). -/
def tagBytes (g : Tag) : List Byte :=
  let bit (b : Bool) (i : Nat) : Nat := if b then 2 ^ i else 0
  leBytes 32
    (bit g.parity 0 + bit g.spec 1 + bit g.poison 2 + bit g.valid 3 + g.attempt.toNat * 2 ^ 8 + tagShape g * 2 ^ 40 +
      g.linkSlot.toNat * 2 ^ 64 + tagIdentity g * 2 ^ 88 + g.check.toNat * 2 ^ 224)

/-- The tag that 32 bytes spell; reserved bits are dropped (R136). -/
def tagOfBytes (bs : List Byte) : Tag :=
  let v := leNat (bs.take 32)
  { check := BitVec.ofNat 32 (v / 2 ^ 224), tensorId := BitVec.ofNat 32 (v / 2 ^ 192), stepLo := BitVec.ofNat 32 (v / 2 ^ 160)
    shard := BitVec.ofNat 32 (v / 2 ^ 128), blockOffset := BitVec.ofNat 40 (v / 2 ^ 88), linkSlot := BitVec.ofNat 24 (v / 2 ^ 64)
    format := BitVec.ofNat 8 (v / 2 ^ 56), rowsM1 := BitVec.ofNat 8 (v / 2 ^ 48), colsM1 := BitVec.ofNat 8 (v / 2 ^ 40)
    attempt := BitVec.ofNat 4 (v / 2 ^ 8), valid := v.testBit 3, poison := v.testBit 2, spec := v.testBit 1
    parity := v.testBit 0 }

/-! ### Elements in a payload -/

/-- A list cut into runs of `n`, by at most `fuel` cuts. -/
def runsAux {α : Type} : Nat → Nat → List α → List (List α)
  | 0, _, _ => []
  | _ + 1, _, [] => []
  | fuel + 1, n, l => l.take n :: runsAux fuel n (l.drop n)

/-- A list cut into runs of `n`. -/
def runs {α : Type} (n : Nat) (l : List α) : List (List α) := runsAux l.length n l

/-- The elements packed in bytes as one little-endian bit string (R37). -/
def unpack (w n : Nat) (bs : List Byte) : List Nat :=
  let v := leNat bs
  (List.range n).map fun i => bitsOf (w * i + w - 1) (w * i) v

/-- Elements packed as one little-endian bit string (R37). -/
def pack (w : Nat) (es : List Nat) : List Byte :=
  leBytes ((es.length * w + 7) / 8) (es.foldr (fun e acc => e % 2 ^ w + 2 ^ w * acc) 0)

/-- Rows and columns of a matrix exchanged. -/
def transpose {α : Type} (d : α) (cols : Nat) (m : List (List α)) : List (List α) :=
  (List.range cols).map fun j => m.map fun row => nth d row j

/-- The tensor table entry of a tensor ID (R158). -/
def State.tensorOf (s : State) (id : W32) : Option TensorEntry :=
  s.job.bind fun j => j.binary.tensors.find? fun t => t.tensorId == id

/-- Whether a tensor's blocks run along the columns of its tiles: its block axis is not the last one (R41, R42). -/
def blocksDown (t : Option TensorEntry) : Bool := t.elim false fun e => e.blockAxis + 1 != e.dims

/-- The blocks in a line of `n` elements. -/
def blocksIn (n : Nat) : Nat := (n + 31) / 32

/-- The bytes of a payload of a format (R42, R43, R45); 0 for raw and reserved formats, whose size no format gives. -/
def payloadSize (f : Fmt) (rows cols : Nat) (down : Bool) : Nat :=
  let lines := if down then cols else rows
  let nb := lines * blocksIn (if down then rows else cols)
  match f with
  | .fp t => rows * cols * t.bits / 8
  | .mx t => nb + nb * 4 * t.bits
  | .mxint8 => nb + nb * 32
  | .field w => nb + nb * 4 * w
  | .fwp => rows * cols * 16 + 2 * (rows + cols)
  | .fw w => rows * blocksIn cols * (4 + 4 * w)
  | .u32 | .i32 => rows * cols * 4
  | .raw | .reserved => 0

/-- The exponent byte and the elements of every block of a tile, by lines (R42). -/
def tileBlocks (w lines len : Nat) (bs : List Byte) : List (List (Nat × List Nat)) :=
  let nb := blocksIn len
  let exps := bs.take (lines * nb)
  let body := runs (4 * w) (bs.drop (lines * nb))
  let blocks := (exps.zip body).map fun p => (p.1.toNat, unpack w 32 p.2)
  runs nb blocks

/-- The bytes of a tile of blocks, by lines (R42). -/
def blockBytes (w : Nat) (ls : List (List Block)) : List Byte :=
  let bs := ls.flatMap id
  bs.map (fun b => BitVec.ofNat 8 b.x) ++ bs.flatMap fun b => pack w b.e

/-- The header and the elements of the FW-w blocks of a tile, by rows (R45): exponent, void bit, integers. -/
def fwBlocks (w rows cols : Nat) (bs : List Byte) : List (List (Int × Bool × List Int)) :=
  let bl := runs (4 + 4 * w) (bs.take (rows * blocksIn cols * (4 + 4 * w)))
  runs (blocksIn cols) (bl.map fun b =>
    let h := leNat (b.take 4)
    (ofPattern 16 h, h.testBit 16, (unpack w 32 (b.drop 4)).map (ofPattern w)))

/-- A tile of FWP elements: integers and the two frames (R43). -/
structure FwpTile where
  rows : Nat := 0
  cols : Nat := 0
  vals : List (List Int) := []
  rowFrame : List Int := []
  colFrame : List Int := []
  deriving DecidableEq, Repr

/-- An FWP tile read from a payload (R43). -/
def FwpTile.read (rows cols : Nat) (bs : List Byte) : FwpTile :=
  let vals := (runs 16 (bs.take (rows * cols * 16))).map fun b => ofPattern 128 (leNat b)
  let frames := (runs 2 (bs.drop (rows * cols * 16))).map fun b => ofPattern 16 (leNat b)
  { rows := rows, cols := cols, vals := runs cols vals, rowFrame := frames.take rows
    colFrame := (frames.drop rows).take cols }

/-- The payload of an FWP tile (R43). -/
def FwpTile.bytes (t : FwpTile) : List Byte :=
  (t.vals.flatMap fun r => r.flatMap fun m => leBytes 16 (toPattern 128 m)) ++
    (t.rowFrame ++ t.colFrame).flatMap fun f => leBytes 2 (toPattern 16 f)

/-- The global element index of an element of a tile (R51). -/
def indexAt (g : GlobalIndex) (i j : Nat) : Nat := g.base + i * g.rowStride + j * g.colStride

/-- The frame exponent of an element (R43). -/
def FwpTile.frame (t : FwpTile) (i j : Nat) : Int := nth 0 t.rowFrame i + nth 0 t.colFrame j

/-- The integer of an element. -/
def FwpTile.at (t : FwpTile) (i j : Nat) : Int := nth 0 (nth [] t.vals i) j

/-- An FWP element as a decoded element: NaF is no number (R79). -/
def fwpElem (m f : Int) : Elem := if m = naf then .nan else .fin m f

/-- The elements of a tile, decoded, by rows (R42, R43, R45, R54). -/
def decodeTile (t : Tile) (down : Bool) : List (List Elem) :=
  let rows := tileRows t
  let cols := tileCols t
  let lines := if down then cols else rows
  let len := if down then rows else cols
  let turn (m : List (List Elem)) : List (List Elem) := if down then transpose .nan rows m else m
  let blocks (w : Nat) (f : Nat → Nat → Elem) : List (List Elem) :=
    turn ((tileBlocks w lines len t.payload).map fun l => (l.flatMap fun b => b.2.map (f b.1)).take len)
  match fmtOf t.tag.format with
  | .fp f => runs cols (((unpack f.bits (rows * cols) t.payload)).map (decodeFp f))
  | .mx f => blocks f.bits (decodeMx f)
  | .mxint8 => blocks 8 (decodeField 8)
  | .field w => blocks w (decodeField w)
  | .fwp =>
    let p := FwpTile.read rows cols t.payload
    (List.range rows).map fun i => (List.range cols).map fun j => fwpElem (p.at i j) (p.frame i j)
  | .fw w => (fwBlocks w rows cols t.payload).map fun r =>
      (r.flatMap fun b => b.2.2.map fun m => if b.2.1 then Elem.nan else .fin m b.1).take cols
  | .u32 => runs cols ((unpack 32 (rows * cols) t.payload).map fun v : Nat => Elem.fin (v : Int) 0)
  | .i32 => runs cols ((unpack 32 (rows * cols) t.payload).map fun v => .fin (ofPattern 32 v) 0)
  | .raw | .reserved => runs cols ((t.payload.take (rows * cols)).map fun b => .fin b.toNat 0)

/-! ### What a plot works on (R142, R175, R200, R336) -/

/-- Whether the job runs in single-field mode (R200). -/
def State.singleField (s : State) : Bool := s.job.elim false (·.binary.singleField)

/-- The evaluation that runs, if one runs (R203). -/
def State.evaluating (s : State) : Option (Intake × Attempt) := s.job.bind (·.evalRunning)

/-- The batch that a plot of a serving job works on: the first admitted one that it has not arrived for (R336, R461). -/
def State.batchOf (s : State) (pl : Plot) : Option Batch :=
  s.job.bind fun j => j.batches.find? fun b => pl.lastTicket < b.intake.ticket

/-- The number that a plot's tags carry: its step (R142), the sealed step that an evaluation reads, or the ticket of the
batch (R461; log entry 20). -/
def State.workStep (s : State) (pl : Plot) : Nat :=
  if s.serving then (s.batchOf pl).elim 0 fun b => b.intake.ticket.toNat
  else if s.evaluating.isSome then s.num 0x205001
  else s.num 0x205001 + (if pl.arrived then 2 else 1)

/-- The attempt that a plot's tags carry (R136). -/
def State.workAttempt (s : State) (pl : Plot) : Nat :=
  if s.serving then (s.batchOf pl).elim 0 fun b => b.attempt.count - 1
  else match s.evaluating with
    | some e => e.2.count - 1
    | none => if pl.arrived then 0 else s.num 0x205003

/-- The field that a role names for a plot: the field that its step reads as sealed, or the other one (R175, R200); in a
serving job the copy that the batch latched (R336). -/
def State.fieldOf (s : State) (pl : Plot) (r : FieldRole) : Bool :=
  if s.singleField then false
  else
    let sealed : Nat :=
      if s.serving then (s.batchOf pl).elim 0 (·.copy)
      else if s.evaluating.isSome then s.num 0x205002
      else (s.workStep pl + 1) % 2
    match r with
    | .none => false
    | .sealed => sealed == 1
    | .fallow => sealed == 0

/-- Whether what a plot produces now is speculative: its step's predecessor is unsealed (R142). -/
def speculative (s : State) (pl : Plot) : Bool := pl.arrived && !s.serving && s.evaluating.isNone

/-! ### The tag check (R141) -/

/-- What a tag check finds: the tile, or the row of R141 that stops the reader; `format` tells the row of the format, whose fault
kind is its own (R167). -/
inductive ReadOutcome where
  | ok (t : Tile)
  | unwritten
  | poison
  | mismatch (format : Bool)
  deriving DecidableEq, Repr

/-- The rows of R141 for a tag against what a reader expects, in their order: step, attempt (compared for a tile of the reader's own
attempt only; DEDUCED, log entry 52), field, and whether the reader runs ahead. -/
def tagCheck (g : Tag) (m : TagTemplate) (step attempt : Nat) (field ahead : Bool) : Option ReadOutcome :=
  if !g.valid then some .unwritten
  else if g.poison then some .poison
  else if g.tensorId != m.tensorId || g.stepLo != m.fixedStep.getD (BitVec.ofNat 32 (step - m.stepBack)) ||
      (m.fixedStep.isNone && m.stepBack = 0 && m.role != .sealed && g.attempt != BitVec.ofNat 4 attempt) ||
      g.shard != m.shard || g.blockOffset != m.blockOffset || g.rowsM1 != m.rowsM1 || g.colsM1 != m.colsM1 then
    some (.mismatch false)
  else if g.format != m.format || fmtOf g.format = .reserved then some (.mismatch true)
  else if g.parity != field then some (.mismatch false)
  else if g.spec && !ahead then some (.mismatch false)
  else none

/-- The tag check of a plot's reader on a tile (R141). -/
def State.checkTile (s : State) (pl : Plot) (m : TagTemplate) (t : Tile) : ReadOutcome :=
  (tagCheck t.tag m (s.workStep pl) (s.workAttempt pl) (s.fieldOf pl m.role) (speculative s pl)).getD (.ok t)

/-! ### Reading a place -/

/-- The bytes of a tile in a tile buffer: its format's, or one per element of a raw tile. -/
def bufferSize (f : Fmt) (rows cols : Nat) (down : Bool) : Nat :=
  match f with
  | .raw | .reserved => rows * cols
  | f => payloadSize f rows cols down

/-- What a tile buffer holds, read as a template says: a buffer carries no tag, so that no check can fail (R129), but a word that no
code corrects reads as poison (R347). -/
def State.bufferTile (s : State) (pl : Plot) (i part : Nat) (m : TagTemplate) : Tile :=
  let size := bufferSize (fmtOf m.format) (m.rowsM1.toNat + 1) (m.colsM1.toNat + 1) (blocksDown (s.tensorOf m.tensorId))
  { tag := { tensorId := m.tensorId, stepLo := m.fixedStep.getD (BitVec.ofNat 32 (s.workStep pl - m.stepBack)), shard := m.shard
             blockOffset := m.blockOffset, format := m.format, rowsM1 := m.rowsM1, colsM1 := m.colsM1
             attempt := BitVec.ofNat 4 (s.workAttempt pl), valid := true, spec := speculative s pl, parity := s.fieldOf pl m.role
             poison := bufferLost pl i part size }
    payload := readBuffer pl i part size }

/-- The first cycle and the number of cycles in which a chain writes the output port (R149). -/
def portWindow (r : ChainRun) : Cycle × Nat :=
  let n := if r.desc.reducing then ceilDiv r.desc.rows 128 else r.beats
  (r.issue + BitVec.ofNat 64 (r.latency + r.beats - n), n)

/-- New bytes up to a number of them, then old ones. -/
def overlay (n : Nat) (new old : List Byte) : List Byte :=
  new.take n ++ ((old ++ List.replicate (new.length - old.length) 0).drop n).take (new.length - n)

/-- The payload of a tile after the first `k` elements of its stream have been written over an old one (R42, R149). -/
def writtenBytes (f : Fmt) (k : Nat) (new old : List Byte) : List Byte :=
  if f.isBlock then
    let nb := new.length / (1 + 4 * f.bits)
    overlay (k / 32) (new.take nb) (old.take nb) ++ overlay (k / 32 * (4 * f.bits)) (new.drop nb) (old.drop nb)
  else match f with
    | .fw w => overlay (k / 32 * (4 + 4 * w)) new old
    | f => overlay (k * f.bits / 8) new old

/-- The tile at a chain's output place: as it was until the chain's first write, then under the new tag (R130), with the elements
written so far and the old bytes behind them (R170). -/
def chainView (now : Cycle) (l : Loc) (old : Tile) (r : ChainRun) : Tile :=
  let (start, _) := portWindow r
  if r.dead || r.desc.out != l || !reached now start then old
  else
    { tag := r.result.tag
      payload := writtenBytes (fmtOf r.result.tag.format) (128 * (now - start).toNat) r.result.payload old.payload }

/-- The tile that a plot's reader finds in a region. -/
def State.seenAt (s : State) (p : Nat) (l : Loc) : Tile :=
  ((s.plotAt p).elim [] (·.chains)).foldl (chainView s.plotCycle l) (s.regionAt p l).tile

/-- A plot reads a place: a region under the tag check, a tile buffer as it is (R129, R141). -/
def State.readTile (s : State) (p : Nat) (r : TileRef) : ReadOutcome :=
  match s.plotAt p with
  | none => .unwritten
  | some pl =>
    match r.loc with
    | .buffer i part =>
      let t := s.bufferTile pl i part r.tmpl
      if t.tag.poison then .poison else .ok t
    | l => s.checkTile pl r.tmpl (s.seenAt p l)

/-- The region number that a fault names for a place (R168). -/
def locNumber : Loc → Nat
  | .crib r => r
  | .loam r => r
  | .pool _ r => r
  | .buffer _ _ => 0xFFFF

/-- The tag that a plot gives a tile it writes (R130, R136). -/
def State.outTag (s : State) (pl : Plot) (id shard : W32) (bo : BitVec 40) (format : BitVec 8) (rows cols : Nat)
    (role : FieldRole) : Tag :=
  { tensorId := id, stepLo := BitVec.ofNat 32 (s.workStep pl), shard := shard, blockOffset := bo, format := format
    rowsM1 := BitVec.ofNat 8 (rows - 1), colsM1 := BitVec.ofNat 8 (cols - 1)
    attempt := BitVec.ofNat 4 (s.workAttempt pl), valid := true, spec := speculative s pl, parity := s.fieldOf pl role }

/-! ### Lines and their metadata (R139) -/

/-- The metadata bits of a written line: poison, written, the check value of its tile. -/
def lineMetaOf (poison : Bool) (check : W32) : BitVec 36 :=
  BitVec.ofNat 36 (check.toNat + 2 ^ 34 + (if poison then 2 ^ 35 else 0))

/-- The metadata of a line. -/
def State.lineMeta (s : State) (line : Nat) : BitVec 36 := SMap.get 0 s.host.lineMeta line

/-- A line's poison bit. -/
def State.linePoison (s : State) (line : Nat) : Bool := (s.lineMeta line).getLsbD 35

/-- The state with a line's metadata written. -/
def State.setLine (s : State) (line : Nat) (v : BitVec 36) : State :=
  { s with host := { s.host with lineMeta := SMap.set 0 s.host.lineMeta line v } }

/-- A line written back with poison (R349). -/
def State.poisonLine (s : State) (line : Nat) : State := s.setLine line (s.lineMeta line ||| BitVec.ofNat 36 (2 ^ 35))

/-- The lines of a payload. -/
def payloadLines (bytes : Nat) : Nat := (bytes + 63) / 64

/-- A tile's bytes in the layout of HBM: its tag line and its payload lines (R139). -/
def hbmBytes (t : Tile) : List Byte :=
  tagBytes t.tag ++ List.replicate 32 0 ++ t.payload ++ List.replicate (64 * payloadLines t.payload.length - t.payload.length) 0

/-- A tile written into HBM: a tag line, payload lines, and every line's metadata (R139); a poisoned tile poisons its lines
(R352). -/
def State.writeHbmTile (s : State) (addr : Nat) (t : Tile) : State :=
  let n := payloadLines t.payload.length
  let s := { s with host := { s.host with window := Memory.writeBytes s.host.window addr (hbmBytes t) } }
  (range (addr / 64) (n + 1)).foldl (fun s l => s.setLine l (lineMetaOf t.tag.poison t.tag.check)) s

end Sys2Proof.Machine
end

