-- ==== Sys2Proof/Machine/Fwp.lean ====
section
/-! DEFINITION. Sys2Proof/Machine/Fwp.lean: full-width arithmetic: FWP addition (R44, R106, R107), frame records and FW-w blocks
(R45, R108, R197), exact reductions (R110, R111), and the digest of a tile (R115). -/

namespace Sys2Proof.Machine

/-! ### FWP addition (R106) -/

/-- Element-wise minimum of two frames. -/
def minFrames (a b : List Int) : List Int := (a.zip b).map fun p => min p.1 p.2

/-- One element of an FWP addition: both operands shifted to the result's frame; none is a width overflow (R44, R79). -/
def fwpElement (m1 m2 : Int) (sh1 sh2 : Nat) : Option Int :=
  if m1 = naf || m2 = naf then some naf
  else
    let v := m1 * (2 ^ sh1 : Nat) + m2 * (2 ^ sh2 : Nat)
    if -(2 ^ 127 : Nat) < v ∧ v < (2 ^ 127 : Nat) then some v else none

/-- The sum of two FWP tiles and the number of its elements that overflow; those are written as NaF (R106, R107). -/
def fwpAdd (a b : FwpTile) : FwpTile × Nat :=
  let rf := minFrames a.rowFrame b.rowFrame
  let cf := minFrames a.colFrame b.colFrame
  let es := (List.range a.rows).map fun i => (List.range a.cols).map fun j =>
    let f := nth 0 rf i + nth 0 cf j
    fwpElement (a.at i j) (b.at i j) (a.frame i j - f).toNat (b.frame i j - f).toNat
  ({ rows := a.rows, cols := a.cols, vals := es.map fun r => r.map (·.getD naf), rowFrame := rf, colFrame := cf },
   (es.map fun r => (r.filter (·.isNone)).length).foldl (· + ·) 0)

/-- The FWP tile that a tile's payload holds. -/
def fwpOf (t : Tile) : FwpTile := FwpTile.read (tileRows t) (tileCols t) t.payload

/-! ### Frame records and FW-w blocks (R45, R108) -/

/-- A frame record: 192 row frames and 192 column frames as I16, in 768 bytes; places beyond the tile hold 0x7FFF, which the
minimum passes over. -/
def frameRecordBytes (t : FwpTile) : List Byte :=
  let fill (l : List Int) : List Int := l ++ List.replicate (192 - l.length) 32767
  (fill t.rowFrame ++ fill t.colFrame).flatMap fun f => leBytes 2 (toPattern 16 f)

/-- The frames that a record holds. -/
def framesOfRecord (bs : List Byte) : List Int × List Int :=
  let fs := (runs 2 bs).map fun b => ofPattern 16 (leNat b)
  (fs.take 192, (fs.drop 192).take 192)

/-- Two records combined: the element-wise minimum of each I16 (R108). -/
def minRecords (a b : List Byte) : List Byte :=
  (((runs 2 a).zip (runs 2 b)).map fun p =>
    if ofPattern 16 (leNat p.1) ≤ ofPattern 16 (leNat p.2) then p.1 else p.2).flatMap id

/-- What becomes of one FW-w block (R45, R57, R197): formed, not formed at a width that can grow, or a numerical overflow (a
void block, an exponent outside I16, or an overflow at FW-96). -/
inductive FwOutcome where
  | formed | unformed | numerical
  deriving DecidableEq, Repr

/-- The header of an FW-w block (R45). -/
def fwHeader (e : Int) (isVoid : Bool) : List Byte := leBytes 4 (toPattern 16 e + (if isVoid then 2 ^ 16 else 0))

/-- The smallest of a block's frame exponents. -/
def leastFrame (fs : List Int) : Int := fs.foldl min (fs.head?.getD 0)

/-- One FW-w block of elements at width w (R45): an element is an integer, or none when it is NaF, with its frame exponent. The
answer is the block's bytes and what became of it. A block that holds a NaF element is sent void whatever its exponent (DESIGN
CHOICE, log entry 141). -/
def fwEncode (w : Nat) (es : List (Option Int × Int)) : List Byte × FwOutcome :=
  let zeros := List.replicate (4 * w) (0 : Byte)
  let e := leastFrame (es.map (·.2))
  if es.all fun p => p.1 == some 0 then (fwHeader 0x7FFF false ++ zeros, .formed)
  else if es.any fun p => p.1.isNone then (fwHeader e true ++ zeros, .numerical)
  else if e < -32768 ∨ 32767 < e then (fwHeader e false ++ zeros, .numerical)
  else
    let vs : List Int := es.map fun p => p.1.getD 0 * ((2 ^ (p.2 - e).toNat : Nat) : Int)
    let lim : Int := (2 ^ (w - 1) : Nat)
    if vs.any fun v => v < -lim ∨ lim ≤ v then
      (fwHeader e false ++ zeros, if w = 96 then .numerical else .unformed)
    else (fwHeader e false ++ pack w (vs.map (toPattern w)), .formed)

/-- A row of elements in blocks of 32, the last one filled with zeros (R41). -/
def fwRowBlocks (row : List (Option Int × Int)) : List (List (Option Int × Int)) :=
  (runs 32 row).map fun b => b ++ List.replicate (32 - b.length) (some 0, leastFrame (b.map (·.2)))

/-- The elements of an FWP tile on combined frames, by rows (R45, R108). -/
def rebasedRow (t : FwpTile) (rf cf : List Int) (i : Nat) : List (Option Int × Int) :=
  let f (j : Nat) : Int := nth 0 rf i + nth 0 cf j
  (List.range t.cols).map fun j =>
    (if t.at i j = naf then none else some (t.at i j * (2 ^ (t.frame i j - f j).toNat : Nat)), f j)

/-- The FW-w payload of rows of elements, and what its blocks met. -/
def fwEncodeRows (w : Nat) (rows : List (List (Option Int × Int))) : List Byte × List FwOutcome :=
  let bs := rows.flatMap fun r => (fwRowBlocks r).map (fwEncode w)
  (bs.flatMap (·.1), bs.map (·.2))

/-- The FW-w payload of an FWP tile on combined frames, and what its blocks met. -/
def fwEncodeTile (w : Nat) (t : FwpTile) (rf cf : List Int) : List Byte × List FwOutcome :=
  fwEncodeRows w ((List.range t.rows).map (rebasedRow t rf cf))

/-- What a conversion of one block of FW-w form counts (R56): its zeros, or all its elements when it is void. Padding is not
among the elements given. -/
def fwCounts (b : List (Option Int × Int)) : Counts :=
  if b.any fun p => p.1.isNone then { nonfinite := b.length } else { zeros := (b.filter fun p => p.1 == some 0).length }

/-- Whether a received block's block_exp is the low 16 bits of the smallest combined frame; a zero block is exempt (R108). -/
def blockExpOk (b : Int × Bool × List Int) (frames : List Int) : Bool :=
  let zero := b.1 == 0x7FFF && !b.2.1 && b.2.2.all (· == 0)
  zero || b.1 == ofPattern 16 (toPattern 16 (leastFrame frames))

/-- The FWP tile that received FW-w blocks stand for on combined frames, each integer by an exact right shift, and how many blocks
fail the check of block_exp (R108, R119). -/
def fwDecodeTile (w rows cols : Nat) (bs : List Byte) (rf cf : List Int) : FwpTile × Nat :=
  let ls := fwBlocks w rows cols bs
  let frames (i k : Nat) : List Int := ((range (32 * k) 32).filter (· < cols)).map fun j => nth 0 rf i + nth 0 cf j
  let row (i : Nat) (l : List (Int × Bool × List Int)) : List Int :=
    ((l.zipIdx).flatMap fun p =>
      let e := leastFrame (frames i p.2)
      (p.1.2.2.zipIdx).map fun v =>
        if p.1.2.1 then naf else v.1 / (2 ^ ((nth e (frames i p.2) v.2) - e).toNat : Nat)).take cols
  let fails := ((ls.zipIdx).map fun r => (r.1.zipIdx.filter fun p => !blockExpOk p.1 (frames r.2 p.2)).length).foldl (· + ·) 0
  ({ rows := rows, cols := cols, vals := (ls.zipIdx).map fun p => row p.2 p.1, rowFrame := rf.take rows
     colFrame := cf.take cols }, fails)

/-! ### Exact reductions (R110, R111) -/

/-- The input of an exact reduction, squared in sum-of-squares mode (R111). -/
def reductionInput (squares : Bool) (e : Elem) : Elem :=
  match e with
  | .fin m f => if squares then .fin (m * m) (2 * f) else .fin m f
  | x => x

/-- The exponent of step 1: the largest floor(log2 |x|) of the finite, nonzero inputs. -/
def reductionExp (es : List Elem) : Option Int :=
  es.foldl (fun a e => match e with
    | .fin m f => if m = 0 then a else some (a.elim (msb m + f) (max (msb m + f)))
    | _ => a) none

/-- ⌈log2 n⌉. -/
def ceilLog2 (n : Nat) : Nat := if n ≤ 1 then 0 else Nat.log2 (n - 1) + 1

/-- The partial of a holder on frame F: NaF when an input is non-finite. -/
def exactPartial (es : List Elem) (f : Int) : Int :=
  if es.any fun e => !e.isFinite then naf
  else es.foldl (fun s e => match e with
    | .fin m g => if m = 0 then s else s + alignTo m g f .rne 0
    | _ => s) 0

/-- The frame of an exact reduction over N values (R110). -/
def reductionFrame (ex : Int) (n : Nat) : Int := ex + 1 + ceilLog2 n - 126

/-- A tile of one FWP element. -/
def fwpScalar (m f : Int) : FwpTile := { rows := 1, cols := 1, vals := [[m]], rowFrame := [f], colFrame := [0] }

/-- The exponent that stands for no nonzero input, below every exponent of one (R110; log entry 142). -/
def noExponent : Int := -(2 ^ 31 : Nat)

/-- The exponent of a holder's inputs (R110). -/
def ownExponent (es : List Elem) (squares : Bool) : Int := (reductionExp (es.map (reductionInput squares))).getD noExponent

/-- The partial of an exact reduction as an FWP tile of one element, on the frame of the agreed exponent; without a nonzero input
it is 0 on the frame 0. -/
def reduce (es : List Elem) (squares : Bool) (n : Nat) (ex : Int) : FwpTile :=
  let es := es.map (reductionInput squares)
  let f := if ex = noExponent then 0 else reductionFrame ex n
  fwpScalar (exactPartial es f) f

/-- The total as FP32 (R110), less twice the loss scale for Q (R182). -/
def totalFp32 (t : FwpTile) (less : Int) : Nat :=
  let m := t.at 0 0
  if m = naf then qnan else fp32FromExact m (t.frame 0 0 - less)

/-! ### Digests (R115) -/

/-- The element bits and block exponents of a tile as digest words, by rows. -/
def digestWords (t : Tile) (down : Bool) : List (List Nat) :=
  let rows := tileRows t
  let cols := tileCols t
  let lines := if down then cols else rows
  let len := if down then rows else cols
  let turn (m : List (List Nat)) : List (List Nat) := if down then transpose 0 rows m else m
  let blocks (w : Nat) : List (List Nat) :=
    turn ((tileBlocks w lines len t.payload).map fun l => (l.flatMap fun b => b.2.map (· + b.1 * 2 ^ 32)).take len)
  match fmtOf t.tag.format with
  | .mx f => blocks f.bits
  | .mxint8 => blocks 8
  | .field w => blocks w
  | f => runs cols (unpack f.bits (rows * cols) t.payload)

/-- The digest contribution of one FWP element (R115). -/
def fwpDigest (key idx : Nat) (m f : Int) : Nat :=
  let v := toPattern 128 m
  sheafMix key idx (v % 2 ^ 64) + sheafMix (rotl64 key 21) idx (v / 2 ^ 64) +
    sheafMix (rotl64 key 42) idx (if m = naf then 0 else toPattern 32 f)

/-- The digest contribution of a tile: its elements that have a global index (R114, R115); FW-w forms have none. -/
def digestTile (t : Tile) (down : Bool) (g : GlobalIndex) : W64 :=
  let key := sheafKey t.tag.tensorId.toNat
  let rows := min (tileRows t) g.validRows
  let cols := min (tileCols t) g.validCols
  let sum (f : Nat → Nat → Nat) : Nat :=
    ((List.range rows).map fun i => ((List.range cols).map fun j => f i j).foldl (· + ·) 0).foldl (· + ·) 0
  match fmtOf t.tag.format with
  | .fw _ => 0
  | .fwp =>
    let p := fwpOf t
    BitVec.ofNat 64 (sum fun i j => fwpDigest key (indexAt g i j) (p.at i j) (p.frame i j))
  | _ =>
    let ws := digestWords t down
    BitVec.ofNat 64 (sum fun i j => sheafMix key (indexAt g i j) (nth 0 (nth [] ws i) j))

end Sys2Proof.Machine
end

