-- ==== Sys2Proof/Machine/Messages.lean ====
section
/-! DEFINITION. Sys2Proof/Machine/Messages.lean: the layouts of what devices send one another over Windrow: slot frames and their
check (R232), seal reports (R186), outcomes (R189) and barrier arrivals (R249). -/

namespace Sys2Proof.Machine

/-- A bit at its place. -/
def bitAt (b : Bool) (i : Nat) : Nat := if b then 2 ^ i else 0

/-! ### Slot frames (R232) -/

/-- The payload bytes of every slot frame (R232). -/
def slotPayload : Nat := 16384

/-- The bits of a slot frame's header below its check field (R232). -/
def slotHeader (f : SlotFrame) : Nat :=
  leNat (tagBytes f.tag) % 2 ^ 256 + f.payload.length % 2 ^ 16 * 2 ^ 912 + f.tiles % 2 ^ 16 * 2 ^ 928 + f.piece % 2 ^ 16 * 2 ^ 944 +
    bitAt f.lastPiece 964 + bitAt f.packed 965 + bitAt f.late 966 + bitAt f.retry 967 + f.sequence.toNat * 2 ^ 968

/-- The payload as it is sent: unused bytes are 0 (R232). -/
def paddedPayload (f : SlotFrame) : List Byte := f.payload ++ List.replicate (slotPayload - f.payload.length) 0

/-- The check of a slot frame: CRC-32C over its header's first 124 bytes and its payload (R232). -/
def frameCheck (f : SlotFrame) : W32 := crc32c (leBytes 124 (slotHeader f) ++ paddedPayload f)

/-- A frame with its check. -/
def checkedFrame (f : SlotFrame) : SlotFrame := { f with check := frameCheck f }

/-- Whether a frame arrives whole: no uncorrectable codeword, and its check holds (R234). -/
def frameGood (f : SlotFrame) : Bool := f.fecOk && f.check == frameCheck f

/-- The link_slot of every best-effort frame (R240). -/
def bestEffortSlot : BitVec 24 := 0xFFFFFF

/-! ### Reports and outcomes (R186, R189) -/

/-- A seal report of 256 bits (R186). -/
def reportBits (r : SealReport) : Nat :=
  r.arrivalKind.toNat + r.faultClass.toNat * 2 ^ 28 + bitAt r.widthOverflow 30 + bitAt r.numerical 31 + r.stepLo.toNat * 2 ^ 32 +
    r.attempt.toNat * 2 ^ 64 + r.widthGroup.toNat * 2 ^ 104 + (Signature.bits r.signature).toNat * 2 ^ 128

/-- The code of an outcome (R189). -/
def OutcomeCode.code : OutcomeCode → Nat
  | .seal => 1
  | .skip => 2
  | .replay => 3
  | .replayWider => 4
  | .hold => 5

/-- A seal outcome of 256 bits (R189). -/
def outcomeBits (o : SealOutcome) : Nat :=
  OutcomeCode.code o.code + o.attempt.toNat * 2 ^ 36 + o.widthGroup.toNat * 2 ^ 40 + o.release.toNat * 2 ^ 64 +
    (Signature.bits o.signature).toNat * 2 ^ 128

/-! ### Barrier arrivals (R249) -/

/-- The header of a barrier arrival message of 128 bits (R249). -/
def arrivalBits (m : ArrivalMsg) : Nat :=
  m.count % 2 ^ 17 + m.reports.length % 4 * 2 ^ 30 + m.widthGroup.toNat * 2 ^ 32 + bitAt m.portsLost 57 + bitAt m.widthAny 58 +
    bitAt m.numericalAny 59 + m.attempt.toNat * 2 ^ 60 + m.stepLo.toNat * 2 ^ 64 + m.barrier.toNat * 2 ^ 96

/-- Whether a barrier number is reserved: above those of the binary and none of seal, gate and undo complete (R249). -/
def barrierReserved (b : W32) : Bool := decide (0xFFFFFFEF < b.toNat) && decide (b.toNat < 0xFFFFFFFD)

end Sys2Proof.Machine
end

