-- ==== Sys2Proof/Machine/Attempts.lean ====
section
/-! DEFINITION. Sys2Proof/Machine/Attempts.lean: step attempts and their faults (R167, R168), reports (R186) and early aborts (R187),
Ledger records (R213 to R217), completion records (R403), and the undo of R146. -/

namespace Sys2Proof.Machine

/-! ### Whose attempt -/

/-- What an attempt belongs to: the current step, the step after it (R145), the evaluation, or a serving batch. -/
inductive Whose where
  | step | ahead | eval
  | batch (ticket : W64)
  deriving DecidableEq, Repr

/-- What a plot works for. -/
def State.whose (s : State) (pl : Plot) : Whose :=
  if s.serving then .batch ((s.batchOf pl).elim 0 (·.intake.ticket))
  else if s.evaluating.isSome then .eval
  else if pl.arrived then .ahead else .step

/-- What a plot of a number works for. -/
def State.whoseAt (s : State) (p : Nat) : Whose := (s.plotAt p).elim .step s.whose

/-- An attempt. -/
def State.attemptOf (s : State) (w : Whose) : Attempt :=
  match s.job with
  | none => {}
  | some j =>
    match w with
    | .step => j.attempt
    | .ahead => j.ahead
    | .eval => j.evalRunning.elim {} (·.2)
    | .batch t => (j.batches.find? fun b => b.intake.ticket == t).elim {} (·.attempt)

/-- The state with an attempt changed. -/
def State.mapWhose (s : State) (w : Whose) (f : Attempt → Attempt) : State :=
  s.mapJob fun j =>
    match w with
    | .step => { j with attempt := f j.attempt }
    | .ahead => { j with ahead := f j.ahead }
    | .eval => { j with evalRunning := j.evalRunning.map fun e => (e.1, f e.2) }
    | .batch t =>
      { j with batches := j.batches.map fun b => if b.intake.ticket = t then { b with attempt := f b.attempt } else b }

/-- The number that tags, reports and signatures of an attempt carry. -/
def State.numberOf (s : State) (w : Whose) : Nat :=
  match w with
  | .step => s.num 0x205001 + 1
  | .ahead => s.num 0x205001 + 2
  | .eval => s.num 0x205001
  | .batch t => t.toNat

/-- The attempt number that an attempt's tags and reports carry. -/
def State.attemptNumber (s : State) (w : Whose) : Nat :=
  match w with
  | .step => s.num 0x205003
  | .ahead => 0
  | w => (s.attemptOf w).count - 1

/-! ### Reports and early aborts -/

/-- The report of an attempt on this device (R186): arrival kinds 1 seal, 2 early abort, 3 gate. -/
def State.reportOf (s : State) (w : Whose) (kind : Nat) : SealReport :=
  let a := s.attemptOf w
  { signature := a.fault.elim {} (·.2)
    widthGroup := a.widthGroup.elim 0xFFFFFF fun g => BitVec.ofNat 24 g
    attempt := BitVec.ofNat 4 (s.attemptNumber w), stepLo := BitVec.ofNat 32 (s.numberOf w)
    numerical := a.numerical, widthOverflow := a.widthGroup.isSome
    faultClass := a.fault.elim 0 fun f => BitVec.ofNat 2 f.1, arrivalKind := BitVec.ofNat 16 kind }

/-- The barrier number of the seal (R249). -/
def sealBarrier : W32 := 0xFFFFFFFF
/-- The gate of single-field mode (R201). -/
def gateBarrier : W32 := 0xFFFFFFFE
/-- The undo reports (R190). -/
def undoBarrier : W32 := 0xFFFFFFFD

/-- The arrival that an attempt makes next: the gate before it has passed in single-field mode (R201), else the seal. -/
def State.nextBarrier (s : State) (w : Whose) : W32 :=
  if s.singleField && w = .step && !(s.attemptOf w).gatePassed then gateBarrier else sealBarrier

/-- Two maximal reports of one rank: the later one replaces the earlier. -/
def putReport (l : List SealReport) (r : SealReport) : List SealReport :=
  l.filter (fun x => x.signature.rank != r.signature.rank) ++ [r]

/-- The devices that a collection has heard of: those whose arrivals it counts and those whose early aborts it holds. -/
def heardOf (c : Collect) : Nat :=
  c.count + (c.reports.filter fun r => !has c.ranks r.signature.rank.toNat).length

/-- The end of the window for early aborts: 64 cycles after the first, or at once when every device has reported (R188). -/
def abortWindow (devices : Nat) (now : Cycle) (c : Collect) : Collect :=
  let w := c.window.getD (now + 64)
  { c with window := some (if devices ≤ heardOf c then (if reached w now then now else w) else w) }

/-- The lead device takes an early abort into the collection of the attempt's arrival (R188). -/
def State.takeAbort (s : State) (barrier : W32) (rank : Nat) (r : SealReport) : State :=
  let r := { r with signature := { r.signature with rank := BitVec.ofNat 16 rank } }
  let mine (c : Collect) : Bool := c.barrier == barrier && c.stepLo == r.stepLo
  let take (c : Collect) : Collect := abortWindow s.devices s.cycle { c with reports := putReport c.reports r }
  s.mapFabric fun f =>
    if f.collects.any mine then { f with collects := f.collects.map fun c => if mine c then take c else c }
    else { f with collects := f.collects ++
             [take { barrier := barrier, stepLo := r.stepLo, attempt := r.attempt, first := s.cycle }] }

/-- Whether an outcome of an attempt has been decided already. -/
def State.decided (s : State) (stepLo : W32) (attempt : BitVec 4) : Bool :=
  s.job.elim false fun j => j.outcomes.any fun o => o.stepLo == stepLo && o.attempt == attempt

/-- A device with a fault sends its early abort at once (R187). It makes one report per attempt (R186): none after its arrival
or for a further fault, but a contract fault after a hardware fault is reported too, so that it decides (R173; DEDUCED, log
entry 149). The lead device ignores its own after its decision (R188). -/
def State.sendAbort (s : State) (w : Whose) (rises : Bool) : State :=
  let r := s.reportOf w 2
  let a := s.attemptOf w
  if a.arrived || (a.aborted && !rises) then s
  else
    let s := s.mapWhose w fun a => { a with aborted := true }
    if !s.isLead then s.send (.earlyAbort r)
    else if s.decided r.stepLo r.attempt then s
    else s.takeAbort (s.nextBarrier w) s.rank r

/-! ### Faults (R167) -/

/-- The counter of a fault kind (R167). -/
def kindCounter (kind : Nat) : Nat :=
  match kind with
  | 0x01 => 0x605004
  | 0x02 => 0x605002
  | 0x03 => 0x605002
  | 0x04 => 0x605001
  | 0x05 => 0x605003
  | 0x06 => 0x404004
  | 0x07 => 0x204005
  | 0x08 => 0x204005
  | 0x09 => 0x404005
  | 0x0A => 0x605005
  | 0x0B => 0x604002
  | 0x0C => 0x303002
  | _ => 0x605008

/-- The class of a fault kind: 2 contract for 0x07 and 0x08, else 1 hardware (R167). -/
def kindClass (kind : Nat) : Nat := if kind = 7 || kind = 8 then 2 else 1

/-- Of two faults of one device, the one that its report carries: contract before hardware (R188), then the lower logical
plot (R168), then the earlier. -/
def worseFault (old : Option (Nat × Signature)) (new : Nat × Signature) : Nat × Signature :=
  match old with
  | none => new
  | some o => if o.1 < new.1 || (o.1 = new.1 && new.2.plot.toNat < o.2.plot.toNat) then new else o

/-- The work that a fault belongs to: after the device's seal arrival, the step after the one that has arrived (R192). -/
def State.blamed (s : State) (w : Whose) : Whose := if w = .step && (s.attemptOf .step).arrived then .ahead else w

/-- An attempt on this device meets a fault: counted, signed, and reported at once unless it belongs to the step after the
unsealed one (R145, R187). -/
def State.meetFault (s : State) (w : Whose) (kind plot bundle region : Nat) : State :=
  let w := s.blamed w
  let rises := kindClass kind == 2 && (s.attemptOf w).fault.elim true fun f => f.1 != 2
  let g : Signature :=
    { kind := BitVec.ofNat 8 kind, plot := BitVec.ofNat 16 plot, rank := BitVec.ofNat 16 s.rank
      bundle := BitVec.ofNat 16 bundle, region := BitVec.ofNat 16 region, stepLo := BitVec.ofNat 32 (s.numberOf w) }
  let s := s.bump (kindCounter kind)
  let s := s.mapWhose w fun a => { a with fault := some (worseFault a.fault (kindClass kind, g)) }
  if w = .ahead then s else s.sendAbort w rises

/-- A fault in a plot's work. -/
def State.plotFault (s : State) (p kind bundle region : Nat) : State := s.meetFault (s.whoseAt p) kind p bundle region

/-- The work of a device as a whole: the step, the evaluation, or the first admitted batch that the device has not arrived for. -/
def State.currentWork (s : State) : Whose :=
  match s.job with
  | some j =>
    if j.binary.serving then .batch ((((j.batches.find? fun b => !b.attempt.arrived).or j.batches.head?).map (·.intake.ticket)).getD 0)
    else if j.evalRunning.isSome then .eval else .step
  | none => .step

/-- A fault of the current work that lies outside the plots (R168). -/
def State.deviceFault (s : State) (kind : Nat) : State := s.meetFault s.currentWork kind 0xFFFF 0xFFFF 0xFFFF

/-! ### Outcomes of the lead device (R188, R189) -/

/-- The barrier margin in force (R250): for a device alone d_max is 0. -/
def State.margin (s : State) : Nat := if s.formed then s.num 0x40000B else 120 + s.num 0x40000A

/-- An outcome is fixed on the lead device and sent to the team (R188, R189). -/
def State.announce (s : State) (o : SealOutcome) : State :=
  let s := s.mapJob fun j => { j with outcomes := j.outcomes ++ [o] }
  if s.formed then s.send (.release (.outcome o)) else s

/-- The job is to be held for what no attempt can mend: a lost device or port, or a lost tile (R256, R260, R355). The lead device
announces it with the barrier margin; another device holds its own job (DESIGN CHOICE, log entry 35). -/
def State.fabricHold (s : State) (status : W32) : State :=
  let settled := s.job.elim true fun j => !j.running || s.held || j.outcomes.any fun o => o.status == status
  if settled then s
  else
    let w := s.currentWork
    let o : SealOutcome :=
      { code := .hold, status := status, attempt := BitVec.ofNat 4 (s.attemptNumber w), stepLo := BitVec.ofNat 32 (s.numberOf w)
        release := s.cycle + BitVec.ofNat 64 (if s.isLead then s.margin else 0) }
    if s.isLead then s.announce o else s.mapJob fun j => { j with outcomes := j.outcomes ++ [o] }

/-- A numerical overflow in an attempt (R57, R183). -/
def State.overflow (s : State) (w : Whose) : State := s.mapWhose w fun a => { a with numerical := true }

/-- A width overflow of a reduction group (R45, R197): the report names the lowest group. -/
def State.widthOverflow (s : State) (w : Whose) (group : Nat) : State :=
  s.mapWhose w fun a => { a with widthGroup := some (a.widthGroup.elim group (min group)) }

/-- The fault kind of a tag check that stops a reader (R141, R167). -/
def ReadOutcome.kind : ReadOutcome → Nat
  | .ok _ | .unwritten => 0x01
  | .poison => 0x05
  | .mismatch format => if format then 0x03 else 0x02

/-- What a reader does with the outcome of a tag check at a region: the tile, or the fault met (R141, R167). -/
def State.orFault (s : State) (p bundle region : Nat) (o : ReadOutcome) : State × Option Tile :=
  match o with
  | .ok t => (s, some t)
  | o => (s.plotFault p o.kind bundle region, none)

/-- A place read under the tag check. -/
def State.readOrFault (s : State) (p bundle : Nat) (r : TileRef) : State × Option Tile :=
  s.orFault p bundle (locNumber r.loc) (s.readTile p r)

/-- Received records checked against the template that an instruction has for them (R81, R108); a record lies in no region. -/
def State.checkAll (s : State) (p bundle : Nat) (m : TagTemplate) : List Tile → State × Option (List Tile)
  | [] => (s, some [])
  | t :: ts =>
    match s.orFault p bundle 0xFFFF ((s.plotAt p).elim .unwritten fun pl => s.checkTile pl m t) with
    | (s, none) => (s, none)
    | (s, some t) =>
      match s.checkAll p bundle m ts with
      | (s, some ts) => (s, some (t :: ts))
      | (s, none) => (s, none)

/-- Several operands read in order; the first that fails stops the operation. -/
def State.readAll (s : State) (p bundle : Nat) : List TileRef → State × Option (List Tile)
  | [] => (s, some [])
  | r :: rs =>
    match s.readOrFault p bundle r with
    | (s, none) => (s, none)
    | (s, some t) =>
      match s.readAll p bundle rs with
      | (s, some ts) => (s, some (t :: ts))
      | (s, none) => (s, none)

/-! ### The Ledger (R213 to R217) -/

/-- The fields of a record that are the same for every kind (R215). -/
def State.ledgerBase (s : State) (kind step : Nat) : LedgerRecord :=
  { kind := kind, step := step, season := s.num 0x50000F, seedEpoch := s.num 0x301101, gnssTime := s.gnssNow
    sealCycle := s.cycle.toNat, cleanRunAfter := s.num 0x302005, scaleAfter := s.num 0x302001, scaleExp := s.num 0x302001
    keyPrefix := BitVec.ofNat 128 (leNat ((s.oct 0x902001).take 16))
    seedFingerprint := BitVec.ofNat 64
      (leNat (shake256 8 (leBytes 8 (s.num 0x301001) ++ leBytes 8 (s.num 0x301002)))) }

/-- Unread records: written and not below the export cursor (R217). -/
def State.unread (s : State) : Nat := s.num 0x801002 - s.num 0x801003

/-- The Ledger event is raised when the unread records reach warn_level after having been below it (R217). -/
def State.settleLedger (s : State) : State :=
  let at_ := decide (s.num 0x801007 ≤ s.unread)
  let was := s.records.atLevel
  let s := { s with records := { s.records with atLevel := at_ } }
  if at_ && !was then s.raise .ledger else s

/-- The gap rule of R217: the cursor moves and the records passed over are counted. -/
def State.ledgerGap (s : State) : State × Bool :=
  let l := s.num 0x801002
  let c := s.num 0x801003
  if c + 2 ^ 20 ≤ l then ((s.setNum 0x801003 (l - 2 ^ 20 + 1)).bump 0x801004 (l - 2 ^ 20 + 1 - c), true) else (s, false)

/-- The bits of a Ledger record below its check field (R215). -/
def ledgerBits (r : LedgerRecord) : Nat :=
  let bit (b : Bool) (i : Nat) : Nat := if b then 2 ^ i else 0
  r.index % 2 ^ 64 + r.step % 2 ^ 64 * 2 ^ 64 + r.season % 2 ^ 32 * 2 ^ 128 + r.evalSeq % 2 ^ 32 * 2 ^ 160 +
    r.seedEpoch % 2 ^ 32 * 2 ^ 192 + r.scaleExp % 2 ^ 32 * 2 ^ 224 + r.repeats % 2 ^ 32 * 2 ^ 256 + r.q % 2 ^ 32 * 2 ^ 288 +
    r.kind % 2 ^ 8 * 2 ^ 320 + bit (r.kind == 2) 328 + bit r.widthEscalated 329 + bit r.checksumOn 330 + bit r.tallyStuck 331 +
    bit r.gap 332 + r.attempts % 2 ^ 8 * 2 ^ 336 + r.cleanRunAfter % 2 ^ 32 * 2 ^ 352 + r.digestPtr % 2 ^ 64 * 2 ^ 384 +
    r.tallyPtr % 2 ^ 64 * 2 ^ 448 + r.gnssTime % 2 ^ 64 * 2 ^ 512 + r.sealCycle % 2 ^ 64 * 2 ^ 576 + r.stepCycles % 2 ^ 64 * 2 ^ 640 +
    r.keyPrefix.toNat * 2 ^ 704 + r.seedFingerprint.toNat * 2 ^ 832 + (Signature.bits r.signature).toNat * 2 ^ 896 +
    r.batchTag.toNat * 2 ^ 1024 + r.scaleAfter % 2 ^ 32 * 2 ^ 1088

/-- The 256 bytes of a Ledger record: its last four are the CRC-32C of the others (R215). -/
def ledgerBytes (r : LedgerRecord) : List Byte :=
  let bs := leBytes 252 (ledgerBits r)
  bs ++ leBytes 4 (crc32c bs).toNat

/-- The 16 bytes of a tally slot (R118). -/
def tallyBytes (t : Tally) : List Byte :=
  let full (n i : Nat) : Nat := if n = 2 ^ 40 - 1 then 2 ^ i else 0
  leBytes 16 (t.zeros % 2 ^ 40 + t.saturations % 2 ^ 40 * 2 ^ 40 + t.nonfinite % 2 ^ 40 * 2 ^ 80 + full t.zeros 120 +
    full t.saturations 121 + full t.nonfinite 122)

/-- The tables of an attempt written at the addresses of their ring slots, 64 KiB each: 8,192 digests of 8 bytes and 4,096 tally
slots of 16 (R116, R118, R216). -/
def writeTables (m : List Host.Cell) (x : Tables) (digestAt tallyAt : Nat) : List Host.Cell :=
  let m := Memory.zero (Memory.zero m digestAt 65536) tallyAt 65536
  let m := (x.digest.filter fun e => e.1 < 8192).foldl (fun m e => Memory.writeBytes m (digestAt + 8 * e.1) (leBytes 8 e.2.toNat)) m
  (x.tally.filter fun e => e.1 < 4096).foldl (fun m e => Memory.writeBytes m (tallyAt + 16 * e.1) (tallyBytes e.2)) m

/-- A record is written in the ring slot of the next index, with the attempt's tables in theirs where it points to them (R213,
R216). -/
def State.appendLedger (s : State) (r : LedgerRecord) : State :=
  let (s, gap) := s.ledgerGap
  let l := s.num 0x801002
  let digestAt := Config.digestRingBase + 65536 * (l % 4096)
  let tallyAt := Config.tallyRingBase + 65536 * (l % 4096)
  let r := { r with
    index := l, gap := gap, digestPtr := if r.hasTables then digestAt else 0, tallyPtr := if r.hasTables then tallyAt else 0
    tallyStuck := r.hasTables && s.records.current.tally.any fun t =>
      t.2.zeros == 2 ^ 40 - 1 || t.2.saturations == 2 ^ 40 - 1 || t.2.nonfinite == 2 ^ 40 - 1 }
  let rec' := s.records
  let kept := if rec'.ledger.length < 2 ^ 20 then rec'.ledger else rec'.ledger.drop 1
  let tables := if r.hasTables then SMap.set ({} : Tables) rec'.tables (l % 4096) rec'.current else rec'.tables
  let m := if r.hasTables then writeTables s.host.window rec'.current digestAt tallyAt else s.host.window
  let m := Memory.writeBytes m (Config.ledgerBase + 256 * (l % 2 ^ 20)) (ledgerBytes r)
  let s := { s with records := { rec' with ledger := kept ++ [r], tables := tables }, host := { s.host with window := m } }
  (s.setNum 0x801002 (l + 1)).settleLedger

/-- The ring slot of the last record written, for a completion record. -/
def State.lastLedger (s : State) : Nat := s.num 0x801002 - 1

/-! ### Completion records (R403) -/

/-- What a completion record says. -/
structure Completion where
  status : Nat := 0
  step : Nat := 0
  ledger : Option Nat := none
  attempts : Nat := 0
  signature : Signature := {}
  tally : Tally := {}
  deriving DecidableEq, Repr

/-- The layout of a completion record (R403). -/
def Completion.bits (c : Completion) (cycle : Cycle) : BitVec 1792 :=
  BitVec.ofNat 1792
    (c.status + c.step * 2 ^ 32 + (c.ledger.getD (2 ^ 64 - 1)) * 2 ^ 96 + cycle.toNat * 2 ^ 160 +
      min c.attempts 255 * 2 ^ 224 + c.tally.zeros * 2 ^ 232 + c.tally.saturations * 2 ^ 272 +
      c.tally.nonfinite * 2 ^ 312 + (Signature.bits c.signature).toNat * 2 ^ 352)

/-- The slot of a ticket (R396). -/
def slotOfTicket (t : W64) : Nat := (t - 1).toNat % 4096

/-- The record of a ticket completes: its completion record, then state 0x03 and the completion event (R403, R404). -/
def State.complete (s : State) (ticket : W64) (c : Completion) : State :=
  let k := slotOfTicket ticket
  let sl := SMap.get {} s.hopper k
  ({ s with hopper := SMap.set {} s.hopper k { sl with body := c.bits s.cycle, state := 3 } }).raise .completion

/-- The taken, uncompleted records of a job, each with what its completion record says under a status (R403): assigned steps with
their step numbers, admitted batches, evaluations. `undone` says that attempts counted ahead of an undo have not begun. -/
def State.openRecords (s : State) (status : Nat) (undone : Bool) : List (W64 × Completion) :=
  match s.job with
  | none => []
  | some j =>
    let made (a : Attempt) (counted : Bool) : Nat := a.count - (if undone && counted then 1 else 0)
    (j.assigned.zipIdx.map fun e =>
        (e.1.ticket, { status := status, step := s.num 0x205001 + 1 + e.2
                       attempts := if e.2 = 0 then made j.attempt true else 0
                       signature := if e.2 = 0 then j.attempt.lastSignature else {} })) ++
      (j.batches.map fun b => (b.intake.ticket,
        { status := status, attempts := made b.attempt (j.undoFloor ≤ b.intake.ticket.toNat)
          signature := b.attempt.lastSignature })) ++
      (j.evalRunning.toList.map fun e => (e.1.ticket,
        { status := status, attempts := made e.2 true, signature := e.2.lastSignature })) ++
      (j.evalQueue ++ j.evalPending).map fun e => (e.ticket, { status := status })

/-- Every taken, uncompleted record of a held or ended job completes with a status (R169, R368), but for those named. -/
def State.completeOthers (s : State) (status : Nat) (except : List W64) (undone : Bool) : State :=
  let s := ((s.openRecords status undone).filter fun e => !except.contains e.1).foldl (fun s e => s.complete e.1 e.2) s
  s.mapJob fun j => { j with assigned := [], batches := [], evalQueue := [], evalPending := [], evalRunning := none }

/-! ### The undo (R146) -/

/-- The step numbers that an undo removes, as tags carry them: the floor and what follows it, by job kind. -/
def State.undoSet (s : State) : List W32 :=
  match s.job with
  | none => []
  | some j =>
    if j.binary.serving then
      ((j.batches.filter fun b => j.undoFloor ≤ b.intake.ticket.toNat).map fun b => b.intake.ticket.setWidth 32)
    else [BitVec.ofNat 32 j.undoFloor, BitVec.ofNat 32 (j.undoFloor + 1)]

/-- A region of U loses its valid and ready bits (R146). -/
def clearRegion (u : List W32) (r : Region) : Region :=
  if r.tile.tag.valid && u.contains r.tile.tag.stepLo then
    { tile := { r.tile with tag := { r.tile.tag with valid := false } }, ready := false }
  else r

/-- How many regions of a store an undo clears. -/
def clearedCount (u : List W32) (m : SMap Region) : Nat :=
  (m.filter fun r => r.2.tile.tag.valid && u.contains r.2.tile.tag.stepLo).length

/-- The regions of a plot that its chains have begun to write, as they stand at a count (R130). -/
def landStarted (now : Cycle) (pl : Plot) : Plot :=
  let seen (l : Loc) (r : Region) : Region :=
    let t := pl.chains.foldl (chainView now l) r.tile
    if t = r.tile then r else { r with tile := t }
  pl.chains.foldl (fun pl r =>
    match r.desc.out with
    | .crib n => { pl with crib := SMap.set {} pl.crib n (seen (.crib n) (SMap.get {} pl.crib n)) }
    | .loam n => { pl with loam := SMap.set {} pl.loam n (seen (.loam n) (SMap.get {} pl.loam n)) }
    | _ => pl) pl

/-- Cycles 0 to 513 of the undo in one plot (R146): work in progress is abandoned, requests stop, buffers, partials and the
regions of U are cleared. `mine` says that the plot's own work belongs to U. A tile buffer whose contents are invalid reads 0
(DESIGN CHOICE, log entry 139). -/
def undoPlot (now : Cycle) (u : List W32) (mine : Bool) (pl : Plot) : Plot :=
  let pl := if mine then landStarted now pl else pl
  let pl := { pl with
    maxima := pl.maxima.filter fun t => !u.contains t.tag.stepLo
    frames := pl.frames.filter fun t => !u.contains t.tag.stepLo
    crib := SMap.mapValues {} (clearRegion u) pl.crib
    loam := SMap.mapValues {} (clearRegion u) pl.loam
    sendQueue := pl.sendQueue.filter fun t => !u.contains t.1.tag.stepLo }
  if mine then
    { pl with scan := none, furrow := none, chains := [], wait := none, stopped := true, buffers := [], badWords := [], digests := [], tallies := [] }
  else pl

/-- A region that an evaluation has written loses its valid and ready bits; step-mutable state stays (R146, R205). -/
def clearEvaluation (mutable_ : W32 → Bool) (step : W32) (r : Region) : Region :=
  if r.tile.tag.valid && r.tile.tag.stepLo == step && !mutable_ r.tile.tag.tensorId then
    { tile := { r.tile with tag := { r.tile.tag with valid := false } }, ready := false }
  else r

/-- An evaluation's regions, cleared in every store of the plots and in the pool. -/
def State.clearEvaluationTiles (s : State) : State :=
  let f := clearEvaluation (fun id => (s.tensorOf id).any fun t => t.cls == 1 || t.cls == 4) (BitVec.ofNat 32 (s.num 0x205001))
  { s with pool := SMap.mapValues {} f s.pool
           plots := s.plots.map fun pl => { pl with crib := SMap.mapValues {} f pl.crib, loam := SMap.mapValues {} f pl.loam } }

/-- The barriers, arrivals and slots of an undone attempt are forgotten, and its tiles leave the links (R146, R190). -/
def State.undoFabric (s : State) (u : List W32) : State :=
  let serving := s.serving
  let keeps (e : BeFrame) : Bool :=
    match e.content with
    | .tierTile _ _ t => !u.contains t.tag.stepLo
    | _ => true
  s.mapFabric fun f =>
    { f with subtrees := if serving then f.subtrees.filter fun t => !u.contains t.msg.stepLo else []
             collects := if serving then f.collects.filter fun c => !u.contains c.stepLo else []
             plotArrivals := if serving then f.plotArrivals.filter fun a => !u.contains (BitVec.ofNat 32 (a.1 / 2 ^ 32)) else []
             releases := if serving then f.releases.filter fun r => !u.contains (BitVec.ofNat 32 (r.1 / 2 ^ 32)) else []
             arrived := if serving then f.arrived else [], sent := if serving then f.sent else []
             portsLost := false, judgeRollback := []
             relay := f.relay.filter fun r => !u.contains r.2.tag.stepLo
             assembling := f.assembling.filter fun a => !u.contains a.tag.stepLo
             ports := f.ports.map fun p => { p with beQueue := p.beQueue.filter keeps, held := p.held.filter fun h => keeps h.2 } }

/-- The undo begins at the release cycle (R146): its floor is the lowest number of U. -/
def State.beginUndo (s : State) (floor : Nat) : State :=
  let s := s.mapJob fun j => { j with
      undoing := true, undoFloor := floor, undone := false, undoReported := false, restartAt := none
      outcomes := if j.binary.serving then j.outcomes.filter fun o => o.stepLo.toNat < floor % 2 ^ 32 else []
      haltRecord := j.haltRecord.bind fun n => if n < floor then some n else none }
  let u := s.undoSet
  let all := s.evaluating.isSome
  let n := s.plots.foldl (fun n pl => n + clearedCount u pl.crib + clearedCount u pl.loam) (clearedCount u s.pool)
  let s := (s.bump 0x605006).bump 0x605007 n
  let s := { s with plots := s.plots.map fun pl => undoPlot s.plotCycle u (all || u.contains (BitVec.ofNat 32 (s.workStep pl))) pl
                    pool := SMap.mapValues {} (clearRegion u) s.pool
                    records := { s.records with current := {} } }
  (if all then s.clearEvaluationTiles else s).undoFabric u

/-- Tap copies of an attempt that does not seal are discarded (R222). -/
def State.dropTaps (s : State) (a : Attempt) : State :=
  let s := { s with records := { s.records with taps := s.records.taps.take a.tapStart } }
  s.setNum 0x802005 ((s.records.taps.map fun t => (hbmBytes t).length).foldl (· + ·) 0)

/-- Tokens back at 0, and the tier bindings of the attempt may fire again; a fill that waited for a seal never started (R135,
R342, R346). -/
def State.clearTokens (s : State) : State :=
  { s with tokens := [], aheadTokens := [], tiers := { s.tiers with fired := [], waiting := [], firedAhead := [] } }

/-- The entry bundle of the work that an entry number names: the training step for 0, else the evaluation or batch entry that the
binary declares under the number (R203, R401, R461). -/
def Plot.entryOf (pl : Plot) (entry : Nat) : Nat := if entry = 0 then pl.entry else nth pl.entry pl.workEntries (entry - 1)

/-- The entry of the lowest work of U: that of the evaluation under way, or of the first undone batch; 0 for a step. -/
def State.undoEntry (s : State) : Nat :=
  s.job.elim 0 fun j =>
    if j.binary.serving then ((j.batches.find? fun b => j.undoFloor ≤ b.intake.ticket.toNat).map (·.intake.entry)).getD 0
    else (j.evalRunning.map (·.1.entry)).getD 0

/-- A plot at the entry of the lowest work of U: its program counter at the entry bundle, its tines' cursors at the values
recorded there (R146, R205, R461). -/
def restartPlot (floor : W64) (serving : Bool) (entry : Nat) (pl : Plot) : Plot :=
  { pl with pc := pl.entryOf entry, loops := [], halted := false, entered := false, arrived := false, gateDone := false, enteredNext := false
            creditsUsed := 0, stopped := true
            lastTicket := if serving && floor ≤ pl.lastTicket then floor - 1 else pl.lastTicket
            tines := SMap.mapValues {} (fun t =>
              { t with pos := t.markPos, xfer := none, running := t.markRunning, nextMark := none, ahead := false }) pl.tines }

end Sys2Proof.Machine
end

