-- ==== Sys2Proof/Machine/Sequencer.lean ====
section
/-! DEFINITION. Sys2Proof/Machine/Sequencer.lean: the control slot of a plot's bundles (R121 to R126, R252), the sync slot's
tokens and Ledger marks (R135), and the waits. -/

namespace Sys2Proof.Machine

/-- Whether the plots run (R29, R146, R169): a Growing job, or one in Harvest that runs on, and no undo of a training job. An
undo of a serving job leaves the batches before it undisturbed (R461). -/
def State.jobRuns (s : State) : Bool :=
  (s.ctl.cur == .growing || s.ctl.cur == .harvest) &&
    (match s.job with
     | some j => j.running && (!j.undoing || j.binary.serving)
     | none => false)

/-- Whether a plot of a number runs: the job runs and no undo has stopped the plot. -/
def State.runsAt (s : State) (p : Nat) : Bool := s.jobRuns && (s.plotAt p).any fun pl => !pl.stopped

/-- A plot that may issue a bundle: it runs, is not halted, and no wait holds its bundle (R122). -/
def State.issuing (s : State) (p : Nat) : Option Plot :=
  if s.jobRuns then
    match s.plotAt p with
    | some pl => if pl.stopped || pl.halted || pl.wait.isSome then none else some pl
    | none => none
  else none

/-- The program counter after a bundle: the loops that end with it are counted (R123). A loop is its first bundle, its end
bundle and the runs left, the present one included. -/
def nextBundle (pc : Nat) : List (Nat × Nat × Nat) → Nat × List (Nat × Nat × Nat)
  | [] => (pc + 1, [])
  | (first, last, left) :: ls =>
    if pc = last then (if 1 < left then (first, (first, last, left - 1) :: ls) else nextBundle pc ls)
    else (pc + 1, (first, last, left) :: ls)

/-- A plot moves to its next bundle. -/
def advance (pl : Plot) : Plot :=
  let n := nextBundle pl.pc pl.loops
  { pl with pc := n.1, loops := n.2 }

/-- A plot's wait ends, and the next bundle follows (R122). -/
def endWait (pl : Plot) : Plot := advance { pl with wait := none }

/-- A plot begins to wait. -/
def State.beginWait (s : State) (p : Nat) (w : WaitKind) : State :=
  s.mapPlot p fun pl => { pl with wait := some (w, s.cycle, false) }

/-- The key under which a barrier of a step is kept: every step uses the same barrier numbers. -/
def barrierKey (b stepLo : W32) : Nat := b.toNat + stepLo.toNat * 2 ^ 32

/-- The release that a barrier's message fixed for a plot's step, if it is here (R252). -/
def State.releaseOf (s : State) (p : Nat) (b : W32) : Option Cycle :=
  let step := BitVec.ofNat 32 ((s.plotAt p).elim 0 s.workStep)
  (s.fabric.releases.find? fun r => r.1 == barrierKey b step).map (·.2)

/-- Whether the seal, gate or batch arrival that a plot has made is still unjudged (R189, R201, R461). -/
def State.sealPending (s : State) (pl : Plot) : Bool :=
  if s.serving then s.job.elim false fun j => j.batches.any fun b => b.intake.ticket == pl.lastTicket
  else pl.arrived || (pl.gateDone && !(s.attemptOf .step).gatePassed)

/-- The season tile's 64 bytes (R310). -/
def seasonTileBytes (t : SeasonTile) : List Byte :=
  let one : Nat := 0x3F800000
  let (mode, merge, join) : Nat × Nat × Nat := match t.mode with
    | .merge => (1, one, 0)
    | .isolate => (2, 0, 0)
    | .join => (3, 0, one)
  leBytes 64 (mode * 2 ^ 280 + join * 2 ^ 288 + merge * 2 ^ 320 + t.season % 2 ^ 32 * 2 ^ 352 + t.rosterDigest.toNat * 2 ^ 384)

/-- The season tile as it stands in a plot: raw bytes of tensor 0xFFFF_FFFE under the plot's step and attempt (R310). -/
def State.seasonTileFor (s : State) (pl : Plot) (t : SeasonTile) : Tile :=
  sealTile
    { tag := { tensorId := 0xFFFFFFFE, stepLo := BitVec.ofNat 32 (s.workStep pl)
               attempt := BitVec.ofNat 4 (s.attemptNumber (s.whose pl)), rowsM1 := 0, colsM1 := 63, valid := true }
      payload := seasonTileBytes t }

/-- A plot that waits on the season tile gets it in the region it waits for, and goes on (R310; the region is the wait's own, log
entry 39). -/
def State.releaseSeason (s : State) (p : Nat) (l : Loc) : State :=
  match s.seasons.tile, s.plotAt p with
  | some t, some pl => (s.setRegion p l { tile := s.seasonTileFor pl t, ready := true }).mapPlot p endWait
  | _, _ => s

/-- WAIT_TILE releases: the region is ready, and its tag is checked (R123, R141). -/
def State.releaseTile (s : State) (p : Nat) (t : TileRef) (season : Bool) : State :=
  if season then s.releaseSeason p t.loc
  else if (s.regionAt p t.loc).ready then
    let bundle := (s.plotAt p).elim 0 (·.pc)
    (s.readOrFault p bundle t).1.mapPlot p endWait
  else s

/-- A token's count in the attempt of the current step, or in that of the step after it (R135). Every attempt counts from 0, so
work that runs ahead counts apart until the seal (DESIGN CHOICE, log entry 28). -/
def State.token (s : State) (ahead : Bool) (n : Nat) : Nat := SMap.get 0 (if ahead then s.aheadTokens else s.tokens) n

/-- Whether a plot's work belongs to the step after the unsealed one (R142). -/
def State.plotAhead (s : State) (p : Nat) : Bool := s.whoseAt p == .ahead

/-- Whether a count has been reached for a WAIT_CYCLE. -/
def State.cycleHere (s : State) (p : Nat) (w : WaitKind) : Option Cycle :=
  match w with
  | .cycle t => some t
  | .barrier b off => (s.releaseOf p b).map (· + off)
  | _ => none

/-! ### Control slot -/

/-- NOP (R123): the sequencer goes on to the next bundle. -/
def nop (p : Nat) (s : State) : State := if (s.issuing p).isSome then s.mapPlot p advance else s

/-- WAIT_TILE (R123): holds until the region is ready. -/
def waitTile (p : Nat) (t : TileRef) (season : Bool) (s : State) : State :=
  if (s.issuing p).isSome then (s.beginWait p (.tile t season)).releaseTile p t season else s

/-- WAIT_TILE_RELEASE (R124, R141). -/
def waitTileRelease (p : Nat) (s : State) : State :=
  if !s.runsAt p then s
  else match (s.plotAt p).bind (·.wait) with
    | some (.tile t season, _, _) => s.releaseTile p t season
    | _ => s

/-- WAIT_TOKEN (R123): holds until the token reaches the count. -/
def waitToken (p n count : Nat) (s : State) : State :=
  if (s.issuing p).isSome then
    let s := s.beginWait p (.token n count)
    if count ≤ s.token (s.plotAhead p) n then s.mapPlot p endWait else s
  else s

/-- WAIT_TOKEN_RELEASE (R124). -/
def waitTokenRelease (p : Nat) (s : State) : State :=
  if !s.runsAt p then s
  else match (s.plotAt p).bind (·.wait) with
    | some (.token n count, _, _) => if count ≤ s.token (s.plotAhead p) n then s.mapPlot p endWait else s
    | _ => s

/-- What a WAIT_CYCLE descriptor waits for (R252). -/
def waitCycleKind (d : BitVec 512) : Option WaitKind :=
  let cycle : Cycle := BitVec.ofNat 64 d.toNat
  match bitsOf 511 504 d.toNat with
  | 0 => some (.cycle cycle)
  | 1 => some (.barrier (BitVec.ofNat 32 (d.toNat / 2 ^ 448)) cycle)
  | _ => none

/-- WAIT_CYCLE (R123, R252); a reserved kind, which the loader refuses, holds nothing. -/
def waitCycle (p : Nat) (d : BitVec 512) (s : State) : State :=
  if (s.issuing p).isSome then
    match waitCycleKind d with
    | none => s.mapPlot p advance
    | some w =>
      let s := s.beginWait p w
      match s.cycleHere p w with
      | some t => if reached s.cycle t then s.mapPlot p endWait else s
      | none => s
  else s

/-- WAIT_CYCLE_RELEASE (R252): the count has reached the cycle, or T plus the offset once the release message is here. -/
def waitCycleRelease (p : Nat) (s : State) : State :=
  if !s.runsAt p then s
  else match (s.plotAt p).bind (·.wait) with
    | some (w, _, _) =>
      match s.cycleHere p w with
      | some t => (s.upTo t).mapPlot p endWait
      | none => s
    | none => s

/-- LOOP (R123): the bundles up to the end bundle run `count` times. -/
def loopStart (p count endOffset : Nat) (s : State) : State :=
  match s.issuing p with
  | none => s
  | some pl =>
    if endOffset = 0 || count = 0 then s.mapPlot p advance
    else s.mapPlot p fun q => { q with pc := pl.pc + 1, loops := (pl.pc + 1, pl.pc + endOffset, count) :: pl.loops }

/-- STEP_MARK at a tine: the cursor at the entry to a step, of this step or the next (R123, R131). -/
def markTine (next : Bool) (t : Tine) : Tine :=
  if next then (if t.ahead then t else { t with nextMark := some (t.pos, t.running) })
  else { t with markPos := t.pos, markRunning := t.running }

/-- The intake tile of a record for a plot (R177): the descriptor's 64 bytes under the plot's step and attempt. -/
def intakeTile (it : Intake) (step attempt : Nat) (spec copy : Bool) : Tile :=
  sealTile
    { tag := { tensorId := 0xFFFFFFFF, stepLo := BitVec.ofNat 32 step, attempt := BitVec.ofNat 4 attempt, rowsM1 := 0
               colsM1 := 63, valid := true, spec := spec, parity := copy }
      payload := leBytes 64 it.descriptor.toNat }

/-- A tile stands ready in a plot's intake region (R177). -/
def placeIntake (region : Nat) (t : Tile) (pl : Plot) : Plot :=
  { pl with crib := SMap.set {} pl.crib region { tile := t, ready := true } }

/-- The intake tiles that a plot is due: its current step's, or the next step's once it has entered the current one
(R177; DEDUCED, log entry 21). -/
def State.intakeFor (s : State) (pl : Plot) : Option Tile :=
  match s.job with
  | none => none
  | some j =>
    if j.binary.serving then
      (s.batchOf pl).map fun b => intakeTile b.intake b.intake.ticket.toNat (b.attempt.count - 1) false (b.copy == 1)
    else match j.evalRunning with
      | some e => some (intakeTile e.1 (s.num 0x205001) (e.2.count - 1) false false)
      | none =>
        if pl.entered then
          (j.assigned[1]?).map fun it => intakeTile it (s.num 0x205001 + 2) 0 true false
        else (j.assigned[0]?).map fun it => intakeTile it (s.num 0x205001 + 1) (s.num 0x205003) false false

/-- Every plot's intake region holds the tile it is due (R177). -/
def State.writeIntake (s : State) : State :=
  match s.job with
  | none => s
  | some j =>
    { s with plots := s.plots.map fun pl =>
        match s.intakeFor pl with
        | some t => placeIntake j.binary.intakeRegion t pl
        | none => pl }

/-! ### Boundary and commit steps (R298, R299) -/

/-- Whether the job takes part in seasons: acre_job_id is not 0 (R320). -/
def State.seasonsOn (s : State) : Bool := s.num 0x500001 != 0

/-- The last committed season (R16). -/
def State.committed (s : State) : Nat := s.num 0x50000F

/-- The last boundary step of the job that has sealed, if one has: the boundary before the next one (R298). -/
def State.lastBoundary (s : State) : Option Nat :=
  match s.job with
  | none => none
  | some j =>
    let b := s.seasons.nextBoundary - s.num 0x500004
    if s.seasonsOn && j.firstStep < b then some b else none

/-- Whether a step is the commit step of the last boundary (R298). -/
def State.isCommitStep (s : State) (n : Nat) : Bool := s.lastBoundary == some (n - s.num 0x500005) && s.num 0x500005 ≤ n

/-- The program that the entry to a step enters: the boundary or the commit program for the season_ptr that stands (R299; when the
sequencer enters it, DESIGN CHOICE, log entry 155); none for another step. -/
def State.seasonVariant (s : State) (n : Nat) : Option Nat :=
  let at_ (k : Nat) : Option Nat := some (k + if s.seasons.ptr then 1 else 0)
  if !s.seasonsOn || s.serving || s.job.elim true (·.evalRunning.isSome) then none
  else if n = s.seasons.nextBoundary then at_ 0
  else if s.isCommitStep n || n = s.seasons.nextBoundary + s.num 0x500005 then at_ 2
  else none

/-- A plot at the program of the step that it has entered (R299). -/
def State.enterVariant (s : State) (n : Nat) (pl : Plot) : Plot :=
  match (s.seasonVariant n).bind fun k => pl.seasonEntries[k]? with
  | some b => { pl with pc := b }
  | none => pl

/-- STEP_MARK (R123, R142, R299): the entry to a step, or its seal arrival; tines record their cursors at either. -/
def stepMark (p : Nat) (k : MarkKind) (s : State) : State :=
  match s.issuing p with
  | none => s
  | some pl =>
    match k with
    | .sealArrival =>
      s.mapPlot p fun q =>
        advance { q with tines := SMap.mapValues {} (fun t => { t with arrivalMark := some (t.pos, t.running) }) q.tines }
    | .entry =>
      let s := s.mapPlot p fun q =>
        advance { q with entered := q.entered || !pl.arrived, enteredNext := pl.arrived
                         tines := SMap.mapValues {} (markTine pl.arrived) q.tines }
      s.mapPlot p fun q =>
        let q := s.enterVariant (s.num 0x205001 + if pl.arrived then 2 else 1) q
        match s.job, s.intakeFor q with
        | some j, some t => if pl.arrived then q else placeIntake j.binary.intakeRegion t q
        | _, _ => q

/-- SEAL_WAIT (R123, R189): holds until the outcome of the plot's arrival is known. -/
def sealWait (p : Nat) (s : State) : State :=
  match s.issuing p with
  | none => s
  | some pl => if s.sealPending pl then s.beginWait p .seal else s.mapPlot p advance

/-- A SEAL_WAIT whose outcome is known releases (R189). -/
def releaseSealWait (s : State) (pl : Plot) : Plot :=
  match pl.wait with
  | some (.seal, _, _) => if s.sealPending pl then pl else endWait pl
  | _ => pl

/-- Whether a rollback that reaches a plot's work releases at or before an instant (R154): in a serving job only an undo of the
plot's batch or of one before it does (R461). -/
def State.rollsBackBy (s : State) (pl : Plot) (t : Cycle) : Bool :=
  s.job.elim false fun j => j.outcomes.any fun o =>
    o.code != .seal && reached t o.release && (!j.binary.serving || o.stepLo.toNat ≤ s.workStep pl)

/-- WAIT_TIMEOUT (R126): a wait has held longer than wait_timeout. A WAIT_TILE on a season tile has no limit (R310), and none is
counted in the cycle in which a rollback releases (R154). -/
def waitTimeout (p : Nat) (s : State) : State :=
  if !s.runsAt p then s
  else match s.plotAt p with
    | none => s
    | some pl =>
      match pl.wait with
      | some (w, since, false) =>
        let exempt := match w with
          | .tile _ season => season
          | _ => false
        let due := later s.cycle (since + BitVec.ofNat 64 (s.num 0x203001 + 1))
        if exempt || s.rollsBackBy pl due then s
        else
          let s := s.upTo due
          let region := match w with
            | .tile t _ => locNumber t.loc
            | _ => 0xFFFF
          (s.mapPlot p fun q => { q with wait := some (w, since, true) }).plotFault p 0x0A pl.pc region
      | _ => s

/-! ### Sync slot -/

/-- A token counts up (R135). -/
def State.signalToken (s : State) (ahead : Bool) (n : Nat) : State :=
  if n = 0 then s
  else
    let v := (s.token ahead n + 1) % 2 ^ 18
    if ahead then { s with aheadTokens := SMap.set 0 s.aheadTokens n v } else { s with tokens := SMap.set 0 s.tokens n v }

/-- LEDGER_MARK (R121): the sync slot's Ledger marks. The manual gives a mark no effect of its own: a record is written at the
events of R214 (log entry 22). -/
def ledgerMark (_p : Nat) (s : State) : State := s

def execNop (plot : Nat) (s : State) : Out := .next (nop plot s)
def execWaitTile (plot : Nat) (t : TileRef) (season : Bool) (s : State) : Out := .next (waitTile plot t season s)
def execWaitTileRelease (plot : Nat) (s : State) : Out := .next (waitTileRelease plot s)
def execWaitToken (plot token count : Nat) (s : State) : Out := .next (waitToken plot token count s)
def execWaitTokenRelease (plot : Nat) (s : State) : Out := .next (waitTokenRelease plot s)
def execWaitCycle (plot : Nat) (d : BitVec 512) (s : State) : Out := .next (waitCycle plot d s)
def execWaitCycleRelease (plot : Nat) (s : State) : Out := .next (waitCycleRelease plot s)
def execLoop (plot count endOffset : Nat) (s : State) : Out := .next (loopStart plot count endOffset s)
def execStepMark (plot : Nat) (k : MarkKind) (s : State) : Out := .next (stepMark plot k s)
def execSealWait (plot : Nat) (s : State) : Out := .next (sealWait plot s)
def execWaitTimeout (plot : Nat) (s : State) : Out := .next (waitTimeout plot s)
def execLedgerMark (plot : Nat) (s : State) : Out := .next (ledgerMark plot s)

end Sys2Proof.Machine
end

