-- ==== Sys2Proof/Machine/Outputs.lean ====
section
/-! DEFINITION. Sys2Proof/Machine/Outputs.lean: what goes with a tile that a chain or the full-width adder writes: digest and tally
partials (R116, R118), taps (R221, R222), season copies (R299, R300), and non-finite state (R183). -/

namespace Sys2Proof.Machine

/-! ### Digest and tally partials (R116, R118) -/

/-- A tally counter raised: it sticks at 2^40 - 1 (R118). -/
def Tally.plus (a b : Tally) : Tally :=
  { zeros := stick 40 a.zeros b.zeros, saturations := stick 40 a.saturations b.saturations
    nonfinite := stick 40 a.nonfinite b.nonfinite }

/-- The counters of a tally that stand at 2^40 - 1. -/
def Tally.stuck (a : Tally) : Nat := ([a.zeros, a.saturations, a.nonfinite].filter (· == 2 ^ 40 - 1)).length

/-- A contribution added to a plot's digest partial (R116). -/
def addDigest (slot : Option Nat) (d : W64) (pl : Plot) : Plot :=
  match slot with
  | some n => { pl with digests := SMap.set 0 pl.digests n (SMap.get 0 pl.digests n + d) }
  | none => pl

/-- Counts added to a plot's tally partials (R118). -/
def addTallies (ts : List (Nat × Tally)) (pl : Plot) : Plot :=
  { pl with tallies := ts.foldl (fun m t => SMap.set {} m t.1 (Tally.plus (SMap.get {} m t.1) t.2)) pl.tallies }

/-! ### Taps (R221, R222) -/

/-- A tile of a tapped tensor, written in a tapped step, is copied into the tap area in the layout of R139 while the 4 GiB have
room; then copying stops (R221, R222). A serving job has no steps to tap (DEDUCED, log entry 150). -/
def State.tapTile (s : State) (step : Nat) (t : Tile) : State :=
  let first := s.num 0x802001
  let named := (words32 (s.oct 0x802003)).contains t.tag.tensorId.toNat
  let used := s.num 0x802005
  if s.serving || first = 0 || step < first || s.num 0x802002 < step || !named || s.num 0x802006 != 0 then s
  else if 2 ^ 32 < used + (hbmBytes t).length then s.setNum 0x802006 1
  else
    let s := s.writeHbmTile (Config.tapBase + used) t
    ({ s with records := { s.records with taps := s.records.taps ++ [t] } }).setNum 0x802005 (used + (hbmBytes t).length)

/-! ### Season copies (R299, R300) -/

/-- The elements of a tile with their global indices. -/
def indexedElements {α : Type} (g : GlobalIndex) (rows : List (List α)) : List (Nat × α) :=
  (rows.zipIdx).flatMap fun r => if g.validRows ≤ r.2 then [] else
    (r.1.zipIdx).filterMap fun c => if g.validCols ≤ c.2 then none else some (indexAt g r.2 c.2, c.1)

/-- Elements written into a copy that holds the elements from `base` on. -/
def writeCopy {α : Type} (base : Nat) (l : List α) (es : List (Nat × α)) : List α :=
  es.foldl (fun l e => if base ≤ e.1 then modifyNth (fun _ => e.2) l (e.1 - base) else l) l

/-- The FP32 words of a tile by rows. -/
def fp32Rows (t : Tile) : List (List W32) :=
  runs (tileCols t) ((unpack 32 (tileRows t * tileCols t) t.payload).map (BitVec.ofNat 32))

/-- The FWP elements of a tile by rows, each an integer and its frame. -/
def fwpRows (t : Tile) : List (List (Int × Int)) :=
  let p := fwpOf t
  (List.range p.rows).map fun i => (List.range p.cols).map fun j => (p.at i j, p.frame i j)

/-- A tile written into a season tensor's copy (R299): anchors, momenta and snapshot as FP32, residuals as FWP. -/
def SeasonTensor.write (x : SeasonTensor) (t : Tile) (g : GlobalIndex) : SeasonTensor :=
  let b := x.decl.base
  let id := t.tag.tensorId
  let w := indexedElements g (fp32Rows t)
  if id = x.decl.anchors.1 then { x with anchor0 := writeCopy b x.anchor0 w }
  else if id = x.decl.anchors.2 then { x with anchor1 := writeCopy b x.anchor1 w }
  else if id = x.decl.momenta.1 then { x with momentum0 := writeCopy b x.momentum0 w }
  else if id = x.decl.momenta.2 then { x with momentum1 := writeCopy b x.momentum1 w }
  else if id = x.decl.snapshot then { x with snapshot := writeCopy b x.snapshot w }
  else if id = x.decl.residuals.1 then { x with residual0 := writeCopy b x.residual0 (indexedElements g (fwpRows t)) }
  else if id = x.decl.residuals.2 then { x with residual1 := writeCopy b x.residual1 (indexedElements g (fwpRows t)) }
  else x

/-- The snapshot of a boundary step: master weights that its harrow pass writes into the fallow field (R300). -/
def SeasonTensor.snap (x : SeasonTensor) (t : Tile) (g : GlobalIndex) : SeasonTensor :=
  if t.tag.tensorId = x.decl.weight then
    { x with snapshot := writeCopy x.decl.base x.snapshot (indexedElements g (fp32Rows t)) }
  else x

/-- The season copies after a tile is written by a plot's program. -/
def State.noteSeason (s : State) (step : Nat) (role : FieldRole) (t : Tile) (g : GlobalIndex) : State :=
  if s.seasons.tensors.isEmpty then s
  else
    s.mapSeasons fun x =>
      { x with tensors := x.tensors.map fun y =>
          let y := SeasonTensor.write y t g
          if role = .fallow && step = x.nextBoundary && t.tag.format = 0x01 then SeasonTensor.snap y t g else y }

/-! ### Writing an output -/

/-- Whether a tile holds a non-finite element among those with a global index. -/
def hasNonFinite (t : Tile) (down : Bool) (g : GlobalIndex) : Bool :=
  ((decodeTile t down).take g.validRows).any fun r => (r.take g.validCols).any fun e => !e.isFinite

/-- A plot's unit writes a finished tile: the place with its tag and ready bit (R130), the digest (R116), taps, season copies,
and a numerical overflow where a non-finite element enters step-mutable state (R183). -/
def State.writeOutput (s : State) (p : Nat) (l : Loc) (t : Tile) (role : FieldRole) (g : GlobalIndex)
    (digestSlot : Option Nat) : State :=
  match s.plotAt p with
  | none => s
  | some pl =>
    let w := s.whose pl
    let step := s.workStep pl
    let down := blocksDown (s.tensorOf t.tag.tensorId)
    let t := sealTile t
    let s := s.setRegion p l { tile := t, ready := true }
    let s := if digestSlot.isSome then s.mapPlot p (addDigest digestSlot (digestTile t down g)) else s
    let s := if (s.tensorOf t.tag.tensorId).any (fun e => e.cls == 1 || e.cls == 4) && hasNonFinite t down g
      then s.overflow w else s
    (s.tapTile step t).noteSeason step role t g

end Sys2Proof.Machine
end

