-- ==== Sys2Proof/Machine/Furrow.lean ====
section
/-! DEFINITION. Sys2Proof/Machine/Furrow.lean: Furrow instructions (R65 to R97): issue, headland scan, maxima records, passes,
the scale repeat, spills and the ready output. -/

namespace Sys2Proof.Machine

/-! ### Operands along K -/

/-- A block of an operand: its exponent byte and its 32 integers (R35). -/
abbrev FieldBlock := Nat × List Int

/-- The blocks of a tile of width w by lines: rows for A, columns for B (R41, R42). -/
def operandLines (w : Nat) (t : Tile) (down : Bool) : List (List FieldBlock) :=
  let lines := if down then tileCols t else tileRows t
  let len := if down then tileRows t else tileCols t
  (tileBlocks w lines len t.payload).map fun l => l.map fun b => (b.1, b.2.map (ofPattern w))

/-- The lines of several tiles in ascending K order, joined. -/
def joinLines : List (List (List FieldBlock)) → List (List FieldBlock)
  | [] => []
  | [a] => a
  | a :: rest =>
    let b := joinLines rest
    a.zipIdx.map fun l => l.1 ++ nth [] b l.2

/-- The rows of the array that one A row takes (R67). -/
def rowSlices (wA : Nat) : Nat := ceilDiv wA 8

/-- The output rows that a pass can yield: 192, 96 at A-16 and 64 at A-24 (R67). -/
def rowLimit (d : FurrowDesc) : Nat := 192 / max (rowSlices d.wA) 1

/-- The A rows of an instruction, blocks in K order. -/
def aLines (d : FurrowDesc) (as : List Tile) : List (List FieldBlock) :=
  ((joinLines (as.map fun t => operandLines d.wA t false)).take (min d.rows 192)).map (·.take (d.k / 32))

/-- The B columns of an instruction, blocks in K order. -/
def bLines (d : FurrowDesc) (bs : List Tile) : List (List FieldBlock) :=
  ((joinLines (bs.map fun t => operandLines d.wB t true)).take 192).map (·.take (d.k / 32))

/-- Whether an instruction's figures lie where R36, R67, R70 and R75 put them. -/
def furrowInRange (d : FurrowDesc) : Bool :=
  has [4, 8, 16, 24] d.wA && has [4, 8, 12, 16, 20, 24] d.wB && 1 ≤ d.rows && d.rows ≤ rowLimit d &&
    d.k % 32 == 0 && 32 ≤ d.k && d.k ≤ 2 ^ 20 && d.kPass % 32 == 0 && 576 ≤ d.kPass && d.kPass ≤ 8192 && d.guard ≤ 24

/-- Whether an instruction with these operands has a result that the manual defines: its figures are in range, and its operands
are Field tiles of its widths that cover its rows and its K extent. What another instruction forms is not defined (R4), and its
sums and maxima are free values (log entry 143). -/
def furrowDefined (d : FurrowDesc) (as bs : List Tile) : Bool :=
  furrowInRange d && (as.all fun t => fmtOf t.tag.format == .field d.wA) && (bs.all fun t => fmtOf t.tag.format == .field d.wB) &&
    (aLines d as).length == d.rows && (aLines d as ++ bLines d bs).all fun l => l.length == d.k / 32

/-- The largest exponent byte of a line (R74). -/
def lineMax (l : List FieldBlock) : Nat := l.foldl (fun m b => max m b.1) 0

/-- Two lists of maxima combined byte by byte (R80). -/
def maxBytes (a b : List Nat) : List Nat :=
  (List.range (max a.length b.length)).map fun i => max (nth 0 a i) (nth 0 b i)

/-! ### Passes (R76) -/

/-- Whether a value lies in the 64-bit range of an accumulator (R85). -/
def in64 (v : Int) : Bool := decide (-(2 ^ 63 : Nat) ≤ v) && decide (v < (2 ^ 63 : Nat))

/-- One product aligned on the frame with shift s, rounded to nearest even (R76). -/
def alignProduct (p s : Int) : Int := if 0 ≤ s then p * (2 ^ s.toNat : Nat) else roundShift p (-s).toNat .rne 0

/-- The products of one block pair added to an accumulator; none on an overflow (R76, R85). -/
def blockSum (s : Int) : List (Int × Int) → Int → Option Int
  | [], acc => some acc
  | (a, b) :: l, acc =>
    let q := alignProduct (a * b) s
    if in64 q && in64 (acc + q) then blockSum s l (acc + q) else none

/-- One accumulator over the blocks of a pass; none on an overflow (R76). -/
def cellSum (xaMax xbMax : Nat) (g : Int) : List (FieldBlock × FieldBlock) → Int → Option Int
  | [], acc => some acc
  | (a, b) :: l, acc =>
    let s : Int := ((a.1 : Int) - xaMax) + ((b.1 : Int) - xbMax) + g
    (blockSum s (a.2.zip b.2) acc).bind (cellSum xaMax xbMax g l)

/-- The products of the present pass: the remainder in the last one (R70). -/
def passLength (r : FurrowRun) : Nat := min r.desc.kPass (r.desc.k - r.next)

/-- Whether an output is NaF: its row or column holds a void block (R78, R80). -/
def isNafCell (r : FurrowRun) (i j : Nat) : Bool := nth 0 r.xaMax i == 255 || nth 0 r.xbMax j == 255

/-- The accumulators of the present pass, NaF cells apart; none when any cell overflows (R76, R78). -/
def furrowPassSums (r : FurrowRun) (as bs : List Tile) : Option (List (List (Option Int))) :=
  let k0 := r.next / 32
  let n := passLength r / 32
  let g : Int := (r.desc.guard : Int) - 8 * (r.rep : Int)
  let al := (aLines r.desc as).map fun l => (l.drop k0).take n
  let bl := (bLines r.desc bs).map fun l => (l.drop k0).take n
  let cells := al.zipIdx.map fun a => bl.zipIdx.map fun b =>
    if isNafCell r a.2 b.2 then some none
    else (cellSum (nth 0 r.xaMax a.2) (nth 0 r.xbMax b.2) g (a.1.zip b.1) 0).map some
  if cells.all fun row => row.all (·.isSome) then some (cells.map fun row => row.map (·.getD none)) else none

/-- Accumulators of a pass whose result is not defined: one free value cut into 64-bit numbers. -/
def freeSums (r : FurrowRun) (v : Nat) : List (List (Option Int)) :=
  let rows := r.xaMax.length
  let cols := r.xbMax.length
  (List.range rows).map fun i => (List.range cols).map fun j =>
    if isNafCell r i j then none else some (ofPattern 64 (v / 2 ^ (64 * (i * cols + j)) % 2 ^ 64))

/-- The frame descriptor of an output (R75): a maximum of 0xFF gives 0. -/
def furrowFrames (r : FurrowRun) : List Int × List Int :=
  let f (w : Nat) (g : Nat) (x : Nat) : Int := if x = 255 then 0 else (x : Int) - 127 - ((w : Int) - 2) - g
  (r.xaMax.map (f r.desc.wA r.desc.guard), r.xbMax.map (f r.desc.wB 0))

/-! ### Cycles (R69, R71, R72) -/

/-- The cycles of a headland scan (R71). -/
def scanCycles (d : FurrowDesc) : Nat := ceilDiv ((d.rows + 192) * d.k) 2048 + 8

/-- The cycles t·K of so many products: wB/4 per product, half a cycle in dual-product mode (R69). -/
def productCycles (d : FurrowDesc) (products : Nat) : Nat :=
  if d.wA = 4 && d.wB = 4 then products / 2 else d.wB / 4 * products

/-! ### Issue, scan, records -/

/-- The state with a plot's Furrow instruction changed. -/
def State.setFurrow (s : State) (p : Nat) (r : Option FurrowRun) : State := s.mapPlot p fun pl => { pl with furrow := r }

/-- The state with the instruction at a plot's issue slot changed. -/
def State.setScan (s : State) (p : Nat) (r : Option FurrowRun) : State := s.mapPlot p fun pl => { pl with scan := r }

/-- An instruction that a fault stops: its output's ready bit stays clear, and the issue slot's wait on that bit holds (R73,
R84). -/
def stoppedRun (r : FurrowRun) : FurrowRun := { r with stopped := true, scanDone := true, recordsLeft := 0, shadow := none }

/-- The operands of an instruction read under the tag check (R84, R86, R141). -/
def State.furrowOperands (s : State) (p : Nat) (d : FurrowDesc) : State × Option (List Tile × List Tile) :=
  match s.readAll p d.bundle d.a with
  | (s, none) => (s, none)
  | (s, some as) =>
    match s.readAll p d.bundle d.b with
    | (s, none) => (s, none)
    | (s, some bs) => (s, some (as, bs))

/-- The wait of the issue slot ends when the previous output is ready, the scan is done and the records are here (R73): the
instruction enters the array, and its output's ready bit is cleared (R130). -/
def State.releaseFurrow (s : State) (p : Nat) : State :=
  match s.plotAt p with
  | none => s
  | some pl =>
    match pl.scan, pl.wait with
    | some r, some (.furrow _, _, _) =>
      if pl.furrow.isSome || !r.scanDone || r.recordsLeft != 0 then s
      else
        (s.setRegion p r.desc.out { s.regionAt p r.desc.out with ready := false }).mapPlot p fun q =>
          { q with scan := none, furrow := some { r with since := s.plotCycle }, wait := none }
    | _, _ => s

/-- FURROW_ISSUE (R70, R73): the instruction stands at the issue slot until the previous output is ready, its scan done and its
records here. -/
def furrowIssue (p : Nat) (d : FurrowDesc) (s : State) : State :=
  if (s.issuing p).isSome then
    (s.beginWait p (.furrow d)).setScan p (some { desc := d, since := s.plotCycle, recordsLeft := if d.split then d.holders else 0 })
  else s

/-- A maxima record of 384 B (R81). -/
def maximaBytes (xa xb : List Nat) : List Byte :=
  let fill (l : List Nat) : List Byte := (l.map (BitVec.ofNat 8)).take 192 ++ List.replicate (192 - l.length) 0
  fill xa ++ fill xb

/-- The template of a record for a tile: raw bytes of rows of 192 under the tile's identity (R81, R108). -/
def recordTmpl (id shard : W32) (bo : BitVec 40) (rows : Nat) : TagTemplate :=
  { tensorId := id, shard := shard, blockOffset := bo, format := 0x00, rowsM1 := BitVec.ofNat 8 (rows - 1) }

/-- Whether a record is one of a tile. -/
def forTile (id shard : W32) (bo : BitVec 40) (t : Tile) : Bool :=
  t.tag.tensorId == id && t.tag.shard == shard && t.tag.blockOffset == bo

/-- The records that have come for an instruction's output, and the others. -/
def recordsFor (d : FurrowDesc) (l : List Tile) : List Tile × List Tile := l.partition (forTile d.outTensor d.outShard d.outOffset)

/-- A record combined into an instruction's maxima (R80). -/
def takeRecord (r : FurrowRun) (t : Tile) : FurrowRun :=
  let xb := ((t.payload.drop 192).take 192).map (·.toNat)
  { r with recordsLeft := r.recordsLeft - 1, taken := r.taken + 1
           xaMax := maxBytes r.xaMax (((t.payload.take 192).map (·.toNat)).take r.desc.rows)
           xbMax := maxBytes r.xbMax (if r.xbMax.isEmpty then xb else xb.take r.xbMax.length) }

/-- The records that an instruction at the issue slot still waits for are taken from those that have come, each under the tag
check; one that fails it stops the instruction (R80, R81, R120). -/
def State.takeMaxima (s : State) (p : Nat) : State :=
  match s.plotAt p with
  | none => s
  | some pl =>
    match pl.scan with
    | none => s
    | some r =>
      let (mine, others) := recordsFor r.desc pl.maxima
      if !r.scanDone || r.recordsLeft = 0 || mine.isEmpty then s
      else
        let s := s.mapPlot p fun q => { q with maxima := mine.drop r.recordsLeft ++ others }
        let m := recordTmpl r.desc.outTensor r.desc.outShard r.desc.outOffset 2
        match s.checkAll p r.desc.bundle m (mine.take r.recordsLeft) with
        | (s, none) => s.setScan p (some (stoppedRun r))
        | (s, some l) => s.setScan p (some (l.foldl takeRecord r))

/-- A holder of a share sends its record once its scan is done and the records that it passes on with its own are here (R80): a
tile of 2 rows of 192 under the output's identity (DESIGN CHOICE, log entry 144). -/
def State.sendMaxima (s : State) (p : Nat) : State :=
  match s.plotAt p with
  | none => s
  | some pl =>
    match pl.scan with
    | none => s
    | some r =>
      if !r.desc.split || !r.scanDone || r.stopped || r.sent || r.taken < r.desc.below then s
      else
        let tag := s.outTag pl r.desc.outTensor r.desc.outShard r.desc.outOffset 0x00 2 192 .none
        s.mapPlot p fun q => { q with scan := some { r with sent := true }
                                      sendQueue := q.sendQueue ++
                                        [(sealTile { tag := tag, payload := maximaBytes r.xaMax r.xbMax }, 0)] }

/-- What follows when the scan is done or a record has come: the holder's own record, sent before or after those that it passes on,
the records, and the release. -/
def State.settleScan (s : State) (p : Nat) : State := (((s.sendMaxima p).takeMaxima p).sendMaxima p).releaseFurrow p

/-- HEADLAND_SCAN_DONE (R71, R74, R80): the maxima over the K extent, at the cycle in which the scan ends. -/
def headlandScanDone (p : Nat) (s : State) : State :=
  if !s.runsAt p then s
  else match (s.plotAt p).bind (·.scan) with
    | none => s
    | some r =>
      if r.scanDone then s
      else
        let s := s.upToPlot (r.since + BitVec.ofNat 64 (scanCycles r.desc))
        match s.furrowOperands p r.desc with
        | (s, none) => (s.setScan p (some (stoppedRun r))).releaseFurrow p
        | (s, some (as, bs)) =>
          if furrowDefined r.desc as bs then
            (s.setScan p (some { r with scanDone := true, xaMax := (aLines r.desc as).map lineMax
                                        xbMax := (bLines r.desc bs).map lineMax })).settleScan p
          else
            let v := (leBytes 384 s.fresh).map (·.toNat)
            (s.useFree.setScan p (some { r with scanDone := true, xaMax := (v.take 192).take r.desc.rows
                                                xbMax := v.drop 192 })).settleScan p

/-- MAXIMA_RECORD (R80, R81): the record of another holder waits for the instruction that names it (R120). -/
def maximaRecord (p : Nat) (t : Tile) (s : State) : State :=
  if !s.runsAt p then s else (s.mapPlot p fun pl => { pl with maxima := pl.maxima ++ [t] }).settleScan p

/-! ### Passes, repeats, spills -/

/-- Whether a pass of an instruction is under way: it has not stopped, and products are left (R70, R84). -/
def passUnderWay (r : FurrowRun) : Bool := !r.stopped && decide (r.next < r.desc.k)

/-- Whether checksum mode is on in a plot's work: a replay after a hardware fault, or an audit step (R95). -/
def State.checksumOn (s : State) (pl : Plot) : Bool :=
  let w := s.whose pl
  let audit := s.num 0x604001
  (s.attemptOf w).checksum ||
    ((w == .step || w == .ahead) && audit != 0 && s.workStep pl % audit == 0)

/-- Unused spares that the two checks need (R93): rows by the A width, or 4 in dual-product mode, and 2 columns. -/
def spareRowsNeeded (d : FurrowDesc) : Nat := if d.wA = 4 && d.wB = 4 then 4 else (d.wA.max 8 + 8) / 8

/-- A fault attributed to a plot makes its site suspect (R358). -/
def State.suspectPlot (s : State) (p : Nat) : State :=
  match s.plotAt p with
  | some pl => s.mapRecovery fun r => { r with suspectSites := addOnce r.suspectSites pl.site }
  | none => s

/-- The checks of a clean pass in checksum mode: fallback passes counted, a mismatch faulted (R93, R94). -/
def State.checkPass (s : State) (p : Nat) (pl : Plot) (d : FurrowDesc) (ok : Bool) : State :=
  if !s.checksumOn pl then s
  else
    let s := if pl.spareRows < spareRowsNeeded d || pl.spareCols < 2 then s.bump 0x604003 else s
    if ok then s else (s.plotFault p 0x0B d.bundle 0xFFFF).suspectPlot p

/-- The accumulators of a pass over operands read from their regions: its sums, none when it overflows. -/
def passSums (s : State) (r : FurrowRun) (as bs : List Tile) : Option (List (List (Option Int))) :=
  if furrowDefined r.desc as bs then furrowPassSums r as bs else some (freeSums r s.fresh)

/-- The instruction after a clean pass: accumulators in the shadow registers, the next pass at rep 0, and the cycles of R72. -/
def passedRun (r : FurrowRun) (sums : List (List (Option Int))) : FurrowRun :=
  let t := productCycles r.desc (passLength r)
  { r with shadow := some (r.rep, sums), next := r.next + passLength r, rep := 0
           since := r.since + BitVec.ofNat 64 (max t 288), copied := r.since + BitVec.ofNat 64 (t + 384) }

/-- FURROW_PASS (R72, R76, R82): a pass without an overflow moves its accumulators into the shadow registers, once these are
free, and the next pass begins at rep 0 (R87). An operand that fails its tag check stops the instruction (R84, R97). -/
def furrowPass (p : Nat) (checksumOk : Bool) (s : State) : State :=
  if !s.runsAt p then s
  else match s.plotAt p with
    | none => s
    | some pl =>
      match pl.furrow with
      | none => s
      | some r =>
        if !passUnderWay r || r.shadow.isSome then s
        else match s.furrowOperands p r.desc with
          | (s, none) => s.setFurrow p (some (stoppedRun r))
          | (s, some (as, bs)) =>
            match passSums s r as bs with
            | none => s
            | some sums =>
              let s := if furrowDefined r.desc as bs then s else s.useFree
              let q := passedRun r sums
              ((s.upToPlot q.copied).setFurrow p (some q)).checkPass p pl r.desc checksumOk

/-- PASS_OVERFLOW (R85 to R88): a pass whose sums overflow repeats with rep + 1, while an earlier pass may still drain (R97); at
rep 3 the instruction faults. Operands are read again (R86). -/
def passOverflow (p : Nat) (s : State) : State :=
  if !s.runsAt p then s
  else match s.plotAt p with
    | none => s
    | some pl =>
      match pl.furrow with
      | none => s
      | some r =>
        if !passUnderWay r then s
        else match s.furrowOperands p r.desc with
          | (s, none) => s.setFurrow p (some (stoppedRun r))
          | (s, some (as, bs)) =>
            if furrowDefined r.desc as bs && (furrowPassSums r as bs).isSome then s
            else if r.rep = 3 then
              ((s.setFurrow p (some (stoppedRun r))).plotFault p 0x0C r.desc.bundle 0xFFFF).suspectPlot p
            else
              let s := (s.setFurrow p (some { r with rep := r.rep + 1, since := s.plotCycle + 12 })).bump 0x303001
              s.mapWhose (s.whose pl) fun a => { a with repeats := a.repeats + 1 }

/-- The FWP tile of a spill: each value shifted left by 8 × rep bits (R82). -/
def spillTile (r : FurrowRun) (rep : Nat) (sums : List (List (Option Int))) : FwpTile :=
  let f := furrowFrames r
  { rows := sums.length, cols := (sums.head?.map (·.length)).getD 0
    vals := sums.map fun row => row.map fun v => v.elim naf (· * (2 ^ (8 * rep) : Nat)), rowFrame := f.1, colFrame := f.2 }

/-- A full-width issue held by a spill is due again (R105); its instruction is given. -/
def heldFullWidth (pl : Plot) : Option FullWidthDesc :=
  match pl.wait with
  | some (.fullWidth d, _, _) => some d
  | _ => none

/-- The output region of an instruction with a spill in it: written in fresh mode by the first spill, else added (R82, R83);
a width overflow is counted and is a numerical overflow (R44, R107). -/
def State.spillInto (s : State) (p : Nat) (pl : Plot) (r : FurrowRun) (old : Option Tile) (t : FwpTile) : State :=
  let d := r.desc
  let (v, exceeded) := match old with
    | some o => fwpAdd (fwpOf o) t
    | none => (t, 0)
  let tag := s.outTag pl d.outTensor d.outShard d.outOffset 0x20 t.rows t.cols .none
  let s := s.setRegion p d.out { tile := sealTile { tag := tag, payload := v.bytes }, ready := false }
  if exceeded = 0 then s else (s.bump 0x304001 exceeded).overflow (s.whose pl)

/-- The output FWP as an operand of a spill that adds into it (R83). -/
def outputRef (r : FurrowRun) (t : FwpTile) : TileRef :=
  { loc := r.desc.out
    tmpl := { tensorId := r.desc.outTensor, shard := r.desc.outShard, blockOffset := r.desc.outOffset, format := 0x20
              rowsM1 := BitVec.ofNat 8 (t.rows - 1), colsM1 := BitVec.ofNat 8 (t.cols - 1) } }

/-- SPILL (R82, R83): the shadow registers leave for the output FWP, in the cycles of R72. A spill that adds reads its FWP under
the tag check (R84, R141). -/
def spill (p : Nat) (s : State) : State :=
  if !s.runsAt p then s
  else match s.plotAt p with
    | none => s
    | some pl =>
      match pl.furrow with
      | none => s
      | some r =>
        match r.shadow with
        | none => s
        | some (rep, sums) =>
          let t := spillTile r rep sums
          let s := s.upToPlot (r.copied + BitVec.ofNat 64 (beats t.rows))
          let done : FurrowRun := { r with shadow := none, spilled := true }
          if r.spilled || r.desc.accumulate then
            match s.readOrFault p r.desc.bundle (outputRef r t) with
            | (s, none) => s.setFurrow p (some (stoppedRun r))
            | (s, some old) => (s.spillInto p pl r (some old) t).setFurrow p (some done)
          else (s.spillInto p pl r none t).setFurrow p (some done)

/-- FURROW_READY (R72, R73): after the last spill the output's ready bit is set, and a held Furrow issue may go on. -/
def furrowReady (p : Nat) (s : State) : State :=
  if !s.runsAt p then s
  else match s.plotAt p with
    | none => s
    | some pl =>
      match pl.furrow with
      | none => s
      | some r =>
        if r.stopped || r.shadow.isSome || !r.spilled || decide (r.next < r.desc.k) then s
        else
          let s := s.writeOutput p r.desc.out (s.regionAt p r.desc.out).tile .none r.desc.gidx r.desc.digestSlot
          (s.setFurrow p none).releaseFurrow p

def execFurrowIssue (plot : Nat) (d : FurrowDesc) (s : State) : Out := .next (furrowIssue plot d s)
def execHeadlandScanDone (plot : Nat) (s : State) : Out := .next (headlandScanDone plot s)
def execMaximaRecord (plot : Nat) (t : Tile) (s : State) : Out := .next (maximaRecord plot t s)
def execFurrowPass (plot : Nat) (checksumOk : Bool) (s : State) : Out := .next (furrowPass plot checksumOk s)
def execPassOverflow (plot : Nat) (s : State) : Out := .next (passOverflow plot s)
def execFurrowReady (plot : Nat) (s : State) : Out := .next (furrowReady plot s)

end Sys2Proof.Machine
end

