-- ==== Sys2Proof/Machine/FullWidth.lean ====
section
/-! DEFINITION. Sys2Proof/Machine/FullWidth.lean: full-width instructions (R105 to R111, R182, R197), frame records (R108), the
spill's release of a held full-width issue (R105), and the move slot (R130). -/

namespace Sys2Proof.Machine

/-! ### Frame records (R108, R120) -/

/-- The tile whose frame records an operation names. -/
def recordTile (o : FullWidthOp) : Option TagTemplate :=
  match o with
  | .sendFrames a | .encode a _ _ | .addBlocks a _ => some a.tmpl
  | _ => none

/-- The frame records of a tile that have come to a plot, the first `n` of them. -/
def recordsOf (pl : Plot) (n : Nat) (o : FullWidthOp) : List Tile :=
  (recordTile o).elim [] fun m => (pl.frames.filter (forTile m.tensorId m.shard m.blockOffset)).take n

/-- Whether every frame record that an instruction names has come (R120). -/
def recordsHere (pl : Plot) (d : FullWidthDesc) : Bool :=
  (recordTile d.op).isNone || d.records ≤ (recordsOf pl d.records d.op).length

/-- A tile's own frame record combined with received ones, by element-wise minimum (R108). -/
def combinedRecord (t : FwpTile) (l : List Tile) : List Byte := l.foldl (fun r x => minRecords r x.payload) (frameRecordBytes t)

/-- The frames that a record gives a tile. -/
def framesOf (t : FwpTile) (bs : List Byte) : List Int × List Int :=
  ((framesOfRecord bs).1.take t.rows, (framesOfRecord bs).2.take t.cols)

/-! ### Full-width operations -/

/-- The width in force for a reduction group: one step wider for every widening of the batch (R64, R161). -/
def widenedBy (w steps : Nat) : Nat :=
  match w, steps with
  | 48, 0 => 48
  | 48, 1 => 64
  | 64, 0 => 64
  | _, _ => 96

/-- The format code of FW-w (R46). -/
def fwCode (w : Nat) : BitVec 8 := if w = 48 then 0x21 else if w = 64 then 0x22 else 0x23

/-- Widenings of a group in an attempt. -/
def wideningsOf (a : Attempt) (group : Nat) : Nat := ((a.widened.find? fun x => x.1 == group).map (·.2)).getD 0

/-- What FW-w blocks of a group met goes into the attempt (R197): a numerical overflow, or a width overflow of the group. -/
def State.noteBlocks (s : State) (w : Whose) (group : Nat) (l : List FwOutcome) : State :=
  let s := if l.contains .numerical then s.overflow w else s
  if l.contains .unformed then s.widthOverflow w group else s

/-- The output of a full-width instruction in FWP form. -/
def State.writeFwp (s : State) (p : Nat) (pl : Plot) (d : FullWidthDesc) (v : FwpTile) (exceeded : Nat) : State :=
  let tag := s.outTag pl d.outTensor d.outShard d.outOffset 0x20 v.rows v.cols d.outRole
  let s := if exceeded = 0 then s else (s.bump 0x304001 exceeded).overflow (s.whose pl)
  s.writeOutput p d.out { tag := tag, payload := v.bytes } d.outRole d.gidx d.digestSlot

/-- The elements that an exact reduction takes from a tile: those with a global index (R41, R110). -/
def State.reductionElems (s : State) (t : Tile) : List Elem :=
  (decodeTile t (blocksDown (s.tensorOf t.tag.tensorId))).flatMap id

/-- A tile of one I32 value: an exponent of an exact reduction (R110; log entry 142). -/
def exponentBytes (e : Int) : List Byte := leBytes 4 (toPattern 32 e)

/-- The exponent that a tile holds. -/
def exponentOf (t : Tile) : Int := ofPattern 32 (leNat (t.payload.take 4))

/-- Whether an operation has operands of the forms that its rule gives it, alike in shape where two tiles meet. What another one
forms is not defined (R4) and is a free value (log entry 143). -/
def fullWidthDefined (o : FullWidthOp) (a b : Tile) : Bool :=
  let fwp (t : Tile) : Bool := fmtOf t.tag.format == .fwp
  let alike := a.tag.rowsM1 == b.tag.rowsM1 && a.tag.colsM1 == b.tag.colsM1
  match o with
  | .add _ _ => fwp a && fwp b && alike
  | .sendFrames _ | .encode _ _ _ | .total _ _ => fwp a
  | .addBlocks _ _ => fwp a && alike && (match fmtOf b.tag.format with
    | .fw _ => true
    | _ => false)
  | .exponent _ _ | .exactPartial _ _ _ _ => true
  | .maxExponent _ _ => fmtOf a.tag.format == .i32 && fmtOf b.tag.format == .i32

/-- The width of a tile of FW-w blocks. -/
def fwWidth (t : Tile) : Nat := match fmtOf t.tag.format with
  | .fw n => n
  | _ => 48

/-- An output of a full-width instruction in another form than FWP. -/
def State.writeForm (s : State) (p : Nat) (pl : Plot) (d : FullWidthDesc) (format : BitVec 8) (rows cols : Nat) (bs : List Byte) :
    State :=
  s.writeOutput p d.out { tag := s.outTag pl d.outTensor d.outShard d.outOffset format rows cols d.outRole, payload := bs }
    d.outRole d.gidx d.digestSlot

/-- Q is delivered when a total is the global norm (R182). -/
def State.deliverQ (s : State) (w : Whose) (asQ : Bool) (q : Nat) : State :=
  if asQ then s.mapWhose w fun a => { a with q := BitVec.ofNat 32 q } else s

/-- A full-width operation on operands and frame records that passed the tag check. -/
def State.runFullWidth (s : State) (p : Nat) (pl : Plot) (d : FullWidthDesc) (ts records : List Tile) : State :=
  let w := s.whose pl
  let a := ts.head?.getD {}
  let b := (ts.drop 1).head?.getD {}
  let v := fwpOf a
  let bs := combinedRecord v records
  let f := framesOf v bs
  match d.op with
  | .add _ _ => let x := fwpAdd v (fwpOf b); s.writeFwp p pl d x.1 x.2
  | .sendFrames m =>
    let tag := s.outTag pl m.tmpl.tensorId m.tmpl.shard m.tmpl.blockOffset 0x00 4 192 .none
    s.mapPlot p fun q => { q with sendQueue := q.sendQueue ++ [(sealTile { tag := tag, payload := bs }, 0)] }
  | .encode _ width group =>
    let wd := widenedBy width (wideningsOf (s.attemptOf w) group)
    let e := fwEncodeTile wd v f.1 f.2
    (s.noteBlocks w group e.2).writeForm p pl d (fwCode wd) v.rows v.cols e.1
  | .addBlocks _ _ =>
    let r := fwDecodeTile (fwWidth b) v.rows v.cols b.payload f.1 f.2
    if r.2 != 0 then (s.bump 0x304003 r.2).plotFault p 0x03 d.bundle 0xFFFF
    else let x := fwpAdd v r.1; s.writeFwp p pl d x.1 x.2
  | .exponent _ squares => s.writeForm p pl d 0x31 1 1 (exponentBytes (ownExponent (ts.flatMap s.reductionElems) squares))
  | .maxExponent _ _ => s.writeForm p pl d 0x31 1 1 (exponentBytes (max (exponentOf a) (exponentOf b)))
  | .exactPartial inputs squares count ex =>
    let es := (ts.take inputs.length).flatMap s.reductionElems
    let e := if ex.isSome then exponentOf ((ts.drop inputs.length).head?.getD {}) else ownExponent es squares
    s.writeFwp p pl d (reduce es squares count e) 0
  | .total _ asQ =>
    let q := totalFp32 v (if asQ then 2 * ofPattern 32 (s.num 0x302001) else 0)
    (s.deliverQ w asQ q).writeForm p pl d 0x01 1 1 (leBytes 4 q)

/-- A full-width operation whose result the manual does not define: its output holds a free value (R4; log entry 143). -/
def State.runFreely (s : State) (p : Nat) (pl : Plot) (d : FullWidthDesc) : State :=
  let v := s.fresh
  let s := s.useFree
  let rows := min d.rows 192
  let cols := min d.cols 192
  match d.op with
  | .add _ _ | .addBlocks _ _ | .exactPartial _ _ _ _ =>
    s.writeFwp p pl d (FwpTile.read rows cols (leBytes (payloadSize .fwp rows cols false) v)) 0
  | .sendFrames m =>
    let tag := s.outTag pl m.tmpl.tensorId m.tmpl.shard m.tmpl.blockOffset 0x00 4 192 .none
    s.mapPlot p fun q => { q with sendQueue := q.sendQueue ++ [(sealTile { tag := tag, payload := leBytes 768 v }, 0)] }
  | .encode _ width group =>
    let wd := widenedBy width (wideningsOf (s.attemptOf (s.whose pl)) group)
    s.writeForm p pl d (fwCode wd) rows cols (leBytes (payloadSize (.fw wd) rows cols false) v)
  | .exponent _ _ | .maxExponent _ _ => s.writeForm p pl d 0x31 1 1 (leBytes 4 v)
  | .total _ asQ => (s.deliverQ (s.whose pl) asQ (v % 2 ^ 32)).writeForm p pl d 0x01 1 1 (leBytes 4 v)

/-- The operands of a full-width operation, in the order of reading. -/
def fullWidthOperands (o : FullWidthOp) : List TileRef :=
  match o with
  | .add a b | .addBlocks a b | .maxExponent a b => [a, b]
  | .sendFrames a | .encode a _ _ | .total a _ => [a]
  | .exponent l _ => l
  | .exactPartial l _ _ ex => l ++ ex.toList

/-- A full-width instruction runs: operands and the frame records that it names under the tag check, then its result (R105,
R108, R120). -/
def State.startFullWidth (s : State) (p : Nat) (d : FullWidthDesc) : State :=
  match s.readAll p d.bundle (fullWidthOperands d.op) with
  | (s, none) => s
  | (s, some ts) =>
    match s.plotAt p with
    | none => s
    | some pl =>
      let m := (recordTile d.op).getD {}
      match s.checkAll p d.bundle (recordTmpl m.tensorId m.shard m.blockOffset 4) (recordsOf pl d.records d.op) with
      | (s, none) => s
      | (s, some records) =>
        if fullWidthDefined d.op (ts.head?.getD {}) ((ts.drop 1).head?.getD {}) then s.runFullWidth p pl d ts records
        else s.runFreely p pl d

/-- Whether a spill is due: the shadow registers hold a pass (R105). -/
def spillDue (pl : Plot) : Bool := pl.furrow.any (·.shadow.isSome)

/-- Whether a full-width instruction may run: no spill is due, and its records are here (R105, R120). -/
def fullWidthMay (pl : Plot) (d : FullWidthDesc) : Bool := !spillDue pl && recordsHere pl d

/-- FULL_WIDTH_ISSUE (R105, R120): it waits while a spill is due or a record that it names has not come. -/
def fullWidthIssue (p : Nat) (d : FullWidthDesc) (s : State) : State :=
  match s.issuing p with
  | none => s
  | some pl => if fullWidthMay pl d then s.startFullWidth p d else s.beginWait p (.fullWidth d)

/-- A held full-width issue goes on once it may. -/
def State.releaseFullWidth (s : State) (p : Nat) : State :=
  match s.plotAt p with
  | none => s
  | some pl =>
    match heldFullWidth pl with
    | some d => if fullWidthMay pl d then (s.mapPlot p fun q => { q with wait := none }).startFullWidth p d else s
    | none => s

/-- SPILL, after which a held full-width issue may go on (R83, R105). -/
def spillAndRelease (p : Nat) (s : State) : State := (spill p s).releaseFullWidth p

/-- FRAME_RECORD (R108, R120): the record of another holder waits for the instructions that name it; each checks its tag. -/
def frameRecord (p : Nat) (t : Tile) (s : State) : State :=
  if !s.runsAt p then s else (s.mapPlot p fun pl => { pl with frames := pl.frames ++ [t] }).releaseFullWidth p

/-! ### The move slot (R121, R130) -/

/-- MOVE: a tile between Crib, tile buffers and the plot's own Loam slice; its check value travels with it (R138). What leaves a
tile buffer, which has no tag, gets the identity that the instruction names and a check value over it (DESIGN CHOICE, log entry
139). A tile moved for the step that runs ahead is speculative (R142). -/
def move (p : Nat) (d : MoveDesc) (s : State) : State :=
  match s.issuing p with
  | none => s
  | some _ =>
    match s.readOrFault p d.bundle d.src with
    | (s, none) => s
    | (s, some t) =>
      let t := match d.src.loc with
        | .buffer _ _ => sealTile t
        | _ => t
      s.setRegion p d.dst { tile := { t with tag := { t.tag with valid := true, spec := (s.plotAt p).any (speculative s) } }
                            ready := true }

def execFullWidthIssue (plot : Nat) (d : FullWidthDesc) (s : State) : Out := .next (fullWidthIssue plot d s)
def execFrameRecord (plot : Nat) (t : Tile) (s : State) : Out := .next (frameRecord plot t s)
def execSpill (plot : Nat) (s : State) : Out := .next (spillAndRelease plot s)
def execMove (plot : Nat) (d : MoveDesc) (s : State) : Out := .next (move plot d s)

end Sys2Proof.Machine
end

