-- ==== Sys2Proof/Machine/Chain.lean ====
section
/-! DEFINITION. Sys2Proof/Machine/Chain.lean: Tilth chains (R98 to R103, R109, R149): stages, conversions with their rounding
modes and random bits (R48, R49, R52), row reductions, latency, the output port, and completion. -/

namespace Sys2Proof.Machine

/-! ### Values in a chain (R99, R101) -/

/-- A value on its way through a chain: an FP32 pattern, or an element that only a convert stage takes (R98, R102), with whether
it comes out of a Field format (R57). -/
inductive Val where
  | f32 (a : Nat)
  | raw (e : Elem) (field : Bool)
  deriving DecidableEq, Repr

/-- A floating-point element widened exactly to FP32; signed zeros keep their sign (R99). -/
def widen (t : FpFormat) (v : Nat) : Nat :=
  match decodeFp t v with
  | .nan => qnan
  | .inf n => fp32.infBits n
  | .fin m f => if m = 0 then (if bitsOf (t.bits - 1) (t.bits - 1) v = 1 then 2 ^ 31 else 0) else fp32FromExact m f

/-- The loss scale as a chain uses it on exponents (R62): S added, removed, or left out. -/
def State.scaleShift (s : State) (u : ScaleUse) : Int :=
  let e := ofPattern 32 (s.num 0x302001)
  match u with
  | .keep => 0
  | .add => e
  | .remove => -e

/-- The exponent of an element moved (R62). -/
def shiftElem (by_ : Int) (e : Elem) : Elem :=
  match e with
  | .fin m f => .fin m (f + by_)
  | e => e

/-- The elements of an operand stream by rows (R98), block and frame exponents moved by the loss scale (R62). Integers and raw
bytes are no stream of a chain. -/
def streamVals (by_ : Int) (t : Tile) (down : Bool) : List (List Val) :=
  match fmtOf t.tag.format with
  | .fp f =>
    runs (tileCols t) ((unpack f.bits (tileRows t * tileCols t) t.payload).map fun v =>
      Val.f32 (if f.bits = 32 then v else widen f v))
  | .u32 | .i32 | .raw | .reserved => []
  | .field _ => (decodeTile t down).map fun r => r.map fun e => Val.raw (shiftElem by_ e) true
  | _ => (decodeTile t down).map fun r => r.map fun e => Val.raw (shiftElem by_ e) false

/-- A value as a decoded element. -/
def Val.elem : Val → Elem
  | .f32 a => decodeFp fp32 a
  | .raw e _ => e

/-- A sign modifier on an element that only a convert stage takes (R100): exact. -/
def signElem (m : SignMod) (e : Elem) : Elem :=
  match e with
  | .fin a f =>
    match m with
    | .none => .fin a f
    | .neg => .fin (-a) f
    | .abs => .fin a.natAbs f
    | .negAbs => .fin (-(a.natAbs : Int)) f
  | x => x

/-- A sign modifier on a value. -/
def signVal (m : SignMod) (v : Val) : Val :=
  match v with
  | .f32 a => .f32 (signMod m a)
  | .raw e f => .raw (signElem m e) f

/-! ### Conversions (R48, R52, R56) -/

/-- How a chain converts: its rounding mode and its stream key. -/
structure Conv where
  mode : Mode := .rne
  key : List Nat := []
  deriving DecidableEq, Repr

/-- The mode and the seed domain of a tensor class (R48). -/
def classMode (cls : Nat) : Mode × Nat :=
  if cls = 3 then (.sr, 1) else if cls = 5 then (.sr, 4) else (.rne, 0)

/-- The job seed (R53). -/
def State.jobSeed (s : State) : Nat := s.num 0x301001 + s.num 0x301002 * 2 ^ 64

/-- The conversion rule of a chain: the class of the tensor written, its domain and counter (R48, R49, R52, R204). The work of a
serving batch has no step number: its counter is the batch's ticket (DESIGN CHOICE, log entry 145). -/
def State.convOf (s : State) (pl : Plot) (d : ChainDesc) : Conv :=
  let cls := (s.tensorOf d.outTensor).elim 2 (·.cls.toNat)
  let (mode, dom) := classMode cls
  let eval := s.evaluating.isSome
  let domain := if eval then 3 else d.domain.elim dom (·.toNat)
  let counter := if eval then s.job.elim 0 (·.evalSeq) else if domain = 4 then s.num 0x50000F + 1 else s.workStep pl
  if mode = .sr then { mode := mode, key := streamKey s.jobSeed domain counter d.outTensor.toNat } else { mode := mode }

/-- The tally slot of a chain's conversions: the slot that the tensor table gives the tensor written (R56, R158), else the
chain's. -/
def State.tallySlotOf (s : State) (d : ChainDesc) : Option Nat :=
  match s.tensorOf d.outTensor with
  | some t => if t.tallySlot = 0xFFFF then none else some t.tallySlot.toNat
  | none => d.tallySlot

/-- The random value of an element (R51, R102). -/
def Conv.random (c : Conv) (idx : Nat) : Nat := if c.mode = .sr then seedbed c.key idx else 0

/-- The tally that counts give (R56). -/
def Counts.tally (c : Counts) : Tally := { zeros := c.zeros, saturations := c.saturations, nonfinite := c.nonfinite }

/-! ### Element-wise stages (R100) -/

/-- What one element leaves behind while it passes the stages: tally counts by slot, and whether a conversion out of a Field
format gave a non-finite value (R57). -/
structure Trail where
  tallies : List (Nat × Tally) := []
  numerical : Bool := false
  deriving DecidableEq, Repr

/-- Two trails. -/
def Trail.plus (a b : Trail) : Trail :=
  { tallies := a.tallies ++ b.tallies, numerical := a.numerical || b.numerical }

/-- The operands of an element's stages: the streams and the per-row value (R101). -/
structure Feed where
  x : Option Val := none
  y : Option Val := none
  v : Option Val := none
  consts : List W32 := []
  deriving DecidableEq, Repr

/-- One operand of a stage. -/
def operand (fd : Feed) (prev : Option Val) (a : ChainSrc × SignMod) : Option Val :=
  (match a.1 with
   | .p => prev
   | .x => fd.x
   | .y => fd.y
   | .v => fd.v
   | .const i => (fd.consts[i]?).map fun c : W32 => Val.f32 c.toNat).map (signVal a.2)

/-- All operands of a stage, when each exists. -/
def operands (fd : Feed) (prev : Option Val) : List (ChainSrc × SignMod) → Option (List Val)
  | [] => some []
  | a :: as => (operand fd prev a).bind fun v => (operands fd prev as).map (v :: ·)

/-- What a tally stage counts of its operand (R118): zeros, magnitudes at or above the threshold, non-finite values. A threshold
below 0 is at most every magnitude, and no magnitude is at least a NaN. -/
def tallyOf (a threshold : Nat) : Tally :=
  match decodeFp fp32 a with
  | .fin m _ =>
    let reaches : Bool := !isNan threshold && (negBit threshold || decide (threshold % 2 ^ 31 ≤ a % 2 ^ 31))
    if m = 0 then { zeros := 1 } else if reaches then { saturations := 1 } else {}
  | _ => { nonfinite := 1 }

/-- A convert stage into a floating-point format whose result the next stage sees as FP32 (R102). Between floating-point
formats, short of the end of the chain, it rounds to nearest (R48). Its counts go to the slot (R56, R464); a non-finite value out of
a Field format is a numerical overflow (R57). -/
def convertMid (c : Conv) (slot : Option Nat) (idx : Nat) (real last : Bool) (t : FpFormat) (v : Val) : Val × Trail :=
  let plain : Bool := match v with
    | .f32 _ => !last
    | .raw _ _ => false
  let (b, n) := if plain then convertOut t v.elem .rne 0 else convertOut t v.elem c.mode (c.random idx)
  let fresh := match v with
    | .raw _ field => field && real && n.nonfinite != 0
    | .f32 _ => false
  (.f32 (widen t b),
   { tallies := if real then (slot.map fun k => (k, Counts.tally n)).toList else [], numerical := fresh })

/-- One stage on one element; none where the manual gives the stage no such operand. -/
def runStage (c : Conv) (slot : Option Nat) (idx : Nat) (real last : Bool) (fd : Feed) (prev : Option Val) (st : Stage) :
    Option (Val × Trail) :=
  (operands fd prev st.args).bind fun l =>
    match st.op, l with
    | .mul, [.f32 a, .f32 b] => some (.f32 (fp32Mul a b), {})
    | .add, [.f32 a, .f32 b] => some (.f32 (fp32Add a b), {})
    | .fma, [.f32 a, .f32 b, .f32 d] => some (.f32 (fp32Fma a b d), {})
    | .min, [.f32 a, .f32 b] => some (.f32 (fp32Min a b), {})
    | .max, [.f32 a, .f32 b] => some (.f32 (fp32Max a b), {})
    | .cmpsel k, [.f32 a, .f32 b, .f32 d, .f32 e] => some (.f32 (canon (if condHolds k a b then d else e)), {})
    | .exp2, [.f32 a] => some (.f32 (fp32Exp2 a), {})
    | .log2, [.f32 a] => some (.f32 (fp32Log2 a), {})
    | .rsqrt, [.f32 a] => some (.f32 (fp32Rsqrt a), {})
    | .tally n k, [.f32 a] =>
      (fd.consts[k]?).map fun c =>
        (.f32 (canon a), { tallies := if real then [(n, tallyOf a (BitVec.toNat c))] else [] })
    | .convert f, [v] =>
      (match fmtOf f with
       | .fp t => some (convertMid c slot idx real last t v)
       | _ => none)
    | _, _ => none

/-- The stages of a chain on one element. -/
def runStages (c : Conv) (slot : Option Nat) (idx : Nat) (real lastToo : Bool) (fd : Feed) :
    Option Val → List Stage → Option (Option Val × Trail)
  | prev, [] => some (prev, {})
  | prev, st :: rest =>
    (runStage c slot idx real (lastToo && rest.isEmpty) fd prev st).bind fun r =>
      (runStages c slot idx real lastToo fd (some r.1) rest).map fun q => (q.1, r.2.plus q.2)

/-! ### The end of a chain -/

/-- How a chain ends: a stream of FP32 values, a conversion into a block format, or a row reduction. -/
inductive Ending where
  | stream
  | block (f : Fmt) (arg : ChainSrc × SignMod)
  | reduction (op : StageOp) (arg : ChainSrc × SignMod)
  deriving DecidableEq, Repr

/-- The element-wise stages and the ending of a chain (R101, R102). -/
def endingOf (d : ChainDesc) : List Stage × Ending :=
  match d.stages.getLast? with
  | none => ([], .stream)
  | some st =>
    let arg := (st.args.head?).getD (.p, .none)
    if d.reducing then (d.stages.dropLast, .reduction st.op arg)
    else match st.op with
      | .convert f =>
        (match fmtOf f with
         | .fp _ => (d.stages, .stream)
         | g => (d.stages.dropLast, .block g arg))
      | _ => (d.stages, .stream)

/-- One level of the pairwise tree of R109: neighbours are added, and an unpaired last result passes up. -/
def pairLevel (l : List Nat) : List Nat :=
  (runs 2 l).map fun p => match p with
    | [a, b] => fp32Add a b
    | p => p.head?.getD 0

/-- The pairwise tree of R109 over results in their order, by at most so many levels: over the lanes of a row, and over the
holders of a row, whose results add stages of chains combine in this order. -/
def pairTree : Nat → List Nat → Nat
  | 0, l => l.head?.getD 0
  | n + 1, l => match l with
    | [a] => a
    | l => pairTree n (pairLevel l)

/-- A fast reduction of a row: each lane adds its elements from +0 on, and the 128 lanes are combined pairwise (R109). -/
def fastSum (row : List Nat) : Nat :=
  pairTree 7 ((List.range 128).map fun l =>
    (row.zipIdx).foldl (fun a e => if e.2 % 128 = l then fp32Add a e.1 else a) 0)

/-- A row reduced by the last stage (R101, R109); min and max take the row's first element on. -/
def reduceRow (op : StageOp) (row : List Nat) : Option Nat :=
  match op with
  | .add => some (fastSum row)
  | .min => some (match row with
    | [] => qnan
    | a :: l => canon (l.foldl fp32Min a))
  | .max => some (match row with
    | [] => qnan
    | a :: l => canon (l.foldl fp32Max a))
  | _ => none

/-- One block of a conversion into a block format (R55, R61). -/
def convertBlock (f : Fmt) (mode : Mode) (b : BlockIn) : Option Block :=
  match f with
  | .field w => some (toField w mode b)
  | .mx t => some (toMx t mode b)
  | .mxint8 => some (toField 8 mode b)
  | _ => none

/-- The blocks of a tile copied between MXINT8 and Field-8 (R58). -/
def copyBlocks (t : Tile) (g : GlobalIndex) : List (List Block) :=
  let cols := tileCols t
  ((tileBlocks 8 (tileRows t) cols t.payload).zipIdx).map fun l => (l.1.zipIdx).map fun b =>
    copyBlock b.1.1 b.1.2 ((range (32 * b.2) 32).map fun j =>
      decide (j < cols) && decide (j < g.validCols) && decide (l.2 < g.validRows))

/-- Every element of a list is there. -/
def allSome {α : Type} : List (Option α) → Option (List α)
  | [] => some []
  | none :: _ => none
  | some a :: l => (allSome l).map (a :: ·)

/-- What a chain produces: its output payload, shape and place in the tensor, counts, and whether it met a numerical or a width
overflow. -/
structure ChainOut where
  payload : List Byte := []
  rows : Nat := 0
  cols : Nat := 0
  format : BitVec 8 := 1
  gidx : GlobalIndex := {}
  trail : Trail := {}
  blocks : List FwOutcome := []
  deriving DecidableEq, Repr

/-- Whether an element is no padding (R41). -/
def realAt (g : GlobalIndex) (i j : Nat) : Bool := decide (i < g.validRows) && decide (j < g.validCols)

/-- The place of a tile whose rows are another's columns. -/
def turned (g : GlobalIndex) : GlobalIndex :=
  { base := g.base, rowStride := g.colStride, colStride := g.rowStride, validRows := g.validCols, validCols := g.validRows }

/-- The output of a chain into a block format: the lane axis is the block axis (R102), so that a tensor whose blocks run down its
tiles' columns takes the streamed rows as its columns (R41, R42). -/
def blockOut (d : ChainDesc) (format : BitVec 8) (down : Bool) (bytes : List Byte) (trail : Trail) : ChainOut :=
  if down then { payload := bytes, rows := d.cols, cols := d.rows, format := format, gidx := turned d.gidx, trail := trail }
  else { payload := bytes, rows := d.rows, cols := d.cols, format := format, gidx := d.gidx, trail := trail }

/-- The elements of a tile in a full-width form by rows: an integer, or none for NaF, with its frame exponent (R43, R45). -/
def wideRows (t : Tile) : Option (List (List (Option Int × Int))) :=
  match fmtOf t.tag.format with
  | .fwp => some ((fwpRows t).map fun r => r.map fun e => (if e.1 = naf then none else some e.1, e.2))
  | .fw w => some ((fwBlocks w (tileRows t) (tileCols t) t.payload).map fun r =>
      (r.flatMap fun b => b.2.2.map fun m => (if b.2.1 then none else some m, b.1)).take (tileCols t))
  | _ => none

/-- A sign modifier on an integer (R100). -/
def signInt (m : SignMod) (a : Int) : Int :=
  match m with
  | .none => a
  | .neg => -a
  | .abs => a.natAbs
  | .negAbs => -(a.natAbs : Int)

/-- A conversion of a full-width tile into FW-w (R45, R100, R102), at the width that its group's widenings give (R64): a sign
modifier and the loss scale change neither of the other. -/
def wideOut (d : ChainDesc) (slot : Option Nat) (w : Nat) (m : SignMod) (by_ : Int) (rows : List (List (Option Int × Int))) :
    ChainOut :=
  let rows := rows.map fun r => r.map fun e => (e.1.map (signInt m), e.2 + by_)
  let e := fwEncodeRows w rows
  let n := ((rows.take d.gidx.validRows).flatMap fun r => (runs 32 (r.take d.gidx.validCols)).map fwCounts).foldl (·.plus ·) {}
  { payload := e.1, rows := rows.length, cols := (rows.head?.map (·.length)).getD 0, format := fwCode w, gidx := d.gidx
    trail := { tallies := (slot.map fun k => (k, Counts.tally n)).toList }, blocks := e.2 }

/-- The values of a chain's element-wise stages by rows, with what they left behind. -/
def chainRows (c : Conv) (d : ChainDesc) (slot : Option Nat) (x y : List (List Val)) (v : List Val) (stages : List Stage)
    (lastToo : Bool) : Option (List (List (Feed × Option Val)) × Trail) :=
  let cell (i j : Nat) : Option ((Feed × Option Val) × Trail) :=
    let fd : Feed := { x := (nth [] x i)[j]?, y := (nth [] y i)[j]?, v := v[i]?, consts := d.consts }
    (runStages c slot (indexAt d.gidx i j) (realAt d.gidx i j) lastToo fd none stages).map fun r => ((fd, r.1), r.2)
  let rows := (List.range d.rows).map fun i => allSome ((List.range d.cols).map fun j => cell i j)
  (allSome rows).map fun rs =>
    (rs.map fun r => r.map (·.1),
     rs.foldl (fun t r => r.foldl (fun t e => Trail.plus t e.2) t) {})

/-- The format code that a chain's last stage converts into, if that is a convert. -/
def lastConvert (d : ChainDesc) : Option (BitVec 8) :=
  match d.stages.getLast? with
  | some { op := .convert f, args := _ } => some f
  | _ => none

/-- The format of a chain's stream: that of its last convert, else FP32 (R98, R102). -/
def streamFormat (d : ChainDesc) : BitVec 8 :=
  match lastConvert d with
  | some f => (match fmtOf f with
    | .fp _ => f
    | _ => 0x01)
  | none => 0x01

/-- The payload of a stream of FP32 values in the output's format (R102). -/
def streamPayload (f : FpFormat) (rows : List (List Nat)) : List Byte :=
  pack f.bits (rows.flatMap fun r => r.map fun a => if f.bits = 32 then canon a else
    match decodeFp fp32 a with
    | .fin m _ => if m = 0 then (if negBit a then 2 ^ (f.bits - 1) else 0) else (convertOut f (decodeFp fp32 a) .rne 0).1
    | e => (convertOut f e .rne 0).1)

/-- The operands of a chain: its two streams as tiles, whether their blocks run down, and the per-row vector. -/
structure ChainIn where
  x : Option Tile := none
  y : Option Tile := none
  xDown : Bool := false
  yDown : Bool := false
  v : List Val := []
  scale : Int := 0
  deriving DecidableEq, Repr

/-- The stream that a bare conversion takes, and whether its blocks run down. -/
def ChainIn.stream (o : ChainIn) (a : ChainSrc) : Option (Tile × Bool) :=
  match a with
  | .x => o.x.map fun t => (t, o.xDown)
  | .y => o.y.map fun t => (t, o.yDown)
  | _ => none

/-- The blocks that R58 copies: a bare MXINT8 stream into Field-8 or the reverse, its blocks along the lanes and no loss scale on
it. -/
def copiedBlocks (d : ChainDesc) (o : ChainIn) (stages : List Stage) (f : Fmt) (a : ChainSrc × SignMod) : Option (List (List Block)) :=
  if !stages.isEmpty || a.2 != .none || d.scale != .keep then none
  else
    (o.stream a.1).bind fun t =>
      let g := fmtOf t.1.tag.format
      if !t.2 && ((g == .mxint8 && f == .field 8) || (g == .field 8 && f == .mxint8)) then some (copyBlocks t.1 d.gidx) else none

/-- The blocks of a conversion of computed rows into a block format (R55, R61, R102). -/
def convertedBlocks (c : Conv) (d : ChainDesc) (f : Fmt) (a : ChainSrc × SignMod) (rows : List (List (Feed × Option Val))) :
    Option (List (List Block)) :=
  allSome ((rows.zipIdx).map fun r =>
    (allSome ((r.1.zipIdx).map fun e => (operand e.1.1 e.1.2 a).map fun v =>
      ((if realAt d.gidx r.2 e.2 then some v.elem else none), c.random (indexAt d.gidx r.2 e.2)))).bind fun row =>
        allSome ((runs 32 row).map fun b => convertBlock f c.mode (b ++ List.replicate (32 - b.length) (none, 0))))

/-- A chain on its operands; none where the manual defines no such chain. `down` says that the blocks of the tensor written run
down its tiles. -/
def runChain (c : Conv) (d : ChainDesc) (slot : Option Nat) (width : Nat → Nat) (down : Bool) (o : ChainIn) : Option ChainOut :=
  let (stages, ending) := endingOf d
  let lastToo : Bool := match ending with
    | .stream => true
    | _ => false
  match ending with
  | .block (.fw w) (src, m) =>
    if stages.isEmpty then
      (o.stream src).bind fun t => (wideRows t.1).map fun rows => wideOut d slot (width w) m o.scale rows
    else none
  | ending =>
    let rowsOf (t : Option Tile) (down : Bool) : List (List Val) := t.elim [] fun t => streamVals o.scale t down
    (chainRows c d slot (rowsOf o.x o.xDown) (rowsOf o.y o.yDown) o.v stages lastToo).bind fun rs =>
      let f32s (a : ChainSrc × SignMod) : Option (List (List Nat)) :=
        allSome (rs.1.map fun r => allSome (r.map fun e => match operand e.1 e.2 a with
          | some (.f32 n) => some n
          | _ => none))
      match ending with
      | .stream =>
        (match fmtOf (streamFormat d) with
         | .fp f => (f32s (.p, .none)).map fun m =>
             { payload := streamPayload f m, rows := d.rows, cols := d.cols, format := streamFormat d, gidx := d.gidx, trail := rs.2 }
         | _ => none)
      | .reduction op a =>
        (f32s a).bind fun m => (allSome (m.map (reduceRow op))).map fun l =>
          { payload := pack 32 l, rows := d.rows, cols := 1, format := 1, gidx := d.gidx, trail := rs.2 }
      | .block f a =>
        ((copiedBlocks d o stages f a).or (convertedBlocks c d f a rs.1)).map fun bs =>
          let n := (bs.flatMap id).foldl (fun n b => Counts.plus n b.counts) {}
          blockOut d ((lastConvert d).getD 0x01) down (blockBytes f.bits bs)
            { tallies := rs.2.tallies ++ (slot.map fun k => (k, Counts.tally n)).toList
              numerical := rs.2.numerical || (bs.flatMap id).any (·.isVoid) }

/-- The output of a chain that the manual does not define (R4): its elements are a free value (log entry 143). -/
def freeChain (d : ChainDesc) (v : Nat) : ChainOut :=
  let code : BitVec 8 := match lastConvert d with
    | some f => (match fmtOf f with
      | .fp _ | .field _ | .mx _ | .mxint8 | .fw _ => f
      | _ => 0x01)
    | none => 0x01
  let rows := min d.rows 192
  let cols := if d.reducing then 1 else min d.cols 192
  { payload := leBytes (payloadSize (fmtOf code) rows cols false) v, rows := rows, cols := cols, format := code, gidx := d.gidx }

/-! ### Latency and the output port (R148, R149) -/

/-- The active latency profile is that of A1 (R150). -/
def State.profileA1 (s : State) : Bool :=
  let n := s.num 0x103003
  (if n = 0 then s.fuses.stepping.toNat else n) == 0xA1

/-- The latency of a stage (R148). `fromBlock` says that a convert takes a Field, MX or full-width form; one that also goes into
such a form counts the cycles of the conversion into it (DEDUCED, log entry 63). -/
def stageLatency (a1 fromBlock : Bool) (st : StageOp) : Nat :=
  match st with
  | .mul | .add => 3
  | .fma => 4
  | .min | .max | .cmpsel _ | .tally _ _ => 1
  | .exp2 => if a1 then 11 else 8
  | .log2 => if a1 then 12 else 9
  | .rsqrt => 6
  | .convert f => match fmtOf f with
    | .fp _ => if fromBlock then 4 else 2
    | _ => 5

/-- Whether a stage takes its first operand from a stream in a block or full-width form. -/
def fromBlock (d : ChainDesc) (st : Stage) : Bool :=
  let wide (r : Option TileRef) : Bool := r.any fun r => match fmtOf r.tmpl.format with
    | .fp _ => false
    | _ => true
  match st.args with
  | (.x, _) :: _ => wide d.x
  | (.y, _) :: _ => wide d.y
  | (.v, _) :: _ => wide (d.v.map (·.1))
  | _ => false

/-- The latency L of a chain (R149). -/
def chainLatency (a1 : Bool) (d : ChainDesc) : Nat :=
  8 + (d.stages.map fun st => stageLatency a1 (fromBlock d st) st.op).foldl (· + ·) 0 + (if d.reducing then 21 else 0)

/-- Whether two chains write the output port in one cycle. -/
def portsClash (a b : ChainRun) : Bool :=
  let (s1, n1) := portWindow a
  let (s2, n2) := portWindow b
  if reached s2 s1 then decide ((s2 - s1).toNat < n1) else decide ((s1 - s2).toNat < n2)

/-- The operands of a chain read under the tag check (R103, R141); none when one fails it. -/
def State.chainOperands (s : State) (p : Nat) (d : ChainDesc) : State × Option ChainIn :=
  match s.readAll p d.bundle (d.x.toList ++ d.y.toList ++ (d.v.map (·.1)).toList) with
  | (s, none) => (s, none)
  | (s, some ts) =>
    let nx := d.x.toList.length
    let ny := nx + d.y.toList.length
    let down (t : Option Tile) : Bool := t.any fun t => blocksDown (s.tensorOf t.tag.tensorId)
    let x := (ts.take nx).head?
    let y := ((ts.take ny).drop nx).head?
    let vt := (ts.drop ny).head?
    let v := (vt.elim [] fun t => (streamVals 0 t (down vt)).flatMap id).drop (d.v.elim 0 (·.2))
    (s, some { x := x, y := y, xDown := down x, yDown := down y, v := v.take 192, scale := s.scaleShift d.scale })

/-- The result of a chain on its operands, and the state after it: a chain that the manual does not define uses a free value. -/
def State.chainResult (s : State) (pl : Plot) (d : ChainDesc) (o : ChainIn) : State × ChainOut :=
  let width (w : Nat) : Nat := widenedBy w (wideningsOf (s.attemptOf (s.whose pl)) d.group)
  match runChain (s.convOf pl d) d (s.tallySlotOf d) width (blocksDown (s.tensorOf d.outTensor)) o with
  | some r => (s, r)
  | none => (s.useFree, freeChain d s.fresh)

/-- The chain that an issue puts in flight. -/
def State.chainRun (s : State) (pl : Plot) (d : ChainDesc) (o : ChainOut) : ChainRun :=
  let tag := s.outTag pl d.outTensor d.outShard d.outOffset o.format o.rows o.cols d.outRole
  { desc := { d with gidx := o.gidx }, issue := s.plotCycle, latency := chainLatency s.profileA1 d, beats := beats d.rows
    result := sealTile { tag := tag, payload := o.payload }, tallies := o.trail.tallies, numerical := o.trail.numerical }

/-- A chain in flight; two that write the output port in one cycle are a contract fault, and neither write lands (R167). -/
def State.launchChain (s : State) (p : Nat) (r : ChainRun) : State :=
  let clash := (s.plotAt p).elim false fun pl => pl.chains.any (portsClash r)
  let s := s.mapPlot p fun pl =>
    { pl with chains := (pl.chains.map fun q => if portsClash r q then { q with dead := true } else q) ++
        [{ r with dead := clash }] }
  if clash then s.plotFault p 0x08 r.desc.bundle 0xFFFF else s

/-- CHAIN_ISSUE (R101, R149): operands are read, and the result stands in the output port's cycles. -/
def chainIssue (p : Nat) (d : ChainDesc) (s : State) : State :=
  match s.issuing p with
  | none => s
  | some pl =>
    match s.chainOperands p d with
    | (s, none) => s
    | (s, some i) =>
      let (s, o) := s.chainResult pl d i
      (s.noteBlocks (s.whose pl) d.group o.blocks).launchChain p (s.chainRun pl d o)

/-- The tally counters that a contribution brings to their largest value (0x3040.02). -/
def newSticks (before after : SMap Tally) : Nat :=
  let count (m : SMap Tally) : Nat := (m.map fun t => Tally.stuck t.2).foldl (· + ·) 0
  count after - count before

/-- The cycle in which a chain sets its ready bit (R149). -/
def chainEnd (r : ChainRun) : Cycle := r.issue + BitVec.ofNat 64 (r.latency + r.beats)

/-- Of two chains the one that ends first, the older at a tie. -/
def endsFirst (a b : ChainRun) : ChainRun := if reached (chainEnd b) (chainEnd a) then a else b

/-- The chain in flight that ends next. -/
def nextDone (l : List ChainRun) : Option ChainRun :=
  match l with
  | [] => none
  | r :: rest => some (rest.foldl endsFirst r)

/-- CHAIN_DONE (R149): the chain that ends next has written its last element; region, digest, tallies and overflow count. -/
def chainDone (p : Nat) (s : State) : State :=
  if !s.runsAt p then s
  else match s.plotAt p with
    | none => s
    | some pl =>
      match nextDone pl.chains with
      | none => s
      | some r =>
        let s := (s.upToPlot (chainEnd r)).mapPlot p fun q => { q with chains := q.chains.erase r }
        if r.dead then s
        else
          let d := r.desc
          let s := (s.writeOutput p d.out r.result d.outRole d.gidx d.digestSlot).mapPlot p (addTallies r.tallies)
          if r.numerical then s.overflow (s.whose pl) else s

def execChainIssue (plot : Nat) (d : ChainDesc) (s : State) : Out := .next (chainIssue plot d s)
def execChainDone (plot : Nat) (s : State) : Out := .next (chainDone plot s)

end Sys2Proof.Machine
end

