-- ==== Sys2Proof/Machine/Winnow.lean ====
section
/-! DEFINITION. Sys2Proof/Machine/Winnow.lean: the arithmetic of seasons: Winnow's pseudo-gradients, keys and threshold (R301, R302),
Field-4 blocks and residuals (R303), bales and their digests (R304, R305), the merge sum (R311), mean_factor and rosters
(R307 to R309), and the erasure code (R293). -/

namespace Sys2Proof.Machine

/-! ### Pseudo-gradients and keys (R301, R302) -/

/-- A block of FWP form: the integers of its elements and their one frame. -/
structure FrameBlock where
  m : List Int := []
  f : Int := 0
  deriving DecidableEq, Repr

/-- The finite value of an FP32 word as (m, f); none for a non-finite one. -/
def fp32Term (w : W32) : Option (Int × Int) :=
  match decodeFp fp32 w.toNat with
  | .fin m f => some (m, f)
  | _ => none

/-- The largest exponent of the nonzero terms of a block. -/
def topTerm (ts : List (List (Int × Int))) : Option Int :=
  (ts.flatMap id).foldl (fun best t =>
    if t.1 = 0 then best else some (best.elim (msb t.1 + t.2) (max (msb t.1 + t.2)))) none

/-- The pseudo-gradient of a block on its frame, from the terms of each element: anchor, negated snapshot, residual. A block whose
terms are all zero has no frame of its own, and takes a given one. -/
def winnowBlock (zeroFrame : Int) (ts : List (List (Int × Int))) : FrameBlock :=
  match topTerm ts with
  | none => { m := ts.map fun _ => 0, f := zeroFrame }
  | some e =>
    let f := e - 124
    { m := ts.map fun t => t.foldl (fun d x => d + alignTo x.1 x.2 f .rne 0) 0, f := f }

/-- A block's 24-bit key (R302). -/
def blockKey (b : FrameBlock) : Nat :=
  let energy := b.m.foldl (fun n d => n + d.natAbs * d.natAbs) 0
  if energy = 0 then 0
  else
    let top := Nat.log2 energy
    let low := (if 12 ≤ top then energy / 2 ^ (top - 12) else energy * 2 ^ (12 - top)) % 4096
    (2 * b.f + top + 1024).toNat * 4096 + low

/-- The largest bin below `n` such that at least K blocks lie in it or above, and how many of the K lie in it: the counts of a
histogram by bin. -/
def topBin : Nat → Nat → SMap Nat → Option (Nat × Nat)
  | 0, _, _ => none
  | n + 1, k, h =>
    let c := SMap.get 0 h n
    if k ≤ c then some (n, k) else topBin n (k - c) h

/-- A histogram of bins. -/
def histogram (l : List Nat) : SMap Nat := l.foldl (fun h b => SMap.set 0 h b (SMap.get 0 h b + 1)) []

/-- Two histograms summed. -/
def addHistogram (a b : SMap Nat) : SMap Nat := b.foldl (fun h e => SMap.set 0 h e.1 (SMap.get 0 h e.1 + e.2)) a

/-- The blocks that Winnow keeps of a tensor, at least (R302). -/
def keepCount (keepN blocks : Nat) : Nat := ceilDiv (keepN * blocks) 256

/-! ### Field-4 and residuals (R303) -/

/-- A kept block: its exponent byte and its elements as integers. -/
structure KeptBlock where
  x : Nat := 0
  e : List Int := []
  deriving DecidableEq, Repr

/-- A block converted to Field-4 under SR (R55, R303), its elements standing from a global index on; none for a void block. -/
def packBlock (key : List Nat) (first : Nat) (b : FrameBlock) : Option KeptBlock :=
  let r := toField 4 .sr (b.m.zipIdx.map fun d => (some (Elem.fin d.1 b.f), seedbed key (first + d.2)))
  if r.isVoid then none else some { x := r.x, e := r.e.map (ofPattern 4) }

/-- The residual of a block: the pseudo-gradient less what a kept block sends, exactly (R303). -/
def residualBlock (b : FrameBlock) (k : Option KeptBlock) : List (Int × Int) :=
  match k with
  | none => b.m.map fun d => (d, b.f)
  | some k => (b.m.zip k.e).map fun p => exactAdd p.1 b.f (-p.2) ((k.x : Int) - 129)

/-! ### Bales (R304, R305) -/

/-- The blocks of a range (R304). -/
def rangeBlocks : Nat := 131072

/-- Bytes padded with zeros to a multiple of 64. -/
def pad64 (l : List Byte) : List Byte := l ++ List.replicate ((64 - l.length % 64) % 64) 0

/-- A bale body of the kept blocks of a range, by block number in the range, in order (R304). -/
def baleBody (ks : List (Nat × KeptBlock)) : List Byte :=
  let bits := ks.foldl (fun v k => v ||| 2 ^ k.1) 0
  leBytes (rangeBlocks / 8) bits ++ pad64 (ks.map fun k => BitVec.ofNat 8 k.2.x) ++
    ks.flatMap fun k => pack 4 (k.2.e.map (toPattern 4))

/-- The first 16 bytes of SHAKE256 as a number. -/
def digest128 (bs : List Byte) : BitVec 128 := BitVec.ofNat 128 (leNat (shake256 16 bs))

/-- The bale ID (R305). -/
def baleId (h : BaleHeader) : W64 := BitVec.ofNat 64 (h.part % 2 ^ 24 + h.baleSeason % 2 ^ 24 * 2 ^ 24 + h.team % 2 ^ 16 * 2 ^ 48)

/-- The 64 bytes of a bale header (R305). -/
def baleHeaderBytes (b : Bale) : List Byte :=
  let h := b.header
  leBytes 64 ((baleId h).toNat + h.keyPrefix.toNat * 2 ^ 64 + (if h.late then 1 else 0) * 2 ^ 128 + 0x10 * 2 ^ 136 +
    h.team % 2 ^ 16 * 2 ^ 144 + h.part % 2 ^ 32 * 2 ^ 160 + h.baleSeason % 2 ^ 32 * 2 ^ 192 + h.tensorId.toNat * 2 ^ 224 +
    h.span % 2 ^ 24 * 2 ^ 256 + h.firstBlock % 2 ^ 40 * 2 ^ 280 + h.keptBlocks % 2 ^ 32 * 2 ^ 320 +
    b.body.length % 2 ^ 32 * 2 ^ 352 + h.bodyDigest.toNat * 2 ^ 384)

/-- A bale read from the bytes of its object (R305). -/
def baleOfBytes (bs : List Byte) : Bale :=
  let v := leNat (bs.take 64)
  { header :=
      { bodyDigest := BitVec.ofNat 128 (v / 2 ^ 384), keptBlocks := bitsOf 351 320 v, firstBlock := bitsOf 319 280 v
        span := bitsOf 279 256 v, tensorId := BitVec.ofNat 32 (v / 2 ^ 224), baleSeason := bitsOf 223 192 v
        part := bitsOf 191 160 v, team := bitsOf 159 144 v, late := bitsOf 135 128 v == 1
        keyPrefix := BitVec.ofNat 64 (v / 2 ^ 64) }
    body := (bs.drop 64).take (bitsOf 383 352 v) }

/-- The blocks that a bale's bitmap sets, in order. -/
def baleBlocks (b : Bale) : List Nat :=
  let v := leNat (b.body.take (rangeBlocks / 8))
  (List.range rangeBlocks).filter v.testBit

/-- The exponent bytes of a bale's kept blocks. -/
def baleExponents (b : Bale) : List Nat := ((b.body.drop (rangeBlocks / 8)).take (baleBlocks b).length).map (·.toNat)

/-- The kept blocks of a bale, each with its global block index (R304). -/
def baleContent (b : Bale) : List (Nat × KeptBlock) :=
  let bl := baleBlocks b
  let runs16 := runs 16 (b.body.drop (rangeBlocks / 8 + (bl.length + 63) / 64 * 64))
  (bl.zip ((baleExponents b).zip runs16)).map fun p =>
    (b.header.firstBlock + p.1, { x := p.2.1, e := (unpack 4 32 p.2.2).map (ofPattern 4) })

/-- Whether a bale verifies (R305). -/
def baleVerifies (b : Bale) : Bool :=
  digest128 b.body == b.header.bodyDigest && (baleBlocks b).length == b.header.keptBlocks &&
    (baleExponents b).all (· != 255)

/-- The set digest over the parts of a bale set in part order (R305). -/
def setDigest (parts : List Bale) : BitVec 128 := digest128 (parts.flatMap fun b => leBytes 16 b.header.bodyDigest.toNat)

/-! ### The merge (R309, R311) -/

/-- ḡ before the mean factor, of one element: what the entries that hold it say, as (element, unit exponent) (R311). -/
def mergeElement (es : List (Int × Int)) : Nat :=
  match es with
  | [] => 0
  | e :: _ =>
    let f := es.foldl (fun m x => max m x.2) e.2 - 115
    fp32FromExact (es.foldl (fun g x => g + alignTo x.1 x.2 f .rne 0) 0) f

/-- mean_factor: 1 ÷ Σ 2^−σ rounded to FP32, and 1.0 for a roster with no entries (R309). -/
def meanFactor (sigmas : List Nat) : W32 :=
  let n := sigmas.foldl (fun n x => n + 2 ^ (256 - x)) 0
  if n = 0 then 0x3F800000
  else
    let num := 2 ^ 600
    let q := num / n
    BitVec.ofNat 32 (fp32Round false (2 * q + (if num % n = 0 then 0 else 1) : Nat) (256 - 601))

/-! ### Rosters (R307 to R309) -/

/-- A roster entry's 32 bytes (R308). -/
def rosterEntryBytes (e : RosterEntry) : List Byte :=
  leBytes 32 ((if e.late then 1 else 0) * 2 ^ 32 + e.sigma % 2 ^ 8 * 2 ^ 40 + e.team % 2 ^ 16 * 2 ^ 48 +
    e.baleCount % 2 ^ 32 * 2 ^ 64 + e.baleSeason % 2 ^ 32 * 2 ^ 96 + e.setDigest.toNat * 2 ^ 128)

/-- A roster's header and entries, which its signature covers (R307). -/
def rosterBytes (r : Roster) : List Byte :=
  leBytes 128 (r.entries.length * 2 ^ 480 + r.successorIndex % 2 ^ 8 * 2 ^ 520 + r.wardenTeam % 2 ^ 16 * 2 ^ 528 +
    r.generation % 2 ^ 32 * 2 ^ 544 + r.season % 2 ^ 32 * 2 ^ 576 + r.meanFactor.toNat * 2 ^ 608 +
    r.deadline % 2 ^ 64 * 2 ^ 640 + r.anchorDigest.toNat * 2 ^ 704 + r.keyPrefix.toNat * 2 ^ 768 +
    r.parentDigest.toNat * 2 ^ 896) ++ r.entries.flatMap rosterEntryBytes

/-- A roster entry read from its bytes (R308). -/
def rosterEntryOf (bs : List Byte) : RosterEntry :=
  let v := leNat bs
  { setDigest := BitVec.ofNat 128 (v / 2 ^ 128), baleSeason := bitsOf 127 96 v, baleCount := bitsOf 95 64 v, team := bitsOf 63 48 v
    sigma := bitsOf 47 40 v, late := bitsOf 39 32 v == 1 }

/-- The bytes of a roster object, from its first stripe (R307). -/
def rosterSize (bs : List Byte) : Nat := 128 + 32 * bitsOf 511 480 (leNat (bs.take 128)) + 1280

/-- A roster read from the bytes of its object (R307). -/
def rosterOf (bs : List Byte) (signatureOk : Bool) : Roster :=
  let v := leNat (bs.take 128)
  { parentDigest := BitVec.ofNat 128 (v / 2 ^ 896), keyPrefix := BitVec.ofNat 128 (v / 2 ^ 768)
    anchorDigest := BitVec.ofNat 64 (v / 2 ^ 704), deadline := bitsOf 703 640 v, meanFactor := BitVec.ofNat 32 (v / 2 ^ 608)
    season := bitsOf 607 576 v, generation := bitsOf 575 544 v, wardenTeam := bitsOf 543 528 v
    successorIndex := bitsOf 527 520 v, entries := (runs 32 ((bs.drop 128).take (32 * bitsOf 511 480 v))).map rosterEntryOf
    digest := digest128 bs, signatureOk := signatureOk }

/-- Whether an entry stands before another in a roster (R308). -/
def entryBefore (a b : RosterEntry) : Bool :=
  let k (e : RosterEntry) : Nat := (e.team * 2 ^ 32 + e.baleSeason) * 2 + (if e.late then 1 else 0)
  decide (k a < k b)

/-- Whether a set is chosen before another when more than 512 are eligible (R309). -/
def chosenBefore (a b : RosterEntry) : Bool :=
  let k (e : RosterEntry) : Nat := ((e.sigma * 2 + (if e.late then 1 else 0)) * 2 ^ 16 + e.team) * 2 ^ 32 + e.baleSeason
  decide (k a < k b)

/-- An entry put into its place in an order. -/
def insertEntry (before : RosterEntry → RosterEntry → Bool) (e : RosterEntry) : List RosterEntry → List RosterEntry
  | [] => [e]
  | x :: l => if before e x then e :: x :: l else x :: insertEntry before e l

/-- Entries in an order. -/
def sortEntries (before : RosterEntry → RosterEntry → Bool) (l : List RosterEntry) : List RosterEntry :=
  l.foldl (fun acc e => insertEntry before e acc) []

/-- Whether the entries of a roster rise strictly. -/
def entriesRise : List RosterEntry → Bool
  | a :: b :: l => entryBefore a b && entriesRise (b :: l)
  | _ => true

/-- The staleness of a set in roster s, when s may name it (R309). -/
def staleness (limit s baleSeason : Nat) (late : Bool) : Option Nat :=
  if s < baleSeason then none
  else if late then some (min (s - baleSeason) limit)
  else if limit < s - baleSeason then none
  else some (s - baleSeason)

/-- Whether a roster passes a team's checks: signature, season key, mean_factor, order and naming limits (R309; log entry 159). -/
def State.rosterOk (s : State) (r : Roster) : Bool :=
  r.signatureOk && leBytes 16 r.keyPrefix.toNat == fit 16 (s.oct 0x500012) && r.meanFactor == meanFactor (r.entries.map (·.sigma)) &&
    entriesRise r.entries && r.entries.length ≤ 512 &&
    r.entries.all fun e => staleness (s.num 0x500009) r.season e.baleSeason e.late == some e.sigma

/-! ### The erasure code (R293) -/

/-- The bytes of a chunk. -/
def chunkBytes : Nat := 8192

/-- A chunk padded with zeros to its full length. -/
def padChunk (l : List Byte) : List Byte := l ++ List.replicate (chunkBytes - l.length) 0

/-- The coefficient c(i, j) of parity chunk i and data chunk j (R293). -/
def cauchy (m i j : Nat) : Nat := Gf.inv (i ^^^ (m + j))

/-- A chunk scaled by a coefficient and added to another. -/
def addScaled (c : Nat) (acc l : List Byte) : List Byte :=
  (acc.zip l).map fun p => p.1 ^^^ BitVec.ofNat 8 (Gf.mul c p.2.toNat)

/-- Parity chunk i of a stripe's data chunks. -/
def parityChunk (m i : Nat) (data : List (List Byte)) : List Byte :=
  data.zipIdx.foldl (fun acc d => addScaled (cauchy m i d.2) acc d.1) (List.replicate chunkBytes 0)

/-- Product in GF(2^8) of a list. -/
def gfProduct (l : List Nat) : Nat := l.foldl Gf.mul 1

/-- The inverse of the square part of the code matrix with rows `is` and columns `js`: its entry for data chunk j and parity
chunk i. -/
def cauchyInverse (m : Nat) (is js : List Nat) (j i : Nat) : Nat :=
  let y (j : Nat) : Nat := m + j
  let num := Gf.mul (gfProduct (is.map fun k => k ^^^ y j)) (gfProduct (js.map fun k => i ^^^ y k))
  let den := Gf.mul (i ^^^ y j)
    (Gf.mul (gfProduct ((is.filter (· != i)).map fun k => k ^^^ i)) (gfProduct ((js.filter (· != j)).map fun k => y k ^^^ y j)))
  Gf.mul num (Gf.inv den)

/-- The data chunks of a stripe of which at least k chunks have come: missing ones are rebuilt from parity (R293). -/
def rebuild (k m : Nat) (chunks : SMap (List Byte)) : List (List Byte) :=
  let js := (List.range k).filter fun j => (SMap.find? chunks j).isNone
  let is := ((List.range m).filter fun i => (SMap.find? chunks (k + i)).isSome).take js.length
  let known := (List.range k).filterMap fun j => (SMap.find? chunks j).map fun c => (j, c)
  let rest (i : Nat) : List Byte :=
    known.foldl (fun acc c => addScaled (cauchy m i c.1) acc c.2) (SMap.get [] chunks (k + i))
  (List.range k).map fun j => match SMap.find? chunks j with
    | some c => c
    | none => is.foldl (fun acc i => addScaled (cauchyInverse m is js j i) acc (rest i)) (List.replicate chunkBytes 0)

end Sys2Proof.Machine
end

