-- ==== Sys2Proof/Machine/Acre.lean ====
section
/-! DEFINITION. Sys2Proof/Machine/Acre.lean: the Acre transport: ports and endpoints (R285, R287), sessions and key epochs (R288 to
R292), objects, stripes, acknowledgements and NACKs (R293, R294), and pacing (R295). -/

namespace Sys2Proof.Machine

/-! ### Ports and endpoints (R285, R287, R321) -/

/-- The Acre port that traffic leaves by: the first one up (R322). -/
def State.acrePort (s : State) : Option Nat := (s.acre.portUp.zipIdx.find? (·.1)).map (·.2)

/-- The teams of endpoint_table with their endpoint counts (R321); `fuel` bounds the entries. -/
def endpointTeams : Nat → List Byte → List (Nat × Nat)
  | 0, _ => []
  | fuel + 1, bs =>
    if bs.length < 3 then []
    else
      let n := leNat ((bs.drop 2).take 1)
      (leNat (bs.take 2), n) :: endpointTeams fuel (bs.drop (3 + 18 * n))

/-- The address of a team's endpoint in endpoint_table (R321). -/
def endpointAddress (team endpoint : Nat) : Nat → List Byte → List Byte
  | 0, _ => []
  | fuel + 1, bs =>
    if bs.length < 3 then []
    else
      let n := leNat ((bs.drop 2).take 1)
      if leNat (bs.take 2) = team && endpoint < n then (bs.drop (3 + 18 * endpoint)).take 16
      else endpointAddress team endpoint fuel (bs.drop (3 + 18 * n))

/-- The way of a datagram that leaves by an Acre port for an endpoint of a team (R287): from the port's local address to the endpoint's,
on udp_port (DEDUCED, log entry 158). -/
def State.udpPath (s : State) (port team endpoint : Nat) : UdpPath :=
  { port := port, source := fit 16 (s.oct (0x501201 + port)), dest := endpointAddress team endpoint 256 (s.oct 0x501400)
    udpPort := s.num 0x501300 }

/-- The teams that this device can reach, with their endpoint counts (R321). -/
def State.endpoints (s : State) : List (Nat × Nat) := endpointTeams 256 (s.oct 0x501400)

/-- The other teams of the job that have an endpoint (R306). -/
def State.otherTeams (s : State) : List (Nat × Nat) :=
  s.endpoints.filter fun e => e.1 != s.num 0x500002 && e.2 != 0

/-- The counters 0x5040.01 to 0x5040.0C (R321). -/
def acreCount (n : Nat) : Nat := 0x504000 + n

/-! ### Headers and keys (R288, R290) -/

/-- The 40 bytes of an Acre header (R288). -/
def acreHeaderBytes (h : AcreHeader) : List Byte :=
  leBytes 40 (h.length % 2 ^ 16 * 2 ^ 64 + h.m % 2 ^ 4 * 2 ^ 94 + h.k % 2 ^ 6 * 2 ^ 98 + h.chunk % 2 ^ 8 * 2 ^ 104 +
    h.stripe % 2 ^ 16 * 2 ^ 112 + h.objectId.toNat * 2 ^ 128 + 2 ^ 196 + h.type.toNat * 2 ^ 200 +
    h.senderTeam.toNat * 2 ^ 208 + h.senderRank.toNat * 2 ^ 224 + h.counter.toNat * 2 ^ 256 + h.epoch.toNat * 2 ^ 288)

/-- The GCM nonce: header bits [319:224] (R290). -/
def acreNonce (h : AcreHeader) : List Byte := (acreHeaderBytes h).drop 28

/-- The key of an epoch in one direction: 0 from the initiator, 1 in reverse (R290). -/
def epochKey (secret : List Byte) (epoch : Nat) (fromInitiator : Bool) : List Byte :=
  shake256 32 (secret ++ leBytes 4 epoch ++ [if fromInitiator then 0 else 1])

/-! ### Sessions (R289) -/

/-- The session of a number. -/
def State.sessionAt (s : State) (i : Nat) : Session := nth {} s.acre.sessions i

/-- The state with one session changed. -/
def State.mapSession (s : State) (i : Nat) (f : Session → Session) : State :=
  { s with acre := { s.acre with sessions := modifyNth f s.acre.sessions i } }

/-- The session with a device, by its team and rank. -/
def State.sessionWith (s : State) (team rank : Nat) : Option Nat :=
  s.acre.sessions.findIdx? fun x => x.peerTeam == team && x.peerRank == rank

/-- The session with an endpoint of a team. -/
def State.sessionTo (s : State) (team endpoint : Nat) : Option Nat :=
  s.acre.sessions.findIdx? fun x => x.peerTeam == team && x.endpoint == endpoint

/-- A key agreement message's identity, report and signature over what comes before and themselves (R289, R436): the report's nonce
is SHAKE256 over the messages that come before. -/
def State.agreementMessage (s : State) (before key : List Byte) : List Byte :=
  let body := key ++ s.identityKey ++ s.signedReport (shake256 32 before)
  body ++ s.sign (before ++ body)

/-- A key agreement message leaves as a datagram of type 0x07 (R288, R289). -/
def State.sendAgreement (s : State) (port team endpoint : Nat) (reply : Bool) (bytes : List Byte) : State :=
  s.send (.keyAgreement (s.udpPath port team endpoint)
    { type := 7, senderRank := BitVec.ofNat 32 s.rank, senderTeam := BitVec.ofNat 16 (s.num 0x500002), length := bytes.length }
    team endpoint reply bytes)

/-- The device begins a session with an endpoint, once, as its initiator (R289). -/
def State.beginAgreement (s : State) (team endpoint : Nat) : State :=
  match s.acrePort with
  | none => s
  | some p =>
    if s.acre.requested.contains (team, endpoint) then s
    else
      let key := Config.mlKemKey s.fresh
      let s : State := { s.useFree with acre := { s.acre with requested := s.acre.requested ++ [(team, endpoint)] } }
      s.sendAgreement p team endpoint false (s.agreementMessage [] key)

/-- A direction at its next key epoch. After the last epoch its counter stays used up until a new session replaces this one
(R291). -/
def Session.nextEpoch (x : Session) : Session :=
  if x.sendEpoch < 2 ^ 32 - 1 then { x with sendEpoch := x.sendEpoch + 1, sendCounter := 0 } else { x with sendCounter := 2 ^ 32 }

/-- The sender moves to the next key epoch; after the last one the initiator begins a new agreement (R291). -/
def State.moveEpoch (s : State) (i : Nat) : State :=
  let x := s.sessionAt i
  let s := s.mapSession i Session.nextEpoch
  if x.sendEpoch = 2 ^ 32 - 1 && x.initiator then s.beginAgreement x.peerTeam x.endpoint else s

/-! ### Datagrams (R287, R288, R290, R292) -/

/-- A datagram leaves on a session under its epoch and next counter; without a port up, or with the last epoch used up, nothing
leaves. -/
def State.sendAcre (s : State) (i : Nat) (h : AcreHeader) (payload : List Byte) : State :=
  let x := s.sessionAt i
  match s.acrePort with
  | none => s
  | some p =>
    if 2 ^ 32 ≤ x.sendCounter then s
    else
      let h : AcreHeader := { h with
        epoch := BitVec.ofNat 32 x.sendEpoch, counter := BitVec.ofNat 32 x.sendCounter, senderRank := BitVec.ofNat 32 s.rank
        senderTeam := BitVec.ofNat 16 (s.num 0x500002), length := payload.length, intact := true }
      let sealed := Config.gcmSeal (epochKey x.secret x.sendEpoch x.initiator) (acreNonce h) (acreHeaderBytes h) payload
      let s := (s.send (.acre (s.udpPath p x.peerTeam x.endpoint) x.peerTeam x.peerRank h sealed)).mapSession i fun x => { x with sendCounter := x.sendCounter + 1 }
      if x.sendCounter + 1 = 2 ^ 32 then s.moveEpoch i else s

/-- A datagram on arrival (R287, R288, R291): without a port up it does not arrive; one without a session or that fails its checks
is dropped and counted, and so is one of an epoch that is over; one of a reserved type is dropped. The answer is the session it
belongs to. -/
def State.letIn (s : State) (h : AcreHeader) : State × Option Nat :=
  if s.acrePort.isNone then (s, none)
  else match s.sessionWith h.senderTeam.toNat h.senderRank.toNat with
    | none => (s.bump (acreCount 1), none)
    | some i =>
      let x := s.sessionAt i
      let e := h.epoch.toNat
      if !h.intact then (s.bump (acreCount 1), none)
      else if h.type.toNat == 0 || 9 < h.type.toNat then (s, none)
      else if x.recvEpoch < e then
        (s.mapSession i fun x => { x with recvEpoch := e, oldEpoch := some x.recvEpoch }, some i)
      else if e = x.recvEpoch || x.oldEpoch == some e then (s, some i)
      else (s.bump (acreCount 3), none)

/-! ### Objects and stripes (R293) -/

/-- The bytes of a data chunk of a stripe that its datagram carries: those in use, or one zero for a chunk past the end of the
object (DESIGN CHOICE, log entry 37). -/
def usedChunk (inUse j : Nat) (c : List Byte) : List Byte := c.take (max 1 (inUse - j * chunkBytes))

/-- The payload of a chunk of a stripe: of its data, or a parity chunk. -/
def SentStripe.chunk (x : SentStripe) (j : Nat) : List Byte :=
  if j < x.k then usedChunk x.inUse j (nth [] x.data j) else parityChunk x.m (j - x.k) x.data

/-- A chunk of a stripe leaves. -/
def State.sendChunk (s : State) (i : Nat) (x : SentStripe) (j : Nat) : State :=
  let h : AcreHeader :=
    { type := BitVec.ofNat 8 x.type, objectId := x.objectId, stripe := x.stripe, chunk := j, k := x.k, m := x.m }
  s.sendAcre i h (SentStripe.chunk x j)

/-- The delivery rate of a session: the largest acknowledged in the last 10 round trips (R295), in bytes a second. -/
def Session.rate (x : Session) : Nat := x.rates.foldl max 0

/-- The bytes that a session may hold unacknowledged: 2 × delivery rate × min_rtt (R295). Without a min_rtt there is no limit
(DESIGN CHOICE, log entry 38). -/
def Session.window (x : Session) : Option Nat := x.minRtt.map fun m => 2 * Session.rate x * m / 1600000000

/-- The bytes that a session holds unacknowledged. -/
def State.flying (s : State) (x : Session) : Nat :=
  s.acre.sentStripes.foldl (fun n y => if y.team == x.peerTeam && y.rank == x.peerRank then n + y.flying else n) 0

/-- The stripe of a chunk that is held back. -/
def HeldChunk.of (c : HeldChunk) (x : SentStripe) : Bool :=
  x.team == c.team && x.rank == c.rank && x.objectId == c.objectId && x.stripe == c.stripe

/-- A chunk that is held back leaves if the limit of its session allows, and stays held if not (R295); one of a stripe that is gone
is dropped. -/
def State.paceChunk (s : State) (i : Nat) (c : HeldChunk) : State :=
  let keep : State := { s with acre := { s.acre with held := s.acre.held ++ [c] } }
  match s.acre.sentStripes.find? (HeldChunk.of c) with
  | none => s
  | some x =>
    let ses := s.sessionAt i
    let n := (SentStripe.chunk x c.chunk).length
    if !(c.team == ses.peerTeam && c.rank == ses.peerRank) || s.acre.held.any (fun y => y.team == c.team && y.rank == c.rank) ||
        !(Session.window ses).all (fun w => s.flying ses + n ≤ w) then keep
    else
      let s := s.sendChunk i x c.chunk
      { s with acre := { s.acre with
          sentStripes := s.acre.sentStripes.map fun y => if HeldChunk.of c y then { y with flying := y.flying + n } else y } }

/-- The chunks held back for a session leave in order as far as its limit allows (R295); none while no port is up. -/
def State.pace (s : State) (i : Nat) : State :=
  if s.acrePort.isNone then s
  else s.acre.held.foldl (fun s c => s.paceChunk i c) { s with acre := { s.acre with held := [] } }

/-- A stripe leaves as far as the limit allows, in the place of an earlier sending of it, and stays until it is acknowledged (R294,
R295). -/
def State.sendStripe (s : State) (i : Nat) (x : SentStripe) : State :=
  let held := (List.range (x.k + x.m)).map fun j =>
    { team := x.team, rank := x.rank, objectId := x.objectId, stripe := x.stripe, chunk := j : HeldChunk }
  let same (y : SentStripe) : Bool := y.team == x.team && y.rank == x.rank && y.objectId == x.objectId && y.stripe == x.stripe
  State.pace { s with acre := { s.acre with
    sentStripes := (s.acre.sentStripes.filter fun y => !same y) ++ [x], held := s.acre.held ++ held } } i

/-- k and m of code_shape (R321). -/
def State.codeShape (s : State) : Nat × Nat := (bitsOf 15 8 (s.num 0x501500), bitsOf 7 0 (s.num 0x501500))

/-- An object leaves on a session, cut into stripes from a stripe number on (R293). -/
def State.sendObject (s : State) (i type : Nat) (objectId : W64) (bytes : List Byte) : State :=
  let (k, m) := s.codeShape
  let x := s.sessionAt i
  ((runs (max k 1 * chunkBytes) bytes).zipIdx).foldl (fun s part =>
    s.sendStripe i
      { team := x.peerTeam, rank := x.peerRank, type := type, objectId := objectId, stripe := part.2, k := k, m := m
        data := (List.range k).map fun j => padChunk ((part.1.drop (j * chunkBytes)).take chunkBytes)
        inUse := part.1.length }) s

/-- The objects that wait leave as far as sessions allow, a fetch request as one datagram; a missing session is asked for (R289,
R306, R318). -/
def State.flush (s : State) : State :=
  if s.acrePort.isNone then s
  else
    let waiting := s.acre.outgoing
    waiting.foldl (fun s o => match s.sessionTo o.team o.endpoint with
        | some i =>
          if o.type = 6 then s.sendAcre i { type := 6, objectId := o.objectId } o.bytes else s.sendObject i o.type o.objectId o.bytes
        | none =>
          let s : State := { s with acre := { s.acre with outgoing := s.acre.outgoing ++ [o] } }
          s.beginAgreement o.team o.endpoint)
      { s with acre := { s.acre with outgoing := [] } }

/-- An object for an endpoint of a team. -/
def State.sendTo (s : State) (team endpoint type : Nat) (objectId : W64) (bytes : List Byte) : State :=
  State.flush { s with acre := { s.acre with
    outgoing := s.acre.outgoing ++ [{ team := team, endpoint := endpoint, type := type, objectId := objectId, bytes := bytes }] } }

/-- An object for every other team, at the endpoint that a number chooses (R306). -/
def State.sendToTeams (s : State) (chooser type : Nat) (objectId : W64) (bytes : List Byte) : State :=
  s.otherTeams.foldl (fun s e => s.sendTo e.1 (chooser % e.2) type objectId bytes) s

/-- A join asks another team for the anchor and the outer momentum of its latest committed season, under the next request number
(R318). The manual leaves the team open: the first of the table, at the endpoint that this device's rank chooses. -/
def State.askAnchor (s : State) : State :=
  match s.otherTeams with
  | [] => s
  | e :: _ =>
    let n := (s.seasons.fetchNumber + 1) % 2 ^ 48
    let s := s.mapSeasons fun x => { x with fetchNumber := n, fetchAsked := true, fetched := none }
    s.sendTo e.1 (s.rank % e.2) 6 (BitVec.ofNat 64 (n * 2 ^ 16)) [0]

/-- Whether a stripe is the one that a datagram names. -/
def Stripe.named (x : Stripe) (h : AcreHeader) : Bool :=
  x.senderTeam == h.senderTeam.toNat && x.senderRank == h.senderRank.toNat && x.objectId == h.objectId && x.stripe == h.stripe

/-- A stripe after a chunk came: whether it can be decoded now (R293). -/
def Stripe.take (x : Stripe) (chunk : Nat) (bytes : List Byte) : Stripe :=
  let c := SMap.put x.chunks chunk (padChunk bytes)
  { x with chunks := c, decoded := x.decoded || x.k ≤ c.length }

/-- Whether a data chunk of a stripe is missing. -/
def Stripe.lacks (x : Stripe) : List Nat := (List.range x.k).filter fun j => (SMap.find? x.chunks j).isNone

/-- A stripe kept in the list. -/
def State.putStripe (s : State) (h : AcreHeader) (x : Stripe) : State :=
  { s with acre := { s.acre with stripes := (s.acre.stripes.filter fun y => !Stripe.named y h) ++ [x] } }

/-- A chunk put to its stripe (R292 to R294): a duplicate is dropped and counted, an abandoned stripe takes none, and a stripe
that becomes decodable is acknowledged. The answer says whether that happened. -/
def State.takeChunk (s : State) (i : Nat) (h : AcreHeader) (bytes : List Byte) : State × Bool :=
  let x := (s.acre.stripes.find? fun y => Stripe.named y h).getD
    { objectId := h.objectId, stripe := h.stripe, senderTeam := h.senderTeam.toNat, senderRank := h.senderRank.toNat
      k := h.k, m := h.m }
  if (SMap.find? x.chunks h.chunk).isSome then (s.bump (acreCount 4), false)
  else if x.abandoned then (s, false)
  else
    let y := Stripe.take x h.chunk bytes
    let s := s.putStripe h y
    if y.decoded && !x.decoded then
      let s := if (Stripe.lacks y).isEmpty then s else s.bump (acreCount 5)
      (s.sendAcre i { type := 2, objectId := h.objectId, stripe := h.stripe, k := y.k, m := y.m } [0], true)
    else (s, false)

/-- The decoded bytes of a stripe of an object. -/
def State.stripeBytes (s : State) (h : AcreHeader) (n : Nat) : Option (List Byte) :=
  match s.acre.stripes.find? fun y => Stripe.named y { h with stripe := n } with
  | some y => if y.decoded then some (rebuild y.k y.m y.chunks).flatten else none
  | none => none

/-- An object's bytes, once every stripe is decoded: its size stands in its first stripe. -/
def State.objectBytes (s : State) (h : AcreHeader) (size : List Byte → Nat) : Option (List Byte) :=
  match s.stripeBytes h 0 with
  | none => none
  | some first =>
    let n := size first
    let parts := (List.range (ceilDiv n (max h.k 1 * chunkBytes))).map (s.stripeBytes h)
    if parts.all (·.isSome) then some ((parts.flatMap (·.getD [])).take n) else none

/-! ### Acknowledgements and NACKs (R294, R295) -/

/-- 10 s in cycles (R12, R295). -/
def tenSeconds : Nat := 16000000000

/-- The smallest of a list of samples. -/
def smallest (l : List (Cycle × Nat)) : Option Nat :=
  l.foldl (fun m x => some (m.elim x.2 (min x.2))) none

/-- A round-trip sample at a session's pacing (R295): `now` is the count, `srtt` what the smoothing gives and `rate` the rate that this
round trip acknowledges, neither of which the manual defines (log entry 38). -/
def Session.sample (x : Session) (now : Cycle) (rtt srtt rate : Nat) : Session :=
  let recent := x.samples.filter fun (e : Cycle × Nat) => cyclesSince now e.1 ≤ tenSeconds
  let x := { x with srtt := srtt, rates := rate :: x.rates.take 9, samples := recent ++ [(now, rtt)] }
  if x.resetLeft ≠ 0 then
    let m := some (x.resetMin.elim rtt (min rtt))
    if x.resetLeft = 1 then { x with resetLeft := 0, resetMin := none, minRtt := m }
    else { x with resetLeft := x.resetLeft - 1, resetMin := m }
  else
    let m := (smallest x.samples).getD rtt
    let far := 1600000 < rtt - m && m < 10 * (rtt - m)
    let n := if far then x.deviations + 1 else 0
    if 3 ≤ n then { x with deviations := 0, minRtt := none, samples := [], resetLeft := 3, resetMin := none }
    else { x with deviations := n, minRtt := some m }

/-- A sample taken: a discarded min_rtt is counted, and what the new limit allows leaves (R295). -/
def State.takeSample (s : State) (i rtt : Nat) : State :=
  let x := s.sessionAt i
  let y := Session.sample x s.cycle rtt s.fresh s.useFree.fresh
  let s := s.useFree.useFree.mapSession i fun _ => y
  (if x.resetLeft = 0 && y.resetLeft = 3 then s.bump (acreCount 8) else s).pace i

/-- Whether a sent stripe is the one that a datagram names. -/
def SentStripe.named (x : SentStripe) (h : AcreHeader) : Bool :=
  x.team == h.senderTeam.toNat && x.rank == h.senderRank.toNat && x.objectId == h.objectId && x.stripe == h.stripe

/-- STRIPE_ACK (R294): the stripe need not be kept, and the acknowledgement gives a sample. -/
def stripeAck (h : AcreHeader) (sample : Nat) (s : State) : State :=
  match s.letIn h with
  | (s, none) => s
  | (s, some i) =>
    let s : State := { s with acre := { s.acre with sentStripes := s.acre.sentStripes.filter fun x => !SentStripe.named x h } }
    s.takeSample i sample

/-- STRIPE_NACK (R292, R294): the missing data chunks leave again. -/
def stripeNack (h : AcreHeader) (missing : List Nat) (s : State) : State :=
  match s.letIn h with
  | (s, none) => s
  | (s, some i) =>
    match s.acre.sentStripes.find? fun x => SentStripe.named x h with
    | none => s
    | some x => (missing.filter (· < x.k)).foldl (fun s j => s.sendChunk i x j) (s.bump (acreCount 6))

/-- NACK_TIMER (R294): a sender's stripe that cannot be decoded is asked for again, and abandoned after 8 NACKs. -/
def nackTimer (team rank : Nat) (objectId : W64) (stripe : Nat) (s : State) : State :=
  match s.acre.stripes.find? fun x =>
      x.senderTeam == team && x.senderRank == rank && x.objectId == objectId && x.stripe == stripe && !x.decoded && !x.abandoned with
  | none => s
  | some x =>
    let h : AcreHeader :=
      { type := 3, objectId := objectId, stripe := stripe, senderTeam := BitVec.ofNat 16 x.senderTeam
        senderRank := BitVec.ofNat 32 x.senderRank, k := x.k, m := x.m }
    if 8 ≤ x.nacks then (s.putStripe h { x with abandoned := true }).bump (acreCount 7)
    else
      let s := s.putStripe h { x with nacks := x.nacks + 1 }
      match s.sessionWith x.senderTeam x.senderRank with
      | some i => s.sendAcre i h ((Stripe.lacks x).map (BitVec.ofNat 8))
      | none => s

/-! ### Probes (R295) -/

/-- PROBE: a probe is echoed. -/
def probe (h : AcreHeader) (s : State) : State :=
  match s.letIn h with
  | (s, none) => s
  | (s, some i) => s.sendAcre i { type := 9, objectId := h.objectId } [0]

/-- PROBE_ECHO: an echo gives a sample. -/
def probeEcho (h : AcreHeader) (sample : Nat) (s : State) : State :=
  match s.letIn h with
  | (s, none) => s
  | (s, some i) => s.takeSample i sample

/-- PACING_PROBE: while min_rtt is measured again, a round trip without data sends a probe. -/
def pacingProbe (i : Nat) (s : State) : State :=
  if (s.sessionAt i).resetLeft = 0 then s else s.sendAcre i { type := 8 } [0]

/-! ### Key agreement and epochs (R289, R291) -/

/-- A session opens, in the place of an earlier one with that device; what waits for it leaves. -/
def State.openSession (s : State) (x : Session) : State :=
  let rest := s.acre.sessions.filter fun y => !(y.peerTeam == x.peerTeam && y.peerRank == x.peerRank)
  State.flush { s with acre := { s.acre with
    sessions := rest ++ [x], requested := s.acre.requested.filter fun r => r != (x.peerTeam, x.endpoint) } }

/-- The session secret (R289). -/
def sessionSecret (shared transcript : List Byte) : List Byte :=
  shake256 32 (ascii "lz9-acre" ++ shared ++ shake256 32 transcript)

/-- KEY_AGREEMENT (R287, R289): the checks, the secret, and a responder's answer. -/
def keyAgreement (k : KeyAgreement) (s : State) : State :=
  let x : Session := { peerTeam := k.peerTeam, peerRank := k.peerRank, endpoint := k.endpoint }
  if s.acrePort.isNone then s
  else if !k.intact then s.bump (acreCount 1)
  else if !k.fromInitiator && !s.acre.requested.contains (k.peerTeam, k.endpoint) then s
  else if !(k.attestationOk && k.jobId.toNat == s.num 0x500001 && leBytes 32 k.seasonKey.toNat == fit 32 (s.oct 0x500012)) then
    let s : State := { s with acre := { s.acre with
      requested := if k.fromInitiator then s.acre.requested else s.acre.requested.erase (k.peerTeam, k.endpoint) } }
    s.bump (acreCount 2)
  else if k.fromInitiator then
    let (cipher, shared) := Config.mlKemEncaps k.encapsulation
    let body := cipher ++ s.identityKey ++ s.signedReport (shake256 32 k.transcript)
    let s := s.sendAgreement (s.acrePort.getD 0) k.peerTeam k.endpoint true (s.agreementMessage k.transcript cipher)
    s.openSession { x with secret := sessionSecret shared (k.transcript ++ body) }
  else s.openSession { x with initiator := true, secret := sessionSecret k.sharedSecret k.transcript }

/-- KEY_EPOCH_CHANGE (R291): the counter is used up, or epoch_period has passed. -/
def keyEpochChange (i : Nat) (s : State) : State := if i < s.acre.sessions.length then s.moveEpoch i else s

/-- OLD_KEY_ERASE (R291). -/
def oldKeyErase (i : Nat) (s : State) : State := s.mapSession i fun x => { x with oldEpoch := none }

/-- ACRE_PORT_LINK_CHANGE (R321, R322): the port's status, and what waits for a port or is held back leaves. A port whose mode is Off
stays off. -/
def acrePortLinkChange (port : Nat) (up training : Bool) (s : State) : State :=
  let on := s.num (0x501001 + port) != 0
  let s : State := { s with acre := { s.acre with portUp := modifyNth (fun _ => on && up) s.acre.portUp port } }
  let s := (s.setNum (0x501101 + port) (if !on then 0 else if up then 2 else if training then 1 else 0)).flush
  (List.range s.acre.sessions.length).foldl State.pace s

def execStripeAck (h : AcreHeader) (sample : Nat) (s : State) : Out := .next (stripeAck h sample s)
def execStripeNack (h : AcreHeader) (missing : List Nat) (s : State) : Out := .next (stripeNack h missing s)
def execNackTimer (team rank : Nat) (objectId : W64) (stripe : Nat) (s : State) : Out := .next (nackTimer team rank objectId stripe s)
def execProbe (h : AcreHeader) (s : State) : Out := .next (probe h s)
def execProbeEcho (h : AcreHeader) (sample : Nat) (s : State) : Out := .next (probeEcho h sample s)
def execPacingProbe (session : Nat) (s : State) : Out := .next (pacingProbe session s)
def execKeyAgreement (k : KeyAgreement) (s : State) : Out := .next (keyAgreement k s)
def execKeyEpochChange (session : Nat) (s : State) : Out := .next (keyEpochChange session s)
def execOldKeyErase (session : Nat) (s : State) : Out := .next (oldKeyErase session s)
def execAcrePortLinkChange (port : Nat) (up training : Bool) (s : State) : Out := .next (acrePortLinkChange port up training s)

end Sys2Proof.Machine
end

