-- ==== Sys2Proof/Machine/Boot.lean ====
section
/-! DEFINITION. Sys2Proof/Machine/Boot.lean: the scrub (R368), protective shutdown (R425), resets (R369, R370), the rows of the
boot (R421 to R424), the pins of R452 and R454, and the commands of the table that belong to them. -/

namespace Sys2Proof.Machine

/-! ### The scrub -/

/-- The fabric after a scrub: the job's slots, barriers and messages are gone; membership, ports and time stay (R368). -/
def Fabric.scrubbed (f : Fabric) : Fabric :=
  { f with plan := [], arrived := [], sent := [], begun := [], relay := [], assembling := [], anchors := [], subtrees := []
           collects := [], plotArrivals := [], releases := [], judgeRollback := [], portsLost := false
           ports := f.ports.map fun p =>
             { p with named := false, beQueue := [], state := if p.state = .upScheduled then .upBestEffort else p.state } }

/-- The scrub of R368: HBM outside the Hopper table, all SRAM, tokens, repair lists, staging rings, bale stores and session
keys are cleared, and the job entries return to their defaults (R458). -/
def State.scrub (s : State) : State :=
  let s := s.clearJobEntries
  { s with
    host := { s.host with window := [], held := [], binaries := [], lineMeta := [] }
    job := none, records := {}, plots := [], pool := [], tokens := [], aheadTokens := [], seasons := {}, tiers := {}
    acre := { s.acre with sessions := [], stripes := [], sentStripes := [], held := [], outgoing := [], requested := [] }
    fabric := s.fabric.scrubbed
    recovery := { s.recovery with repairs := [], rowErrors := [] } }

/-- The scrub that leaves every Hopper slot free and next_ticket at 1 too (R368, R398). -/
def State.scrubAll (s : State) : State := ({ s.scrub with hopper := [] }).setNum 0x201004 1

/-! ### Ports at boot and stop -/

/-- Whether a port is held Off by port_ctrl (R257). -/
def State.portDisabled (s : State) (n : Nat) : Bool := s.num (0x401100 + n + 1) == 1

/-- Every enabled port begins Training (R258). -/
def State.startPorts (s : State) : State :=
  { s with fabric := { s.fabric with
      ports := (List.range 28).map fun n => { state := if s.portDisabled n then PortState.off else .training } } }

/-- Every port Off (R257). -/
def State.stopPorts (s : State) : State := { s with fabric := { s.fabric with ports := List.replicate 28 {} } }

/-- Trained ports answer NOT-READY (R257, R259). -/
def Port.toNotReady (p : Port) : Port :=
  match p.state with
  | .upBestEffort | .upScheduled | .foreign | .notReady => { p with state := .notReady }
  | _ => p

/-! ### The CXL port -/

/-- The CXL port's state and the mirror window reset: mirror slots and MSI-X at their defaults, the open transaction discarded
when a mirror slot owns it (R369, R370, R393). -/
def State.resetCxl (s : State) : State :=
  let s := s.mapCtl fun c =>
    { c with cxlConfigured := false, mirror := [{}, {}, {}, {}], msixEnable := false, msixFunctionMask := false
             msixVectorMask := 0, msixPending := 0 }
  match s.txn with
  | some t => (match t.owner with
    | .mirror _ => { s with txn := none }
    | .master => s)
  | none => s

/-- The CXL link goes down. -/
def State.cxlDown (s : State) : State := (s.resetCxl).mapCtl fun c => { c with cxlUp := false, memoryActive := false }

/-! ### Faulted -/

/-- Entry into Faulted (R31, R425): a fault log record, domains Off or Minimal so that the plots' contents are lost, ports on
NOT-READY, the CXL link down when the cause lies in domain 18, vector 5 raised. A Harvest's scrub that can still run is
completed first (R32): the scrub units stay powered for every cause but a protective shutdown. -/
def State.enterFaulted (s : State) (cause domain : Nat) (sig : BitVec 128 := 0) : State :=
  let during := s.ctl.booting
  let scrubs := s.ctl.cur == .harvest && 4 ≤ cause
  let s := s.logFault cause domain sig
  let s := if scrubs then s.scrub else s
  let s := { s with harvest := none }
  let s := s.mapCtl fun c => { c with bootFault := during, cxlFaultOff := domain == 18, tripOnBoot := false }
  let s := if domain = 18 then s.cxlDown else s
  let s := { s with plots := [], pool := [], tokens := [], aheadTokens := []
                    fabric := { s.fabric with ports := s.fabric.ports.map Port.toNotReady } }
  let s := s.sendAll (s.trainedPorts.map .notReady)
  let s := s.mapRecovery fun r => { r with gleanDomain := none, gleanLeft := [], gleanStop := false }
  (s.restIn .faulted).raise .fault

/-! ### Resets -/

/-- The state from which a boot runs at the release of a device reset or at a Wake: the always-on domain is running (R421). -/
def State.beginBoot (s : State) : State :=
  if s.ctl.tripOnBoot then s.enterFaulted 3 0
  else
    let s := (s.mapCtl fun c => { c with stage := .ring, bootFault := false, flashBlocked := false }).moveTo .fallow .tilled
    if s.ctl.resetLow then s.stopPorts else s.startPorts

/-- A device reset (R369, R370): everything but the always-on domain. Kept: fuses and flash, the fault log, suspect marks and
Gleaner results, the power cap and the ring settings, the pins, and what lies outside the device. -/
def State.deviceReset (s : State) : State :=
  let kept : State :=
    { ctl := { powerGood := s.ctl.powerGood, resetLow := s.ctl.resetLow, flashOwn := s.ctl.flashOwn, bypassOpen := s.ctl.bypassOpen
               cur := s.ctl.cur, tgt := s.ctl.tgt, stage := s.ctl.stage, tripOnBoot := s.ctl.tripOnBoot
               answered := s.ctl.answered, faultLog := s.ctl.faultLog }
      fuses := s.fuses, flash := s.flash
      nums := dropKeys (fun k => !isKeptEntry k) s.nums
      host := { tier := s.host.tier, holder := s.host.holder }
      recovery := { suspectSites := s.recovery.suspectSites, suspectStacks := s.recovery.suspectStacks
                    proposals := s.recovery.proposals }
      freeCount := s.freeCount, outbox := s.outbox, pending := s.pending }
  kept.beginBoot

/-- A power-on reset (R369, R370, R410): only fuses, flash, the pins and what lies outside the device remain. -/
def State.powerOff (s : State) : State :=
  { ctl := { resetLow := s.ctl.resetLow, flashOwn := s.ctl.flashOwn }
    fuses := s.fuses, flash := s.flash, host := { tier := s.host.tier, holder := s.host.holder }
    freeCount := s.freeCount, outbox := s.outbox, pending := s.pending }

/-- Boot stops (R423): the powered domains turn Off, ports stop, the CXL link goes down, and the device stays in Fallow. A
Wake that ran the boot has failed, which raises vector 7 (R404). -/
def State.stopBoot (s : State) : State :=
  let woken := s.ctl.wakeRunning
  let s := (s.mapCtl fun c => { c with stage := .stopped, wakeRunning := false }).stopPorts.cxlDown
  let s := { s with sec := {} }
  let s := (s.setNum 0x100005 0).restIn .fallow
  if woken then s.raise .verbDone else s

/-- Entry into Fallow from Tilled (R31): every domain but the always-on one turns Off, so the CXL link goes down, the ports
are Off and what HBM and SRAM held is lost. -/
def State.enterFallow (s : State) : State :=
  let s := s.stopPorts.cxlDown
  let s := { s with host := { s.host with window := [], held := [], binaries := [], lineMeta := [] }, hopper := []
                    records := {}, sec := {} }
  (s.mapCtl fun c => { c with stage := .asleep }).restIn .fallow

/-! ### Firmware (R429, R430) -/

/-- Whether an image verifies (R429). -/
def imageOk (f : Fuses) (i : FwImage) : Bool :=
  i.keySlot < 4 && nth 0 f.keyHash i.keySlot == i.keyHash && !f.securityConfig.getLsbD (12 + i.keySlot) && i.signatureOk &&
    i.payloadOk && decide (f.fwRollback ≤ i.rollbackIndex)

/-- The image of a type in a slot, when there is exactly one. -/
def oneImage (slot : List FwImage) (t : Nat) : Option FwImage :=
  match slot.filter (·.imageType == t) with
  | [i] => some i
  | _ => none

/-- The three images of a slot that verifies (R429). -/
def slotImages (f : Fuses) (slot : List FwImage) : Option (List FwImage) :=
  match oneImage slot 1, oneImage slot 2, oneImage slot 3 with
  | some a, some b, some c =>
    if imageOk f a && imageOk f b && imageOk f c && a.fwInterface == b.fwInterface && b.fwInterface == c.fwInterface
    then some [a, b, c] else none
  | _, _, _ => none

/-- The version of the control firmware of a verifying slot. -/
def versionOf (l : List FwImage) : Nat := (l.head?.map (·.version)).getD 0

/-- The slot in force and its images: the higher version, slot A on a tie (R429). -/
def pickSlot (a b : Option (List FwImage)) : Option (Nat × List FwImage) :=
  match a, b with
  | some x, some y => if versionOf x < versionOf y then some (1, y) else some (0, x)
  | some x, none => some (0, x)
  | none, some y => some (1, y)
  | none, none => none

/-- The firmware measurement (R430). -/
def fwMeasurement (images : List FwImage) (securityConfig : W32) : List Byte :=
  shake256 32 (ascii "lz9-fw" ++ images.flatMap (fun i => leBytes 32 i.payloadDigest.toNat) ++
    leBytes 4 securityConfig.toNat)

/-- The soft-repair map copy taken at boot: a valid one, the higher sequence (R362). -/
def pickMap (one two : Option RepairMap) : Option RepairMap :=
  match one, two with
  | some a, some b => if a.sequence < b.sequence then some b else some a
  | some a, none => some a
  | none, b => b

/-- The firmware row of the boot with a verified slot: measurement, interface, map and identity are fixed; the arithmetic
clock and the count start (R421, R362, R435). -/
def State.takeFirmware (s : State) (slot : Nat) (images : List FwImage) : State :=
  let a := slotImages s.fuses s.flash.slotA
  let b := slotImages s.fuses s.flash.slotB
  let map := pickMap s.flash.mapOne s.flash.mapTwo
  let ctl := images.head?.getD {}
  let s := { s with
    cycle := 0
    sec := { slotInForce := slot, images := images, identityReady := true }
    recovery := { s.recovery with mapInForce := map, selfTestSites := [], selfTestSpares := [] } }
  let s := (s.setNum 0x100005 ctl.fwInterface).setNum 0x100006 ctl.build
  let s := s.setOct 0x900007 (fwMeasurement images s.fuses.securityConfig)
  let s := s.setOct 0x903004 (leBytes 4 (a.elim 0 versionOf) ++ leBytes 4 (b.elim 0 versionOf))
  let s := s.setNum 0x903003 slot
  let s := s.setNum 0x608002 (map.elim 0 (·.sequence))
  let s := s.mapCtl fun c => { c with stage := .firmware }
  if map.isNone then s.raise .fault else s

/-! ### The commands -/

/-- POWER_GOOD (R410): a boot begins from Fallow (R31); with FLASH_OWN high now it stops at its firmware row (R454). -/
def powerGood (s : State) : State :=
  if s.ctl.powerGood then s
  else s.mapCtl fun c => { c with powerGood := true, stage := .fuseRead, cur := .fallow, tgt := .tilled, flashBlocked := c.flashOwn }

/-- POWER_GOOD_DEASSERTED (R410): a power-on reset. -/
def powerGoodDeasserted (s : State) : State := if s.ctl.powerGood then s.powerOff else s

/-- RESET_IN_ASSERTED (R452, R369): a device reset whose boot waits for the release; from the assertion on the device reads
Fallow with target_state Tilled (DESIGN CHOICE, log entry 137). A Faulted device stays Faulted until the
release (R454), and the always-on domain boots up to its ring row whatever the pin does. -/
def resetInAsserted (s : State) : State :=
  if s.ctl.resetLow then s
  else
    let s := s.mapCtl fun c => { c with resetLow := true }
    if s.ctl.cur == .faulted || s.ctl.stage == .off || s.ctl.stage == .fuseRead then s else s.deviceReset

/-- RESET_IN_RELEASED (R452): boot runs from the release. -/
def resetInReleased (s : State) : State :=
  if !s.ctl.resetLow then s
  else
    let s := s.mapCtl fun c => { c with resetLow := false }
    if s.ctl.stage == .off || s.ctl.stage == .fuseRead then s else s.deviceReset

/-- WATCHDOG_EXPIRY (R369, R371): a device reset, logged with cause 0x07; no effect in Fallow (R31). -/
def watchdogExpiry (s : State) : State :=
  if s.ctl.cur == .fallow then s else (s.logFault 7 0 0).deviceReset

/-- CXL_CONVENTIONAL_RESET (R369, R370): port state and mirror window reset; the job continues. -/
def cxlConventionalReset (linkDown : Bool) (s : State) : State :=
  if linkDown then (s.resetCxl).mapCtl fun c => { c with cxlUp := false } else s.resetCxl

/-- Whether an image is a pattern set, which goes to the pattern area (R431). -/
def isPattern (i : FwImage) : Bool := i.imageType == 4

/-- The flash after an image set was written (R431): its pattern set stands in the pattern area, its other images in the slot not in
force. A failed write leaves what it wrote to invalid (R432). -/
def putImages (inForce : Nat) (images : List FwImage) (ok : Bool) (f : Flash) : Flash :=
  let slot := images.filter fun i => !isPattern i
  let pattern := images.find? isPattern
  let f := if pattern.isNone then f else { f with patterns := if ok then pattern else none }
  if slot.isEmpty then f
  else if inForce = 0 then { f with slotB := if ok then slot else [] }
  else { f with slotA := if ok then slot else [] }

/-- A firmware write ends: written, or what it wrote to is invalid (R431, R432). -/
def State.endFwWrite (s : State) (ok : Bool) : State :=
  match s.sec.fwWriting with
  | none => s
  | some images =>
    ({ s with flash := putImages s.sec.slotInForce images ok s.flash, sec := { s.sec with fwWriting := none } } : State).setNum 0x903002 (if ok then 0 else 0x00670005)

/-- FLASH_OWN_CHANGE (R454): while high the flash counts as absent, and an update being written ends with 0x0067_0005. -/
def flashOwnChange (level : Bool) (s : State) : State :=
  let s := s.mapCtl fun c => { c with flashOwn := level }
  if level then s.endFwWrite false else s

/-- The cause and the domain of a trip (R425): a PLL's cause lies in the lowest domain it clocks (R414). -/
def tripCause (m : Monitor) : Nat × Nat :=
  match m with
  | .inputVoltage | .intermediateRail => (1, 0)
  | .regulator d => (1, d)
  | .fieldTemperature | .headlandTemperature | .hbmTemperature => (2, 0)
  | .crystal => (3, 0)
  | .pll i => (3, nth 0 [3, 14, 15, 16, 17, 19, 2, 18] i)
  | .controlSram => (4, 0)

/-- MONITOR_TRIP (R425, R31, R347): a protective shutdown into Faulted. In Fallow without a boot only the crystal's failure
matters: the next boot attempt ends in Faulted (R454). The control SRAM's fatal fault is no protective shutdown, so it has no
effect in Fallow (R31). -/
def monitorTrip (m : Monitor) (s : State) : State :=
  let (cause, domain) := tripCause m
  if s.ctl.stage == .off then s
  else if s.ctl.cur == .faulted then s
  else if s.ctl.cur == .fallow && (!s.ctl.booting || cause = 4) then
    (if cause = 3 && domain = 0 then s.mapCtl fun c => { c with tripOnBoot := true } else s)
  else s.enterFaulted cause domain

/-- The ring bypass opens; a device without an address sends its join notice (R376, R378, R379). -/
def State.openBypass (s : State) : State :=
  if s.ctl.bypassOpen then s else (s.mapCtl fun c => { c with bypassOpen := true }).send .joinNotice

/-- FUSE_READ_DONE (R421): the fuse read ends, the bypass opens, and identity reads are answered. While RESET_IN# is low the
boot waits here (R454). -/
def fuseReadDone (s : State) : State :=
  if s.ctl.stage == .fuseRead then
    let s := s.openBypass.mapCtl fun c => { c with stage := .ring }
    if s.ctl.resetLow then s else s.startPorts
  else s

/-- FIRMWARE_VERIFY (R429, R423): the device takes a verifying slot, or the boot stops. -/
def firmwareVerify (s : State) : State :=
  if s.ctl.stage == .ring && !s.ctl.resetLow && s.ctl.booting then
    if s.ctl.flashOwn || s.ctl.flashBlocked then s.stopBoot
    else match pickSlot (slotImages s.fuses s.flash.slotA) (slotImages s.fuses s.flash.slotB) with
      | none => s.stopBoot
      | some (slot, images) => s.takeFirmware slot images
  else s

/-- CXL_CONFIG_READY (R421): the configuration space is complete and the link is up. After a conventional reset it says that
the configuration is done again (R372). -/
def cxlConfigReady (s : State) : State :=
  if s.ctl.stage == .firmware && s.ctl.booting then
    s.mapCtl fun c => { c with stage := .cxl, cxlUp := true, cxlConfigured := true }
  else if s.domainState 18 = 2 && s.ctl.stage == .done then
    s.mapCtl fun c => { c with cxlUp := true, cxlConfigured := true, memoryActive := s.ctl.cur != .fallow }
  else s

/-- HBM_TRAINING_DONE (R421): the stacks are trained and the scrub runs. -/
def hbmTrainingDone (s : State) : State :=
  if s.ctl.stage == .cxl && s.ctl.booting then s.scrubAll.mapCtl fun c => { c with stage := .hbm } else s

/-- Sites of a self-test group: clusters 0 to 3, or 4 to 7 (R421). -/
def inGroup (second : Bool) (site : Nat) : Bool := site < 176 && (decide (4 ≤ clusterOf site) == second)

/-- The findings of a self-test group (R357): failing plots leave service for this boot and are suspect, mends of free spares
count for this boot and are proposed. -/
def State.selfTestFindings (s : State) (second : Bool) (failing : List Nat) (mends : List SpareAssign) : State :=
  let bad := failing.filter fun x => inGroup second x && !has s.sitesOut x
  let good := mends.filter fun a => inGroup second a.site && !has s.sitesOut a.site
  let s := s.mapRecovery fun r =>
    { r with selfTestSites := bad.foldl addOnce r.selfTestSites, suspectSites := bad.foldl addOnce r.suspectSites
             selfTestSpares := r.selfTestSpares ++ good
             proposals := { r.proposals with sites := bad.foldl addOnce r.proposals.sites
                                             spares := r.proposals.spares ++ good } }
  if bad.isEmpty then s else s.raise .fault

/-- START_UP_SELF_TEST (R357, R421): the second group fixes the map, the grade and the spares of this boot. -/
def startUpSelfTest (second : Bool) (failing : List Nat) (mends : List SpareAssign) (s : State) : State :=
  if s.ctl.stage == (if second then BootStage.selfTestOne else .hbm) && s.ctl.booting then
    let s := s.selfTestFindings second failing mends
    if second then
      let s := s.mapCtl fun c => { c with stage := .selfTestTwo }
      ((s.setNum 0x100007 s.gradeNow).setNum 0x604004 (s.minFreeSpares false)).setNum 0x604005 (s.minFreeSpares true)
    else s.mapCtl fun c => { c with stage := .selfTestOne }
  else s

/-- BOOT_COMPLETE (R421, R422): Tilled, Memory_Active set; trained ports no longer answer NOT-READY but say who the device is
(R258); a Wake that ran the boot is done. -/
def bootComplete (s : State) : State :=
  if s.ctl.stage == .selfTestTwo && s.ctl.booting then
    let woken := s.ctl.wakeRunning
    let s := s.mapCtl fun c => { c with stage := .done, memoryActive := true, wakeRunning := false, reachedTilled := true }
    let s := (s.restIn .tilled).sendIdentities
    if woken then s.raise .verbDone else s
  else s

/-- BYPASS_CHANGE (R376): the bypass opens with a join notice, or closes. It opens only while the always-on domain runs. -/
def bypassChange (opens : Bool) (s : State) : State :=
  if opens then (if s.ctl.stage == .off || s.ctl.stage == .fuseRead then s else s.openBypass)
  else s.mapCtl fun c => { c with bypassOpen := false }

/-- JOIN_NOTICE_RESEND (R424): a device without a ring address sends its join notice again. -/
def joinNoticeResend (s : State) : State :=
  if s.ctl.bypassOpen && s.num 0x101001 == 0 then s.send .joinNotice else s

def execPowerGood (s : State) : Out := .next (powerGood s)
def execPowerGoodDeasserted (s : State) : Out := .next (powerGoodDeasserted s)
def execResetInAsserted (s : State) : Out := .next (resetInAsserted s)
def execResetInReleased (s : State) : Out := .next (resetInReleased s)
def execWatchdogExpiry (s : State) : Out := .next (watchdogExpiry s)
def execCxlConventionalReset (linkDown : Bool) (s : State) : Out := .next (cxlConventionalReset linkDown s)
def execFlashOwnChange (level : Bool) (s : State) : Out := .next (flashOwnChange level s)
def execMonitorTrip (m : Monitor) (s : State) : Out := .next (monitorTrip m s)
def execFuseReadDone (s : State) : Out := .next (fuseReadDone s)
def execFirmwareVerify (s : State) : Out := .next (firmwareVerify s)
def execCxlConfigReady (s : State) : Out := .next (cxlConfigReady s)
def execHbmTrainingDone (s : State) : Out := .next (hbmTrainingDone s)
def execStartUpSelfTest (second : Bool) (failing : List Nat) (mends : List SpareAssign) (s : State) : Out :=
  .next (startUpSelfTest second failing mends s)
def execBootComplete (s : State) : Out := .next (bootComplete s)
def execBypassChange (opens : Bool) (s : State) : Out := .next (bypassChange opens s)
def execJoinNoticeResend (s : State) : Out := .next (joinNoticeResend s)

end Sys2Proof.Machine
end

