-- ==== Sys2Proof/Machine/Routes.lean ====
section
/-! DEFINITION. Sys2Proof/Machine/Routes.lean: the routing of best-effort frames (R240, R263), messages to the parent (R249), and
slot epochs (R161, R241). -/

namespace Sys2Proof.Machine

/-! ### Best-effort routing (R240, R263) -/

/-- The routing table entry of a destination rank (R263). -/
def State.routeEntry (s : State) (dest : Nat) : Nat := leNat (((s.oct 0x402001).drop (2 * dest)).take 2)

/-- The port that a best-effort frame leaves by: the primary port, the alternate port while the primary is not Up (R240). A
valid primary port that is not Up is waited for when the table names no alternate (DEDUCED, log entry 25). -/
def State.routePort (s : State) (dest : Nat) : Option Nat :=
  let e := s.routeEntry dest
  let primary := bitsOf 15 11 e
  let alternate := bitsOf 10 6 e
  let valid (p : Nat) (bit : Nat) : Bool := e.testBit bit && p < 28
  if valid primary 5 && ((s.portAt primary).up || !valid alternate 4) then some primary
  else if valid alternate 4 then some alternate
  else none

/-- A best-effort frame waits for an unowned slot of a port (R240). -/
def State.queueBest (s : State) (port : Nat) (f : BeFrame) : State := s.mapPort port fun p => { p with beQueue := p.beQueue ++ [f] }

/-- A best-effort frame is routed; one without a valid port is dropped and counted (R240). -/
def State.routeBest (s : State) (f : BeFrame) : State :=
  match s.routePort f.dest with
  | some p => s.queueBest p f
  | none => s.bump 0x404008

/-- This device sends a best-effort frame to a rank. -/
def State.sendBest (s : State) (dest : Nat) (c : BestEffort) : State := s.routeBest { dest := dest, source := s.rank, content := c }

/-! ### The tree (R243) -/

/-- A message to the parent (R249); at the lead device there is none. -/
def State.toParent (s : State) (m : ArrivalMsg) : State :=
  let p := s.num 0x40000C
  if p < 28 then s.send (.arrival p m) else s

/-! ### Slot epochs (R161, R241) -/

/-- The widenings in force for the work under way (R64, R161). -/
def State.widenings (s : State) : List (Nat × Nat) :=
  match s.job with
  | none => []
  | some j =>
    if j.binary.serving then j.batches.flatMap (·.attempt.widened)
    else match j.evalRunning with
      | some e => e.2.widened
      | none => j.attempt.widened

/-- The entries of a role's slot plan for a reduction group at a width; group 0 at width 0 is the base plan (R157). -/
def planEntries (b : Binary) (role group width : Nat) : List SlotEntry :=
  ((b.slotPlans.find? fun p => p.group == group && p.width == width && p.role == role).map planSlots).getD []

/-- A plan with a variant put in: the variant's entries replace those of the same port and entry ID (R161; DEDUCED, log
entry 33). -/
def putVariant (plan : List SlotEntry) (v : List SlotEntry) : List SlotEntry :=
  (plan.filter fun e => !v.any fun x => x.port == e.port && x.entryId == e.entryId) ++ v

/-- The slot plan of the epoch that begins now: the base plan and the variants of the widened groups. -/
def State.epochPlan (s : State) : List SlotEntry :=
  match s.job with
  | none => []
  | some j =>
    let compiled (g : Nat) : Nat := ((j.binary.groupWidths.find? fun x => x.1 == g).map (·.2)).getD 48
    s.widenings.foldl (fun plan x => putVariant plan (planEntries j.binary j.role x.1 (widenedBy (compiled x.1) x.2)))
      (planEntries j.binary j.role 0 0)

/-- The variants of a batch leave the plan when the batch ends (R161). -/
def State.settlePlan (s : State) : State :=
  let plan := s.epochPlan
  s.mapFabric fun f => { f with plan := plan }

/-- A port at the beginning of a slot epoch: a named port that has been Up for 1,856 cycles carries scheduled traffic, another Up
port best-effort only (R241, R257, R261). -/
def Port.atEpoch (now : Cycle) (p : Port) : Port :=
  match p.state with
  | .upBestEffort => if p.named && decide (1856 ≤ cyclesSince now p.upSince) then { p with state := .upScheduled } else p
  | .upScheduled => if p.named then p else { p with state := .upBestEffort }
  | _ => p

/-- A slot epoch begins (R241): the plan is installed, and no entry has an anchor or has carried a tile, but for those of serving
batches that the undo did not disturb (R461). -/
def State.beginEpoch (s : State) : State :=
  let plan := s.epochPlan
  let keep := s.serving
  s.mapFabric fun f =>
    { f with plan := plan, arrived := if keep then f.arrived else [], sent := if keep then f.sent else []
             anchors := if keep then f.anchors else []
             begun := if keep then f.begun else [], relay := if keep then f.relay else []
             assembling := if keep then f.assembling else [], ports := f.ports.map (Port.atEpoch s.cycle) }

end Sys2Proof.Machine
end

