-- ==== Sys2Proof/Machine/Hbm.lean ====
section
/-! DEFINITION. Sys2Proof/Machine/Hbm.lean: tiles in HBM with their tag line and line metadata (R139), poison (R349, R352), the
repair list (R354), and the region table's places (R129, R402). -/

namespace Sys2Proof.Machine

/-! ### Tiles in HBM (R139) -/

/-- The tile that stands at an address of HBM, by its tag line (R139), in at most so many lines: its format gives the length
of the payload, and a raw tile takes every line. -/
def State.hbmTileIn (s : State) (addr lines : Nat) : Tile :=
  let tag := tagOfBytes (Memory.readBytes s.host.window addr 32)
  let size := match fmtOf tag.format with
    | .raw | .reserved => (lines - 1) * 64
    | f => min (payloadSize f (tag.rowsM1.toNat + 1) (tag.colsM1.toNat + 1) (blocksDown (s.tensorOf tag.tensorId)))
        ((lines - 1) * 64)
  { tag := tag, payload := Memory.readBytes s.host.window (addr + 64) size }

/-- Whether a line of a tile is poisoned. -/
def State.tilePoison (s : State) (addr lines : Nat) : Bool := (range (addr / 64) lines).any s.linePoison

/-- Whether every line's metadata carries the tag's check value (R139). -/
def State.metaOk (s : State) (addr lines : Nat) (check : W32) : Bool :=
  (range (addr / 64) lines).all fun l => (s.lineMeta l).setWidth 32 == check

/-! ### The repair list (R354) -/

/-- Whether a tensor is step-mutable: class weight or optimizer state (R174). -/
def State.mutableTensor (s : State) (id : W32) : Bool :=
  (s.tensorOf id).elim false fun t => t.cls == 1 || t.cls == 4

/-- The ranks whose harrow-phase placements name a tile, in the order in which they are asked (R355): rising above this device's
rank, then from the lowest. -/
def State.repairPeers (s : State) (x : Repair) : List Nat :=
  match s.job with
  | none => []
  | some j =>
    let harrow := harrowPlacements j.binary.phaseMaps
    let bo := x.blockOffset.toNat
    let holds (r : Nat) : Bool := harrow.any fun p =>
      p.rank == r && p.tensorId == x.tensorId && p.shard == x.shard && p.boFirst ≤ bo && bo < p.boFirst + p.boCount
    let n := s.teamSize
    ((range (s.rank + 1) (n - s.rank - 1)) ++ List.range s.rank).filter holds

/-- The next peer is asked for a listed tile; when none remains, a running job is held (R355). -/
def State.askRepair (s : State) (x : Repair) : State :=
  let put (y : Repair) : State := s.mapRecovery fun c =>
    { c with repairs := c.repairs.map fun z => if z.addr == x.addr then y else z }
  match (s.repairPeers x).find? fun r => !has x.tried r with
  | some r =>
    (put { x with asked := r, tried := x.tried ++ [r] }).sendBest r (.repairFetch s.rank x.tensorId x.shard x.blockOffset)
  | none => (put { x with asked := s.rank }).fabricHold 0x00610007

/-- A tile of the sealed field in a step-mutable tensor enters the repair list, once, and is asked for at once (R354, R356). -/
def State.listRepair (s : State) (addr : Nat) (tag : Tag) : State :=
  let r : Repair := { tensorId := tag.tensorId, shard := tag.shard, blockOffset := tag.blockOffset, addr := addr
                      asked := s.rank }
  let known := s.recovery.repairs.any fun x => x.addr == addr
  if tag.valid && s.mutableTensor tag.tensorId && (if tag.parity then 1 else 0) == s.num 0x205002 && !known then
    (s.mapRecovery fun c => { c with repairs := c.repairs ++ [r] }).askRepair r
  else s

/-- The first line of the tile that a line belongs to: the nearest tag line at or below it whose check value the line's
metadata carries (R139). -/
def State.tileStart (s : State) (check : W32) : Nat → Nat → Option Nat
  | 0, _ => none
  | fuel + 1, line =>
    let tag := tagOfBytes (Memory.readBytes s.host.window (line * 64) 32)
    if tag.valid && tag.check == check then some line
    else if line = 0 then none else s.tileStart check fuel (line - 1)

/-- An uncorrectable line: poisoned, counted, and its tile listed where the sealed field holds it (R349, R354). A line that
already reads as poisoned is no fresh error. -/
def State.lostLine (s : State) (line : Nat) : State :=
  if s.linePoison line then s
  else
    let check : W32 := (s.lineMeta line).setWidth 32
    let s := (s.poisonLine line).bump 0x601002
    match s.tileStart check 9300 line with
    | some l => s.listRepair (l * 64) (tagOfBytes (Memory.readBytes s.host.window (l * 64) 32))
    | none => s

/-! ### The region table -/

/-- The region table of this device's role (R157). -/
def State.regions (s : State) : RegionTable :=
  match s.job with
  | none => {}
  | some j => (j.binary.regions.find? fun r => r.role == j.role).getD {}

/-- The regions of a plot (R129). -/
def State.plotRegions (s : State) (p : Nat) : PlotRegions := (s.regions.plots.find? fun r => r.plot == p).getD {}

/-- The number of the region, among regions given as start and bytes, that holds an address. -/
def regionOf (a : Nat) : List (Nat × Nat) → Option Nat
  | [] => none
  | (b, n) :: l => if b ≤ a && a < b + n then some 0 else (regionOf a l).map (· + 1)

/-- The regions of a pool slice (R129). -/
def poolRegions (t : RegionTable) (slice : Nat) : List (Nat × Nat) :=
  (t.pool.filter fun r => r.1 == slice).map (·.2)

/-- The HBM regions as start and bytes. -/
def hbmRegions (t : RegionTable) : List (Nat × Nat) := t.hbm.map fun r => (r.start, r.bytes)

/-- The HBM region that holds an address. -/
def State.hbmRegionAt (s : State) (a : Nat) : Option HbmRegion :=
  s.regions.hbm.find? fun r => r.start ≤ a && a < r.start + r.bytes

/-- The input binding of the record that a number of work belongs to (R402). -/
def State.bindingOf (s : State) (w : Whose) : List W64 :=
  match s.job with
  | none => []
  | some j =>
    match w with
    | .step => (j.assigned[0]?).elim [] (·.offsets)
    | .ahead => (j.assigned[1]?).elim [] (·.offsets)
    | .eval => j.evalRunning.elim [] (·.1.offsets)
    | .batch t => (j.batches.find? fun b => b.intake.ticket == t).elim [] (·.intake.offsets)

/-- The address that a tine's HBM address stands for, and whether it lies in an intake-bound region (R402). -/
def State.translate (s : State) (w : Whose) (a : Nat) : Nat × Bool :=
  match s.hbmRegionAt a with
  | some r =>
    match r.intake with
    | some k => (s.num 0x201005 + (nth 0 (s.bindingOf w) k).toNat + (a - r.start), true)
    | none => (a, false)
  | none => (a, false)

end Sys2Proof.Machine
end

