-- ==== Sys2Proof/Machine/Unpack.lean ====
section
/-! DEFINITION. Sys2Proof/Machine/Unpack.lean: the LZ4 frame format within the limits of R327 (the format itself PRESUMED from
its public specification, log entry 26) and the sparse bitmap form of R328. -/

namespace Sys2Proof.Machine

/-- How far unpacking of a stream has come: whole, waiting for more bytes, or malformed. -/
inductive Progress where
  | whole | more | bad
  deriving DecidableEq, Repr

/-! ### xxHash-32, the check of LZ4 frames -/

/-- Rotation of a 32-bit value to the left. -/
def xxRot (v n : Nat) : Nat := ((v <<< n) ||| (v >>> (32 - n))) % 2 ^ 32

/-- One round of an accumulator with one lane. -/
def xxRound (acc lane : Nat) : Nat := xxRot ((acc + lane * 2246822519) % 2 ^ 32) 13 * 2654435761 % 2 ^ 32

/-- Stripes of 16 bytes. -/
def xxStripes : Nat → Nat × Nat × Nat × Nat → List Byte → (Nat × Nat × Nat × Nat) × List Byte
  | 0, v, bs => (v, bs)
  | n + 1, (a, b, c, d), bs =>
    let lane (i : Nat) : Nat := leNat ((bs.drop (4 * i)).take 4)
    xxStripes n (xxRound a (lane 0), xxRound b (lane 1), xxRound c (lane 2), xxRound d (lane 3)) (bs.drop 16)

/-- Whole words that follow the stripes. -/
def xxWords : Nat → Nat → List Byte → Nat × List Byte
  | 0, h, bs => (h, bs)
  | n + 1, h, bs => xxWords n (xxRot ((h + leNat (bs.take 4) * 3266489917) % 2 ^ 32) 17 * 668265263 % 2 ^ 32) (bs.drop 4)

/-- xxHash-32 with seed 0. -/
def xxh32 (bs : List Byte) : Nat :=
  let n := bs.length
  let (h, rest) : Nat × List Byte :=
    if n < 16 then (374761393, bs)
    else
      let ((a, b, c, d), rest) := xxStripes (n / 16) (2654435761 + 2246822519 - 2 ^ 32, 2246822519, 0, 2 ^ 32 - 2654435761) bs
      ((xxRot a 1 + xxRot b 7 + xxRot c 12 + xxRot d 18) % 2 ^ 32, rest)
  let (h, rest) := xxWords (rest.length / 4) ((h + n) % 2 ^ 32) rest
  let h := rest.foldl (fun h b => xxRot ((h + b.toNat * 374761393) % 2 ^ 32) 11 * 2654435761 % 2 ^ 32) h
  let h := (h ^^^ (h >>> 15)) * 2246822519 % 2 ^ 32
  let h := (h ^^^ (h >>> 13)) * 3266489917 % 2 ^ 32
  h ^^^ (h >>> 16)

/-! ### LZ4 blocks -/

/-- A length continued by bytes of 255: the length and what follows it. -/
def lz4Length : Nat → Nat → List Byte → Option (Nat × List Byte)
  | 0, _, _ => none
  | _ + 1, _, [] => none
  | fuel + 1, n, b :: bs => if b.toNat = 255 then lz4Length fuel (n + 255) bs else some (n + b.toNat, bs)

/-- The bytes of a match of `n` bytes that begins `off` bytes back. -/
def lz4Match (out : List Byte) (off n : Nat) : List Byte :=
  let base := out.drop (out.length - off)
  (List.range n).map fun i => nth 0 base (i % off)

/-- The sequences of an LZ4 block after `out`; none where the block is corrupt. -/
def lz4Sequences : Nat → List Byte → List Byte → Option (List Byte)
  | 0, _, _ => none
  | _ + 1, _, [] => none
  | fuel + 1, out, t :: bs =>
    let lit := t.toNat / 16
    let head := if lit = 15 then lz4Length fuel 15 bs else some (lit, bs)
    head.bind fun (n, bs) =>
      if bs.length < n then none
      else
        let out := out ++ bs.take n
        match bs.drop n with
        | [] => some out
        | lo :: hi :: bs =>
          let off := lo.toNat + 256 * hi.toNat
          let len := if t.toNat % 16 = 15 then lz4Length fuel 15 bs else some (t.toNat % 16, bs)
          len.bind fun (m, bs) =>
            if off = 0 || out.length < off then none
            else lz4Sequences fuel (out ++ lz4Match out off (m + 4)) bs
        | _ => none

/-- A block decompressed after a history; none where it is corrupt. -/
def lz4Block (history : List Byte) (bs : List Byte) : Option (List Byte) :=
  (lz4Sequences (bs.length + 1) history bs).map fun o => o.drop history.length

/-! ### LZ4 frames (R327) -/

/-- The flags of a frame that is being read. -/
structure Lz4Frame where
  independent : Bool := false
  blockCheck : Bool := false
  contentCheck : Bool := false
  size : Option Nat := none
  blockMax : Nat := 65536
  deriving DecidableEq, Repr

/-- A frame descriptor after its magic: the frame and what follows it, or how far it has come. Version 01, no dictionary ID,
block maximum codes 4 to 7, and a header check that holds (R327). -/
def lz4Header (bs : List Byte) : Option (Lz4Frame × List Byte) × Progress :=
  match bs with
  | flg :: bd :: _ =>
    let f := flg.toNat
    let code := bitsOf 6 4 bd.toNat
    let sized := f.testBit 3
    let n := if sized then 10 else 2
    if bitsOf 7 6 f != 1 || f.testBit 1 || f.testBit 0 || code < 4 || bd.toNat.testBit 7 || bitsOf 3 0 bd.toNat != 0 then
      (none, .bad)
    else if bs.length < n + 1 then (none, .more)
    else if (nth 0 bs n).toNat != bitsOf 15 8 (xxh32 (bs.take n)) then (none, .bad)
    else
      (some ({ independent := f.testBit 5, blockCheck := f.testBit 4, contentCheck := f.testBit 2
               size := if sized then some (leNat ((bs.drop 2).take 8)) else none
               blockMax := 2 ^ (8 + 2 * code) }, bs.drop (n + 1)), .whole)
  | _ => (none, .more)

/-- The blocks of a frame, decompressed after the frame's content so far; what follows the frame. -/
def lz4Blocks (f : Lz4Frame) : Nat → List Byte → List Byte → List Byte × List Byte × Progress
  | 0, out, bs => (out, bs, .more)
  | fuel + 1, out, bs =>
    if bs.length < 4 then (out, bs, .more)
    else
      let v := leNat (bs.take 4)
      let bs := bs.drop 4
      if v = 0 then
        let sizeOk := f.size.all fun n => n == out.length
        if !f.contentCheck then (out, bs, if sizeOk then .whole else .bad)
        else if bs.length < 4 then (out, bs, .more)
        else (out, bs.drop 4, if sizeOk && leNat (bs.take 4) == xxh32 out then .whole else .bad)
      else
        let n := v % 2 ^ 31
        let tail := if f.blockCheck then 4 else 0
        if f.blockMax < n then (out, bs, .bad)
        else if bs.length < n + tail then (out, bs, .more)
        else
          let data := bs.take n
          let checked := !f.blockCheck || leNat ((bs.drop n).take 4) == xxh32 data
          let plain := if 2 ^ 31 ≤ v then some data else lz4Block (if f.independent then [] else out) data
          match plain with
          | some p =>
            if checked && p.length ≤ f.blockMax then lz4Blocks f fuel (out ++ p) (bs.drop (n + tail)) else (out, bs, .bad)
          | none => (out, bs, .bad)

/-- Frames one after another, skippable frames passed over (R327). -/
def lz4Stream : Nat → List Byte → List Byte → List Byte × Progress
  | 0, out, _ => (out, .more)
  | fuel + 1, out, bs =>
    if bs.isEmpty then (out, .whole)
    else if bs.length < 4 then (out, .more)
    else
      let magic := leNat (bs.take 4)
      let bs := bs.drop 4
      if magic / 16 = 0x184D2A5 then
        if bs.length < 4 then (out, .more)
        else
          let n := leNat (bs.take 4)
          if bs.length < 4 + n then (out, .more) else lz4Stream fuel out (bs.drop (4 + n))
      else if magic != 0x184D2204 then (out, .bad)
      else match lz4Header bs with
        | (some (f, bs), _) =>
          match lz4Blocks f (bs.length + 1) [] bs with
          | (p, bs, .whole) => lz4Stream fuel (out ++ p) bs
          | (p, _, g) => (out ++ p, g)
        | (none, g) => (out, g)

/-- The decompressed bytes of LZ4 frames as far as the stream has come. -/
def lz4 (bs : List Byte) : List Byte × Progress := lz4Stream (bs.length + 1) [] bs

/-! ### Sparse bitmap (R328) -/

/-- The bits set in the low `n` bits. -/
def onesIn (n v : Nat) : Nat := ((List.range n).filter fun i => v.testBit i).length

/-- The elements that a group's bitmap and packed elements stand for: an element whose bit is 0 is +0. -/
def sparseGroup (w n bitmap body : Nat) : List Nat :=
  (List.range n).map fun i =>
    if bitmap.testBit i then
      let k := onesIn i bitmap
      bitsOf (w * k + w - 1) (w * k) body
    else 0

/-- The groups of `left` more elements of `w` bits. -/
def sparseGroups (w : Nat) : Nat → Nat → List Byte → List Nat × Progress
  | 0, _, _ => ([], .more)
  | fuel + 1, left, bs =>
    if left = 0 then ([], if bs.isEmpty then .whole else .bad)
    else if bs.length < 4 then ([], .more)
    else
      let n := min 32 left
      let bitmap := leNat (bs.take 4)
      let bytes := (onesIn n bitmap * w + 7) / 8
      let rest := bs.drop 4
      if bitmap / 2 ^ n != 0 then ([], .bad)
      else if rest.length < bytes then ([], .more)
      else
        let g := sparseGroup w n bitmap (leNat (rest.take bytes))
        let r := sparseGroups w fuel (left - n) (rest.drop bytes)
        (g ++ r.1, r.2)

/-- The elements that a sparse bitmap stream stands for, as far as it has come. -/
def sparse (w elements : Nat) (bs : List Byte) : List Nat × Progress := sparseGroups w (elements / 32 + 2) elements bs

end Sys2Proof.Machine
end

