-- ==== Sys2Proof/Machine/Relayout.lean ====
section
/-! DEFINITION. Sys2Proof/Machine/Relayout.lean: what the seed drill makes of a tensor's source bytes (R325, R326): unpacking,
decoding, the element order, tiles of the tensor's format with their tags, and the places of a placement (R270). -/

namespace Sys2Proof.Machine

/-! ### Shape and source order (R158, R325) -/

/-- The extent of an axis of a tensor. -/
def extent (t : TensorEntry) (axis : Nat) : Nat := if axis < t.dims then nth 1 t.shape axis else 1

/-- The elements of a tensor. -/
def elementCount (t : TensorEntry) : Nat := (List.range 6).foldl (fun n a => n * extent t a) 1

/-- The coordinates of a global element index, slowest axis first (R51). -/
def coordinates (t : TensorEntry) (idx : Nat) : List Nat :=
  ((List.range 6).foldr (fun a (acc : List Nat × Nat) => (acc.2 % max (extent t a) 1 :: acc.1, acc.2 / max (extent t a) 1))
    ([], idx)).1

/-- The layout that governs a tensor: its descriptor, or a dense array in the tensor's own format (R325). -/
def layoutOf (b : Binary) (t : TensorEntry) : LayoutDesc :=
  (b.layouts.find? fun l => l.tensorId == t.tensorId).getD
    { tensorId := t.tensorId, srcFormat := t.format, srcBlockAxis := t.blockAxis }

/-- Whether a layout's axis order is a permutation of the six axes. -/
def axisOrderOk (l : LayoutDesc) : Bool :=
  l.axisOrder.length == 6 && (List.range 6).all fun a => has l.axisOrder a

/-- The position of coordinates in the source order, the block axis counted in blocks when `blocks` says so. -/
def sourcePosition (t : TensorEntry) (l : LayoutDesc) (blocks : Bool) (c : List Nat) : Nat :=
  l.axisOrder.foldl (fun p a =>
    if blocks && a = l.srcBlockAxis then p * blocksIn (extent t a) + nth 0 c a / 32 else p * extent t a + nth 0 c a) 0

/-- The blocks of a block-format source. -/
def sourceBlocks (t : TensorEntry) (l : LayoutDesc) : Nat :=
  (List.range 6).foldl (fun n a => n * (if a = l.srcBlockAxis then blocksIn (extent t a) else extent t a)) 1

/-- The source of a tensor, decoded as far as its elements need it: patterns by source position, and the exponents of blocks. -/
structure TensorSource where
  fmt : Fmt := .raw
  patterns : List Nat := []
  exps : List Nat := []
  deriving DecidableEq, Repr

/-- The bytes of a dense source. -/
def denseBytes (t : TensorEntry) (l : LayoutDesc) : Nat :=
  let f := fmtOf l.srcFormat
  if f.isBlock then sourceBlocks t l * (1 + 4 * f.bits) else (elementCount t * f.bits + 7) / 8

/-- The elements of a dense source; a block source holds an exponent run and then an element run, as R42 lays tiles out
(DESIGN CHOICE, log entry 27). -/
def denseSource (t : TensorEntry) (l : LayoutDesc) (bs : List Byte) : TensorSource :=
  let f := fmtOf l.srcFormat
  if f.isBlock then
    let n := sourceBlocks t l
    { fmt := f, exps := (bs.take n).map (·.toNat), patterns := unpack f.bits (32 * n) (bs.drop n) }
  else { fmt := f, patterns := unpack f.bits (elementCount t) bs }

/-- A source unpacked as its layout says: the elements, or how far the bytes have come and what is wrong with them. -/
inductive Drilled where
  | source (x : TensorSource)
  | more
  | bad (status : Nat)
  deriving DecidableEq, Repr

/-- The status of a corrupt LZ4 frame (R327). -/
def badLz4 : Nat := 0x00630002
/-- The status of a malformed sparse bitmap (R328). -/
def badSparse : Nat := 0x00630003
/-- The status of a tensor that its manifest, table or descriptor contradicts (R332). -/
def badSource : Nat := 0x00630007
/-- The status of a poisoned source (R353). -/
def badPoison : Nat := 0x0063000A

/-- Decompression of the stored bytes of a tensor (R326), none of it for an uncompressed layout. -/
def decompress (l : LayoutDesc) (bs : List Byte) (whole : Bool) : List Byte × Progress :=
  if l.compression = 1 || l.compression = 3 then
    let r := lz4 bs
    (r.1, if whole || r.2 = .bad then r.2 else .more)
  else (bs, if whole then .whole else .more)

/-- The source of a tensor from its stored bytes: `whole` says that all of them are here. -/
def unpackTensor (t : TensorEntry) (l : LayoutDesc) (bs : List Byte) (whole : Bool) : Drilled :=
  match decompress l bs whole with
  | (_, .bad) => .bad badLz4
  | (plain, g) =>
    if l.compression = 2 || l.compression = 3 then
      match sparse (fmtOf l.srcFormat).bits (elementCount t) plain with
      | (_, .bad) => .bad badSparse
      | (es, .whole) =>
        if g = .whole then .source { fmt := fmtOf l.srcFormat, patterns := es }
        else if whole then .bad badLz4 else .more
      | (_, .more) => if g = .whole then .bad badSparse else if whole then .bad badLz4 else .more
    else if g = .whole then
      (if plain.length = denseBytes t l then .source (denseSource t l plain) else .bad badSource)
    else if denseBytes t l < plain.length then .bad badSource
    else if whole then .bad badLz4 else .more

/-- The value of an element of the source with exp_adjust added (R325). -/
def sourceElem (t : TensorEntry) (l : LayoutDesc) (x : TensorSource) (idx : Nat) : Elem :=
  let c := coordinates t idx
  let adjust (e : Elem) : Elem := match e with
    | .fin m f => .fin m (f + l.expAdjust)
    | e => e
  let pos := sourcePosition t l false c
  let blk := sourcePosition t l true c
  let v := nth 0 x.patterns (32 * blk + nth 0 c l.srcBlockAxis % 32)
  match x.fmt with
  | .fp f => adjust (decodeFp f (nth 0 x.patterns pos))
  | .mx f => adjust (decodeMx f (nth 0 x.exps blk) v)
  | .mxint8 => adjust (decodeField 8 (nth 0 x.exps blk) v)
  | .field w => adjust (decodeField w (nth 0 x.exps blk) v)
  | .i32 => adjust (.fin (ofPattern 32 (nth 0 x.patterns pos)) 0)
  | _ => adjust (.fin (nth 0 x.patterns pos : Nat) 0)

/-! ### Tiles of a shard (R42, R136) -/

/-- The extent of an axis of a tensor as it is placed: with its padding (R277), and a block axis that is not the last one filled
to whole blocks where more than one axis makes up the rows, so that no block leaves its axis (R41). -/
def placedExtent (t : TensorEntry) (d : ShardDecl) (axis : Nat) : Nat :=
  let n := max (extent t axis) (nth 0 d.padded axis)
  if axis = t.blockAxis && axis + 1 != t.dims && 2 < t.dims then 32 * blocksIn n else n

/-- The axes that make up the rows of a tensor seen as a matrix, slowest first: the block axis is the fastest of them (R41; log
entry 146). -/
def rowAxes (t : TensorEntry) : List Nat :=
  let axes := List.range (t.dims - 1)
  if t.blockAxis + 1 < t.dims then axes.filter (· != t.blockAxis) ++ [t.blockAxis] else axes

/-- Where a shard's tile grid lies (log entry 9). -/
def shardOf (b : Binary) (t : TensorEntry) (shard : W32) : ShardDecl :=
  let whole : ShardDecl := { tensorId := t.tensorId, shard := shard }
  (b.shards.find? fun d => d.tensorId == t.tensorId && d.shard == shard).getD
    { whole with rows := (rowAxes t).foldl (fun n a => n * placedExtent t whole a) 1, cols := placedExtent t whole (t.dims - 1) }

/-- The coordinates of a matrix row along the row axes, as pairs of axis and coordinate. -/
def rowCoordinates (t : TensorEntry) (d : ShardDecl) (row : Nat) : List (Nat × Nat) :=
  ((rowAxes t).foldr (fun a (acc : List (Nat × Nat) × Nat) =>
    let n := max (placedExtent t d a) 1
    ((a, acc.2 % n) :: acc.1, acc.2 / n)) ([], row)).1

/-- The global element index at a place of the matrix; padding has none (R41, R51, R277). -/
def indexOfPlace (t : TensorEntry) (d : ShardDecl) (row col : Nat) : Option Nat :=
  let cs := (t.dims - 1, col) :: rowCoordinates t d row
  let at_ (a : Nat) : Nat := ((cs.find? fun c => c.1 == a).map (·.2)).getD 0
  if cs.any fun c => extent t c.1 ≤ c.2 then none
  else some ((List.range t.dims).foldl (fun p a => p * extent t a + at_ a) 0)

/-- A tile of a shard: its rows, its columns and the first of them in the tensor's matrix. -/
structure TileShape where
  rows : Nat := 0
  cols : Nat := 0
  row : Nat := 0
  col : Nat := 0
  deriving DecidableEq, Repr

/-- The tile of a block offset in a shard's grid of 192 × 192 tiles, row by row. -/
def tileShape (b : Binary) (t : TensorEntry) (shard : W32) (bo : Nat) : TileShape :=
  let d := shardOf b t shard
  let across := max ((d.cols + 191) / 192) 1
  let r0 := 192 * (bo / across)
  let c0 := 192 * (bo % across)
  { rows := min 192 (d.rows - r0), cols := min 192 (d.cols - c0), row := d.firstRow + r0, col := d.firstCol + c0 }

/-- The global element indices of a tile by rows; padding has none (R51). -/
def tileIndices (b : Binary) (t : TensorEntry) (shard : W32) (bo : Nat) : List (List (Option Nat)) :=
  let sh := tileShape b t shard bo
  let d := shardOf b t shard
  (List.range sh.rows).map fun i => (List.range sh.cols).map fun j => indexOfPlace t d (sh.row + i) (sh.col + j)

/-- An element on its way into a tile: its index, its value and its random value; padding is none. -/
abbrev Drilling := Option (Nat × Elem × Nat)

/-- The block of a source that a block of a tile copies under R58: MXINT8 into Field-8 or the reverse, the same 32 places along
the block axis, and no exp_adjust (log entry 146). -/
def copiedSource (t : TensorEntry) (l : LayoutDesc) (x : TensorSource) (b : List Drilling) : Option Block :=
  let f := fmtOf t.format
  let pair := (x.fmt == .mxint8 && f == .field 8) || (x.fmt == .field 8 && f == .mxint8)
  let real := b.filterMap id
  match real with
  | [] => none
  | e :: _ =>
    let blk (k : Nat) : Nat := sourcePosition t l true (coordinates t k)
    let inPlace := (b.zipIdx).all fun p => p.1.all fun q =>
      blk q.1 == blk e.1 && nth 0 (coordinates t q.1) t.blockAxis % 32 == p.2
    if pair && l.srcBlockAxis = t.blockAxis && l.expAdjust = 0 && inPlace then
      some (copyBlock (nth 0 x.exps (blk e.1)) ((x.patterns.drop (32 * blk e.1)).take 32)
        ((List.range 32).map fun i => (nth none b i).isSome))
    else none

/-- The payload of a tile converted from its elements, and its counts (R55, R58 to R61). -/
def convertTile (t : TensorEntry) (l : LayoutDesc) (x : TensorSource) (mode : Mode) (m : List (List Drilling)) :
    List Byte × Counts :=
  match fmtOf t.format with
  | .fp f =>
    let es := m.flatMap fun r => r.map fun e => e.elim ((0, {}) : Nat × Counts) fun q => convertOut f q.2.1 mode q.2.2
    (pack f.bits (es.map (·.1)), es.foldl (fun n e => n.plus e.2) {})
  | f =>
    let cols := (m.head?.map (·.length)).getD 0
    let lines := if blocksDown (some t) then transpose none cols m else m
    let bs := lines.map fun r => (runs 32 r).map fun b =>
      (copiedSource t l x b).getD ((convertBlock f mode
        (b.map (fun e => (e.map (·.2.1), e.elim 0 (·.2.2))) ++ List.replicate (32 - b.length) (none, 0))).getD {})
    (blockBytes f.bits bs, (bs.flatMap id).foldl (fun n b => n.plus b.counts) {})

/-- Whether the drill can make tiles of a format: floating-point and block formats, and integers or raw bytes as they are. -/
def drillable (target source : Fmt) : Bool :=
  match target with
  | .fp _ | .mx _ | .mxint8 | .field _ => true
  | .u32 | .i32 | .raw => target == source
  | _ => false

/-- A tile of a tensor from its source, with its tag and check value, and what its conversion counts (R326, R138). `step` is the
step it is written for and `odd` the field. R52 names no counter for a drill's stochastic rounding: it is 0 (DESIGN CHOICE, log
entry 145). -/
def drillTile (b : Binary) (seed : Nat) (t : TensorEntry) (l : LayoutDesc) (x : TensorSource) (shard : W32) (bo step : Nat)
    (odd : Bool) : Tile × Counts :=
  let sh := tileShape b t shard bo
  let (mode, dom) := classMode t.cls.toNat
  let key := if mode = .sr then streamKey seed dom 0 t.tensorId.toNat else []
  let places := tileIndices b t shard bo
  let f := fmtOf t.format
  let m := places.map fun r => r.map fun k => k.map fun k => (k, sourceElem t l x k, if mode = .sr then seedbed key k else 0)
  let bits := places.flatMap fun r => r.map fun k => k.elim 0 fun k => nth 0 x.patterns (sourcePosition t l false (coordinates t k))
  let (payload, counts) := match f with
    | .u32 | .i32 => (pack 32 bits, ({} : Counts))
    | .raw | .reserved | .fwp | .fw _ => (pack 8 bits, {})
    | _ => convertTile t l x mode m
  (sealTile
    { tag := { tensorId := t.tensorId, stepLo := BitVec.ofNat 32 step, shard := shard, blockOffset := BitVec.ofNat 40 bo
               format := t.format, rowsM1 := BitVec.ofNat 8 (sh.rows - 1), colsM1 := BitVec.ofNat 8 (sh.cols - 1)
               valid := true, parity := odd }
      payload := payload }, counts)

/-- What a conversion outside the plots counts, delivered to its tensor's tally slot (R56). -/
def State.countInto (s : State) (t : TensorEntry) (n : Counts) : State :=
  if t.tallySlot = 0xFFFF then s
  else
    let c := s.records.current
    let k := t.tallySlot.toNat
    { s with records := { s.records with current :=
        { c with tally := SMap.set {} c.tally k ((SMap.get {} c.tally k).plus n.tally) } } }

/-- The FP32 elements of a season tensor, from a first one on, from bytes that its layout governs, and what the conversion counts
(R324 to R326); none where the bytes do not make the tensor. -/
def seasonWords (b : Binary) (seed : Nat) (id : W32) (first n : Nat) (bs : List Byte) : Option (List W32 × Counts) :=
  match b.tensors.find? (·.tensorId == id) with
  | none => none
  | some t =>
    let l := layoutOf b t
    let (mode, dom) := classMode t.cls.toNat
    let key := if mode = .sr then streamKey seed dom 0 id.toNat else []
    match if drillable (.fp fp32) (fmtOf l.srcFormat) then unpackTensor t l bs true else .more with
    | .source x =>
      let es := (range first n).map fun i => convertOut fp32 (sourceElem t l x i) mode (if mode = .sr then seedbed key i else 0)
      some (es.map fun e => BitVec.ofNat 32 e.1, es.foldl (fun c e => c.plus e.2) {})
    | _ => none

/-! ### Places (R270) -/

/-- Whether a tensor is step-mutable: class weight or optimizer state (R174). -/
def mutableEntry (t : TensorEntry) : Bool := t.cls == 1 || t.cls == 4

/-- This device's placements of a tensor, one per tile place: two phases that keep a tile in one place name it once. -/
def State.placementsOf (s : State) (id : W32) : List Placement :=
  match s.job with
  | none => []
  | some j => (j.binary.phaseMaps.placements.filter fun p => p.tensorId == id && p.rank == s.rank).foldl
      (fun l p => if l.any fun q => { q with primary := p.primary } == p then l else l ++ [p]) []

/-- The start of an HBM region by its number. -/
def State.hbmStart (s : State) (n : Nat) : Nat := ((s.regions.hbm.find? fun r => r.number == n).map (·.start)).getD 0

/-- A tile written into the i-th region of a run, in the field that its parity names: the state, and the HBM address it
took. -/
def State.writePlaced (s : State) (p : Placement) (i : Nat) (t : Tile) : State × Option Nat :=
  let n := (if t.tag.parity then p.oddRegion else p.region) + i
  match p.store with
  | 1 => let a := s.hbmStart n
         (s.writeHbmTile a t, some a)
  | 2 => (s.setRegion p.plot (.loam n) { tile := t, ready := true }, none)
  | 3 => (s.setRegion 0 (.pool p.plot n) { tile := t, ready := true }, none)
  | 4 => (s.setRegion p.plot (.crib n) { tile := t, ready := true }, none)
  | _ => (s, none)

/-- A tensor's source laid into this device's placements: the state, the addresses written, and the counts. -/
def State.layTensor (s : State) (t : TensorEntry) (l : LayoutDesc) (x : TensorSource) (step : Nat) (odd : Bool) :
    State × List Nat × Counts :=
  match s.job with
  | none => (s, [], {})
  | some j =>
    (s.placementsOf t.tensorId).foldl (fun acc p =>
      (List.range p.boCount).foldl (fun acc i =>
        let sh := tileShape j.binary t p.shard (p.boFirst + i)
        if sh.rows = 0 || sh.cols = 0 then acc
        else
          let (tile, n) := drillTile j.binary s.jobSeed t l x p.shard (p.boFirst + i) step (odd && mutableEntry t)
          let (s', a) := acc.1.writePlaced p i tile
          (s', acc.2.1 ++ a.toList, acc.2.2.plus n)) acc) (s, [], {})

/-! ### Streams of tiles in the layout of R139 -/

/-- The bytes of the tile that stands first in a stream: its tag line and its payload lines. -/
def streamTileBytes (s : State) (tag : Tag) : Nat :=
  64 + 64 * payloadLines
    (payloadSize (fmtOf tag.format) (tag.rowsM1.toNat + 1) (tag.colsM1.toNat + 1) (blocksDown (s.tensorOf tag.tensorId)))

/-- The tile that stands first in a stream, with its payload. -/
def streamTile (s : State) (bs : List Byte) : Tile :=
  let tag := tagOfBytes bs
  { tag := tag
    payload := (bs.drop 64).take
      (payloadSize (fmtOf tag.format) (tag.rowsM1.toNat + 1) (tag.colsM1.toNat + 1) (blocksDown (s.tensorOf tag.tensorId))) }

/-- The whole tiles of a stream, at most `fuel`. -/
def streamTiles (s : State) : Nat → List Byte → List Tile
  | 0, _ => []
  | fuel + 1, bs =>
    if bs.length < 64 then []
    else
      let n := streamTileBytes s (tagOfBytes bs)
      if bs.length < n then [] else streamTile s bs :: streamTiles s fuel (bs.drop n)

/-- A tile from a stream written where this device's placements hold it; a tile of step-mutable state goes into the even or the
odd field. -/
def State.layTile (s : State) (t : Tile) (odd : Bool) : State × List Nat :=
  let t := { t with tag := { t.tag with parity := odd && s.mutableTensor t.tag.tensorId } }
  (s.placementsOf t.tag.tensorId).foldl (fun acc p =>
    let bo := t.tag.blockOffset.toNat
    if p.shard = t.tag.shard && p.boFirst ≤ bo && bo < p.boFirst + p.boCount then
      let r := acc.1.writePlaced p (bo - p.boFirst) t
      (r.1, acc.2 ++ r.2.toList)
    else acc) (s, [])

end Sys2Proof.Machine
end

