-- ==== Sys2Proof/Machine/Tines.lean ====
section
/-! DEFINITION. Sys2Proof/Machine/Tines.lean: the tine and sync slots, tine descriptors, requests, returns and acknowledgements
(R131 to R135, R138 to R140), and the start of tier moves (R342). -/

namespace Sys2Proof.Machine

/-! ### Descriptors (R131, R132) -/

/-- A tine descriptor (R131). -/
structure TineDesc where
  op : Nat
  space : Nat
  ringFirst : Nat
  ringLen : Nat
  token : Nat
  tokenCount : Nat
  base : Nat
  lines : Nat
  counts : List Nat
  strides : List Int
  tensorId : W32
  shard : W32
  boBase : Nat
  boSteps : List Nat
  format : BitVec 8
  deriving DecidableEq, Repr

/-- The fields of a descriptor's 512 bits; the lists run from loop 0 to loop 3. -/
def tineDesc (d : BitVec 512) : TineDesc :=
  let v := d.toNat
  { op := bitsOf 511 504 v, space := bitsOf 503 500 v, ringFirst := bitsOf 495 486 v, ringLen := bitsOf 485 478 v
    token := bitsOf 477 466 v, tokenCount := bitsOf 465 448 v, base := bitsOf 447 408 v, lines := bitsOf 407 384 v
    counts := [bitsOf 335 320 v, bitsOf 351 336 v, bitsOf 367 352 v, bitsOf 383 368 v]
    strides := [ofPattern 40 (bitsOf 199 160 v), ofPattern 40 (bitsOf 239 200 v), ofPattern 40 (bitsOf 279 240 v),
                ofPattern 40 (bitsOf 319 280 v)]
    tensorId := BitVec.ofNat 32 (v / 2 ^ 128), shard := BitVec.ofNat 32 (v / 2 ^ 96), boBase := bitsOf 95 56 v
    boSteps := [bitsOf 19 8 v, bitsOf 31 20 v, bitsOf 43 32 v, bitsOf 55 44 v], format := BitVec.ofNat 8 v }

/-- The tiles of a descriptor. -/
def tineTiles (d : TineDesc) : Nat := d.counts.foldl (· * ·) 1

/-- The loop indices of the t-th tile, loop 0 innermost (R132). -/
def loopIndices : Nat → List Nat → List Nat
  | _, [] => []
  | t, n :: ns => t % n :: loopIndices (t / n) ns

/-- The address of the t-th tile: a 40-bit result (R132). -/
def tineAddr (d : TineDesc) (t : Nat) : Nat :=
  let offs : Int := ((loopIndices t d.counts).zip d.strides).foldl (fun a p => a + p.1 * p.2) 0
  ((d.base + offs) % (2 ^ 40 : Nat)).toNat

/-- The block offset of the t-th tile: a 40-bit result (R132). -/
def tineOffset (d : TineDesc) (t : Nat) : Nat :=
  (((loopIndices t d.counts).zip d.boSteps).foldl (fun a p => a + p.1 * p.2) d.boBase) % 2 ^ 40

/-- Requests per tile: 512 B each, the last one the rest (R134). -/
def tileRequests (d : TineDesc) : Nat := (d.lines * 64 + 511) / 512

/-- The ring region of the t-th tile (R132). -/
def ringRegion (d : TineDesc) (t : Nat) : Nat := d.ringFirst + t % (max d.ringLen 1)

/-! ### Tines of a plot -/

/-- A tine of a plot. -/
def tineOf (pl : Plot) (n : Nat) : Tine := SMap.get {} pl.tines n

/-- The state with one tine changed. -/
def State.mapTine (s : State) (p n : Nat) (f : Tine → Tine) : State :=
  s.mapPlot p fun pl => { pl with tines := SMap.set {} pl.tines n (f (tineOf pl n)) }

/-- What a tine works for: it may serve the next step before its plot does (R142). -/
def State.tineWhose (s : State) (pl : Plot) (t : Tine) : Whose :=
  match s.whose pl with
  | .step | .ahead => if t.ahead then .ahead else .step
  | w => w

/-- The descriptor that a running tine stands at (R131). -/
def currentDesc (t : Tine) : Option (BitVec 512) := if t.running && t.xfer.isNone then t.descs[t.pos]? else none

/-- A tine that may start the descriptor it stands at, when its code is the given one: a descriptor of step n + 1 waits for
the seal of step n in single-field mode and with taps on (R202, R222). -/
def State.tineAt (s : State) (p n op : Nat) : Option (Plot × Tine × BitVec 512) :=
  if !s.runsAt p then none
  else match s.plotAt p with
    | none => none
    | some pl =>
      let t := tineOf pl n
      match currentDesc t with
      | some d =>
        if bitsOf 511 504 d.toNat = op && !(t.ahead && (s.singleField || s.num 0x802001 != 0)) then some (pl, t, d) else none
      | none => none

/-- A tine past its descriptor. -/
def nextDesc (t : Tine) : Tine := { t with pos := t.pos + 1, xfer := none }

/-- The requests of a tine that are in flight (R134). -/
def inFlight (t : Tine) : Nat := t.stale + t.xfer.elim 0 fun x => x.next - x.done

/-- TINE_START (R121): the tine slot starts a tine on a list of descriptors; a running tine keeps its list. Requests of a transfer
that the start drops are still in flight, and their credits return with them (R134). A list that a plot starts ahead of its step's
seal is the next step's (R142). -/
def tineStart (p n : Nat) (descs : List (BitVec 512)) (s : State) : State :=
  if (s.issuing p).isSome then
    let ahead := (s.plotAt p).elim false (speculative s)
    s.mapTine p n fun t =>
      if t.running then t else { t with ahead := ahead, descs := descs, pos := 0, running := true, stale := inFlight t, xfer := none }
  else s

/-- A credit of a plot returns (R134). -/
def State.returnCredit (s : State) (p : Nat) : State := s.mapPlot p fun q => { q with creditsUsed := q.creditsUsed - 1 }

/-- The oldest request in flight of a dropped transfer returns: its data or acknowledgement is dropped. -/
def State.returnStale (s : State) (p n : Nat) : State :=
  (s.mapTine p n fun t => { t with stale := t.stale - 1 }).returnCredit p

/-- TINE_STOP (R121): no request follows. -/
def tineStop (p n : Nat) (s : State) : State :=
  if (s.issuing p).isSome then s.mapTine p n fun t => { t with running := false } else s

/-- A region without valid and ready bits (R133). -/
def released (r : Region) : Region :=
  { tile := { r.tile with tag := { r.tile.tag with valid := false } }, ready := false }

/-- REGION_RELEASE (R133). -/
def regionRelease (p region : Nat) (s : State) : State :=
  if (s.issuing p).isSome then s.setRegion p (.crib region) (released (s.regionAt p (.crib region))) else s

/-- A tine NOP goes on. -/
def tineNop (p n : Nat) (s : State) : State := if (s.tineAt p n 0).isSome then s.mapTine p n nextDesc else s

/-- A LOAD or STORE starts its transfer (R131, R132); one of no tile ends at once. -/
def State.startTransfer (s : State) (p n op : Nat) : State :=
  match s.tineAt p n op with
  | some (_, _, d) =>
    if tineTiles (tineDesc d) = 0 || tileRequests (tineDesc d) = 0 then s.mapTine p n nextDesc
    else s.mapTine p n fun t => { t with xfer := some { desc := d } }
  | none => s

/-- TINE_LOAD starts (R131). -/
def tineLoad (p n : Nat) (s : State) : State := s.startTransfer p n 1

/-- TINE_STORE starts (R131). -/
def tineStore (p n : Nat) (s : State) : State := s.startTransfer p n 2

/-- MARK records the tine's cursor at a step boundary (R131): the entry to the current step before its plot has entered it,
else the entry to the next step, and the tine then serves that step (R142). A second boundary ahead waits for the seal. -/
def tineMark (p n : Nat) (s : State) : State :=
  match s.tineAt p n 3 with
  | some (pl, t, _) =>
    if t.ahead then s
    else if pl.entered && !s.serving && s.evaluating.isNone then
      s.mapTine p n fun t => { nextDesc t with nextMark := some (t.pos + 1, true), ahead := true }
    else s.mapTine p n fun t => { nextDesc t with markPos := t.pos + 1, markRunning := true }
  | none => s

/-- END stops the tine (R131). -/
def tineEnd (p n : Nat) (s : State) : State :=
  if (s.tineAt p n 4).isSome then s.mapTine p n fun t => { t with running := false, pos := t.pos + 1 } else s

/-! ### Requests (R134, R167) -/

/-- The regions that a far side has for a plot, and the offset of an address in it (R131). -/
def State.farRegions (s : State) (p space addr : Nat) : List (Nat × Nat) × Nat :=
  match space with
  | 1 => (hbmRegions s.regions, addr)
  | 2 => ((s.plotRegions p).loam, addr)
  | 3 => (poolRegions s.regions (addr / 2 ^ 32 % 256), addr % 2 ^ 32)
  | 4 => ((s.plotRegions (addr / 2 ^ 32 % 256)).crib, addr % 2 ^ 32)
  | 5 => ((s.plotRegions (addr / 2 ^ 32 % 256)).loam, addr % 2 ^ 32)
  | _ => ([], addr)

/-- Whether a request's first and last bytes lie in regions of its space (R167, kind 0x07). -/
def State.addressOk (s : State) (p : Nat) (d : TineDesc) (addr r : Nat) : Bool :=
  if d.space = 6 then d.op == 2
  else
    let (rs, a) := s.farRegions p d.space addr
    let last := min (512 * (r + 1)) (d.lines * 64) - 1
    (regionOf (a + 512 * r) rs).isSome && (regionOf (a + last) rs).isSome

/-- The place on the device that a far address stands for, outside HBM and the send queue: a plot and a location in it. -/
def State.farPlace (s : State) (p : Nat) (d : TineDesc) (addr : Nat) : Option (Nat × Loc) :=
  let (rs, a) := s.farRegions p d.space addr
  (regionOf a rs).bind fun k =>
    match d.space with
    | 2 => some (p, .loam k)
    | 3 => some (p, .pool (addr / 2 ^ 32 % 256) k)
    | 4 => some (addr / 2 ^ 32 % 256, .crib k)
    | 5 => some (addr / 2 ^ 32 % 256, .loam k)
    | _ => none

/-- Whether a LOAD's next tile may be asked for: its token has counted, and its ring region is released (R133, R135). -/
def State.loadMay (s : State) (pl : Plot) (t : Tine) (d : TineDesc) (x : Transfer) : Bool :=
  let per := tileRequests d
  let n := x.next / per
  let free := !(SMap.get {} pl.crib (ringRegion d n)).tile.tag.valid
  (d.token == 0 || d.tokenCount ≤ s.token (s.tineWhose pl t == .ahead) d.token) &&
    (x.next % per != 0 || (free && n < x.done / per + max d.ringLen 1))

/-- Whether a STORE's next tile may leave: it stands ready, and it is not a speculative tile on its way to HBM (R143). -/
def storeMay (pl : Plot) (d : TineDesc) (x : Transfer) : Bool :=
  let r := SMap.get {} pl.crib (ringRegion d (x.next / tileRequests d))
  r.ready && !(d.space == 1 && r.tile.tag.spec)

/-- TINE_REQUEST_ISSUE (R134, R167): one request, under a transaction credit; an address outside the job's regions is a contract
fault, and no request is made. -/
def tineRequestIssue (p n : Nat) (s : State) : State :=
  if !s.runsAt p then s
  else match s.plotAt p with
    | none => s
    | some pl =>
      let t := tineOf pl n
      match t.xfer with
      | none => s
      | some x =>
        let d := tineDesc x.desc
        let per := tileRequests d
        let may := if d.op = 1 then s.loadMay pl t d x else storeMay pl d x
        if !t.running || tineTiles d * per ≤ x.next || pl.credits ≤ pl.creditsUsed || !may then s
        else if !s.addressOk p d (tineAddr d (x.next / per)) (x.next % per) then
          (s.mapTine p n fun t => { t with running := false }).meetFault (s.tineWhose pl t) 0x07 p 0xFFFF 0xFFFF
        else
          (s.mapTine p n fun t => { t with xfer := some { x with next := x.next + 1 } }).mapPlot p
            fun q => { q with creditsUsed := q.creditsUsed + 1 }

/-! ### Loads -/

/-- A corrected line of HBM: counted, and its row pending once the row reaches row_threshold (R348, R351). -/
def State.correctedLine (s : State) (line : Nat) : State :=
  let s := s.bump 0x601001
  let row := Config.rowOfLine line
  let n := SMap.get 0 s.recovery.rowErrors row + 1
  let s := s.mapRecovery fun r => { r with rowErrors := SMap.set 0 r.rowErrors row n }
  if n = s.num 0x601007 then
    let s := s.mapRecovery fun r => { r with pendingRows := addOnce r.pendingRows row }
    s.setNum 0x601008 (min s.recovery.pendingRows.length 65535)
  else s

/-- What a read of stored data found (R347 to R349), for HBM at a line, else for SRAM. -/
def State.countEcc (s : State) (hbm : Bool) (line : Nat) (e : EccResult) : State :=
  match e with
  | .clean => s
  | .corrected => if hbm then s.correctedLine line else s.bump 0x601003
  | .miscorrected => if hbm then (s.correctedLine line).bump 0x601005 else s.bump 0x601003
  | .uncorrectable => if hbm then s.lostLine line else s.bump 0x601004

/-- The copy of a season tensor that a tensor ID names, with the share it belongs to (R299). -/
def SeasonTensor.copyOf (x : SeasonTensor) (id : W32) : Option (List W32) :=
  let d := x.decl
  if id = d.anchors.1 then some x.anchor0
  else if id = d.anchors.2 then some x.anchor1
  else if id = d.momenta.1 then some x.momentum0
  else if id = d.momenta.2 then some x.momentum1
  else if id = d.snapshot then some x.snapshot
  else if id = d.merge then some x.merge
  else none

/-- The tile of a season tensor, as the device holds it (R299). -/
def State.seasonTileAt (s : State) (id shard : W32) (bo : Nat) : Option Tile :=
  match s.job, s.tensorOf id with
  | some j, some t =>
    (s.seasons.tensors.findSome? fun x => (SeasonTensor.copyOf x id).map fun c => (x.decl.base, c)).map fun c =>
      let g := tileShape j.binary t shard bo
      { tag := { rowsM1 := BitVec.ofNat 8 (g.rows - 1), colsM1 := BitVec.ofNat 8 (g.cols - 1) }
        payload := (tileIndices j.binary t shard bo).flatMap fun r => r.flatMap fun k =>
          leBytes 4 (k.elim 0 fun k => (nth 0 c.2 (k - c.1)).toNat) }
  | _, _ => none

/-- The tile that a LOAD fetches, and whether its check holds (R139). A tile from an intake-bound region enters the device
here, and a tile of a season tensor comes from what the Acre engine and the plots wrote of it (R299): its tag is the template's,
with the step that fetches it, and its check value is made (R136, R138; log entry 24). -/
def State.fetched (s : State) (p : Nat) (w : Whose) (d : TineDesc) (t : Nat) : Tile × Bool :=
  let addr := tineAddr d t
  let spec := w == .ahead
  let attempt := BitVec.ofNat 4 (s.attemptNumber w)
  if d.space = 1 then
    let (a, intake) := s.translate w addr
    let season := s.seasonTileAt d.tensorId d.shard (tineOffset d t)
    let raw := season.getD (s.hbmTileIn a d.lines)
    let poison := season.isNone && s.tilePoison a d.lines
    if intake || season.isSome then
      (sealTile { raw with tag :=
        { raw.tag with tensorId := d.tensorId, shard := d.shard, blockOffset := BitVec.ofNat 40 (tineOffset d t)
                       format := d.format, stepLo := BitVec.ofNat 32 (s.numberOf w), attempt := attempt, valid := true
                       poison := poison, spec := spec, parity := false, linkSlot := 0 } }, true)
    else
      ({ raw with tag := { raw.tag with attempt := attempt, spec := spec, poison := raw.tag.poison || poison } },
       tileCheckOk raw && s.metaOk a d.lines raw.tag.check)
  else match s.farPlace p d addr with
    | some (q, l) =>
      let tile := (s.regionAt q l).tile
      ({ tile with tag := { tile.tag with spec := tile.tag.spec || spec } }, tileCheckOk tile)
    | none => ({}, false)

/-- The last request of a tile has returned: the tile is verified, and its ready bit is set (R138, R140). -/
def State.landTile (s : State) (p : Nat) (w : Whose) (d : TineDesc) (t : Nat) (bad lost : Bool) : State :=
  let (tile, ok) := s.fetched p w d t
  let fails := !ok || bad
  let region := ringRegion d t
  let s := if fails then s.meetFault w 0x04 p 0xFFFF region else s
  let tile := { tile with tag := { tile.tag with valid := true, poison := tile.tag.poison || fails || lost } }
  s.setRegion p (.crib region) { tile := tile, ready := true }

/-- TINE_DATA_RETURN (R139): the data of the oldest request; during an undo it is dropped, and its credit returns (R146). A line
that came wrong in any request of a tile fails the tile's check, and a lost one poisons it. -/
def tineDataReturn (p n : Nat) (e : EccResult) (s : State) : State :=
  match s.plotAt p with
  | none => s
  | some pl =>
    let t := tineOf pl n
    if t.stale != 0 then s.returnStale p n
    else match t.xfer with
    | none => s
    | some x =>
      let d := tineDesc x.desc
      let per := tileRequests d
      if x.next ≤ x.done || d.op != 1 || s.job.isNone then s
      else
        let tile := x.done / per
        let last := x.done % per + 1 = per
        let w := s.tineWhose pl t
        let line := (s.translate w (tineAddr d tile)).1 / 64 + 8 * (x.done % per)
        let bad := x.bad || e == .miscorrected
        let lost := x.lost || e == .uncorrectable
        let s := (s.mapTine p n fun t =>
          { t with xfer := some { x with done := x.done + 1, bad := bad && !last, lost := lost && !last } }).returnCredit p
        if !s.runsAt p then s
        else
          let s := s.countEcc (d.space == 1) line e
          let s := if last then s.landTile p w d tile bad lost
            else s.setRegion p (.crib (ringRegion d tile))
              { tile := { (s.fetched p w d tile).1 with tag := { (s.fetched p w d tile).1.tag with valid := true } } }
          if x.done + 1 = tineTiles d * per then s.mapTine p n nextDesc else s

/-! ### Stores -/

/-- The bindings that the tokens of an attempt trigger, once in the attempt (R342). A fill that speculative work triggers waits
for the seal (R343). -/
def State.startTiers (s : State) (ahead : Bool) : State :=
  let fired := if ahead then s.tiers.firedAhead else s.tiers.fired
  let due := ((tierBindings s.regions).zipIdx).filter fun e =>
    e.1.triggerToken != 0 && e.1.triggerCount ≤ s.token ahead e.1.triggerToken && !has fired e.2
  let fill (e : TierBinding × Nat) : Bool := e.1.kind == 0 || e.1.kind == 2
  let now := due.filter fun e => !(ahead && fill e)
  let later := due.filter fun e => ahead && fill e
  let all := fired ++ due.map (·.2)
  { s with tiers := { s.tiers with
      fired := if ahead then s.tiers.fired else all, firedAhead := if ahead then all else s.tiers.firedAhead
      moves := s.tiers.moves ++ now.map (·.2), waiting := s.tiers.waiting ++ later.map (·.2) } }

/-- A token counts up, and a tier binding that it triggers starts (R135, R342). -/
def State.countToken (s : State) (ahead : Bool) (n : Nat) : State := (s.signalToken ahead n).startTiers ahead

/-- TOKEN_SIGNAL (R135): the sync slot counts a token. -/
def tokenSignal (p n : Nat) (s : State) : State := if (s.issuing p).isSome then s.countToken (s.plotAhead p) n else s

/-- A stored tile lands on its far side; a store to HBM verifies the check at the Crib side (R138, R140). -/
def State.storeTile (s : State) (p : Nat) (w : Whose) (d : TineDesc) (t : Nat) : State :=
  let region := ringRegion d t
  let tile := (s.regionAt p (.crib region)).tile
  let addr := tineAddr d t
  if d.space = 1 then
    let bad := !tileCheckOk tile
    let s := if bad then s.meetFault w 0x04 p 0xFFFF region else s
    s.writeHbmTile (s.translate w addr).1 { tile with tag := { tile.tag with poison := tile.tag.poison || bad, spec := false } }
  else if d.space = 6 then s.mapPlot p fun q => { q with sendQueue := q.sendQueue ++ [(tile, 0)] }
  else match s.farPlace p d addr with
    | some (q, l) => s.setRegion q l { tile := tile, ready := true }
    | none => s

/-- STORE_ACK (R135): the far side acknowledges the oldest request; with a tile's last one the token counts. -/
def storeAck (p n : Nat) (s : State) : State :=
  match s.plotAt p with
  | none => s
  | some pl =>
    let t := tineOf pl n
    if t.stale != 0 then s.returnStale p n
    else match t.xfer with
    | none => s
    | some x =>
      let d := tineDesc x.desc
      let per := tileRequests d
      if x.next ≤ x.done || d.op != 2 || s.job.isNone then s
      else
        let w := s.tineWhose pl t
        let last := x.done % per + 1 = per
        let s := (s.mapTine p n fun t => { t with xfer := some { x with done := x.done + 1 } }).returnCredit p
        if !s.runsAt p then s
        else
          let s := if last then (s.storeTile p w d (x.done / per)).countToken (w == .ahead) d.token else s
          if x.done + 1 = tineTiles d * per then s.mapTine p n nextDesc else s

/-- HBM_TIMEOUT (R147): a request of an undo has not returned 4,096 cycles after its beginning. -/
def hbmTimeout (s : State) : State :=
  let waiting := s.plots.any fun pl => pl.stopped && pl.tines.any fun t => t.2.stale != 0 || t.2.xfer.any fun x =>
    x.done < x.next && (tineDesc x.desc).space == 1
  if s.job.elim false (·.undoing) && waiting then s.enterFaulted 5 0 else s

def execTineStart (plot tine : Nat) (descs : List (BitVec 512)) (s : State) : Out := .next (tineStart plot tine descs s)
def execTineStop (plot tine : Nat) (s : State) : Out := .next (tineStop plot tine s)
def execRegionRelease (plot region : Nat) (s : State) : Out := .next (regionRelease plot region s)
def execTineNop (plot tine : Nat) (s : State) : Out := .next (tineNop plot tine s)
def execTineLoad (plot tine : Nat) (s : State) : Out := .next (tineLoad plot tine s)
def execTineStore (plot tine : Nat) (s : State) : Out := .next (tineStore plot tine s)
def execTineMark (plot tine : Nat) (s : State) : Out := .next (tineMark plot tine s)
def execTineEnd (plot tine : Nat) (s : State) : Out := .next (tineEnd plot tine s)
def execTineRequestIssue (plot tine : Nat) (s : State) : Out := .next (tineRequestIssue plot tine s)
def execTineDataReturn (plot tine : Nat) (ecc : EccResult) (s : State) : Out := .next (tineDataReturn plot tine ecc s)
def execStoreAck (plot tine : Nat) (s : State) : Out := .next (storeAck plot tine s)
def execTokenSignal (plot token : Nat) (s : State) : Out := .next (tokenSignal plot token s)
def execHbmTimeout (s : State) : Out := .next (hbmTimeout s)

end Sys2Proof.Machine
end

