-- ==== Sys2Proof/Machine/Drill.lean ====
section
/-! DEFINITION. Sys2Proof/Machine/Drill.lean: weight copies and the serve pointer (R336 to R339), drills and the drill line (R330 to
R335, R460), and the moves of memory tiers (R341 to R343). -/

namespace Sys2Proof.Machine

/-! ### Weight copies (R337) -/

/-- The entry that holds a copy's state. -/
def copyKey (c : Nat) : Nat := 0x206002 + c

/-- The state code of a copy: 0 Empty, 1 Building, 2 Ready, 3 Serving, 4 Draining (R337). -/
def State.copyState (s : State) (c : Nat) : Nat := s.num (copyKey c)

/-- The admitted batches that hold a copy (R336). -/
def State.copyHolders (s : State) (c : Nat) : Nat := s.job.elim 0 fun j => (j.batches.filter fun b => b.copy == c).length

/-- The drill that runs on a copy. -/
def State.runningDrill (s : State) (c : Nat) : Option Drill := s.tiers.drills.find? fun d => d.copy == c && !d.queued

/-- The drill queued on a copy. -/
def State.queuedDrill (s : State) (c : Nat) : Option Drill := s.tiers.drills.find? fun d => d.copy == c && d.queued

/-- The drills with the running one of a copy changed. -/
def State.mapDrill (s : State) (c : Nat) (f : Drill → Drill) : State :=
  { s with tiers := { s.tiers with drills := s.tiers.drills.map fun d => if d.copy == c && !d.queued then f d else d } }

/-- A tile in HBM loses its valid bit; its check value does not cover it (R332, R137). -/
def State.invalidate (s : State) (addr : Nat) : State :=
  let b := Memory.readByte s.host.window addr
  { s with host := { s.host with window := Memory.writeByte s.host.window addr (b &&& 0xF7) } }

/-- A drill ends with a status (R332, R337): its copy is Ready, or Empty with invalid tiles; its record completes with the tally
of its conversions (R344). Members of a line have no record. -/
def State.endDrill (s : State) (d : Drill) (status : Nat) : State :=
  let s := { s with tiers := { s.tiers with drills := s.tiers.drills.filter fun x => !(x.copy == d.copy && x.queued == d.queued) } }
  let s := if status = 0 then s else d.written.foldl State.invalidate (s.bump 0x206105)
  let s := if s.serving && !d.queued then s.setNum (copyKey d.copy) (if status = 0 then 2 else 0) else s
  if d.member then s else s.complete d.ticket { status := status, tally := d.tally }

/-- Every drill ends with a status, as a Harvest asks (R346). -/
def State.abandonDrills (s : State) : State := s.tiers.drills.foldl (fun s d => s.endDrill d 0x00630009) s

/-! ### The manifest (R330) -/

/-- Bytes of the window or of the tier window (R324, R344). -/
def State.sourceBytes (s : State) (inTier : Bool) (addr n : Nat) : List Byte :=
  Memory.readBytes (if inTier then s.host.tier else s.host.window) addr n

/-- The bytes that a window holds: 64 GiB of CXL.mem, or tier_size (R341). -/
def State.windowSize (s : State) (inTier : Bool) : Nat := if inTier then s.num 0x206202 else 2 ^ 36

/-- The bytes of a chunk of the source stream. -/
def chunkSize : Nat := 4194304

/-- A drill with what its manifest says; none for a malformed manifest, or a source beyond its window (R332). -/
def readManifest (d : Drill) (header : List Byte) (crcs : List Byte) (limit : Nat) : Option Drill :=
  let v := leNat header
  let bytes := bitsOf 255 192 v
  let count := bitsOf 191 160 v
  if bitsOf 31 0 v != 0x4C4C5244 || count != (bytes + chunkSize - 1) / chunkSize || bitsOf 159 128 v = 0 || limit < bytes then none
  else
    some { d with sourceBytes := bytes, sourceDigest := BitVec.ofNat 256 (bitsOf 511 256 v)
                  drillId := BitVec.ofNat 32 (bitsOf 127 96 v), manifest := header ++ crcs
                  crcs := (words32 (crcs.take (4 * count))).map (BitVec.ofNat 32) }

/-- The rank that follows this device in the drill chain (R333). -/
def State.chainNext (s : State) : Option Nat :=
  let l := words16 (s.oct 0x206101)
  ((l.dropWhile fun r => r != s.rank).drop 1).head?

/-- The rank that comes before this device in the drill chain (R333). -/
def State.chainPrev (s : State) : Option Nat :=
  let l := (words16 (s.oct 0x206101)).takeWhile fun r => r != s.rank
  l.getLast?

/-- Whether a port is one of the chain's: it leads to the rank before or after this one (R334). -/
def State.chainPort (s : State) (n : Nat) : Bool :=
  has (words16 (s.oct 0x206101)) s.rank &&
    ((s.chainPrev.bind s.routePort) == some n || (s.chainNext.bind s.routePort) == some n)

/-- What a drill line sends on (R333); a device without a route ends its drill (R335). -/
def State.passDrill (s : State) (d : Drill) (c : BestEffort) : State × Bool :=
  if !d.chain then (s, true)
  else match s.chainNext with
    | none => (s, true)
    | some r => if (s.routePort r).isSome then (s.sendBest r c, true) else (s, false)

/-- A drill begins on its copy: Building, and its manifest read before any chunk (R337, R460). -/
def State.startDrill (s : State) (d : Drill) (header crcs : List Byte) (limit : Nat) : State :=
  let d := { d with queued := false }
  let s := if s.serving then s.setNum (copyKey d.copy) 1 else s
  match readManifest d header crcs limit with
  | none =>
    let s := { s with tiers := { s.tiers with drills := s.tiers.drills ++ [d] } }
    s.endDrill d badSource
  | some d =>
    let s := { s with tiers := { s.tiers with drills := s.tiers.drills ++ [d] } }
    let r := s.passDrill d (.drillChunk { copy := d.copy, drillId := d.drillId, manifest := some d.manifest })
    if r.2 then r.1 else r.1.endDrill d 0x00630006

/-- A drill record's drill begins: its manifest stands in the window or the tier window. -/
def State.beginDrill (s : State) (d : Drill) (manifestInTier : Bool) (manifestAddr : Nat) : State :=
  let header := s.sourceBytes manifestInTier manifestAddr 64
  let crcs := s.sourceBytes manifestInTier (manifestAddr + 64) (4 * bitsOf 191 160 (leNat header))
  s.startDrill d header crcs (s.windowSize d.inTier - d.sourceAddr)

/-- A queued drill remembers its manifest's place as bytes: its window and its address. -/
def manifestPlace (inTier : Bool) (addr : Nat) : List Byte := (if inTier then 1 else 0) :: leBytes 8 addr

/-- Copies after a batch has completed or the pointer has moved (R337): holder counts, and a Draining copy without a holder becomes
Ready or begins its queued drill. -/
def State.settleCopy (s : State) (c : Nat) : State :=
  let s := s.setNum (0x206004 + c) (s.copyHolders c)
  if s.copyState c = 4 && s.copyHolders c = 0 then
    match s.queuedDrill c with
    | some d =>
      let s := { s with tiers := { s.tiers with drills := s.tiers.drills.filter fun x => !(x.copy == c && x.queued) } }
      s.beginDrill d ((d.manifest.head?).any (· == 1)) (leNat (d.manifest.drop 1))
    | none => s.setNum (copyKey c) 2
  else s

/-- Both copies settled, in a serving job. -/
def State.settleCopies (s : State) : State := if s.serving then (s.settleCopy 0).settleCopy 1 else s

/-! ### Drill and switch records (R332, R338 to R340, R344) -/

/-- The refusal of a drill record by its state, its job kind and its target (R338 to R340); none when it may begin. -/
def State.drillRefusal (s : State) (target : Nat) : Option Nat :=
  if s.serving then
    if s.ctl.cur != .growing || s.singleField then some 0x00630008
    else match s.copyState target with
      | 3 => some 0x00630004
      | 1 => some 0x00630008
      | 4 => if (s.queuedDrill target).isSome then some 0x00630008 else none
      | _ => none
  else if s.job.isNone || s.ctl.cur != .sown || target != 0 || (s.runningDrill 0).isSome then some 0x00630008
  else none

/-- A drill record is acted on (R344, R337): refused, begun, or queued on a Draining copy. -/
def State.takeDrill (s : State) (ticket : W64) (tag : W64) (body : Nat) : State :=
  let target := bitsOf 151 144 body
  let mTier := body.testBit 137
  let mAddr := bitsOf 127 64 body
  match s.drillRefusal target with
  | some st => s.complete ticket { status := st }
  | none =>
    let d : Drill := { ticket := ticket, userTag := tag, copy := target, chain := body.testBit 138, inTier := body.testBit 136
                       sourceAddr := bitsOf 63 0 body }
    if s.serving && s.copyState target = 4 && s.copyHolders target != 0 then
      { s with tiers := { s.tiers with drills := s.tiers.drills ++
          [{ d with queued := true, manifest := manifestPlace mTier mAddr }] } }
    else s.beginDrill d mTier mAddr

/-- A Switch record is acted on (R338). -/
def State.takeSwitch (s : State) (ticket : W64) (target : Nat) : State :=
  if s.singleField then s.complete ticket { status := 0x00630008 }
  else if s.num 0x206001 = target then s.complete ticket {}
  else
    let st := s.copyState target
    if st = 2 || (st = 4 && (s.queuedDrill target).isNone) then
      let other := 1 - target
      let s := ((s.setNum 0x206001 target).setNum (copyKey target) 3).setNum (copyKey other) 4
      ((s.bump 0x206006).settleCopies).complete ticket {}
    else s.complete ticket { status := 0x00630005 }

/-! ### Chunks (R331, R333, R460) -/

/-- A tally that a drill has counted so far. -/
def tallyPlus (a : Tally) (n : Counts) : Tally :=
  { zeros := stick 40 a.zeros n.zeros, saturations := stick 40 a.saturations n.saturations
    nonfinite := stick 40 a.nonfinite n.nonfinite }

/-- Tiles of a save stream laid where the placements hold them (R325); none where one fails its check. -/
def State.layStream (s : State) (ts : List Tile) (odd : Bool) : Option (State × List Nat) :=
  if ts.all tileCheckOk then
    some (ts.foldl (fun acc t => let r := acc.1.layTile t odd; (r.1, acc.2 ++ r.2)) (s, []))
  else none

/-- A tensor of the stream whose bytes, so far, are `bs` (R325, R326): its tiles and counts, which its tally slot counts too, or what is
missing or wrong. -/
def State.drillTensor (s : State) (t : TensorEntry) (bs : List Byte) (whole odd : Bool) :
    Except Nat (Option (State × List Nat × Counts)) :=
  match s.job with
  | none => .ok none
  | some j =>
    let l := layoutOf j.binary t
    if l.srcKind = 1 then
      if !whole then .ok none
      else match s.layStream (streamTiles s bs.length bs) odd with
        | some (s, w) => .ok (some (s, w, {}))
        | none => .error badSource
    else if !drillable (fmtOf t.format) (fmtOf l.srcFormat) then .error badSource
    else match unpackTensor t l bs whole with
      | .bad st => .error st
      | .more => .ok none
      | .source x =>
      let r := s.layTensor t l x 0 odd
      .ok (some (r.1.countInto t r.2.2, r.2))

/-- The tensors that have come whole since the last chunk are drilled, one after another: `staged` counts the bytes of the stream
that are behind. -/
def State.drillOn : Nat → State → Drill → State × Drill × Option Nat
  | 0, s, d => (s, d, none)
  | fuel + 1, s, d =>
    let rest := d.received.drop d.staged
    if rest.length < 16 then (s, d, none)
    else
      let id := BitVec.ofNat 32 (leNat (rest.take 4))
      let len := leNat ((rest.drop 8).take 8)
      let body := (rest.drop 16).take len
      match s.tensorOf id with
      | none => (s, d, some badSource)
      | some t =>
        match s.drillTensor t body (body.length == len) (d.copy == 1) with
        | .error st => (s, d, some st)
        | .ok none => (s, d, none)
        | .ok (some (s, written, n)) =>
          s.drillOn fuel { d with staged := d.staged + 16 + len, written := d.written ++ written, tally := tallyPlus d.tally n }

/-- A drill's state put back in its place. -/
def State.putDrill (s : State) (d : Drill) : State := s.mapDrill d.copy fun _ => d

/-- A member of the drill line takes the manifest that comes before the chunks (R333). -/
def State.joinLine (s : State) (copy : Nat) (manifest : List Byte) : State :=
  let l := words16 (s.oct 0x206101)
  if (l.drop 1).contains s.rank && (s.drillRefusal copy).isNone && s.copyState copy != 4 then
    s.startDrill { copy := copy, chain := true, member := true } (manifest.take 64) (manifest.drop 64) (2 ^ 64)
  else s

/-- The tile that carries a chunk down the drill line, with its check value (R331, R333). -/
def chunkTile (drillId : W32) (index : Nat) (bytes : List Byte) : Tile :=
  sealTile
    { tag := { tensorId := 0xFFFFFFFD, shard := drillId, blockOffset := BitVec.ofNat 40 index, rowsM1 := 0, colsM1 := 0, valid := true }
      payload := bytes }

/-- A chunk as the drill line sends it on (R333). -/
def chunkOnward (d : Drill) (c : DrillChunk) : DrillChunk :=
  { copy := c.copy, drillId := d.drillId, index := c.index, bytes := c.bytes, tag := (chunkTile d.drillId c.index c.bytes).tag }

/-- Whether a chunk holds: at the head its CRC in the manifest, at a member the check value of its tile (R331). -/
def chunkOk (d : Drill) (c : DrillChunk) : Bool :=
  if d.member then c.tag == (chunkTile d.drillId c.index c.bytes).tag else crc32c c.bytes == nth 0 d.crcs c.index

/-- The bytes of the chunk that comes next: at the head those of the source location, at a member those that came (R324, R333). -/
def State.nextChunk (s : State) (d : Drill) (c : DrillChunk) : List Byte :=
  if d.member then c.bytes
  else s.sourceBytes d.inTier (d.sourceAddr + d.received.length) (min chunkSize (d.sourceBytes - d.received.length))

/-- Whether the chunk that comes next is poisoned: its source says so, or a line of the window that it is read from (R353). -/
def State.chunkPoisoned (s : State) (d : Drill) (c : DrillChunk) : Bool :=
  c.poisoned || (!d.member && !d.inTier &&
    let a := d.sourceAddr + d.received.length
    s.tilePoison a ((a + min chunkSize (d.sourceBytes - d.received.length) + 63) / 64 - a / 64))

/-- The chunks that a line's staging ring holds (R334): a chunk is drilled as it arrives, and leaves the ring with its frame to the next
rank, which waits in a port's queue until then (log entry 69). -/
def State.stagingRing (s : State) : List DrillChunk :=
  s.fabric.ports.flatMap fun p => p.beQueue.filterMap fun f => match f.content with
    | .drillChunk c => if f.source = s.rank && c.manifest.isNone then some c else none
    | _ => none

/-- Whether the staging ring is full: 64 chunks (R334). -/
def State.ringFull (s : State) : Bool := 64 ≤ s.stagingRing.length

/-- DRILL_CHUNK (R331, R333, R334, R460): the next chunk of a running drill is verified, forwarded and drilled; a drill ends at the
first failure, that of a chunk after four repetitions (DEDUCED, log entry 156). A head whose ring is full reads no chunk. -/
def drillChunk (c : DrillChunk) (s : State) : State :=
  match s.runningDrill c.copy, c.manifest with
  | none, some m => s.joinLine c.copy m
  | none, none => s
  | some _, some _ => s
  | some d, none =>
    if c.index != d.nextChunk || d.sourceBytes ≤ d.received.length || (!d.member && s.ringFull) then s
    else
      let c := { c with bytes := s.nextChunk d c, poisoned := s.chunkPoisoned d c }
      let s := s.bump 0x206104 (min c.failures 4)
      if c.poisoned then s.endDrill d badPoison
      else if 4 < c.failures || !chunkOk d c then s.endDrill d (if d.member then 0x00630006 else 0x00630001)
      else
        let s := s.bump 0x206103
        let (s, passed) := s.passDrill d (.drillChunk (chunkOnward d c))
        let d := { d with nextChunk := d.nextChunk + 1, received := d.received ++ c.bytes }
        if !passed then s.endDrill d 0x00630006
        else match (s.putDrill d).drillOn (d.received.length + 1) d with
          | (s, d, some st) => s.endDrill d st
          | (s, d, none) => s.putDrill d

/-- DRILL_COMPLETE (R331, R332): the last byte has come; the digest of the whole source decides. -/
def drillComplete (copy : Nat) (s : State) : State :=
  match s.runningDrill copy with
  | none => s
  | some d =>
    if d.received.length < d.sourceBytes then s
    else if BitVec.ofNat 256 (leNat (shake256 32 d.received)) = d.sourceDigest && d.staged = d.received.length then
      s.endDrill d 0
    else s.endDrill d badSource

/-- DRILL_LINE_TIMEOUT (R335): link_wait has passed on a member without a chunk. -/
def drillLineTimeout (copy : Nat) (s : State) : State :=
  match s.runningDrill copy with
  | some d => if d.chain then s.endDrill d 0x00630006 else s
  | none => s

/-! ### Memory tiers (R341 to R343) -/

/-- The tiles of a region's bytes, each with its offset (R139). -/
def regionTiles (s : State) : Nat → Nat → List Byte → List (Nat × Tile)
  | 0, _, _ => []
  | fuel + 1, off, bs =>
    if bs.length < 64 then []
    else
      let tag := tagOfBytes bs
      let n := streamTileBytes s tag
      if !tag.valid || bs.length < n then regionTiles s fuel (off + 64) (bs.drop 64)
      else (off, streamTile s bs) :: regionTiles s fuel (off + n) (bs.drop n)

/-- A fill's bytes land in HBM, with the lines' metadata made anew (R342). -/
def State.fillRegion (s : State) (start : Nat) (bs : List Byte) : State × Bool :=
  let ts := regionTiles s bs.length 0 bs
  let s := { s with host := { s.host with window := Memory.writeBytes s.host.window start bs } }
  (ts.foldl (fun s t => s.writeHbmTile (start + t.1) t.2) s, ts.all fun t => tileCheckOk t.2)

/-- A binding's move has ended (R342): a fill from the tier window or with the bytes that came from the peer, or a drain. -/
def State.moveTier (s : State) (b : TierBinding) (content : List Byte) : State × Bool :=
  match s.regions.hbm.find? fun r => r.number == b.region with
  | none => (s, true)
  | some r =>
    match b.kind with
    | 0 => (s.bump 0x206204 r.bytes).fillRegion r.start (Memory.readBytes s.host.tier b.backingOffset r.bytes)
    | 2 => (s.bump 0x206204 r.bytes).fillRegion r.start (content.take r.bytes)
    | 1 =>
      let bs := Memory.readBytes s.host.window r.start r.bytes
      (({ s with host := { s.host with tier := Memory.writeBytes s.host.tier b.backingOffset bs } }).bump 0x206205 r.bytes, true)
    | _ =>
      let ts := regionTiles s r.bytes 0 (Memory.readBytes s.host.window r.start r.bytes)
      (ts.foldl (fun s t => s.sendBest b.peerRank (.tierTile b.peerRegion (b.backingOffset + t.1) t.2)) (s.bump 0x206205 r.bytes), true)

/-- TIER_MOVE_DONE (R342, R140): a started move of a region ends; a fill whose check fails is a tag fault; the done token counts
unless an undo is under way. -/
def tierMoveDone (region : Nat) (content : List Byte) (checkOk : Bool) (s : State) : State :=
  let bs := tierBindings s.regions
  match s.tiers.moves.find? fun i => (nth {} bs i).region == region with
  | none => s
  | some i =>
    let b := nth {} bs i
    let s := { s with tiers := { s.tiers with moves := s.tiers.moves.filter (· != i) } }
    let (s, ok) := s.moveTier b content
    if s.job.elim true (·.undoing) then s
    else
      let s := if ok && checkOk then s else s.deviceFault 0x04
      s.countToken false b.doneToken

/-- TIER_TIMEOUT (R343): a move has not ended tier_timeout cycles after the undo began. -/
def tierTimeout (s : State) : State :=
  if s.job.elim false (·.undoing) && !s.tiers.moves.isEmpty then s.enterFaulted 6 0 else s

def execDrillChunk (c : DrillChunk) (s : State) : Out := .next (drillChunk c s)
def execDrillComplete (copy : Nat) (s : State) : Out := .next (drillComplete copy s)
def execDrillLineTimeout (copy : Nat) (s : State) : Out := .next (drillLineTimeout copy s)
def execTierTimeout (s : State) : Out := .next (tierTimeout s)

end Sys2Proof.Machine
end

