-- ==== Sys2Proof/Machine/Harvest.lean ====
section
/-! DEFINITION. Sys2Proof/Machine/Harvest.lean: the Harvest (R32, R364 to R368), the save stream (R366), save holders (R367), HALT
(R123, R463) and the Function Level Reset (R369). -/

namespace Sys2Proof.Machine

/-- The earlier of two counts, compared modulo 2^64. -/
def earlier (a b : Cycle) : Cycle := if reached a b then b else a

/-! ### The save stream (R366) -/

/-- The tiles that stand in HBM, each with its address and whether a line of it is poisoned: a tag line whose check value its
metadata carries begins a tile (R139). -/
def hbmTilesAux (s : State) : Nat → SMap (BitVec 36) → List (Nat × Tile × Bool)
  | _, [] => []
  | next, (l, m) :: ls =>
    let tag := tagOfBytes (Memory.readBytes s.host.window (l * 64) 32)
    if l < next || !tag.valid || m.setWidth 32 != tag.check then hbmTilesAux s next ls
    else
      let t := s.hbmTileIn (l * 64) 9300
      let n := payloadLines t.payload.length + 1
      (l * 64, t, s.tilePoison (l * 64) n) :: hbmTilesAux s (l + n) ls

/-- The tiles that stand in HBM. -/
def State.hbmTiles (s : State) : List (Nat × Tile × Bool) := hbmTilesAux s 0 s.host.lineMeta

/-- The placements of the harrow phase that this device holds as primary (R269 to R271). -/
def State.primaries (s : State) : List Placement :=
  s.job.elim [] fun j => (harrowPlacements j.binary.phaseMaps).filter fun p => p.primary && p.rank == s.rank

/-- Whether a tile is one of a run of a placement, in the sealed field. -/
def State.isSealed (s : State) (p : Placement) (g : Tag) : Bool :=
  let bo := g.blockOffset.toNat
  g.valid && g.tensorId == p.tensorId && g.shard == p.shard && p.boFirst ≤ bo && bo < p.boFirst + p.boCount &&
    (if g.parity then 1 else 0) == s.num 0x205002

/-- A tile with its poison flag set when a line of it is poisoned. -/
def markPoison (t : Tile) (poison : Bool) : Tile := { t with tag := { t.tag with poison := t.tag.poison || poison } }

/-- The tile that stands in a placement's region in the sealed field, where it is the tile of that region (R270, R366). -/
def State.placedTile (s : State) (p : Placement) (i : Nat) : Option Tile :=
  let n := (if s.num 0x205002 = 1 then p.oddRegion else p.region) + i
  let t :=
    if p.store = 1 then
      let a := s.hbmStart n
      let t := s.hbmTileIn a 9300
      markPoison t (s.tilePoison a (payloadLines t.payload.length + 1))
    else (s.regionAt (if p.store = 3 then 0 else p.plot)
      (if p.store = 2 then .loam n else if p.store = 3 then .pool p.plot n else .crib n)).tile
  if s.isSealed p t.tag then some t else none

/-- The tiles of the sealed field that this device saves: those of each primary placement's own regions, in table order (R271,
R284, R366). -/
def State.saveTiles (s : State) : List Tile :=
  (s.primaries.filter fun p => s.mutableTensor p.tensorId).flatMap fun p => (List.range p.boCount).filterMap (s.placedTile p)

/-- The tiles that so many elements of a season tensor fill, of 192 rows and so many columns (R366; log entry 29). -/
def seasonTileCount (cols count : Nat) : Nat := (count + 192 * cols - 1) / (192 * cols)

/-- The tiles of a season tensor in a format (R366), of 192 rows and so many columns, the last one filled with zeros (R41). -/
def seasonTiles (cols : Nat) (id : W32) (step : Nat) (format : BitVec 8) (payload : Nat → List Byte) (count : Nat) : List Tile :=
  (List.range (seasonTileCount cols count)).map fun t =>
    sealTile { tag := { tensorId := id, stepLo := BitVec.ofNat 32 step, blockOffset := BitVec.ofNat 40 t, format := format
                        colsM1 := BitVec.ofNat 8 (cols - 1), valid := true }
               payload := payload t }

/-- The tiles of FP32 elements: 192 × 192 (R17). -/
def seasonFp32 (id : W32) (step : Nat) (l : List W32) : List Tile :=
  seasonTiles 192 id step 0x01 (fun t => (List.range 36864).flatMap fun i => leBytes 4 (nth 0 l (t * 36864 + i)).toNat) l.length

/-- The tiles of FWP elements: one block to a row, since every block of the residual has a frame of its own (R301) and a frame
descriptor holds one frame to a row (R43; log entry 29). -/
def seasonFwp (id : W32) (step : Nat) (l : List (Int × Int)) : List Tile :=
  seasonTiles 32 id step 0x20 (fun t =>
    let at_ (i j : Nat) : Int × Int := nth (0, 0) l (t * 6144 + 32 * i + j)
    FwpTile.bytes
      { rows := 192, cols := 32
        vals := (List.range 192).map fun i => (List.range 32).map fun j => (at_ i j).1
        rowFrame := (List.range 192).map fun i => (at_ i 0).2, colFrame := List.replicate 32 0 }) l.length

/-- The committed season tensors that this device holds as primary holder (R299, R366). -/
def State.saveSeasons (s : State) : List Tile :=
  let step := s.num 0x205001
  (s.seasons.tensors.filter fun x => x.decl.primary).flatMap fun x =>
    if s.seasons.ptr then
      seasonFp32 x.decl.anchors.2 step x.anchor1 ++ seasonFp32 x.decl.momenta.2 step x.momentum1 ++
        seasonFwp x.decl.residuals.2 step x.residual1
    else
      seasonFp32 x.decl.anchors.1 step x.anchor0 ++ seasonFp32 x.decl.momenta.1 step x.momentum0 ++
        seasonFwp x.decl.residuals.1 step x.residual0

/-- The save stream header (R366). -/
def State.saveHeader (s : State) (bytes tiles : Nat) (complete : Bool) : List Byte :=
  let digest := s.job.elim 0 fun j => j.binary.digest.toNat
  let finger := leNat (shake256 8 (leBytes 8 (s.num 0x301001) ++ leBytes 8 (s.num 0x301002)))
  leBytes 4 0x45564153 ++ leBytes 2 1 ++ leBytes 2 (if complete then 1 else 0) ++ leBytes 4 s.rank ++
    leBytes 4 s.teamSize ++ leBytes 8 (s.num 0x205001) ++ leBytes 4 (s.num 0x50000F) ++ leBytes 4 (s.num 0x302001) ++
    leBytes 4 (s.num 0x302005) ++ leBytes 4 (s.num 0x301101) ++ leBytes 8 tiles ++ leBytes 8 bytes ++ leBytes 8 finger ++
    ((s.oct 0x902001) ++ List.replicate 32 0).take 32 ++ leBytes 32 digest

/-- The stream is written, its header last: into the tier window at save_offset, or over save_port to a save holder (R366). A
stream that is cut off is written as its header alone (DESIGN CHOICE, log entry 30). -/
def State.writeSave (s : State) (save : Nat) (complete : Bool) : State :=
  let tiles := if complete then s.saveTiles ++ s.saveSeasons else []
  let body := tiles.flatMap hbmBytes
  let header := s.saveHeader body.length tiles.length complete
  if save = 1 then
    let off := s.num 0x207003
    let tier := Memory.writeBytes (Memory.writeBytes s.host.tier (off + 128) body) off header
    { s with host := { s.host with tier := tier } }
  else
    let port := s.num 0x207004
    let out (off : Nat) (bs : List Byte) : OutMsg := .saveFrame port (s.portAt port).neighbourRank off bs
    s.sendAll ((tiles.foldl (fun (acc : Nat × List OutMsg) t =>
      (acc.1 + (hbmBytes t).length, acc.2 ++ [out acc.1 (hbmBytes t)])) (128, [])).2 ++ [out 0 header])

/-! ### Stopping the job (R365) -/

/-- This device's save time in cycles: save_bytes ÷ save_rate, rounded up (R365). -/
def State.ownSaveTime (s : State) : Nat := ceilDiv (s.num 0x207006 * 1600) (s.num 0x207002)

/-- The job-end record, the Harvest event, and the wait for the host to read the Ledger (R368). -/
def State.jobEnd (s : State) : State :=
  let s := (s.appendLedger (s.ledgerBase 5 (s.num 0x205001))).raise .harvest
  { s with harvest := s.harvest.map fun r => { r with phase := if r.holdCycles = 0 then .scrubbing else .holding } }

/-- After the job has stopped and its undo is complete: the save, or the job's end at once (R368). -/
def State.afterStop (s : State) : State :=
  match s.harvest with
  | none => s
  | some r => if r.save = 0 then s.jobEnd else { s with harvest := some { r with phase := .saving } }

/-- Whether a seal, or the end of a batch, may still end work of the job (R365). -/
def State.workOpen (s : State) : Bool :=
  match s.job with
  | none => false
  | some j => if j.binary.serving then j.running && !s.held && !j.batches.isEmpty
              else j.running && !s.held && !j.undoing

/-- Whether work of an unsealed step or batch is under way on this device. -/
def State.workBegun (s : State) : Bool :=
  match s.job with
  | none => false
  | some j =>
    if j.binary.serving then !j.batches.isEmpty
    else j.evalRunning.isSome || s.plots.any fun pl => pl.entered || pl.tines.any fun t => t.2.ahead || t.2.xfer.isSome

/-- The lowest number that an undo of all unsealed work removes. -/
def State.lowestOpen (s : State) : Nat :=
  match s.job with
  | none => 0
  | some j => if j.binary.serving then (j.batches.head?).elim 0 (·.intake.ticket.toNat) else s.num 0x205001 + 1

/-- The job stops (R365): unsealed work is undone without a restart, and its records complete with 0x0066_0001. -/
def State.stopJob (s : State) : State :=
  let undone := s.job.elim false (·.undoing)
  let w := if s.evaluating.isSome then Whose.eval else .step
  let s := if s.workBegun && !undone then (s.dropTaps (s.attemptOf w)).beginUndo s.lowestOpen else s
  let s := s.completeOthers 0x00660001 [] undone
  let s := s.mapJob fun j => { j with running := false, restartAt := none, outcomes := [] }
  let (undoing, done) := s.job.elim (false, false) fun j => (j.undoing, j.undone)
  if undoing && !done then s else (s.mapJob fun j => { j with undoing := false }).afterStop

/-- The job stops at once when the latest stop is known and no seal can still end work (R365, R192). -/
def State.tryStop (s : State) : State :=
  match s.harvest with
  | some r => if r.phase = .stopping && r.latestStop.isSome && !s.workOpen then s.stopJob else s
  | none => s

/-- The latest stop that a deadline and the largest save time give (R365). -/
def latestStopOf (deadline : Cycle) (saveTime hold : Nat) : Cycle := deadline - BitVec.ofNat 64 (saveTime + 128000000 + hold)

/-- The lead device, or a device alone, fixes the latest stop and sends it to the team (R365). -/
def State.fixStop (s : State) : State :=
  match s.harvest with
  | some r =>
    if r.phase = .stopping then
      let saveTime := if r.save = 0 then 0 else max s.ownSaveTime s.fabric.saveTime
      let t := latestStopOf r.deadline saveTime r.holdCycles
      let s := { s with harvest := some { r with latestStop := some t, fixedByLead := true } }
      let s := if s.formed then s.send (.latestStop t r.deadline r.save (r.holdCycles / 1600000)) else s
      s.tryStop
    else s
  | none => s

/-- A device takes a Harvest: it leaves Sown or Growing, its drills end, and an earlier deadline governs (R31, R32, R346).
target_state reads Tilled throughout the Harvest (DESIGN CHOICE, log entry 138). -/
def State.enterHarvest (s : State) (deadline : Cycle) (save holdMs : Nat) : State :=
  match s.harvest with
  | some r => { s with harvest := some { r with deadline := earlier r.deadline deadline } }
  | none =>
    ({ s with harvest := some { deadline := deadline, save := save, holdCycles := cyclesOfMs holdMs } }.moveTo .harvest
      .tilled).abandonDrills

/-- Whether a job may be harvested, or its Harvest runs. -/
def State.harvestable (s : State) : Bool := s.ctl.cur == .sown || s.ctl.cur == .growing || s.ctl.cur == .harvest

/-- A Harvest asked of this device: it is passed to the lead device, which fixes the latest stop (R365). -/
def State.askHarvest (s : State) (deadline : Cycle) (save holdMs : Nat) : State :=
  if !s.harvestable then s
  else
    let s := s.enterHarvest deadline save holdMs
    if s.isLead then s.fixStop else s.send (.harvestPass deadline save holdMs)

/-- The Harvest verb with an operand (R364, R32): without effect in Tilled, Fallow and Faulted; it stops the Gleaner, whose
target_state stays Gleaning up to the end of the sweep (DESIGN CHOICE, log entry 138). -/
def State.takeHarvest (s : State) (v : Nat) : State :=
  let ms := min (max (bitsOf 63 32 v) 100) 600000
  if s.ctl.cur == .gleaning then s.mapRecovery fun r => { r with gleanStop := true }
  else s.askHarvest (s.cycle + BitVec.ofNat 64 (cyclesOfMs ms)) (bitsOf 31 24 v) (bitsOf 15 0 v)

/-! ### HALT (R123, R463) -/

/-- The number of the record that a plot's program reaches HALT in: a step, an evaluation's sealed step, or a ticket; none when
it has completed already. -/
def State.haltNumber (s : State) (pl : Plot) : Option Nat :=
  let sealed := s.num 0x205001
  if s.serving then
    if pl.entered then (s.batchOf pl).map fun b => b.intake.ticket.toNat
    else if s.sealPending pl then some pl.lastTicket.toNat else none
  else if s.evaluating.isSome then some sealed
  else if pl.arrived then some (if pl.enteredNext then sealed + 2 else sealed + 1)
  else if pl.entered then some (sealed + 1)
  else none

/-- The Harvest that HALT starts (R463). -/
def State.haltHarvest (s : State) : State := (s.mapJob fun j => { j with haltRecord := none }).takeHarvest (s.num 0x207007)

/-- After the record of a number has completed: the Harvest of a HALT whose program reached it (R463). -/
def State.settleHalt (s : State) (n : Nat) : State :=
  match s.job.bind (·.haltRecord) with
  | some h => if h ≤ n then s.haltHarvest else s
  | none => s

/-- HALT (R123, R463): the plot's program ends. -/
def halt (p : Nat) (s : State) : State :=
  match s.issuing p with
  | none => s
  | some pl =>
    let s := s.mapPlot p fun q => { q with halted := true }
    match s.haltNumber pl with
    | none => s.haltHarvest
    | some n => s.mapJob fun j => { j with haltRecord := some (j.haltRecord.elim n (min n)) }

/-! ### The commands of the Harvest -/

/-- HARVEST_CONTROL_WORD (R365): a member's Harvest reaches the lead device. -/
def harvestControlWord (deadline : Cycle) (save holdMs : Nat) (s : State) : State :=
  if s.formed && s.isLead then s.askHarvest deadline save holdMs else s

/-- LATEST_STOP_MESSAGE (R365): the lead device's latest stop, passed on down the tree. -/
def latestStopMessage (t deadline : Cycle) (save holdMs : Nat) (s : State) : State :=
  if !s.formed || s.isLead || !s.harvestable then s
  else
    let s := (s.enterHarvest deadline save holdMs)
    let s := if s.fabric.children.isEmpty then s else s.send (.latestStop t deadline save holdMs)
    match s.harvest with
    | some r =>
      if r.phase = .stopping then
        { s with harvest := some { r with deadline := deadline, save := save, holdCycles := cyclesOfMs holdMs
                                          latestStop := some t, fixedByLead := true } }.tryStop
      else s
    | none => s

/-- Whether a repair from a peer is under way (R355). -/
def State.repairing (s : State) : Bool := s.recovery.repairs.any fun x => x.asked != s.rank

/-- Repairs are cut off (R373). -/
def State.cutRepairs (s : State) : State := s.mapRecovery fun r => { r with repairs := [] }

/-- LATEST_STOP (R365, R373): the count reaches the latest stop, which cuts off repairs that the save has waited for. A seal whose
release falls at or before it is applied first. -/
def latestStop (s : State) : State :=
  match s.harvest with
  | some r =>
    match r.phase, r.latestStop with
    | .stopping, some t =>
      let due := s.job.elim false fun j => j.outcomes.any fun o => o.code == .seal && !o.gate && reached t o.release
      if due then s else (s.upTo t).cutRepairs.stopJob
    | .saving, some t => (s.upTo t).cutRepairs
    | _, _ => s
  | none => s

/-- SAVE_DONE (R366, R373): every tile and the header are written; a save begins after the repairs under way. A stream to a save holder
needs save_port Up. -/
def saveDone (s : State) : State :=
  match s.harvest with
  | some r =>
    if r.phase = .saving && !s.repairing && (r.save = 1 || (s.portAt (s.num 0x207004)).up) then (s.writeSave r.save true).jobEnd else s
  | none => s

/-- SAVE_CUTOFF (R366): 80,000,000 cycles and ledger_hold before the deadline the save is cut off. -/
def saveCutoff (s : State) : State :=
  match s.harvest with
  | some r =>
    if r.phase = .saving then
      let s := s.upTo (r.deadline - BitVec.ofNat 64 (80000000 + r.holdCycles))
      let s := { s with harvest := some { r with incomplete := true } }
      ((if r.save = 1 || (s.portAt (s.num 0x207004)).up then s.writeSave r.save false else s)).jobEnd
    else s
  | none => s

/-- SAVE_FRAME_RECEIVE (R367): a save holder writes a frame into its HBM and returns a credit while space remains. -/
def saveFrameReceive (port offset : Nat) (bytes : List Byte) (s : State) : State :=
  if s.ctl.cur == .tilled && (s.portAt port).up && offset + bytes.length ≤ s.num 0x207005 then
    { s with host := { s.host with held := Memory.writeBytes s.host.held offset bytes } }.send (.credit port)
  else s

/-- LEDGER_HOLD_EXPIRY (R368): the scrub follows the hold. -/
def ledgerHoldExpiry (s : State) : State :=
  match s.harvest with
  | some r => if r.phase = .holding then { s with harvest := some { r with phase := .scrubbing } } else s
  | none => s

/-- SCRUB_DONE (R368): memory is clear, the job entries are back at their defaults, and the device is Tilled. -/
def scrubDone (s : State) : State :=
  match s.harvest with
  | some r => if r.phase = .scrubbing then { s.scrub with harvest := none }.restIn .tilled else s
  | none => s

/-- FUNCTION_LEVEL_RESET (R369): a Harvest with deadline 100 ms and no save, then the function's CXL state. -/
def functionLevelReset (s : State) : State :=
  if s.ctl.cxlUp then (s.takeHarvest (100 * 2 ^ 32)).resetCxl else s

def execHalt (plot : Nat) (s : State) : Out := .next (halt plot s)
def execHarvestControlWord (_rank : Nat) (deadline : Cycle) (save hold : Nat) (s : State) : Out :=
  .next (harvestControlWord deadline save hold s)
def execLatestStopMessage (t deadline : Cycle) (save hold : Nat) (s : State) : Out :=
  .next (latestStopMessage t deadline save hold s)
def execLatestStop (s : State) : Out := .next (latestStop s)
def execSaveDone (s : State) : Out := .next (saveDone s)
def execSaveCutoff (s : State) : Out := .next (saveCutoff s)
def execSaveFrameReceive (port offset : Nat) (bytes : List Byte) (s : State) : Out :=
  .next (saveFrameReceive port offset bytes s)
def execLedgerHoldExpiry (s : State) : Out := .next (ledgerHoldExpiry s)
def execScrubDone (s : State) : Out := .next (scrubDone s)
def execFunctionLevelReset (s : State) : Out := .next (functionLevelReset s)

end Sys2Proof.Machine
end

