-- ==== Sys2Proof/Machine/Load.lean ====
section
/-! DEFINITION. Sys2Proof/Machine/Load.lean: the load checks (R155 to R165), what an accepted load sets, the equivalence key (R207,
R208), and a load in resume form (R401). -/

namespace Sys2Proof.Machine

/-! ### The binary as such: code 0x0060_0002 -/

/-- The roles that a binary holds sections for (R156, R157). -/
def binaryRoles (b : Binary) : List Nat :=
  b.directory.foldl (fun l e =>
    match e.type.toNat with
    | 3 => addOnce l (e.inst.toNat / 65536)
    | 4 => addOnce l e.inst.toNat
    | _ => l) []

/-- How many sections a type has under an instance number. -/
def sectionCount (b : Binary) (t inst : Nat) : Nat := ((sectionsOf b t).filter fun e => e.inst.toNat == inst).length

/-- The instance number of the only copy (R156). -/
def onlyCopy : Nat := 0xFFFFFFFF

/-- Whether a type's only copy is there, and no other. -/
def exactlyOne (b : Binary) (t : Nat) : Bool := (sectionsOf b t).length == 1 && sectionCount b t onlyCopy == 1

/-- Whether a slot plan instance is the base or a variant at width 64 or 96 (R157). -/
def slotInstance (i : Nat) : Bool := i == 0 || i % 256 == 64 || i % 256 == 96

/-- The copies of every section type (R157). -/
def sectionsOk (b : Binary) : Bool :=
  let roles := binaryRoles b
  let slots := (sectionsOf b 6).map (·.inst.toNat)
  [1, 2, 5, 7, 8, 0xA, 0xB].all (exactlyOne b) &&
    (sectionsOf b 3).length == roles.length * b.plots &&
    (roles.all fun r => (List.range b.plots).all fun p => sectionCount b 3 (r * 65536 + p) == 1) &&
    (sectionsOf b 4).length == roles.length && (roles.all fun r => sectionCount b 4 r == 1) &&
    sectionCount b 6 0 == 1 && slots.all slotInstance && decide slots.Nodup &&
    ((sectionsOf b 9).isEmpty || exactlyOne b 9) &&
    (if 1 < b.deviceCount then exactlyOne b 0xD else (sectionsOf b 0xD).isEmpty)

/-- Whether the directory is whole and every section lies inside the binary after it, on a 64-byte boundary, clear of the others
(R155, R156, R163). -/
def directoryOk (b : Binary) : Bool :=
  let es := b.directory.zipIdx
  b.directory.length == b.sectionCount && 96 + 32 * b.sectionCount ≤ b.bytes && es.all fun e =>
    e.1.offset % 64 == 0 && 96 + 32 * b.sectionCount ≤ e.1.offset && e.1.offset + e.1.length ≤ b.bytes &&
      es.all fun f => e.2 == f.2 || e.1.offset + e.1.length ≤ f.1.offset || f.1.offset + f.1.length ≤ e.1.offset

/-- Whether a tensor table entry's figures are legal (R158, R163). -/
def tensorOk (t : TensorEntry) : Bool :=
  1 ≤ t.dims && t.dims ≤ 6 && t.blockAxis < t.dims && elementCount t < 2 ^ 64

/-- Whether a layout descriptor is one that R325 takes: no reserved code, no frame or full-width form, no sparse bitmap on a
block-scaled source, an axis order that is a permutation. -/
def layoutTaken (l : LayoutDesc) : Bool :=
  let f := fmtOf l.srcFormat
  decide (f ≠ .reserved) && decide (f ≠ .fwp) && !(match f with | .fw _ => true | _ => false) && l.compression ≤ 3 && l.srcKind ≤ 1 &&
    !(f.isBlock && (l.compression == 2 || l.compression == 3)) && axisOrderOk l && l.srcBlockAxis < 6

/-- Whether a slot plan entry's figures lie in their ranges (R235; the refusal is a DESIGN CHOICE, log entry 147). -/
def slotOk (e : SlotEntry) : Bool :=
  let id (n : BitVec 24) : Bool := decide (1 ≤ n.toNat) && decide (n.toNat ≤ 0xFFFFFE)
  id e.entryId && e.port < 28 && 1 ≤ e.slotCount && (e.kind != 1 || 1 ≤ e.ringLen) && (e.kind != 2 || (e.outPort < 28 && id e.outEntry))

/-- Whether the entry IDs of a role's part of a plan are unique per port and its figures in range (R235). -/
def planOk (p : SlotPlan) : Bool :=
  let es := planSlots p
  es.all (fun e => e.reserved || 2 < e.kind || slotOk e) && decide (es.map fun e => e.port * 2 ^ 24 + e.entryId.toNat).Nodup

/-- Whether a tier binding's figures lie in their ranges (R341; the refusal is a DESIGN CHOICE, log entry 147). -/
def bindingOk (w : TierBinding) : Bool := w.backingOffset % 64 == 0 && w.triggerToken != 0

/-- Whether a phase map section holds the phases and placements that its header counts, one to 64 phases, and every phase's
placements (R268, R269; the refusal is a DESIGN CHOICE, log entry 147). -/
def phaseCountsOk (m : PhaseMaps) : Bool :=
  1 ≤ m.phaseCount && m.phaseCount ≤ 64 && m.phases.length == m.phaseCount && m.placements.length == m.placementCount &&
    m.phases.all fun p => p.firstPlacement + p.placementCount ≤ m.placementCount

/-- Check 0x0060_0002 (R163): the binary is malformed. A role has at most 256 digest check pairs (R117, R157). -/
def malformed (b : Binary) : Bool :=
  let ids := b.tensors.map (·.tensorId)
  b.magic != 0x39584D5A || b.formatVersion != 1 || b.digest != b.actualDigest || !directoryOk b ||
    !sectionsOk b || !decide ids.Nodup || !b.tensors.all tensorOk || b.rankMap.length != b.deviceCount ||
    (b.rankMap.any fun r => !has (binaryRoles b) r) || !b.layouts.all layoutTaken || !b.slotPlans.all planOk ||
    !phaseCountsOk b.phaseMaps || (b.slotMaps.any fun m => 256 < m.pairs.length) ||
    b.regions.any fun t => !(tierBindings t).all bindingOk

/-! ### Profile, encodings, capacity -/

/-- The profile that a load makes active (R150): the binary's own on its stepping, or A1 on a B0 part with shims. -/
def activeProfile (b : Binary) (stepping : W32) (shims : Nat) : Option W32 :=
  if b.latencyProfile != 0xB0 && b.latencyProfile != 0xA1 then none
  else if b.latencyProfile = stepping then some stepping
  else if b.latencyProfile = 0xA1 && stepping = 0xB0 && shims = 1 then some 0xA1
  else none

/-- Whether a tine descriptor holds a reserved op, space or format, or a non-zero reserved field (R131). -/
def tineReserved (d : BitVec 512) : Bool :=
  let t := tineDesc d
  4 < t.op || 6 < t.space || ((t.op == 1 || t.op == 2) && t.space == 0) || bitsOf 499 496 d.toNat != 0 ||
    fmtOf t.format = .reserved

/-- Whether a WAIT_CYCLE descriptor holds a reserved kind or field (R252). -/
def waitReserved (d : BitVec 512) : Bool :=
  1 < bitsOf 511 504 d.toNat || bitsOf 503 480 d.toNat != 0 || bitsOf 447 64 d.toNat != 0

/-- Whether a bundle's control opcode is reserved (R121, R123). -/
def bundleReserved (w : BitVec 256) : Bool := 7 < bitsOf 255 248 w.toNat

/-- Whether a seed domain is reserved (R52). -/
def domainReserved (d : W32) : Bool := d.toNat == 0 || (5 ≤ d.toNat && d.toNat ≤ 0xFFFF)

/-- The format codes that the descriptors of a plot image name: those of the tiles read and of the converts (R46). -/
def imageFormats (i : PlotImage) : List (BitVec 8) :=
  let refs (l : List TileRef) : List (BitVec 8) := l.map (·.tmpl.format)
  (i.furrowDescs.flatMap fun d => refs (d.a ++ d.b)) ++
    (i.chainDescs.flatMap fun d => refs (d.x.toList ++ d.y.toList ++ (d.v.map (·.1)).toList) ++ d.stages.filterMap fun g =>
      match g.op with | .convert f => some f | _ => none) ++
    (i.fullWidthDescs.flatMap fun d => refs (fullWidthOperands d.op)) ++ refs (i.moveDescs.map (·.src))

/-- Whether a plot image holds a reserved code or field (R46, R52, R121, R123, R131, R252). -/
def imageReserved (i : PlotImage) : Bool :=
  i.tineDescs.any tineReserved || i.waitCycleDescs.any waitReserved || i.bundles.any bundleReserved ||
    (imageFormats i).any (fun f => fmtOf f = .reserved) || i.chainDescs.any fun d => d.domain.any domainReserved

/-- Check 0x0060_0008 (R163): a reserved encoding. -/
def reservedCode (b : Binary) : Bool :=
  b.reserved || b.reservedEncoding || (b.directory.any fun e => e.type.toNat == 0 || 0xD < e.type.toNat || e.reserved) ||
    (b.tensors.any fun t => t.cls == 0 || 6 < t.cls.toNat || fmtOf t.format = .reserved || t.reserved) ||
    b.images.any imageReserved || (b.regions.any fun t => t.tiers.any fun w => bitsOf 83 0 w.toNat != 0) || (b.layouts.any fun l => l.reserved) || b.phaseMaps.reserved ||
    (b.phaseMaps.phases.any fun p => p.kind == 0 || 6 < p.kind || p.reserved) ||
    (b.phaseMaps.placements.any fun p => p.store == 0 || 4 < p.store || p.reserved) ||
    (b.slotPlans.any fun p => (planSlots p).any fun e => 2 < e.kind || e.reserved) || b.numerics.domains.any domainReserved

/-- The sum of the bytes of regions. -/
def regionBytes (l : List (Nat × Nat)) : Nat := l.foldl (fun n r => n + r.2) 0

/-- Whether no two regions overlap. -/
def regionsApart (l : List (Nat × Nat)) : Bool :=
  l.zipIdx.all fun a => l.zipIdx.all fun b => a.2 == b.2 || a.1.1 + a.1.2 ≤ b.1.1 || b.1.1 + b.1.2 ≤ a.1.1

/-- The regions of one role within the capacity table (R164), and an input pool inside the window (R402). -/
def roleFits (b : Binary) (limit : Nat) (t : RegionTable) : Bool :=
  let hbm := hbmRegions t
  let credits := (List.range b.plots).map fun p => ((t.plots.find? fun r => r.plot == p).getD {}).credits
  (t.plots.all fun p => p.crib.length ≤ 1024 && regionBytes p.crib ≤ 3145728 && p.loam.length ≤ 4096 &&
      regionBytes p.loam ≤ 16777216) &&
    (t.pool.all fun r => r.1 < 160 - b.plots) &&
    ((List.range 16).all fun k => (poolRegions t k).length ≤ 4096 && regionBytes (poolRegions t k) ≤ 16777216) &&
    regionBytes hbm ≤ limit && regionsApart hbm && credits.all (64 ≤ ·) && credits.foldl (· + ·) 0 ≤ 65536 &&
    (t.hbm.all fun r => !r.isPool || r.start + r.bytes ≤ 2 ^ 36)

/-- Whether the tier bindings of a role have their backing within the tier window, or a peer region as large as their own (R341). -/
def tiersFit (b : Binary) (tierSize : Nat) (t : RegionTable) : Bool :=
  (tierBindings t).all fun w => match t.hbm.find? fun r => r.number == w.region with
    | none => false
    | some r =>
      if w.kind < 2 then w.backingOffset + r.bytes ≤ tierSize
      else b.regions.any fun u => u.role == nth 0 b.rankMap w.peerRank && u.hbm.any fun x => x.number == w.peerRegion && x.bytes == r.bytes

/-- Whether a SEAL_WAIT comes between any two seal arrivals (R462). -/
def waitsBetween : Bool → List ProgramMark → Bool
  | _, [] => true
  | ok, .sealArrival :: ms => ok && waitsBetween false ms
  | _, .sealWait :: ms => waitsBetween true ms
  | ok, _ :: ms => waitsBetween ok ms

/-- Whether a SEAL_WAIT comes before the entry mark of every step, after the seal arrival of the step before (R202). -/
def waitsBeforeEntry : Bool → List ProgramMark → Bool
  | _, [] => true
  | ok, .entryMark :: ms => ok && waitsBeforeEntry false ms
  | _, .sealWait :: ms => waitsBeforeEntry true ms
  | _, .sealArrival :: ms => waitsBeforeEntry false ms
  | ok, .gateArrival :: ms => waitsBeforeEntry ok ms

/-- Whether a tine's ring lies in the Crib region table (R164). -/
def ringFits (b : Binary) (i : PlotImage) (d : BitVec 512) : Bool :=
  let t := tineDesc d
  let regions := ((((b.regions.find? fun r => r.role == i.role).getD {}).plots.find? fun p => p.plot == i.plot).getD {}).crib
  (t.op != 1 && t.op != 2) || (1 ≤ t.ringLen && t.ringFirst + t.ringLen ≤ regions.length)

/-- A tally slot that may be named (R164). -/
def tallyOk (n : Nat) : Bool := n < 4096

/-- A digest slot that may be named (R164). -/
def digestOk (n : Nat) : Bool := n < 8192

/-- Whether the tally and digest slots that a plot image's descriptors name may be named (R164). -/
def imageSlotsOk (i : PlotImage) : Bool :=
  let digests := (i.furrowDescs.map (·.digestSlot)) ++ (i.chainDescs.map (·.digestSlot)) ++ i.fullWidthDescs.map (·.digestSlot)
  digests.all (fun d => d.all digestOk) && i.chainDescs.all fun d =>
    d.tallySlot.all tallyOk && d.stages.all fun g => match g.op with | .tally n _ => tallyOk n | _ => true

/-- Whether a plot image fits (R164, R202, R462). -/
def imageFits (b : Binary) (i : PlotImage) : Bool :=
  imageSlotsOk i && i.bytes ≤ 262144 && i.tokens.all (· < 4096) && i.loopNesting ≤ 4 && (i.loopCounts.all fun n => 1 ≤ n && n ≤ 2 ^ 24) &&
    i.tineDescs.all (ringFits b i) && (b.serving || waitsBetween true i.marks) &&
    (!b.singleField || waitsBeforeEntry false i.marks)

/-- Whether the degrees of the cuts multiply to the team (R267) and every rank named is in it (R164). -/
def phasesFit (b : Binary) : Bool :=
  let p := b.phaseMaps
  p.dataDegree * p.tensorDegree * p.sequenceDegree * p.pipelineDegree == b.deviceCount && p.expertDegree != 0 &&
    (p.tensorDegree * p.sequenceDegree) % p.expertDegree == 0 && p.placements.all fun e => e.rank < b.deviceCount

/-- Check 0x0060_000A (R163): work that fits. -/
def workFits (b : Binary) : Bool :=
  b.images.all (imageFits b) &&
    (b.tensors.all fun t => (t.tallySlot == 0xFFFF || tallyOk t.tallySlot.toNat) &&
      (t.digestSlot == 0xFFFF || digestOk t.digestSlot.toNat)) &&
    (b.slotMaps.all fun m => (m.tallies.all fun x => tallyOk x.1) && (m.digests.all fun x => digestOk x.1) &&
      m.pairs.all fun x => digestOk x.1 && digestOk x.2) && phasesFit b

/-- The discovered links of a rank, as far as this device knows them (R243). -/
def State.linksOf (s : State) (r : Nat) : List (Nat × Nat × Nat) := if r = s.rank then s.ownLinks else SMap.get [] s.fabric.links r

/-- Whether every link that the port map names was discovered, and the slot plans use ports that it names (R163, R243). -/
def State.linksOk (s : State) (b : Binary) : Bool :=
  let named := b.portMap.filter (!·.unused)
  (named.all fun l => (s.linksOf l.rank).contains (l.port, l.peerRank, l.peerPort)) &&
    b.rankMap.zipIdx.all fun r => b.slotPlans.all fun p => p.role != r.1 || (planSlots p).all fun e =>
      let at_ (port : Nat) : Bool := named.any fun l => l.rank == r.2 && l.port == port
      at_ e.port && (e.kind != 2 || at_ e.outPort)

/-- Whether the slot plan variants of R161 are there. -/
def variantsOk (b : Binary) : Bool :=
  b.groupWidths.all fun g =>
    let at_ (w : Nat) : Bool := b.slotPlans.any fun p => p.group == g.1 && p.width == w
    (g.2 != 48 || (at_ 64 && at_ 96)) && (g.2 != 64 || at_ 96)

/-- The first load check of R163 that fails; none when the binary is accepted. -/
def State.loadCheck (s : State) (b : Binary) : Option Nat :=
  let grade := s.num 0x100007
  let profile := activeProfile b s.fuses.stepping (s.num 0x103002)
  let peak := (b.yoke.map (·.2.1)).foldl max b.yokePeak
  if malformed b then some 0x00600002
  else if s.num 0x100005 < b.minFirmware then some 0x00600003
  else if grade = 0 then some 0x00600004
  else if (b.plots != 144 && b.plots != 160) || (b.plots = 160 && grade = 1) then some 0x00600005
  else if b.deviceCount != s.teamSize then some 0x00600006
  else if profile.all (fun p => profileDigest p != digest16 b.latency) then some 0x00600007
  else if reservedCode b then some 0x00600008
  else if !b.regions.all (fun t => roleFits b (s.num 0x204007) t && tiersFit b (s.num 0x206202) t) then some 0x00600009
  else if !workFits b then some 0x0060000A
  else if !s.linksOk b then some 0x0060000B
  else if !variantsOk b then some 0x0060000C
  else if s.num 0x700001 < peak then some 0x0060000D
  else none

/-! ### Keys (R207, R208, R313) -/

/-- The disabled-unit map of a rank, as far as this device knows it (R207). -/
def State.mapOfRank (s : State) (r : Nat) : Nat := if r = s.rank then s.unitMap else SMap.get 0 s.fabric.maps r

/-- The team map digest (R207, input 4). -/
def State.teamMapDigest (s : State) (devices : Nat) : List Byte :=
  shake256 32 ((List.range devices).flatMap fun r => leBytes 47 (s.mapOfRank r))

/-- A key over the inputs of R207 with a given input 4. -/
def State.keyOver (s : State) (b : Binary) (profile : W32) (map : List Byte) : List Byte :=
  shake256 32 (ascii "lz9-eqkey" ++ s.oct 0x900007 ++ leBytes 32 b.digest.toNat ++ map ++
    leBytes 16 (profileDigest profile).toNat ++ leBytes 4 b.deviceCount)

/-- The season key (R313): SHAKE256 of the tensor table entries enters with its first 32 bytes (DESIGN CHOICE, log entry 31). -/
def State.seasonKey (s : State) (b : Binary) : List Byte :=
  let entries := b.tensors.filter fun t => t.cls == 1 || t.cls == 4 || t.cls == 5
  shake256 32 (ascii "lz9-season" ++ leBytes 8 (s.num 0x500001) ++ shake256 32 (entries.flatMap tensorBytes) ++
    b.numerics.mergeRecipe)

/-! ### What an accepted load sets -/

/-- The logical plots of a job (R22, R26, R121), each with the spares that its site has left for checksum passes (R94). -/
def State.loadPlots (s : State) (b : Binary) (role : Nat) (sites : List Nat) (t : RegionTable) : List Plot :=
  sites.zipIdx.map fun e =>
    let image := (b.images.find? fun i => i.role == role && i.plot == e.2).getD {}
    { site := e.1, pc := image.entryBundle, entry := image.entryBundle, workEntries := image.workBundles, seasonEntries := image.seasonBundles
      stopped := true, spareRows := 4 - s.sparesOf e.1 false, spareCols := 4 - s.sparesOf e.1 true
      credits := ((t.plots.find? fun p => p.plot == e.2).getD {}).credits }

/-- The initial data of a tensor, of a declared share, with what its drilling counts (R324, R326); none without a section, or where it
does not make the tensor. -/
def initialWords (b : Binary) (seed : Nat) (d : SeasonDecl) (id : W32) : Option (List W32 × Counts) :=
  (b.initialData.find? fun x => x.1 == id).bind fun x => seasonWords b seed id d.base d.count x.2

/-- The season tensors of a fresh load: the anchor and the outer momentum of season 0 come with the initial data (R16). -/
def loadSeason (b : Binary) (seed : Nat) (d : SeasonDecl) : SeasonTensor :=
  let zero := List.replicate d.count (0 : W32)
  let from_ (id : W32) : List W32 := ((initialWords b seed d id).map (·.1)).getD zero
  { decl := d, anchor0 := from_ d.anchors.1, anchor1 := zero, momentum0 := from_ d.momenta.1
    momentum1 := zero, residual0 := List.replicate d.count (0, 0), residual1 := List.replicate d.count (0, 0)
    snapshot := zero, merge := zero }

/-- The bytes of a tile in a save stream. -/
def savedBytes (f : Fmt) (rows cols : Nat) (down : Bool) : Nat := 64 + 64 * payloadLines (payloadSize f rows cols down)

/-- The save size of a loaded job (R366): the primary tiles of one field and the committed season tensors. -/
def State.saveSize (s : State) (b : Binary) : Nat :=
  let tiles := s.primaries.foldl (fun n p =>
    match s.tensorOf p.tensorId with
    | none => n
    | some t =>
      if !mutableEntry t then n
      else (List.range p.boCount).foldl (fun n i =>
        let sh := tileShape b t p.shard (p.boFirst + i)
        if sh.rows = 0 || sh.cols = 0 then n
        else n + savedBytes (fmtOf t.format) sh.rows sh.cols (blocksDown (some t))) n) 0
  (b.seasonTensors.filter (·.primary)).foldl (fun n d =>
    n + seasonTileCount 192 d.count * (2 * savedBytes (.fp fp32) 192 192 false) +
      seasonTileCount 32 d.count * savedBytes .fwp 192 32 false) tiles

/-- The entries that the numerics section sets (R53, R63, R157). -/
def State.setNumerics (s : State) (n : Numerics) : State :=
  let opt (s : State) (k : Nat) (v : Option Nat) : State := v.elim s (s.setNum k ·)
  let s := (s.setNum 0x301001 (n.jobSeed.toNat % 2 ^ 64)).setNum 0x301002 (n.jobSeed.toNat / 2 ^ 64)
  let s := opt s 0x302001 (n.scaleExp.map (toPattern 32))
  let s := opt s 0x302002 n.growthInterval
  let s := opt s 0x302003 (n.scaleMin.map (toPattern 32))
  opt s 0x302004 (n.scaleMax.map (toPattern 32))

/-- The state of a device whose load is accepted, before its contents: entries, plots, slots and keys (R163, R165). -/
def State.acceptLoad (s : State) (b : Binary) : State :=
  let role := nth 0 b.rankMap s.rank
  let sites := s.usedSites b.plots
  let profile := (activeProfile b s.fuses.stepping (s.num 0x103002)).getD s.fuses.stepping
  let t := (b.regions.find? fun r => r.role == role).getD {}
  let pool := (t.hbm.find? (·.isPool)).getD {}
  let map := s.teamMapDigest b.deviceCount
  let links := b.portMap.filter fun l => l.rank == s.rank && !l.unused
  let s : State := { s with
    job := some { binary := b, role := role, sites := sites, poolSites := s.poolSites b.plots }
    plots := s.loadPlots b role sites t, pool := [], tokens := [], aheadTokens := [], records := {}, tiers := {}
    seasons := { tensors := b.seasonTensors.map (loadSeason b b.numerics.jobSeed.toNat), joinDue := s.num 0x500001 != 0 && s.num 0x50000E == 1 } }
  let s : State := s.mapFabric fun f =>
    { f with plan := planEntries b role 0 0
             ports := f.ports.zipIdx.map fun p => { p.1 with named := links.any fun l => l.port == p.2 } }
  let s : State := (s.setNumerics b.numerics).setNum 0x205008 (if b.singleField then 1 else 0)
  let s := (s.setNum 0x103003 profile.toNat).setOct 0x103004 (leBytes 16 (profileDigest profile).toNat)
  let s := (s.setNum 0x201005 pool.start).setNum 0x201006 pool.bytes
  let s : State := (s.setOct 0x902001 (s.keyOver b profile map)).setOct 0x902002 (s.keyOver b profile (List.replicate 32 0))
  let s : State := (s.setOct 0x902003 map).setOct 0x500012 (s.seasonKey b)
  let s : State := if s.num 0x500001 = 0 then s else s.setNum 0x500010 (if s.num 0x50000E = 1 then 3 else 1)
  let s : State := if b.serving then s.setNum 0x206002 3 else s
  let s := s.setRun 64
  let s : State := { s with power := { samples := s.power.samples, ranBase := s.power.ranBase, ranFrom := s.power.ranFrom } }
  s.setNum 0x207006 (s.saveSize b)

/-- Step-0 contents laid into the even field (R15, R157, R324); none where a tensor's bytes do not make its tiles. The anchors and
momenta of a season tensor were laid with the tensor (R16), and what their drilling counts is counted here. -/
def State.layInitial (s : State) : List (W32 × List Byte) → Option State
  | [] => some s
  | (id, bs) :: l =>
    match s.tensorOf id, s.job with
    | some t, some j =>
      match j.binary.seasonTensors.find? fun d => d.anchors.1 == id || d.momenta.1 == id with
      | some d => match seasonWords j.binary s.jobSeed id d.base d.count bs with
        | some w => (s.countInto t w.2).layInitial l
        | none => none
      | none => match s.drillTensor t bs true false with
        | .ok (some r) => r.1.layInitial l
        | _ => none
    | _, _ => none

/-- A season tile of a save stream, laid into the copy that its tensor ID names. -/
def State.laySeasonTile (s : State) (t : Tile) : State :=
  let cols := t.tag.colsM1.toNat + 1
  let odd := s.seasons.tensors.any fun x => x.decl.anchors.2 == t.tag.tensorId
  s.mapSeasons fun x =>
    { x with
      ptr := x.ptr || odd
      tensors := x.tensors.map fun y => SeasonTensor.write y t
        { base := y.decl.base + t.tag.blockOffset.toNat * (192 * cols), rowStride := cols, validCols := cols } }

/-- Whether a tensor ID names a season tensor of the job. -/
def State.isSeasonTensor (s : State) (id : W32) : Bool :=
  s.seasons.tensors.any fun x =>
    let d := x.decl
    [d.anchors.1, d.anchors.2, d.momenta.1, d.momenta.2, d.residuals.1, d.residuals.2].contains id

/-- A load in resume form (R401): the stream's refusal, or the state with its tiles laid and its counts taken. A re-sharded job's
streams name the new binary (R281; DEDUCED, log entry 148). -/
def State.resume (s : State) (b : Binary) (stream : List Host.Cell) (at_ : Nat) : Except Nat State :=
  let h := leNat (Memory.readBytes stream at_ 128)
  let tiles := streamTiles s (bitsOf 383 320 h) (Memory.readBytes stream (at_ + 128) (bitsOf 447 384 h))
  let k := bitsOf 191 128 h
  let odd := k % 2 = 1 && !b.singleField
  if bitsOf 31 0 h != 0x45564153 || bitsOf 47 32 h != 1 then .error 0x0063000A
  else if bitsOf 1023 768 h != b.digest.toNat then .error 0x00600002
  else if !h.testBit 48 || tiles.any (fun t => t.tag.poison || !tileCheckOk t) then .error 0x0063000A
  else
    let s := tiles.foldl (fun s t =>
      if s.isSeasonTensor t.tag.tensorId then s.laySeasonTile t else (s.layTile t odd).1) s
    let s := ((s.setNum 0x205001 k).setNum 0x205002 (if odd then 1 else 0)).setNum 0x302001 (bitsOf 255 224 h)
    let s := ((s.setNum 0x302005 (bitsOf 287 256 h)).setNum 0x301101 (bitsOf 319 288 h)).setNum 0x50000F (bitsOf 223 192 h)
    .ok (if s.num 0x500010 = 0 then s else (s.setNum 0x500010 3).mapSeasons fun x => { x with joinDue := true })

/-- A load's contents, after its checks (R163, R401): the state, or the refusal. -/
def State.loadContents (s : State) (b : Binary) (source saveOffset : Nat) : Except Nat State :=
  let s := s.acceptLoad b
  match source with
  | 1 => s.resume b s.host.tier saveOffset
  | 2 => s.resume b s.host.holder 0
  | _ => (s.layInitial b.initialData).elim (.error 0x00600002) .ok

/-- A refused load: last_load_status and the completion record (R163). -/
def State.refuseLoad (s : State) (ticket : W64) (code : Nat) : State :=
  (s.setNum 0x204001 code).complete ticket { status := code }

/-- A load record is acted on in Tilled (R163, R401): a save holder discards what it holds first (R367). -/
def State.takeLoad (s : State) (ticket : W64) (body : Nat) : State :=
  let s := { s with host := { s.host with held := [] } }
  match s.binaryAt (bitsOf 63 0 body) (bitsOf 127 64 body) with
  | none => s.refuseLoad ticket 0x00600002
  | some b =>
    match s.loadCheck b with
    | some code => s.refuseLoad ticket code
    | none =>
      match s.loadContents b (bitsOf 199 192 body) (bitsOf 191 128 body) with
      | .error code => s.refuseLoad ticket code
      | .ok t => ((t.setNum 0x204001 0).restIn .sown).complete ticket {}

end Sys2Proof.Machine
end

