-- ==== Sys2Proof/Machine/Records.lean ====
section
/-! DEFINITION. Sys2Proof/Machine/Records.lean: the Hopper table (R396 to R403), the order of judgement (R459), sweeps (R34, R398),
and the records of the host: load, start, step, batch, evaluation, drill and switch. -/

namespace Sys2Proof.Machine

/-! ### The host's writes (R399, R341, R367) -/

/-- Whether host writes into the CXL.mem window land (R412, R422). -/
def State.memoryOpen (s : State) : Bool :=
  s.ctl.cxlUp && s.ctl.memoryActive && s.ctl.cur != .fallow && s.ctl.cur != .faulted && s.recovery.gleanDomain != some 14

/-- Lines that the host has written carry no tile's metadata and no poison. -/
def State.hostLines (s : State) (addr bytes : Nat) : State :=
  (range (addr / 64) ((addr + bytes + 63) / 64 - addr / 64)).foldl (fun s l => s.setLine l (BitVec.ofNat 36 (2 ^ 34))) s

/-- The roster and the bales of a regeneration, kept as those of the Acre ports would be, where they verify (R305, R309, R313). -/
def State.replaySeason (s : State) (r : Roster) (bales : List Bale) : State :=
  let ok := s.rosterOk r && !(s.seasons.rosters.any fun x => x.digest == r.digest)
  s.mapSeasons fun x =>
    { x with rosters := if ok then x.rosters ++ [r] else x.rosters
             store := bales.foldl (fun l b => if baleVerifies b && !l.contains b then l ++ [b] else l) x.store }

/-- One write of the host: into the window, which needs the CXL link, or into what lies outside the device. -/
def State.hostWrite (s : State) (w : HostWrite) : State :=
  match w with
  | .tier a bs => { s with host := { s.host with tier := Memory.writeBytes s.host.tier a bs } }
  | .holder a bs => { s with host := { s.host with holder := Memory.writeBytes s.host.holder a bs } }
  | .slot i v => if s.memoryOpen then { s with hopper := SMap.set {} s.hopper (i % 4096) v } else s
  | .window a bs =>
    if s.memoryOpen then
      ({ s with host := { s.host with window := Memory.writeBytes s.host.window a bs } }).hostLines a bs.length
    else s
  | .binary a bs rest =>
    if s.memoryOpen then
      ({ s with host := { s.host with window := Memory.writeBytes s.host.window a bs
                                      binaries := SMap.put s.host.binaries a rest } }).hostLines a bs.length
    else s
  | .tapSeason off roster ok bales =>
    if s.memoryOpen then
      let a := Config.tapBase + off
      let bs := roster ++ bales.flatten
      (({ s with host := { s.host with window := Memory.writeBytes s.host.window a bs } }).hostLines a bs.length).replaySeason
        (rosterOf roster ok) (bales.map baleOfBytes)
    else s

/-- The host's writes in order. -/
def State.hostWrites (s : State) (ws : List HostWrite) : State := ws.foldl State.hostWrite s

/-! ### Slots (R397) -/

/-- The check of a slot: CRC-32C over its bytes 8 to 27 and 32 to 255. -/
def slotCheck (v : Slot) : W32 :=
  let header := v.state.toNat + v.reserved.toNat * 2 ^ 8 + v.kind.toNat * 2 ^ 88 + v.ticket.toNat * 2 ^ 96 +
    v.userTag.toNat * 2 ^ 160
  crc32c (((leBytes 28 header).drop 8) ++ leBytes 224 v.body.toNat)

/-- Whether a slot holds a record that the device may take: posted, of the expected ticket, checked and not poisoned (R398). -/
def takeable (v : Slot) (next : Nat) : Bool :=
  v.state == 1 && v.ticket.toNat == next && v.check == slotCheck v && !v.poisoned

/-- Whether the device sweeps in its present state (R34, R412). -/
def State.sweeps (s : State) : Bool :=
  (s.ctl.cur == .tilled || s.ctl.cur == .sown || s.ctl.cur == .growing || s.ctl.cur == .gleaning) &&
    s.recovery.gleanDomain != some 14

/-! ### Judgement (R400 to R402, R459) -/

/-- Whether a kind of record is accepted in the present state and job kind (R400). A drill's own rules follow later. -/
def State.kindAccepted (s : State) (kind : Nat) (loadSeen : Bool) : Bool :=
  match kind with
  | 1 => s.ctl.cur == .tilled && !loadSeen
  | 2 => s.ctl.cur == .sown
  | 3 => s.ctl.cur == .growing && !s.serving
  | 4 => s.ctl.cur == .growing && s.serving
  | 5 => s.ctl.cur == .growing && !s.serving
  | 6 => s.ctl.cur == (if s.serving then DevState.growing else .sown)
  | _ => s.ctl.cur == .growing && s.serving

/-- The refusal code of a kind (R400). -/
def kindRefusal (kind : Nat) : Nat :=
  match kind with
  | 1 => 0x00600001
  | 6 => 0x00630008
  | 7 => 0x00630008
  | _ => 0x00650001

/-- The input offsets of an intake body (R401). -/
def intakeOffsets (body : Nat) : List W64 := (List.range 16).map fun k => BitVec.ofNat 64 (body / 2 ^ (512 + 64 * k))

/-- Whether an input offset puts region k inside the pool, on a 64-byte boundary (R402). -/
def State.offsetOk (s : State) (offs : List W64) (r : HbmRegion) : Bool :=
  match r.intake with
  | none => true
  | some k =>
    let o := (nth 0 offs k).toNat
    o != 2 ^ 64 - 1 && o % 64 == 0 && o + r.bytes ≤ s.num 0x201006

/-- Whether an intake body names a declared entry and binds every declared input (R402). -/
def State.intakeOk (s : State) (kind body : Nat) : Bool :=
  let entry := bitsOf 1551 1536 body
  let declared := s.job.elim false fun j => has j.binary.entries entry
  bitsOf 1791 1552 body == 0 && (if kind = 3 then entry == 0 else entry != 0 && declared) &&
    s.regions.hbm.all (s.offsetOk (intakeOffsets body))

/-- Whether a body is malformed (R401, R402, R344): a reserved field that is not 0, a bad source, target, entry, binding or
manifest location. -/
def State.bodyMalformed (s : State) (kind body : Nat) : Bool :=
  match kind with
  | 1 => bitsOf 1791 200 body != 0 || 2 < bitsOf 199 192 body
  | 2 => body != 0
  | 6 => bitsOf 1791 152 body != 0 || bitsOf 143 139 body != 0 || bitsOf 135 128 body != 0 || 1 < bitsOf 151 144 body ||
         s.windowSize (body.testBit 137) < bitsOf 127 64 body + 64
  | 7 => bitsOf 1791 8 body != 0 || 1 < bitsOf 7 0 body
  | k => !s.intakeOk k body

/-- The status that ends a record before its kind's own checks (R459, steps 1 to 4). -/
def State.judge (s : State) (kind body : Nat) (reserved loadSeen : Bool) : Option Nat :=
  if kind = 0 || 7 < kind then some 0x00650002
  else if !s.kindAccepted kind loadSeen then some (kindRefusal kind)
  else if s.held && (kind = 3 || kind = 4 || kind = 5) then some 0x00610004
  else if reserved || s.bodyMalformed kind body then some 0x00650002
  else none

/-- Whether a record has to wait in the table: a third step record or a fifth batch (R176, R336, R398). -/
def State.recordWaits (s : State) (kind : Nat) : Bool :=
  s.job.elim false fun j => (kind == 3 && 2 ≤ j.assigned.length) || (kind == 4 && 4 ≤ j.batches.length)

/-! ### The kinds' own effects -/

/-- An intake record as taken. -/
def intakeOf (ticket userTag : W64) (body : Nat) : Intake :=
  { ticket := ticket, userTag := userTag, entry := bitsOf 1551 1536 body, offsets := intakeOffsets body
    descriptor := BitVec.ofNat 512 body }

/-- A step record is assigned the next step number (R176, R199, R224). -/
def State.assignStep (s : State) (it : Intake) : State :=
  match s.job with
  | none => s
  | some j =>
    if 2 ^ 64 ≤ s.num 0x205001 + 1 + j.assigned.length then s.complete it.ticket { status := 0x00620003 }
    else ((s.mapJob fun j => { j with assigned := j.assigned ++ [it] }).bump 0x205004).writeIntake

/-- A batch is admitted with the copy that serve_ptr names (R336). -/
def State.admitBatch (s : State) (it : Intake) : State :=
  let b : Batch := { intake := it, copy := s.num 0x206001 }
  (((s.mapJob fun j => { j with batches := j.batches ++ [b] }).bump 0x205004).settleCopies).writeIntake

/-- An evaluation record waits for the next seal release (R203, R224). -/
def State.admitEvaluation (s : State) (it : Intake) : State :=
  match s.job with
  | none => s
  | some j =>
    if 2 ^ 32 - 1 ≤ j.evalSeq + j.evalQueue.length + j.evalPending.length then s.complete it.ticket { status := 0x00620004 }
    else s.mapJob fun j => { j with evalPending := j.evalPending ++ [it] }

/-- A Start record (R166): refused for the power cap or for keys that differ in the team; else the job runs and a slot epoch
begins (R241). -/
def State.takeStart (s : State) (ticket : W64) (keysAgree : Bool) : State :=
  match s.job with
  | none => s.complete ticket { status := 0x00650001 }
  | some j =>
    let refuse (code : Nat) : State := (s.setNum 0x204001 code).complete ticket { status := code }
    if s.num 0x700001 < j.binary.yokePeak then refuse 0x0060000D
    else if !keysAgree then refuse 0x0060000E
    else
      let b0 := s.num 0x205001
      let s := s.mapJob fun j => { j with running := true, lastRelease := s.cycle, firstStep := b0, attempt := {}, ahead := {} }
      let s := s.mapPlots fun pl => { pl with stopped := false }
      let s := { s with records := { s.records with current := {} } }
      let s := s.mapSeasons fun x => { x with nextBoundary := b0 + s.num 0x500004 }
      (s.beginEpoch.restIn .growing).complete ticket {}

/-- A record that passed the first four steps of R459 acts. -/
def State.actOn (s : State) (kind : Nat) (ticket userTag : W64) (body : Nat) (keysAgree : Bool) : State :=
  match kind with
  | 1 => s.takeLoad ticket body
  | 2 => s.takeStart ticket keysAgree
  | 3 => s.assignStep (intakeOf ticket userTag body)
  | 4 => s.admitBatch (intakeOf ticket userTag body)
  | 5 => s.admitEvaluation (intakeOf ticket userTag body)
  | 6 => s.takeDrill ticket userTag body
  | _ => s.takeSwitch ticket (bitsOf 7 0 body)

/-- A record is taken: its slot reads 0x02 and next_ticket rises (R398); then it is judged and acts (R459). -/
def State.takeRecord (s : State) (v : Slot) (loadSeen keysAgree : Bool) : State :=
  let t := s.num 0x201004
  let s := { s with hopper := SMap.set {} s.hopper ((t - 1) % 4096) { v with state := 2 } }
  let s := s.setNum 0x201004 (t + 1)
  match s.judge v.kind.toNat v.body.toNat (v.reserved != 0) loadSeen with
  | some code =>
    let s := if v.kind == 1 && code = 0x00600001 then s.setNum 0x204001 code else s
    s.complete v.ticket { status := code }
  | none => s.actOn v.kind.toNat v.ticket v.userTag v.body.toNat keysAgree

/-- Whether a record stays in the table although it is valid (R398). -/
def State.staysBehind (s : State) (v : Slot) (loadSeen : Bool) : Bool :=
  (s.judge v.kind.toNat v.body.toNat (v.reserved != 0) loadSeen).isNone && s.recordWaits v.kind.toNat

/-! ### Sweeps -/

/-- A sweep of at most so many records, in ticket order (R398). -/
def State.sweepOn : Nat → Bool → Bool → State → State
  | 0, _, _, s => s
  | fuel + 1, loadSeen, keysAgree, s =>
    let t := s.num 0x201004
    let v := SMap.get {} s.hopper ((t - 1) % 4096)
    if takeable v t && !s.staysBehind v loadSeen then
      (s.takeRecord v loadSeen keysAgree).sweepOn fuel (loadSeen || v.kind == 1) keysAgree
    else s

/-- A sweep (R34, R398). -/
def State.sweep (s : State) (keysAgree : Bool := true) : State := if s.sweeps then s.sweepOn 256 false keysAgree else s

/-- A record that the host posts in the slot of next_ticket and the device takes at once (DESIGN CHOICE, log entry 17). -/
def State.takeDirect (s : State) (kind : Nat) (r : RecordIn) (keysAgree : Bool := true) : State :=
  let v : Slot := { userTag := r.userTag, ticket := BitVec.ofNat 64 (s.num 0x201004), kind := BitVec.ofNat 8 kind
                    state := 1, body := r.body }
  let v := { v with check := slotCheck v }
  if !s.sweeps then s
  else if s.staysBehind v false then
    { s with hopper := SMap.set {} s.hopper ((s.num 0x201004 - 1) % 4096) v }
  else s.takeRecord v false keysAgree

/-- IDLE_TIMEOUT (R31, R32): the idle timer, enabled, expires in Tilled and the device enters Fallow; where the next record is
pending, it is taken instead and the timer restarts. A slot that no sweep would take yet holds no pending record (R398). -/
def idleTimeout (s : State) : State :=
  let t := s.num 0x201004
  if s.ctl.cur != .tilled || s.num 0x100204 = 0 then s
  else if takeable (SMap.get {} s.hopper ((t - 1) % 4096)) t then s.sweepOn 1 false true
  else s.enterFallow

/-- SWEEP_INTERVAL_EXPIRY (R34): the host's writes stand before the sweep. While Growing a sweep comes between boundaries only
while records are wanted or the job is held. -/
def sweepIntervalExpiry (w : List HostWrite) (keysAgree : Bool) (s : State) : State :=
  let s := s.hostWrites w
  let wants := s.held || s.job.elim true fun j =>
    if j.binary.serving then j.batches.length < 4 else j.assigned.length < 2
  if s.ctl.cur == .growing && !wants then s else s.sweep keysAgree

/-- LOAD (R163, R401): a load record with what the host wrote before it. -/
def loadRecord (r : RecordIn) (w : List HostWrite) (s : State) : State := (s.hostWrites w).takeDirect 1 r

/-- START (R166): the Start of the job is a boundary at which the table is swept (R34). -/
def startRecord (r : RecordIn) (keysAgree : Bool) (s : State) : State :=
  let t := s.takeDirect 2 r keysAgree
  if t.ctl.cur == .growing && s.ctl.cur == .sown then t.sweep else t

/-- STEP (R176). -/
def stepRecord (r : RecordIn) (s : State) : State := s.takeDirect 3 r

/-- BATCH (R336). -/
def batchRecord (r : RecordIn) (s : State) : State := s.takeDirect 4 r

/-- EVALUATION (R203). -/
def evaluationRecord (r : RecordIn) (s : State) : State := s.takeDirect 5 r

/-- DRILL (R344). -/
def drillRecord (r : RecordIn) (w : List HostWrite) (s : State) : State := (s.hostWrites w).takeDirect 6 r

/-- SWITCH (R338). -/
def switchRecord (r : RecordIn) (s : State) : State := s.takeDirect 7 r

def execIdleTimeout (s : State) : Out := .next (idleTimeout s)
def execSweepIntervalExpiry (w : List HostWrite) (keysAgree : Bool) (s : State) : Out :=
  .next (sweepIntervalExpiry w keysAgree s)
def execLoad (r : RecordIn) (w : List HostWrite) (s : State) : Out := .next (loadRecord r w s)
def execStart (r : RecordIn) (keysAgree : Bool) (s : State) : Out := .next (startRecord r keysAgree s)
def execStep (r : RecordIn) (s : State) : Out := .next (stepRecord r s)
def execBatch (r : RecordIn) (s : State) : Out := .next (batchRecord r s)
def execEvaluation (r : RecordIn) (s : State) : Out := .next (evaluationRecord r s)
def execDrill (r : RecordIn) (w : List HostWrite) (s : State) : Out := .next (drillRecord r w s)
def execSwitch (r : RecordIn) (s : State) : Out := .next (switchRecord r s)

end Sys2Proof.Machine
end

