-- ==== Sys2Proof/Machine/Commit.lean ====
section
/-! DEFINITION. Sys2Proof/Machine/Commit.lean: boundary and commit steps (R298), the season state that changes at the seal release of a
commit step (R299, R310, R319), and the anchor digest (R312). -/

namespace Sys2Proof.Machine

/-! ### Boundaries (R298) -/

/-- Whether the next commit that is not isolate is a join (R315, R317, R318). -/
def State.joinAhead (s : State) : Bool := s.seasons.joinDue || s.seasons.wasIsolated || s.seasons.forked

/-- Whether the team forms bales at a boundary: not while isolated, not before a first join, and not at the largest season
number (R298, R316, R318). -/
def State.formsBales (s : State) : Bool :=
  !s.seasons.wasIsolated && !s.seasons.joinDue && decide (s.committed < 2 ^ 32 - 1)

/-- The seal of a boundary step: the next boundary is fixed, and Winnow is due for the season after the committed one. A join that is
due asks for its anchor (R318). -/
def State.sealBoundary (s : State) (n : Nat) : State :=
  if s.seasonsOn && n = s.seasons.nextBoundary then
    let due := s.formsBales
    let season := s.committed + 1
    let s := s.mapSeasons fun x =>
      { x with nextBoundary := x.nextBoundary + s.num 0x500004, winnowDue := due, winnowStage := 0, winnowFailed := false
               winnowSeason := season, winnowLate := false, keyCounts := x.keyCounts.filter (·.season == season) }
    if s.seasons.joinDue && !s.seasons.fetchAsked then s.askAnchor else s
  else s

/-! ### The anchor digest (R312) -/

/-- The anchor of a season tensor in a copy. -/
def SeasonTensor.anchor (x : SeasonTensor) (odd : Bool) : List W32 := if odd then x.anchor1 else x.anchor0

/-- The sheaf digest of an anchor. Both copies digest under the first copy's tensor ID, so that the digest does not depend on
season_ptr (DEDUCED, log entry 32). -/
def SeasonTensor.digest (x : SeasonTensor) (odd : Bool) : Nat :=
  let key := sheafKey x.decl.anchors.1.toNat
  ((SeasonTensor.anchor x odd).zipIdx.map fun e => sheafMix key (x.decl.base + e.2) e.1.toNat).foldl (· + ·) 0

/-- The anchor digest of the committed copies. A device alone holds every shard; in a team the sum runs over devices, and the
manual gives no message that carries it, so what the others add is an unknown number, the same for the same key, season and own
part (R206; log entry 32). -/
def State.digestAnchor (s : State) : W64 :=
  let own := BitVec.ofNat 64 ((s.seasons.tensors.filter fun x => x.decl.primary).foldl
    (fun n x => n + SeasonTensor.digest x s.seasons.ptr) 0)
  if s.formed && 1 < s.teamSize then own + Config.anchorOthers (s.oct 0x902001) s.committed own else own

/-! ### Commits (R310, R319) -/

/-- Bales leave the store once the season they were formed for is committed plus stale_limit seasons (R306), and rosters with them. -/
def State.pruneBales (s : State) : State :=
  s.mapSeasons fun x =>
    { x with store := x.store.filter fun b => s.committed < b.header.baleSeason + s.num 0x500009
             rosters := x.rosters.filter fun r => s.committed < r.season + s.num 0x500009 }

/-- What every commit leaves behind: the season tile and what led to it. -/
def State.endCommit (s : State) : State :=
  (s.mapSeasons fun x =>
    { x with tile := none, chosen := none, writeAt := none, mergedRoster := none, ready := [], lateOffered := false }).raise .season

/-- The season counter after a commit: it sticks at its largest value (R224). -/
def State.setCommitted (s : State) (season : Nat) : State := s.setNum 0x50000F (min season (2 ^ 32 - 1))

/-- season_ptr flips and the committed season changes in the cycle of the seal (R299, R310). -/
def State.flipSeason (s : State) (t : SeasonTile) : State :=
  let s := s.mapSeasons fun x => { x with ptr := !x.ptr, committedRoster := t.rosterDigest }
  ((s.setCommitted t.season).setNum 0x500011 0).setNum 0x500010 1

/-- What a commit of a mode changes at the seal release, before the Ledger records. -/
def State.commitState (s : State) (t : SeasonTile) : State :=
  match t.mode with
  | .isolate => ((s.bump 0x500011).mapSeasons fun x => { x with wasIsolated := true }).setNum 0x500010 2
  | .merge => s.flipSeason t
  | .join =>
    (s.flipSeason t).mapSeasons fun x =>
      { x with wasIsolated := false, joinDue := false, forked := false, fetched := none, fetchAsked := false }

/-- The Ledger record of a season commit and the anchor digest it carries (R214, R312). -/
def State.commitRecord (s : State) (n : Nat) (t : SeasonTile) : State :=
  if t.mode = .isolate then s
  else
    let d := s.digestAnchor
    let s := s.mapSeasons fun x => { x with anchorDigest := some d }
    s.appendLedger { s.ledgerBase 6 n with batchTag := d }

/-- The season tile that a sealing step commits, if it is the commit step. -/
def State.commitOf (s : State) (n : Nat) : Option SeasonTile := if s.isCommitStep n then s.seasons.tile else none

/-- What seasons change in the cycle of a seal, before its Ledger record (R191, R299). -/
def State.sealSeason (s : State) (n : Nat) : State :=
  match s.commitOf n with
  | some t => s.commitState t
  | none => s

/-- A roster for the season after the committed one tells a fork: its parent or its anchor digest is not this team's (R315). After a
join the anchor alone is compared, and a mismatch joins again (R318). -/
def State.checkFork (s : State) (r : Roster) : State :=
  if r.season ≠ s.committed + 1 || s.seasons.forked || s.seasons.joinDue then s
  else
    let d := s.seasons.anchorDigest.getD s.digestAnchor
    let s := s.mapSeasons fun x => { x with anchorDigest := some d }
    let own := s.seasons.committedRoster
    if own = 0 && s.committed ≠ 0 then
      if d = r.anchorDigest then s
      else ((s.mapSeasons fun x => { x with joinDue := true }).setNum 0x500010 3).askAnchor
    else if (own = 0 || r.parentDigest = own) && d = r.anchorDigest then s
    else (((s.bump (acreCount 11)).mapSeasons fun x => { x with forked := true }).setNum 0x500010 3).askAnchor

/-- What seasons do after the seal's Ledger record (R225): the commit's own record and event, rosters held for the
next season (R323), and the boundary. -/
def State.afterSeason (s : State) (n : Nat) (t : Option SeasonTile) : State :=
  let s := match t with
    | some t =>
      let s := (s.commitRecord n t).pruneBales.endCommit
      if t.mode = CommitMode.isolate then s else s.seasons.rosters.foldl State.checkFork s
    | none => s
  s.sealBoundary n

end Sys2Proof.Machine
end

