-- ==== Sys2Proof/Machine/Barrier.lean ====
section
/-! DEFINITION. Sys2Proof/Machine/Barrier.lean: the team barrier (R249 to R253), seal, gate and undo arrivals (R186 to R190), and the
lead device's decision (R188). -/

namespace Sys2Proof.Machine

/-! ### Attempts by the identity that messages carry -/

/-- Whether an attempt carries a step number and attempt number. -/
def State.carries (s : State) (stepLo : W32) (attempt : BitVec 4) (w : Whose) : Bool :=
  stepLo == BitVec.ofNat 32 (s.numberOf w) && attempt == BitVec.ofNat 4 (s.attemptNumber w)

/-- The attempt under way that messages name by step and attempt (R249). -/
def State.whoseOf (s : State) (stepLo : W32) (attempt : BitVec 4) : Option Whose :=
  match s.job with
  | none => none
  | some j =>
    if j.binary.serving then
      (j.batches.find? fun b => s.carries stepLo attempt (.batch b.intake.ticket)).map fun b => .batch b.intake.ticket
    else if j.evalRunning.isSome then (if s.carries stepLo attempt .eval then some .eval else none)
    else if s.carries stepLo attempt .step then some .step
    else if s.carries stepLo attempt .ahead then some .ahead
    else none

/-- Whether arrivals count now: the job runs, is not held, and no undo of a training job is under way. -/
def State.collecting (s : State) : Bool :=
  s.job.elim false fun j => j.running && !s.held && (!j.undoing || j.binary.serving)

/-- Whether a message belongs to an earlier step or attempt than the present one; step and attempt numbers wrap (R224). -/
def olderThan (step : W32) (attempt : BitVec 4) (m : ArrivalMsg) : Bool :=
  let d := (step - m.stepLo).toNat
  let a := (attempt - m.attempt).toNat
  if d = 0 then 1 ≤ a && a ≤ 8 else d < 2 ^ 31

/-- Whether an arrival that names no attempt under way is a late one of work that has ended; in a serving job any. -/
def State.lateArrival (s : State) (m : ArrivalMsg) : Bool :=
  let w : Whose := if s.evaluating.isSome then .eval else .step
  s.serving || olderThan (BitVec.ofNat 32 (s.numberOf w)) (BitVec.ofNat 4 (s.attemptNumber w)) m

/-! ### Reports and combined messages (R186, R249) -/

/-- The report of the lowest rank with a fault class. -/
def lowestReport (rs : List SealReport) (cls : Nat) : Option SealReport :=
  rs.foldl (fun best r =>
    if r.faultClass.toNat != cls then best
    else match best with
      | none => some r
      | some b => if r.signature.rank < b.signature.rank then some r else some b) none

/-- The reports that a combining device forwards: the lowest rank's of class 2 and of class 1, and no others. -/
def bestReports (rs : List SealReport) : List SealReport := (lowestReport rs 2).toList ++ (lowestReport rs 1).toList

/-- Two arrivals at one barrier combined. -/
def mergeArrival (a b : ArrivalMsg) : ArrivalMsg :=
  { a with
    numericalAny := a.numericalAny || b.numericalAny, widthAny := a.widthAny || b.widthAny, portsLost := a.portsLost || b.portsLost
    widthGroup := if b.widthGroup < a.widthGroup then b.widthGroup else a.widthGroup
    reports := bestReports (a.reports ++ b.reports), count := a.count + b.count, ranks := a.ranks ++ b.ranks
    saveTime := max a.saveTime b.saveTime }

/-- Whether two arrivals name one barrier of one attempt. -/
def sameArrival (a b : ArrivalMsg) : Bool := a.barrier == b.barrier && a.stepLo == b.stepLo && a.attempt == b.attempt

/-- This device's own arrival at a barrier of an attempt, without a report. -/
def State.plainArrival (s : State) (w : Whose) (barrier : W32) : ArrivalMsg :=
  { barrier := barrier, stepLo := BitVec.ofNat 32 (s.numberOf w), attempt := BitVec.ofNat 4 (s.attemptNumber w)
    ranks := [s.rank] }

/-- This device's own seal or gate arrival, with its report and save time (R186, R365). -/
def State.reportArrival (s : State) (w : Whose) (barrier : W32) : ArrivalMsg :=
  let r := s.reportOf w (if barrier = gateBarrier then 3 else 1)
  { s.plainArrival w barrier with
    numericalAny := r.numerical, widthAny := r.widthOverflow, widthGroup := r.widthGroup
    reports := if r.faultClass = 0 then [] else [r], saveTime := s.ownSaveTime }

/-! ### Releases of barriers (R236, R251) -/

/-- The anchor slot of a release cycle (R236): the first slot whose position begins at or after it. -/
def anchorSlot (t : Cycle) : Nat :=
  let bout := t.toNat / 1856
  let p := (t.toNat % 1856 + 63) / 64
  if p < 28 then 28 * bout + p else 28 * (bout + 1)

/-- The key of a slot plan entry: its port and its entry ID (R235). -/
def entryKey (e : SlotEntry) : Nat := e.port * 2 ^ 24 + e.entryId.toNat

/-- A list of pairs with one put in the place of those of its key. -/
def putPair {β : Type} (l : List (Nat × β)) (k : Nat) (v : β) : List (Nat × β) := l.filter (fun e => e.1 != k) ++ [(k, v)]

/-- The phase that a barrier's release begins, if it is an entry barrier (R269, R272). -/
def State.notePhase (s : State) (b : W32) (t : Cycle) : State :=
  match s.job.bind fun j => j.binary.phaseMaps.phases.find? fun p => p.entryBarrier == b with
  | some p => { s with power := { s.power with upcoming := s.power.upcoming ++ [(t, p.phaseId)] } }
  | none => s

/-- A release begins the phase whose entry barrier it is, and the slot plan entries anchored to it begin anew (R236, R272). -/
def State.noteAnchor (s : State) (b : W32) (t : Cycle) : State :=
  (s.notePhase b t).mapFabric fun f =>
    let mine := (f.plan.filter fun e => e.anchor == b).map entryKey
    { f with anchors := putPair f.anchors b.toNat (anchorSlot t), arrived := f.arrived.filter fun e => !has mine e.1
             sent := f.sent.filter fun e => !has mine e.1, begun := f.begun.filter fun e => !has mine e.1 }

/-- The release of a barrier of the binary reaches this device: plots may wait for it. -/
def State.noteRelease (s : State) (b stepLo : W32) (attempt : BitVec 4) (t : Cycle) : State :=
  (s.noteAnchor b t).mapFabric fun f =>
    { f with releases := putPair f.releases (barrierKey b stepLo) t
             subtrees := f.subtrees.filter fun x =>
               !(x.msg.barrier == b && x.msg.stepLo == stepLo && x.msg.attempt == attempt) }

/-! ### The decision (R188) -/

/-- The decision of R188 over the reports of one attempt: `a` attempts on the batch, the previous signature, and
max_attempts. -/
def judgeReports (rs : List SealReport) (numerical width : Bool) (group : BitVec 24) (a : Nat) (prev : Signature)
    (maxAttempts : Nat) : SealOutcome :=
  match lowestReport rs 2 with
  | some f => { code := .hold, status := 0x00610001, signature := f.signature }
  | none =>
    match lowestReport rs 1 with
    | some f =>
      if f.signature = prev then { code := .hold, status := 0x00610002, signature := f.signature }
      else if maxAttempts ≤ a then { code := .hold, status := 0x00610003, signature := f.signature }
      else { code := .replay, signature := f.signature }
    | none =>
      if numerical then { code := .skip }
      else if width then
        (if maxAttempts ≤ a then { code := .hold, status := 0x00610003 } else { code := .replayWider, widthGroup := group })
      else { code := .seal }

/-- The lowest width group of a collection. -/
def lowestGroup (c : Collect) : BitVec 24 :=
  c.reports.foldl (fun g r => if r.widthOverflow && r.widthGroup < g then r.widthGroup else g) c.widthGroup

/-- The lead device's judgement of an attempt. After the gate of single-field mode anything but a seal holds the job (R201). -/
def State.judgeCollect (s : State) (c : Collect) (w : Whose) : SealOutcome :=
  let a := s.attemptOf w
  let o := judgeReports c.reports (c.numericalAny || c.reports.any (·.numerical)) (c.widthAny || c.reports.any (·.widthOverflow))
    (lowestGroup c) a.count a.prev (s.num 0x204004)
  if s.singleField && w = .step && a.gatePassed && o.code != .seal then
    { o with code := .hold, status := 0x00610005, widthGroup := 0xFFFFFF }
  else if s.fabric.judgeRollback.contains (c.stepLo, c.attempt) && o.code != .hold && o.code != .replay then
    (if s.num 0x204004 ≤ a.count then { code := .hold, status := 0x00610003 } else { code := .replay })
  else o

/-- The lead device decides a barrier: the outcome of a seal or gate, or the release of another barrier (R188, R251). -/
def State.decideBarrier (s : State) (c : Collect) (w : Whose) : State :=
  let t := s.cycle + BitVec.ofNat 64 s.margin
  if c.barrier = sealBarrier || c.barrier = gateBarrier then
    let s := s.mapFabric fun f =>
      { f with collects := f.collects.filter fun x => !(x.stepLo == c.stepLo && x.attempt == c.attempt) }
    s.announce { s.judgeCollect c w with
      release := t, attempt := c.attempt, gate := c.barrier == gateBarrier, stepLo := c.stepLo }
  else
    let s := s.mapFabric fun f =>
      { f with collects := f.collects.filter fun x =>
          !(x.barrier == c.barrier && x.stepLo == c.stepLo && x.attempt == c.attempt) }
    let s := s.noteRelease c.barrier c.stepLo c.attempt t
    if s.formed then s.send (.release (.barrier c.barrier c.stepLo c.attempt t)) else s

/-! ### Collection at the lead device (R251, R253) -/

/-- A barrier count mismatch (R253): a hardware fault of the lead device's attempt, which decides its rollback. -/
def State.mismatch (s : State) : State := s.deviceFault 9

/-- An arrival added to a collection; ranks that have been counted already are not counted again (R256). -/
def addArrival (c : Collect) (m : ArrivalMsg) : Collect :=
  let new := m.ranks.filter fun r => !has c.ranks r
  { c with
    count := c.count + (m.count - (m.ranks.length - new.length)), ranks := c.ranks ++ new
    reports := m.reports.foldl putReport c.reports
    numericalAny := c.numericalAny || m.numericalAny, widthAny := c.widthAny || m.widthAny
    widthGroup := if m.widthGroup < c.widthGroup then m.widthGroup else c.widthGroup
    portsLost := c.portsLost || m.portsLost }

/-- The collection that an arrival belongs to: the one under way or a new one. -/
def State.collectFor (s : State) (m : ArrivalMsg) : Collect :=
  (s.fabric.collects.find? fun c => c.barrier == m.barrier && c.stepLo == m.stepLo && c.attempt == m.attempt).getD
    { barrier := m.barrier, stepLo := m.stepLo, attempt := m.attempt, first := s.cycle }

/-- The state with a collection put in its place. -/
def State.putCollect (s : State) (c : Collect) : State :=
  s.mapFabric fun f =>
    { f with collects := f.collects.filter (fun x =>
        !(x.barrier == c.barrier && x.stepLo == c.stepLo && x.attempt == c.attempt)) ++ [c] }

/-- Whether another barrier of an attempt is being collected. -/
def State.otherBarrier (s : State) (m : ArrivalMsg) : Bool :=
  s.fabric.collects.any fun c => 0 < c.count && c.barrier != m.barrier && c.stepLo == m.stepLo && c.attempt == m.attempt

/-- An arrival is counted; with the last device's the barrier is decided (R251, R188). -/
def State.countArrival (s : State) (m : ArrivalMsg) (w : Whose) : State :=
  let c := addArrival (s.collectFor m) m
  if s.devices < c.count then s.mismatch
  else
    let s := if m.barrier = sealBarrier then s.mapFabric fun f => { f with saveTime := max f.saveTime m.saveTime } else s
    let s := s.putCollect c
    if s.devices ≤ heardOf c then s.decideBarrier c w else s

/-- The restart cycle is fixed at the last undo report, or the job is held for a lost port (R190, R260). -/
def State.takeUndoReport (s : State) (m : ArrivalMsg) : State :=
  match s.job with
  | none => s
  | some j =>
    if !j.undoing || s.held || m.stepLo != BitVec.ofNat 32 j.undoFloor then s
    else
      let c := addArrival (s.collectFor m) m
      let t := s.cycle + BitVec.ofNat 64 s.margin
      let dropped := s.mapFabric fun f => { f with collects := f.collects.filter fun x => x.barrier != undoBarrier }
      if c.portsLost then dropped.fabricHold 0x00610006
      else if s.devices ≤ c.count then
        let s := dropped.mapJob fun j => { j with restartAt := some t }
        if s.formed then s.send (.release (.barrier undoBarrier m.stepLo m.attempt t)) else s
      else s.putCollect c

/-- The lead device takes an arrival (R253): late ones and those of a decided attempt are ignored (R188, R265), one that names
no barrier it may collect, or a reserved one, is a mismatch (the latter a DESIGN CHOICE, log entry 152). -/
def State.leadTake (s : State) (m : ArrivalMsg) : State :=
  if m.barrier = undoBarrier then s.takeUndoReport m
  else if !s.collecting then s
  else if barrierReserved m.barrier then s.mismatch
  else match s.whoseOf m.stepLo m.attempt with
    | none => if s.lateArrival m then s else s.mismatch
    | some w =>
      if s.decided m.stepLo m.attempt then s
      else if (w = .ahead && (m.barrier = sealBarrier || m.barrier = gateBarrier)) || s.otherBarrier m then s.mismatch
      else s.countArrival m w

/-! ### The tree (R249) -/

/-- Whether a subtree has its own arrival and every child's. -/
def State.subtreeDone (s : State) (t : Subtree) : Bool := t.own && s.fabric.children.all (has t.heard)

/-- The state with a subtree's record put in its place. -/
def State.putSubtree (s : State) (t : Subtree) : State :=
  s.mapFabric fun f => { f with subtrees := f.subtrees.filter (fun x => !sameArrival x.msg t.msg) ++ [t] }

/-- An arrival of this device, or of a child's subtree, on its way to the lead device: one combined message goes on when the
subtree is complete. A message that does not belong to the barrier being combined goes straight on, so that the lead device
meets the mismatch (R249, R253). -/
def State.joinTree (s : State) (child : Option Nat) (m : ArrivalMsg) : State :=
  let others := s.fabric.subtrees.any fun t => !t.forwarded && !sameArrival t.msg m &&
    (t.msg.barrier == m.barrier || (t.msg.stepLo == m.stepLo && t.msg.attempt == m.attempt))
  let old := s.fabric.subtrees.find? fun t => sameArrival t.msg m
  if child.isSome && (others || old.any (·.forwarded)) then s.toParent m
  else
    let t : Subtree := match old with
      | some t => { t with msg := mergeArrival t.msg m }
      | none => { barrier := m.barrier, msg := m }
    let t := { t with own := t.own || child.isNone, heard := child.elim t.heard (addOnce t.heard) }
    if t.forwarded then (s.putSubtree t).toParent m
    else if s.subtreeDone t then (s.putSubtree { t with forwarded := true }).toParent t.msg else s.putSubtree t

/-- This device arrives. -/
def State.arrive (s : State) (m : ArrivalMsg) : State := if s.isLead then s.leadTake m else s.joinTree none m

/-! ### Arrivals of plots -/

/-- BARRIER_ARRIVE (R249): the sync slot's arrival at a barrier of the binary; with the last plot's the device arrives. -/
def barrierArrive (p : Nat) (b : W32) (s : State) : State :=
  match s.issuing p with
  | none => s
  | some pl =>
    if 0xFFFFFFEF < b.toNat then s
    else
      let w := s.whose pl
      let key := barrierKey b (BitVec.ofNat 32 (s.numberOf w))
      let there := s.fabric.plotArrivals.filter (fun a => a != (key, p)) ++ [(key, p)]
      let all := s.plots.zipIdx.all fun q => q.1.halted || there.any fun a => a == (key, q.2)
      if all then
        (s.mapFabric fun f => { f with plotArrivals := there.filter fun a => a.1 != key }).arrive (s.plainArrival w b)
      else s.mapFabric fun f => { f with plotArrivals := there }

/-- The tables of an attempt: those of the step or evaluation under way, or a batch's. -/
def State.tablesOf (s : State) (w : Whose) : Tables :=
  match w with
  | .batch t => ((s.job.bind fun j => j.batches.find? fun b => b.intake.ticket == t).map (·.tables)).getD {}
  | _ => s.records.current

/-- The state with an attempt's tables changed. -/
def State.setTables (s : State) (w : Whose) (x : Tables) : State :=
  match w with
  | .batch t => s.mapJob fun j =>
      { j with batches := j.batches.map fun b => if b.intake.ticket = t then { b with tables := x } else b }
  | _ => { s with records := { s.records with current := x } }

/-- A plot's partials added into the tables of its attempt (R116, R118). -/
def addPartials (x : Tables) (pl : Plot) : Tables :=
  { digest := pl.digests.foldl (fun m d => SMap.set 0 m d.1 (SMap.get 0 m d.1 + d.2)) x.digest
    tally := pl.tallies.foldl (fun m d => SMap.set {} m d.1 (Tally.plus (SMap.get {} m d.1) d.2)) x.tally }

/-- A plot ends its attempt: its partials go into the tables; counters that reach their largest value are counted (R119). -/
def State.flushPlot (s : State) (p : Nat) (w : Whose) : State :=
  match s.plotAt p with
  | none => s
  | some pl =>
    let old := s.tablesOf w
    let new := addPartials old pl
    ((s.setTables w new).bump 0x304002 (newSticks old.tally new.tally)).mapPlot p
      fun q => { q with digests := [], tallies := [] }

/-- The digest check pairs of the role whose device totals differ (R117). -/
def State.unequalPairs (s : State) (w : Whose) : Nat :=
  let x := (s.tablesOf w).digest
  s.job.elim 0 fun j => (((slotMapOf j.binary j.role).pairs).filter fun d => SMap.get 0 x d.1 != SMap.get 0 x d.2).length

/-- Every unequal pair is a digest mismatch of the attempt (R117). -/
def State.checkPairs (s : State) (w : Whose) : State :=
  (List.range (s.unequalPairs w)).foldl (fun s _ => s.meetFault w 0x0D 0xFFFF 0xFFFF 0xFFFF) s

/-- The device makes a seal or gate arrival. A device that has sent an early abort has made its one report (R186). -/
def State.deviceArrives (s : State) (w : Whose) (barrier : W32) : State :=
  let s := if barrier = sealBarrier then s.checkPairs w else s
  let s := s.mapWhose w fun a =>
    if barrier = gateBarrier then { a with gateArrived := true } else { a with arrived := true }
  if (s.attemptOf w).aborted then s else s.arrive (s.reportArrival w barrier)

/-- Whether every plot has made an arrival; a plot whose program has ended before the step or batch makes none (R123). -/
def State.allPlots (s : State) (f : Plot → Bool) : Bool := s.plots.all fun q => f q || (q.halted && !q.entered)

/-- A plot's gate arrival (R201). -/
def State.gateArrive (s : State) (p : Nat) (pl : Plot) : State :=
  if !s.singleField || s.serving || s.evaluating.isSome || pl.gateDone || (s.attemptOf .step).gatePassed then s
  else
    let s := s.mapPlot p fun q => { q with gateDone := true }
    if s.allPlots (·.gateDone) then s.deviceArrives .step gateBarrier else s

/-- A plot's arrival at the end of a serving batch (R461). -/
def State.batchArrive (s : State) (p : Nat) (pl : Plot) : State :=
  match s.batchOf pl with
  | none => s
  | some b =>
    let t := b.intake.ticket
    let s := (s.flushPlot p (.batch t)).mapPlot p fun q => { q with lastTicket := t, entered := false }
    if s.allPlots fun q => t ≤ q.lastTicket then s.deviceArrives (.batch t) sealBarrier else s

/-- A plot's seal arrival, or its arrival at the end of an evaluation (R186, R205). One that comes before the outcome of the
arrival before it does not issue (R462). -/
def State.stepArrive (s : State) (p : Nat) (pl : Plot) : State :=
  if pl.arrived then s
  else
    let w := s.whose pl
    let s := (s.flushPlot p w).mapPlot p fun q => { q with arrived := true }
    if s.allPlots (·.arrived) then s.deviceArrives w sealBarrier else s

/-- SEAL_ARRIVE: the sync slot's seal arrival or gate arrival. -/
def sealArrive (p : Nat) (gate : Bool) (s : State) : State :=
  match s.issuing p with
  | none => s
  | some pl => if gate then s.gateArrive p pl else if s.serving then s.batchArrive p pl else s.stepArrive p pl

/-! ### Messages and windows -/

/-- EARLY_ABORT (R187, R188): the lead device takes it unless the attempt is decided or over; another device passes it on. -/
def earlyAbort (rank : Nat) (r : SealReport) (s : State) : State :=
  if !s.isLead then s.send (.earlyAbort r)
  else if !s.collecting || s.decided r.stepLo r.attempt then s
  else match s.whoseOf r.stepLo r.attempt with
    | some w => if w = .ahead then s else s.takeAbort (s.nextBarrier w) rank r
    | none => s

/-- EARLY_ABORT_WINDOW_EXPIRY (R188): 64 cycles after the first early abort the lead device decides. -/
def earlyAbortWindowExpiry (s : State) : State :=
  match s.fabric.collects.find? fun c => c.window.isSome with
  | none => s
  | some c =>
    let s := s.upTo (c.window.getD s.cycle)
    match s.whoseOf c.stepLo c.attempt with
    | some w => s.decideBarrier c w
    | none => s.mapFabric fun f => { f with collects := f.collects.filter fun x => x != c }

/-- BARRIER_ARRIVAL_MESSAGE (R249): a child's arrival. -/
def barrierArrivalMessage (fromPort : Nat) (m : ArrivalMsg) (s : State) : State :=
  if !s.formed then s else if s.isLead then s.leadTake m else s.joinTree (some fromPort) m

/-- The lowest rank that has neither arrived nor reported. -/
def State.missingRank (s : State) (c : Collect) : Nat :=
  ((List.range s.devices).find? fun r =>
    !has c.ranks r && !c.reports.any fun x => x.signature.rank.toNat == r).getD 0

/-- The report of a barrier timeout against a rank (R253). -/
def State.timeoutReport (s : State) (w : Whose) (c : Collect) : SealReport :=
  { signature := { kind := 0x0A, plot := 0xFFFF, rank := BitVec.ofNat 16 (s.missingRank c), bundle := 0xFFFF, region := 0xFFFF
                   stepLo := BitVec.ofNat 32 (s.numberOf w) }
    attempt := BitVec.ofNat 4 (s.attemptNumber w), stepLo := BitVec.ofNat 32 (s.numberOf w), faultClass := 1, arrivalKind := 2 }

/-- A barrier timeout: the current attempt is rolled back (R253). -/
def State.timeOutBarrier (s : State) (c : Collect) : State :=
  let s := s.upTo (c.first + BitVec.ofNat 64 (s.num 0x203001))
  let s := (s.bump 0x404006).bump 0x605005
  match s.whoseOf c.stepLo c.attempt with
  | none => s
  | some w =>
    let w := if w = .ahead then .step else w
    let own : ArrivalMsg := s.plainArrival w (s.nextBarrier w)
    let base := s.collectFor own
    s.decideBarrier { base with reports := base.reports ++ (if c.barrier = base.barrier then [] else c.reports) ++ [s.timeoutReport w c] } w

/-- BARRIER_TIMEOUT (R253): the lead device has not decided wait_timeout cycles after a barrier's first arrival. -/
def barrierTimeout (b : W32) (s : State) : State :=
  if !s.isLead || !s.collecting || b = undoBarrier then s
  else match s.fabric.collects.find? fun c => c.barrier == b with
    | some c => s.timeOutBarrier c
    | none => s

def execBarrierArrive (plot : Nat) (barrier : W32) (s : State) : Out := .next (barrierArrive plot barrier s)
def execSealArrive (plot : Nat) (gate : Bool) (s : State) : Out := .next (sealArrive plot gate s)
def execEarlyAbort (rank : Nat) (r : SealReport) (s : State) : Out := .next (earlyAbort rank r s)
def execEarlyAbortWindowExpiry (s : State) : Out := .next (earlyAbortWindowExpiry s)
def execBarrierArrivalMessage (fromPort : Nat) (m : ArrivalMsg) (s : State) : Out := .next (barrierArrivalMessage fromPort m s)
def execBarrierTimeout (barrier : W32) (s : State) : Out := .next (barrierTimeout barrier s)

end Sys2Proof.Machine
end

