-- ==== Sys2Proof/Machine/Seal.lean ====
section
/-! DEFINITION. Sys2Proof/Machine/Seal.lean: what happens at a release (R189 to R194): seal, skip, replay, hold, the end of an
evaluation (R203 to R205) or of a serving batch (R461), the end of an undo (R146, R190) and the restart. -/

namespace Sys2Proof.Machine

/-! ### Loss scale (R64) -/

/-- S and clean_run after a clean seal. -/
def State.scaleSeal (s : State) : State :=
  let growth := s.num 0x302002
  let run := stick 32 (s.num 0x302005) 1
  let S := ofPattern 32 (s.num 0x302001)
  if growth ≠ 0 ∧ growth ≤ s.num 0x302005 + 1 then
    let s := s.setNum 0x302005 0
    if S < ofPattern 32 (s.num 0x302004) then s.setNum 0x302001 (toPattern 32 (S + 1)) else s
  else s.setNum 0x302005 run

/-- S, clean_run and skips_at_min after a skip. -/
def State.scaleSkip (s : State) : State :=
  let S := ofPattern 32 (s.num 0x302001)
  let s := s.setNum 0x302005 0
  if ofPattern 32 (s.num 0x302003) < S then s.setNum 0x302001 (toPattern 32 (S - 1)) else s.bump 0x302006

/-! ### Outcomes -/

/-- Which outcomes end work well: a seal, and, in an evaluation or a serving batch, a numerical overflow (R205, R461). -/
def State.endsWork (s : State) (o : SealOutcome) : Bool :=
  !o.gate && (o.code == .seal || (o.code == .skip && (s.serving || s.evaluating.isSome)))

/-- The first pending outcome that a test picks. -/
def State.nextOutcome (s : State) (f : SealOutcome → Bool) : Option SealOutcome := s.job.bind fun j => j.outcomes.find? f

/-- The state with an outcome taken: it is no longer pending, and its arrivals are no longer held. -/
def State.takeOutcome (s : State) (o : SealOutcome) : State :=
  (s.mapJob fun j => { j with outcomes := j.outcomes.erase o, lastOutcome := some o }).mapFabric fun f =>
    { f with subtrees := f.subtrees.filter fun x => !(x.msg.stepLo == o.stepLo && x.msg.attempt == o.attempt) }

/-- The batch tag of a record: bytes 0 to 7 of its batch descriptor (R215). -/
def batchTag (it : Intake) : W64 := it.descriptor.setWidth 64

/-- Whether the recorded attempt ran in checksum mode: after a hardware fault, or in an audit step (R95). -/
def State.recordChecksum (s : State) (a : Attempt) (n : Nat) : Bool :=
  a.checksum || (!s.serving && s.evaluating.isNone && s.num 0x604001 != 0 && n % s.num 0x604001 == 0)

/-- The Ledger record of an attempt that ends its batch (R215). The scale it used is given, for it has changed by now. -/
def State.attemptRecord (s : State) (kind n scale : Nat) (a : Attempt) (o : SealOutcome) : LedgerRecord :=
  { s.ledgerBase kind n with
    scaleExp := scale, sealCycle := o.release.toNat, attempts := min a.count 255, repeats := a.repeats
    signature := a.lastSignature, widthEscalated := !a.widened.isEmpty, checksumOn := s.recordChecksum a n }

/-- The signature of the deciding fault is recorded on every device (R168). -/
def State.noteSignature (s : State) (g : Signature) : State :=
  if g = {} then s else s.setOct 0x204003 (leBytes 16 (Signature.bits g).toNat)

/-- The next attempt of a batch (R188, R193): what the batch keeps, with the signature of the attempt that ended. -/
def nextAttempt (a : Attempt) (g : Signature) : Attempt :=
  { count := a.count + 1, prev := g, lastSignature := if g = {} then a.lastSignature else g, widened := a.widened
    checksum := a.checksum, tapStart := a.tapStart }

/-- A reduction group widened by one step more (R64). -/
def widenGroup (l : List (Nat × Nat)) (g : Nat) : List (Nat × Nat) :=
  putPair l g (((l.find? fun x => x.1 == g).map (·.2)).getD 0 + 1)

/-! ### The seal of a step (R189, R191) -/

/-- A tine at a seal: the marks of the next step become those of the current one (R131, R142). -/
def shiftTine (t : Tine) : Tine :=
  match t.nextMark with
  | some m => { t with markPos := m.1, markRunning := m.2, nextMark := none, ahead := false }
  | none => { t with ahead := false }

/-- A tile with the spec flag cleared. -/
def plainTile (t : Tile) : Tile := { t with tag := { t.tag with spec := false } }

/-- The spec flag cleared in a tag at a seal (R144): a tag that holds it belongs to the step after the sealed one, also where its
step_lo is its producer's. -/
def clearSpec (r : Region) : Region := if r.tile.tag.spec then { r with tile := plainTile r.tile } else r

/-- A plot at a seal: what ran ahead is now the current step's, also in the chains in flight (R142, R144); records of the sealed
step that no instruction took are gone. -/
def shiftPlot (sealed : W32) (pl : Plot) : Plot :=
  { pl with
    arrived := false, gateDone := false, entered := pl.enteredNext, enteredNext := false
    tines := SMap.mapValues {} shiftTine pl.tines
    maxima := pl.maxima.filter fun t => t.tag.stepLo != sealed
    frames := pl.frames.filter fun t => t.tag.stepLo != sealed
    chains := pl.chains.map fun r => { r with result := plainTile r.result }
    crib := SMap.mapValues {} clearSpec pl.crib, loam := SMap.mapValues {} clearSpec pl.loam }

/-- A seal on the plots, the pool, the tokens and the tiers: the attempt of the next step becomes the current one. -/
def State.shiftWork (s : State) : State :=
  let step := BitVec.ofNat 32 (s.num 0x205001 + 1)
  let t := s.tiers
  let s := { s with
    plots := s.plots.map (shiftPlot (step - 1)), pool := SMap.mapValues {} clearSpec s.pool
    tokens := s.aheadTokens, aheadTokens := []
    tiers := { t with moves := t.moves ++ t.waiting, waiting := [], fired := t.firedAhead, firedAhead := [] } }
  let s := s.mapFabric fun f =>
    { f with releases := f.releases.filter fun r => r.1 / 2 ^ 32 == step.toNat }
  { s with plots := s.plots.map (releaseSealWait s) }

/-- The field pointer, sealed_step, S and clean_run change together (R191). -/
def State.moveField (s : State) (n : Nat) (q : W32) : State :=
  let s := (s.setNum 0x205001 n).setNum 0x205002 (if s.singleField then 0 else n % 2)
  ((s.scaleSeal).setNum 0x205003 0).setNum 0x205007 q.toNat

/-- The first assigned record completes; the ones after it move down (R176). -/
def State.completeHead (s : State) (status n ledger : Nat) (a : Attempt) : State :=
  match s.job.bind (·.assigned.head?) with
  | none => s
  | some it =>
    let s := s.mapJob fun j => { j with assigned := j.assigned.drop 1 }
    s.complete it.ticket { status := status, step := n, ledger := some ledger, attempts := a.count, signature := a.lastSignature }

/-- The batch tag of the first assigned record. -/
def State.headTag (s : State) : W64 := (s.job.bind (·.assigned.head?)).elim 0 batchTag

/-- The fault of a step that ran ahead becomes the fault of the current step (R145). -/
def State.takeAhead (s : State) : State :=
  let s := s.mapJob fun j => { j with attempt := j.ahead, ahead := {} }
  let s := s.mapAttempt fun a => { a with tapStart := s.records.taps.length }
  if (s.attemptOf .step).fault.isSome then s.sendAbort .step false else s

/-- A waiting evaluation begins: an undo of the work of the next step, which does not count toward max_attempts (R203). -/
def State.beginEvaluations (s : State) : State :=
  match s.job.bind (·.evalPending.head?) with
  | none => s
  | some it =>
    let s := s.dropTaps (s.attemptOf .step)
    let s := s.beginUndo (s.num 0x205001 + 1)
    s.mapJob fun j =>
      { j with evalQueue := j.evalPending.drop 1, evalPending := [], evalSeq := j.evalSeq + 1, attempt := { tapStart := s.records.taps.length }
               evalRunning := some (it, { tapStart := s.records.taps.length }) }

/-- Whether a Harvest stops the job at its next boundary: its latest stop is known (R365). -/
def State.stopKnown (s : State) : Bool := s.harvest.any fun r => r.phase == .stopping && r.latestStop.isSome

/-- The release of a seal of a step (R189). -/
def State.sealStep (s : State) (o : SealOutcome) : State :=
  let n := s.num 0x205001 + 1
  let a := s.attemptOf .step
  let scale := s.num 0x302001
  let stopping := s.stopKnown
  let s := s.takeOutcome o
  let season := s.commitOf n
  let s := (s.moveField n a.q).sealSeason n
  let cycles := (o.release - s.job.elim 0 (·.lastRelease)).toNat
  let s := s.appendLedger { s.attemptRecord 1 n scale a o with
    hasTables := true, q := a.q.toNat, stepCycles := cycles, batchTag := s.headTag }
  let ledger := s.lastLedger
  let s := s.afterSeason n season
  let s := s.completeHead 0 n ledger a
  let s := s.mapJob fun j => { j with lastRelease := o.release }
  let s := { s with records := { s.records with current := {} } }
  let s := s.shiftWork.takeAhead.settlePlan.noteAnchor sealBarrier o.release
  let s := s.settleHalt n
  if stopping then s.stopJob else (s.beginEvaluations).writeIntake.sweep

/-! ### The end of an evaluation (R203 to R205) -/

/-- The next evaluation begins, or the step after the sealed one restarts at its entry bundle. -/
def State.nextEvaluation (s : State) : State :=
  let entry := (s.job.bind (·.evalQueue.head?)).elim 0 (·.entry)
  let s := s.clearTokens.mapPlots fun pl => { restartPlot 0 false entry pl with stopped := false }
  let s := s.mapFabric fun f => { f with releases := [] }
  let s := s.mapJob fun j =>
    match j.evalQueue with
    | it :: rest =>
      { j with evalRunning := some (it, { tapStart := s.records.taps.length }), evalQueue := rest, evalSeq := j.evalSeq + 1 }
    | [] => { j with evalRunning := none, attempt := { j.attempt with tapStart := s.records.taps.length } }
  s.settlePlan.writeIntake

/-- An evaluation completes: its own Ledger record and tables, no change of S or of a step counter (R204). -/
def State.endEvaluation (s : State) (o : SealOutcome) : State :=
  match s.evaluating with
  | none => s
  | some (it, a) =>
    let n := s.num 0x205001
    let s := s.takeOutcome o
    let s := s.appendLedger { s.attemptRecord 3 n (s.num 0x302001) a o with
      hasTables := true, batchTag := batchTag it, evalSeq := s.job.elim 0 (·.evalSeq) }
    let s := s.complete it.ticket
      { status := if o.code = .skip then 0x00620002 else 0, ledger := some s.lastLedger, attempts := a.count, signature := a.lastSignature }
    let s := { s with records := { s.records with current := {} } }
    ((s.nextEvaluation.noteAnchor sealBarrier o.release).settleHalt n).sweep

/-! ### The end of a serving batch (R461) -/

/-- The batch that an outcome judges. -/
def State.judgedBatch (s : State) (o : SealOutcome) : Option Batch :=
  s.job.bind fun j => j.batches.find? fun b => b.intake.ticket.setWidth 32 == o.stepLo

/-- A batch completes (R461); its copy may be released (R337). -/
def State.endBatch (s : State) (o : SealOutcome) : State :=
  match s.judgedBatch o with
  | none => s.takeOutcome o
  | some b =>
    let t := b.intake.ticket
    let s := (s.takeOutcome o).complete t
      { status := if o.code = .skip then 0x00620002 else 0, attempts := b.attempt.count, signature := b.attempt.lastSignature }
    let s := s.mapJob fun j => { j with batches := j.batches.filter fun x => x.intake.ticket != t }
    let s := s.mapFabric fun f => { f with releases := f.releases.filter fun r => r.1 / 2 ^ 32 != o.stepLo.toNat }
    let s := { s.settlePlan.noteAnchor sealBarrier o.release with plots := s.plots.map (releaseSealWait s) }
    ((s.settleCopies.writeIntake).settleHalt t.toNat).sweep.tryStop

/-- SEAL_RELEASE (R189, R191, R205, R461): the count reaches the release of an outcome that ends work. -/
def sealRelease (s : State) : State :=
  match s.nextOutcome s.endsWork with
  | none => s
  | some o =>
    let s := s.upTo o.release
    if s.serving then s.endBatch o else if s.evaluating.isSome then s.endEvaluation o else s.sealStep o

/-- GATE_RELEASE (R201): the harrow pass may write. -/
def gateRelease (s : State) : State :=
  match s.nextOutcome fun o => o.gate && o.code == .seal with
  | none => s
  | some o =>
    let s := (s.upTo o.release).takeOutcome o
    let s := (s.mapAttempt fun a => { a with gatePassed := true }).noteAnchor gateBarrier o.release
    let s := { s with plots := s.plots.map (releaseSealWait s) }
    (s.mapPlots fun pl => { pl with gateDone := false }).sweep

/-! ### Rollbacks (R189, R193, R194) -/

/-- A skip (R64, R194): the batch's record completes as skipped, and the step number goes to the next record. -/
def State.skipStep (s : State) (o : SealOutcome) (n : Nat) (a : Attempt) : State :=
  let scale := s.num 0x302001
  let s := (s.bump 0x205005).scaleSkip
  let s := s.appendLedger { s.attemptRecord 2 n scale a o with hasTables := true, q := a.q.toNat, batchTag := s.headTag }
  let s := s.completeHead 0x00620001 n s.lastLedger a
  s.mapJob fun j => { j with attempt := { tapStart := a.tapStart }, ahead := {} }

/-- A replay (R189, R95): the same batch again, with checksum mode on. -/
def replayed (o : SealOutcome) (a : Attempt) : Attempt := { nextAttempt a o.signature with checksum := true }

/-- A replay with a group one width wider (R64). The signature of the attempt before it stays the previous one, so that its
return holds the job (R173). -/
def replayedWider (o : SealOutcome) (a : Attempt) : Attempt :=
  { nextAttempt a a.prev with widened := widenGroup a.widened o.widthGroup.toNat }

/-- A batch that an undo sends back (R461): the judged one as its outcome says, one behind it to a fresh attempt. -/
def undoneBatch (o : SealOutcome) (f : Attempt → Attempt) (floor : W64) (b : Batch) : Batch :=
  if b.intake.ticket.setWidth 32 == o.stepLo then { b with attempt := f b.attempt, tables := {} }
  else if floor ≤ b.intake.ticket then { b with attempt := nextAttempt b.attempt {}, tables := {} }
  else b

/-- The attempts after an outcome that replays: the judged work's attempt, and in a serving job those of every later batch. -/
def State.nextAttempts (s : State) (o : SealOutcome) (f : Attempt → Attempt) (floor : Nat) : State :=
  s.mapJob fun j =>
    if j.binary.serving then { j with batches := j.batches.map (undoneBatch o f (BitVec.ofNat 64 floor)) }
    else match j.evalRunning with
      | some e => { j with evalRunning := some (e.1, f e.2) }
      | none => { j with attempt := f j.attempt, ahead := {} }

/-- The ticket and completion of the work that a hold ends, if it has a record. -/
def State.heldRecord (s : State) (o : SealOutcome) (n : Nat) (a : Attempt) (g : Signature) : Option (W64 × Completion) :=
  let c : Completion := { status := o.status.toNat, ledger := some s.lastLedger, attempts := a.count, signature := g }
  if s.serving then (s.judgedBatch o).map fun b => (b.intake.ticket, c)
  else match s.evaluating with
    | some e => some (e.1.ticket, c)
    | none => (s.job.bind (·.assigned.head?)).map fun it => (it.ticket, { c with step := n })

/-- The job is held (R169, R201, R256): entries, fault log, Ledger, the records of the job, and the event. `ahead` says that
attempts were counted already for a restart that does not come. -/
def State.hold (s : State) (o : SealOutcome) (n : Nat) (a : Attempt) (ahead : Bool) : State :=
  let g := if o.signature = {} then a.lastSignature else o.signature
  let s := s.setNum 0x204002 1
  let s := if o.status = 0x00610002 || o.status = 0x00610003 then s.bump 0x204006 else s
  let s := s.logFault 8 0 (Signature.bits o.signature)
  let s := s.appendLedger { s.attemptRecord 4 n (s.num 0x302001) a o with signature := g }
  let s := match s.heldRecord o n a g with
    | some (t, c) => (s.complete t c).completeOthers 0x00610004 [t] ahead
    | none => s.completeOthers 0x00610004 [] ahead
  let s := s.mapJob fun j => { j with heldStatus := some o.status, restartAt := none, outcomes := [] }
  (s.settleCopies).raise .held

/-- The lowest number that the undo of an outcome removes. -/
def State.floorOf (s : State) (o : SealOutcome) : Nat :=
  if s.serving then (s.judgedBatch o).elim 0 (·.intake.ticket.toNat) else s.num 0x205001 + 1

/-- What the work that an outcome judges is. -/
def State.judgedWhose (s : State) (o : SealOutcome) : Whose :=
  if s.serving then .batch ((s.judgedBatch o).elim 0 (·.intake.ticket)) else if s.evaluating.isSome then .eval else .step

/-- A skip or a replay, before its undo. -/
def State.applyRollback (s : State) (o : SealOutcome) (n : Nat) (a : Attempt) : State :=
  match o.code with
  | .skip => s.skipStep o n a
  | .replay => (s.bump 0x205006).nextAttempts o (replayed o) (s.floorOf o)
  | .replayWider => ((s.bump 0x205006).bump 0x302007).nextAttempts o (replayedWider o) (s.floorOf o)
  | .hold => s
  | .seal => s

/-- Whether the undo of an outcome runs: not after the gate of single-field mode (R201), and not again while one runs, unless it
reaches an earlier batch. -/
def State.undoes (s : State) (o : SealOutcome) : Bool :=
  o.status != 0x00610005 && s.job.elim false fun j => !j.undoing || (j.binary.serving && decide (s.floorOf o < j.undoFloor))

/-- A plot of a held job stops where it is. -/
def stopPlot (pl : Plot) : Plot := { pl with stopped := true, wait := none, scan := none, furrow := none, chains := [] }

/-- A hold at its release: the undo of the current attempt, if one is due, and the hold itself (R169). The plots of batches that
no undo touches stop too, for their records have completed (DEDUCED, log entry 34). -/
def State.applyHold (s : State) (o : SealOutcome) (n : Nat) (a : Attempt) : State :=
  let (undoing, done) := s.job.elim (false, false) fun j => (j.undoing, j.undone)
  let s := if s.undoes o then s.beginUndo (s.floorOf o) else s
  let s := (s.hold o n a undoing).mapPlots fun pl => if pl.stopped then pl else stopPlot pl
  if undoing && done then s.mapJob fun j => { j with undoing := false } else s

/-- ROLLBACK_RELEASE (R189): the count reaches the release of a skip, replay or hold. The number that the Ledger record of a hold
carries is the step held or, in an evaluation, the sealed step (R215); a serving batch has no step. -/
def rollbackRelease (s : State) : State :=
  match s.nextOutcome fun o => !s.endsWork o && !(o.gate && o.code == .seal) with
  | none => s
  | some o =>
    let s := ((s.upTo o.release).takeOutcome o).noteSignature o.signature
    let w := s.judgedWhose o
    let a := s.attemptOf w
    let n := if s.serving then 0 else s.numberOf w
    let training := !s.serving
    let u := if training && s.undoes o then s.dropTaps a else s
    let u := if o.code = .hold then u.applyHold o n a
      else if u.undoes o then (u.applyRollback o n a).beginUndo (u.floorOf o) else u.applyRollback o n a
    let u := u.tryStop
    if training || o.code = .hold then u.sweep else u

/-! ### The end of an undo (R146, R190) -/

/-- Whether a stopped plot has HBM requests whose data has not returned. -/
def requestsOut (pl : Plot) : Bool :=
  pl.stopped && pl.tines.any fun t => t.2.stale != 0 || t.2.xfer.any fun x => x.done < x.next

/-- Whether this device may report undo complete (R190, R248, R260, R343, R355): no repair, no tier move, every named port Up
or lost, and the time offset below 4 cycles. -/
def State.undoReportable (s : State) : Bool :=
  let off := ofPattern 32 (s.num 0x400105)
  s.recovery.repairs.isEmpty && s.tiers.moves.isEmpty &&
    (s.fabric.portsLost || s.fabric.ports.all fun p => !p.named || p.up) &&
    (!s.formed || s.isLead || (decide (-64 < off) && decide (off < 64)))

/-- This device's undo report (R249). -/
def State.undoArrival (s : State) (floor : Nat) : ArrivalMsg :=
  { barrier := undoBarrier, stepLo := BitVec.ofNat 32 floor, attempt := BitVec.ofNat 4 (s.num 0x205003)
    portsLost := s.fabric.portsLost, ranks := [s.rank] }

/-- The undo report goes out when nothing holds it back; a held or stopped job does not restart (R190, R365). -/
def State.tryReport (s : State) : State :=
  match s.job with
  | none => s
  | some j =>
    if !j.undoing || !j.undone || j.undoReported then s
    else if !j.running then (s.mapJob fun j => { j with undoing := false }).afterStop
    else if s.held then s.mapJob fun j => { j with undoing := false }
    else if s.undoReportable then
      (s.mapJob fun j => { j with undoReported := true }).arrive (s.undoArrival j.undoFloor)
    else s

/-- UNDO_COMPLETE (R146): the last HBM request has returned; cursors, program counters and tokens are set back, and the attempt
number rises. -/
def undoComplete (s : State) : State :=
  match s.job with
  | none => s
  | some j =>
    if !j.undoing || j.undone || s.plots.any requestsOut then s
    else
      let serving := j.binary.serving
      let first := j.batches.head?.elim true fun b => j.undoFloor ≤ b.intake.ticket.toNat
      let s := s.mapPlots fun pl => if pl.stopped then restartPlot (BitVec.ofNat 64 j.undoFloor) serving s.undoEntry pl else pl
      let s := if !serving || first then s.clearTokens else s
      let s := (s.bump 0x205003).mapJob fun j => { j with undone := true }
      let lost := s.recovery.repairs.any fun x => x.asked == s.rank
      (if lost then s.fabricHold 0x00610007 else s).tryReport

/-- RESTART (R190, R241): the plots run on from the entry bundle, the intake tiles carry the new attempt, and a slot epoch begins. -/
def restart (s : State) : State :=
  match s.job with
  | none => s
  | some j =>
    match j.restartAt with
    | none => s
    | some t =>
      if !j.undoing || !j.running || s.held then s
      else
        let s := (s.upTo t).mapJob fun j => { j with undoing := false, restartAt := none }
        let s := s.mapPlots fun pl => { pl with stopped := false }
        let s := s.writeIntake.beginEpoch.noteAnchor undoBarrier t
        if s.serving then s else s.sweep

/-! ### Release messages (R251) -/

/-- Whether an outcome judges work that is still open here: an attempt under way, or a hold of the fabric (R256, R260). -/
def State.outcomeFits (s : State) (o : SealOutcome) : Bool :=
  !s.held && !s.decided o.stepLo o.attempt && s.job.isSome &&
    (o.status == 0x00610006 || o.status == 0x00610007 || (s.collecting && (s.whoseOf o.stepLo o.attempt).isSome))

/-- An outcome reaches this device; one whose release has passed is applied at once (R192). -/
def State.receiveOutcome (s : State) (o : SealOutcome) : State :=
  if !s.outcomeFits o then s
  else
    let s := s.mapJob fun j => { j with outcomes := j.outcomes ++ [o] }
    if !reached s.cycle o.release then s
    else if s.endsWork o then sealRelease s
    else if o.gate && o.code == .seal then gateRelease s
    else rollbackRelease s

/-- An outcome that another device holds reaches a new lead device, which gives it to all with a new T (R192). -/
def State.adoptOutcome (s : State) (o : SealOutcome) : State :=
  if s.num 0x400008 = 0 || !s.outcomeFits o then s
  else
    (s.mapFabric fun f =>
      { f with collects := f.collects.filter fun x => !(x.stepLo == o.stepLo && x.attempt == o.attempt) }).announce
      { o with release := s.cycle + BitVec.ofNat 64 s.margin }

/-- RELEASE_MESSAGE (R251): passed on down the tree and taken. -/
def releaseMessage (m : ReleaseMsg) (s : State) : State :=
  if !s.formed then s
  else if s.isLead then
    match m with
    | .outcome o => s.adoptOutcome o
    | .barrier _ _ _ _ => s
  else
    let s := if s.fabric.children.isEmpty then s else s.send (.release m)
    match m with
    | .outcome o => s.receiveOutcome o
    | .barrier b step attempt t =>
      if b = undoBarrier then
        s.mapJob fun j => if j.undoing && BitVec.ofNat 32 j.undoFloor == step then { j with restartAt := some t } else j
      else if (s.whoseOf step attempt).isSome then s.noteRelease b step attempt t
      else s

def execSealRelease (s : State) : Out := .next (sealRelease s)
def execGateRelease (s : State) : Out := .next (gateRelease s)
def execRollbackRelease (s : State) : Out := .next (rollbackRelease s)
def execUndoComplete (s : State) : Out := .next (undoComplete s)
def execRestart (s : State) : Out := .next (restart s)
def execReleaseMessage (m : ReleaseMsg) (s : State) : Out := .next (releaseMessage m s)

end Sys2Proof.Machine
end

