-- ==== Sys2Proof/Machine/Recovery.lean ====
section
/-! DEFINITION. Sys2Proof/Machine/Recovery.lean: patrol reads (R350), repair from a replica peer (R355, R356), the Gleaner (R358 to
R360), and the end of a tier move, which an undo may wait for (R343). -/

namespace Sys2Proof.Machine

/-! ### Patrol (R347, R349, R350) -/

/-- An SRAM word of a plot's stores (R347 to R349, R358): an uncorrectable one poisons its region and makes the site suspect. -/
def State.patrolRegion (s : State) (p : Nat) (l : Loc) (suspect : Bool) (e : EccResult) : State :=
  match e with
  | .clean => s
  | .uncorrectable =>
    let r := s.regionAt p l
    let s := (s.bump 0x601004).setRegion p l { r with tile := { r.tile with tag := { r.tile.tag with poison := true } } }
    if suspect then s.suspectPlot p else s
  | _ => s.bump 0x601003

/-- PATROL_READ (R347, R350): a patrol read of one store finds what `ecc` says, in every state except Fallow. A fault in program memory is
one of the plot's work, and the undo finds the plot image as the binary holds it; a frame or chunk whose buffer fails is sent again. -/
def patrolRead (store : PatrolStore) (e : EccResult) (s : State) : State :=
  if s.ctl.cur == .fallow then s
  else match store with
    | .hbmLine l => s.countEcc true l e
    | .crib p r => if (s.plotAt p).isSome then s.patrolRegion p (.crib r) true e else s
    | .loam p r => if (s.plotAt p).isSome then s.patrolRegion p (.loam r) true e else s
    | .pool k r => if s.job.isSome then s.patrolRegion 0 (.pool k r) false e else s
    | .buffer p i w =>
      if (s.plotAt p).isNone then s
      else match e with
        | .clean => s
        | .uncorrectable =>
          ((s.bump 0x601004).mapPlot p fun pl => { pl with badWords := addOnce pl.badWords (bufferAddr i 0 / 8 + w) }).suspectPlot p
        | _ => s.bump 0x601003
    | .program p => match s.plotAt p, e with
      | some pl, .uncorrectable =>
        let s := s.bump 0x601004
        (if s.runsAt p then s.plotFault p 0x05 pl.pc 0xFFFF else s).suspectPlot p
      | some _, .clean => s
      | some _, _ => s.bump 0x601003
      | none, _ => s
    | .transport => s.countEcc false 0 e
    | .faultLog i =>
      let s := s.countEcc false 0 e
      if e = .uncorrectable then
        s.mapCtl fun c => { c with faultLog := modifyNth (fun r => { r with lost := true }) c.faultLog i }
      else s
    | .control =>
      match e with
      | .clean => s
      | .uncorrectable => (s.bump 0x601004).enterFaulted 4 0
      | _ => s.bump 0x601003

/-! ### Repair (R355, R356) -/

/-- Whether a tile has the identity that a repair names, in the sealed field, with a good check value and no poison. -/
def State.goodSealed (s : State) (tensorId shard : W32) (bo : BitVec 40) (t : Tile) : Bool :=
  let g := t.tag
  g.valid && !g.poison && g.tensorId == tensorId && g.shard == shard && g.blockOffset == bo &&
    (if g.parity then 1 else 0) == s.num 0x205002 && tileCheckOk t

/-- The tile of the sealed field that this device holds under an identity, in HBM or in a plot's stores. -/
def State.sealedTile (s : State) (tensorId shard : W32) (bo : BitVec 40) : Option Tile :=
  let hbm := s.hbmTiles.map fun e => markPoison e.2.1 e.2.2
  let here (r : SMap Region) : List Tile := r.map (·.2.tile)
  ((hbm ++ here s.pool ++ s.plots.flatMap fun pl => here pl.crib ++ here pl.loam)).find? (s.goodSealed tensorId shard bo)

/-- REPAIR_SERVE (R355): a peer asks for a tile; it gets the tile of the sealed field, or word that this copy is no good. -/
def repairServe (source : Nat) (tensorId shard : W32) (bo : BitVec 40) (s : State) : State :=
  match s.sealedTile tensorId shard bo with
  | some t => (s.bump 0x602002).sendBest source (.repairReply tensorId shard bo (some t))
  | none => s.sendBest source (.repairReply tensorId shard bo none)

/-- REPAIR_REPLY (R355): a good tile is written whole, which clears the poison; after a bad one the next peer is asked. -/
def repairReply (tensorId shard : W32) (bo : BitVec 40) (t : Option Tile) (s : State) : State :=
  match s.recovery.repairs.find? fun x => x.tensorId == tensorId && x.shard == shard && x.blockOffset == bo with
  | none => s
  | some x =>
    match t.filter (s.goodSealed tensorId shard bo) with
    | some t =>
      let s := s.mapRecovery fun r => { r with repairs := r.repairs.filter fun y => y.addr != x.addr }
      ((s.writeHbmTile x.addr t).bump 0x602001).tryReport
    | none => s.askRepair x

/-- REPAIR_PEER_TIMEOUT (R355): the peer of the oldest repair under way has not answered within link_wait. -/
def repairPeerTimeout (s : State) : State :=
  match s.recovery.repairs.find? fun x => x.asked != s.rank with
  | some x => s.askRepair x
  | none => s

/-! ### The Gleaner (R358 to R360) -/

/-- The domains that the Gleaner tests (R359). -/
def gleanDomains : List Nat := range 3 15 ++ [19]

/-- The mask of those domains (R359). -/
def gleanMask : Nat := maskOf (gleanDomains.map (· - 1))

/-- The state with the ports of a Headland changed. -/
def State.mapHeadland (s : State) (d : Nat) (f : Port → Port) : State :=
  (headlandPorts d).foldl (fun s n => s.mapPort n f) s

/-- A trained or training port goes Down for its Headland's test (R359, R264). -/
def State.downForTest (s : State) (d : Nat) : State :=
  let live (p : Port) : Bool := p.state != .off && p.state != .down
  let n := ((headlandPorts d).filter fun i => live (s.portAt i)).length
  (s.mapHeadland d fun p => if live p then { p with state := .down } else p).bump 0x404003 n

/-- The test of a domain begins: it is the one domain under test. -/
def State.beginGlean (s : State) (d : Nat) : State :=
  (s.downForTest d).mapRecovery fun r => { r with gleanDomain := some d, gleanLeft := r.gleanLeft.filter (· != d) }

/-- A sweep ends: the device is Tilled again, and vector 7 signals (R31, R404). Ports of a Headland under test retrain. -/
def State.endGlean (s : State) : State :=
  let d := s.recovery.gleanDomain.getD 0
  let s := s.mapHeadland d fun p => if p.state = .down then { p with state := .training } else p
  let s := s.mapRecovery fun r => { r with gleanDomain := none, gleanLeft := [], gleanStop := false }
  ((s.setNum 0x607002 s.gnssNow).restIn .tilled).raise .verbDone

/-- The next domain of a sweep, or its end (R32, R359). -/
def State.nextGlean (s : State) : State :=
  match s.recovery.gleanLeft with
  | d :: _ => if s.recovery.gleanStop then s.endGlean else s.beginGlean d
  | [] => s.endGlean

/-- Whether a result finds a unit that cannot be mended. -/
def gleanFails (r : GleanResult) : Bool := r.failed || !r.badSites.isEmpty || !r.badSlices.isEmpty || !r.badStacks.isEmpty

/-- The code of a domain's result (R360). -/
def gleanCode (r : GleanResult) : Nat := if gleanFails r then 3 else if r.mends.isEmpty then 1 else 2

/-- What a domain's result changes (R360): suspect marks of units that passed are cleared, mends and units that cannot be mended
go to the proposals, pending rows of the domain are repaired (R351), and the log in flash keeps the result. -/
def State.noteGlean (s : State) (d : Nat) (r : GleanResult) : State :=
  let tested (x : Nat) : Bool := domainOfSite x == d && !has s.fuses.sites x
  let passed (x : Nat) : Bool := tested x && !has r.badSites x
  let hbm := d == 14 || d == 15
  let mine (k : Nat) : Bool := hbm && Config.stackEast k == (d == 15)
  let bad := r.badStacks ++ r.suspectStacks
  let s := s.mapRecovery fun c => { c with
    suspectSites := c.suspectSites.filter fun x => !passed x
    suspectStacks := (r.suspectStacks.filter mine).foldl addOnce (c.suspectStacks.filter fun k => !mine k || has bad k)
    pendingRows := c.pendingRows.filter fun x => !(hbm && Config.rowEast x == (d == 15))
    proposals := { c.proposals with
      sites := r.badSites.foldl addOnce c.proposals.sites, slices := r.badSlices.foldl addOnce c.proposals.slices
      stackList := r.badStacks.foldl addOnce c.proposals.stackList, spares := c.proposals.spares ++ r.mends } }
  let s := s.setNum 0x601008 (min s.recovery.pendingRows.length 65535)
  { s.setNum (0x607100 + d) (gleanCode r) with flash := { s.flash with gleanerLog := s.flash.gleanerLog ++ [(d, r)] } }

/-- GLEAN_DOMAIN_DONE (R359, R360): the domain under test is done; its Headland's ports retrain, and the sweep goes on. -/
def gleanDomainDone (r : GleanResult) (s : State) : State :=
  match s.recovery.gleanDomain with
  | none => s
  | some d =>
    if s.ctl.cur != .gleaning then s
    else
      let s := s.noteGlean d r
      let s := s.mapHeadland d fun p => if p.state = .down then { p with state := .training } else p
      (s.mapRecovery fun c => { c with gleanDomain := none }).nextGlean

/-- GLEAN_SEGMENT (R32, R359): a pattern boundary, at which a Harvest verb ends the sweep. -/
def gleanSegment (s : State) : State := if s.ctl.cur == .gleaning && s.recovery.gleanStop then s.endGlean else s

def execPatrolRead (store : PatrolStore) (ecc : EccResult) (s : State) : Out := .next (patrolRead store ecc s)
def execRepairServe (_port source : Nat) (tensorId shard : W32) (bo : BitVec 40) (s : State) : Out :=
  .next (repairServe source tensorId shard bo s)
def execRepairReply (tensorId shard : W32) (bo : BitVec 40) (t : Option Tile) (s : State) : Out :=
  .next (repairReply tensorId shard bo t s)
def execRepairPeerTimeout (s : State) : Out := .next (repairPeerTimeout s)
def execGleanSegment (s : State) : Out := .next (gleanSegment s)
def execGleanDomainDone (r : GleanResult) (s : State) : Out := .next (gleanDomainDone r s)

/-- TIER_MOVE_DONE (R342, R343): the move ends, and an undo that waited for it may report. -/
def execTierMoveDone (region : Nat) (content : List Byte) (checkOk : Bool) (s : State) : Out :=
  .next (tierMoveDone region content checkOk s).tryReport

end Sys2Proof.Machine
end

