-- ==== Sys2Proof/Machine/Ports.lean ====
section
/-! DEFINITION. Sys2Proof/Machine/Ports.lean: Windrow ports as they train, go down and return (R257 to R261), the exchange of
identities (R242), team time (R245 to R248), and the lead device's succession (R254 to R256). -/

namespace Sys2Proof.Machine

/-! ### Ports (R257 to R260) -/

/-- A named port goes down or leaves Up while the device is Growing: an early abort of kind 0x0A (R260). -/
def State.portGone (s : State) (p : Port) : State :=
  let running := s.job.elim false fun j => j.running && !j.undoing
  if p.named && p.up && s.ctl.cur == .growing && running && !s.held then s.deviceFault 0x0A else s

/-- A port as training leaves it: sequences, retry buffer and credits anew (R224, R234, R240). -/
def Port.retrained (p : Port) (partnerReady : Bool) : Port :=
  { p with
    state := .notReady, backoffMs := 10, partnerNotReady := !partnerReady, identity := none, sendSeq := 0, expectSeq := 0
    retryBuffer := [], resend := [], missing := [], ask := [], held := [], credits := 64, creditsDue := 0 }

/-- A port goes Down and will retrain after its wait, which doubles up to 320 ms (R258, R259, R264). -/
def State.toDown (s : State) (n : Nat) : State :=
  let p := s.portAt n
  ((s.mapPort n fun p => { p with state := .down, backoffMs := min 320 (2 * p.backoffMs) }).bump 0x404003).portGone p

/-- PORT_TRAINING_DONE (R258): a failed training is retried; a trained port says who the device is, or answers NOT-READY. -/
def portTrainingDone (n : Nat) (ok partnerReady : Bool) (s : State) : State :=
  if (s.portAt n).state != .training then s
  else if !ok then s.toDown n
  else
    let s := s.mapPort n fun p => p.retrained partnerReady
    if s.ready then s.send (.identity n (s.ownIdentity n)) else s.send (.notReady n)

/-- TRAINING_RETRY (R258): the wait is over. The ports of a Headland whose link fabric is under test stay Down (R29, R359). -/
def trainingRetry (n : Nat) (s : State) : State :=
  let tested := has (headlandPorts (s.recovery.gleanDomain.getD 0)) n
  if (s.portAt n).state == .down && !s.portDisabled n && !tested then s.mapPort n fun p => { p with state := .training } else s

/-- READY_QUERY (R258): a port that receives NOT-READY asks again; a query that arrives on a trained port is answered with NOT-READY
until the device is Tilled, and with its identity after that. -/
def readyQuery (n : Nat) (arrives : Bool) (s : State) : State :=
  if arrives then
    (if !(s.portAt n).trained then s else if s.ready then s.send (.identity n (s.ownIdentity n)) else s.send (.notReady n))
  else if (s.portAt n).state == .notReady && (s.portAt n).partnerNotReady then s.send (.readyQuery n) else s

/-- NOT_READY_RECEIVED (R259, R265): the port moves to Not-ready; a formed team whose member the partner was reads failed while
this device is Tilled or Sown (R256). -/
def notReadyReceived (n : Nat) (s : State) : State :=
  let p := s.portAt n
  if !p.trained then s
  else
    let member := p.up && s.sameTeam p && s.formed
    let s := s.mapPort n fun p => { p with state := .notReady, partnerNotReady := true, identity := none }
    let s := if member && (s.ctl.cur == .tilled || s.ctl.cur == .sown) then s.setNum 0x400006 3 else s
    s.portGone p

/-- PORT_DOWN (R259). -/
def portDown (n : Nat) (s : State) : State :=
  let p := s.portAt n
  if p.trained || p.state == .training then s.toDown n else s

/-! ### Identities (R242) -/

/-- The disabled-unit maps (R207) and the links (R243) of the team that a neighbour of the team has learnt. -/
def State.learnMaps (s : State) (n : Nat) (i : Identity) : State :=
  if s.sameTeam (s.portAt n) then
    s.mapFabric fun f =>
      { f with maps := i.maps.foldl (fun m e => if e.1 = s.rank then m else SMap.set 0 m e.1 e.2) f.maps
               links := i.links.foldl (fun m e => if e.1 = s.rank then m else SMap.set [] m e.1 e.2) f.links }
  else s

/-! ### Team time (R245 to R248) -/

/-- The one-way delay of R245. -/
def timeDelay (t : TimeStamps) : Int := ((t.t2 - t.t1) + (t.t4 - t.t3)) / 2

/-- The offset of R245: the child's count less the parent's. -/
def timeOffset (t : TimeStamps) (asym : Int) : Int := ((t.t2 - t.t1) - (t.t4 - t.t3)) / 2 - asym

/-- The count moved by a step, so that the offset becomes 0 (R246). The offset is in 1/16 cycle. -/
def State.stepCount (s : State) (offset : Int) : State :=
  ({ s with cycle := s.cycle - BitVec.ofInt 64 ((offset + 8) / 16) }).setNum 0x400105 0

/-- One increment added or withheld, at most once every 1,024 cycles, while the offset is not below 1/16 cycle (R246). -/
def State.slew (s : State) (offset : Int) : State :=
  if offset = 0 || cyclesSince s.cycle s.fabric.lastSlew < 1024 then s
  else if 0 < offset then s.mapFabric fun f => { f with withhold := true, lastSlew := s.cycle }
  else { s with cycle := s.cycle + 1, fabric := { s.fabric with lastSlew := s.cycle } }

/-- The offset of a formed team's device to its parent (R246, R248). -/
def State.keepTime (s : State) (offset : Int) : State :=
  let far := decide (1024 < offset) || decide (offset < -1024)
  let near := decide (-64 < offset) && decide (offset < 64)
  let s := s.mapFabric fun f => { f with lateBouts := if far then f.lateBouts + 1 else 0 }
  let lost := s.num 0x400104 == 3
  let mayStep := s.ctl.cur == .tilled || s.ctl.cur == .sown
  let newly := !lost && 8 ≤ s.fabric.lateBouts
  if (lost || newly) && mayStep then
    ((s.stepCount offset).setNum 0x400104 2).mapFabric fun f => { f with lateBouts := 0 }
  else
    let s := if newly then s.setNum 0x400104 3 else s
    let running := s.job.elim false fun j => j.running && !j.undoing
    let s := if newly && s.ctl.cur == .growing && running && !s.held then s.deviceFault 0x0A else s
    let s := if lost && near then s.setNum 0x400104 2 else s
    (s.slew offset).tryReport

/-! ### Identities on ports (R242, R261) -/

/-- The time offset that a port towards the parent measures before it carries a frame is judged in a formed team (R245, R261). -/
def State.checkOffset (s : State) (n : Nat) (offset : Int) : State :=
  if s.formed && !s.leads && n = s.num 0x40000C then (s.setNum 0x400105 (toPattern 32 offset)).keepTime offset else s

/-- IDENTITY_EXCHANGE (R242, R257, R261): the link delay and the time offset are measured, then the port is Up, or Foreign, and a
formation or succession goes on. -/
def identityExchange (n : Nat) (i : Identity) (s : State) : State :=
  let p := s.portAt n
  if !p.trained || !s.ready then s
  else
    let before := s
    let s := s.mapPort n fun p => { p with identity := some i, partnerNotReady := false }
    let s := ((s.setNum (0x401300 + n + 1) (i.linkDelay % 2 ^ 32)).learnMaps n i).settlePort n
    let s := if p.up then s else s.checkOffset n i.offset
    let s := s.settleTeam before
    (if (s.portAt n).up then s else s.portGone p).tryReport

/-- FORM_TIMEOUT (R244): 10 s after the Form verb. -/
def formTimeout (s : State) : State := if s.forming then s.failForming.sendIdentities else s

/-! ### Time words (R245) -/

/-- TIME_WORD (R245): the link's delay; on the parent port the offset, to which a forming device steps once (R246). -/
def timeWord (n : Nat) (t : TimeStamps) (s : State) : State :=
  if !(s.portAt n).up then s
  else
    let s := s.setNum (0x401300 + n + 1) (toPattern 32 (timeDelay t))
    if n ≠ s.num 0x40000C || s.leads || !(s.forming || s.formed) then s
    else
      let offset := timeOffset t (ofPattern 32 (s.num (0x401200 + n + 1)))
      let before := s
      let s := s.setNum 0x400105 (toPattern 32 offset)
      if s.num 0x400104 = 1 then (((s.stepCount offset).setNum 0x400104 2).settleTeam before)
      else s.keepTime offset

/-! ### Succession (R254 to R256, R192) -/

/-- The works whose attempts are open on this device. -/
def State.openWorks (s : State) : List Whose :=
  match s.job with
  | none => []
  | some j =>
    if j.binary.serving then j.batches.map fun b => .batch b.intake.ticket
    else if j.evalRunning.isSome then [.eval] else [.step]

/-- The outcomes that this device holds: the last one applied and those that wait for their release (R192). -/
def State.heldOutcomes (s : State) : List SealOutcome := s.job.elim [] fun j => j.lastOutcome.toList ++ j.outcomes

/-- What a former lead device has collected of a barrier, as one arrival. -/
def collectedArrival (saveTime : Nat) (c : Collect) : ArrivalMsg :=
  { barrier := c.barrier, stepLo := c.stepLo, attempt := c.attempt, numericalAny := c.numericalAny, widthAny := c.widthAny
    portsLost := c.portsLost, widthGroup := c.widthGroup, reports := c.reports, count := c.count, ranks := c.ranks
    saveTime := saveTime }

/-- After a takeover every device sends again the arrivals whose releases it does not hold, its early aborts, and the outcomes
it holds (R256, R192). -/
def State.resendArrivals (s : State) : State :=
  let msgs := s.fabric.subtrees.map (·.msg) ++ (s.fabric.collects.filter fun c => !c.ranks.isEmpty).map (collectedArrival s.fabric.saveTime)
  let aborts := (s.openWorks.filter fun w => (s.attemptOf w).aborted).map fun w => OutMsg.earlyAbort (s.reportOf w 2)
  let s := s.mapFabric fun f =>
    { f with collects := [], subtrees := f.subtrees.map fun t => { t with forwarded := true } }
  ((msgs.foldl (fun s m => s.toParent m) s).sendAll aborts).sendAll (s.heldOutcomes.map fun o => .release (.outcome o))

/-- A new lead device is followed (R255): the port that its heartbeat came by leads to it until the tree is made anew. -/
def State.followLead (s : State) (n : Nat) (h : Heartbeat) : State :=
  let s := ((s.setNum 0x400008 h.generation).setNum 0x400007 h.sender).setNum 0x40000C n
  let s := s.mapFabric fun f =>
    { f with heardSuccessor := h.successorIndex, heartbeatBout := 0, children := [], judgeRollback := [] }
  s.settleTree.resendArrivals.sendIdentities

/-- Whether a heartbeat comes from a lead device that takes the place of the present one: a higher generation, or a lower
successor index in the same one (R255). -/
def State.newLead (s : State) (h : Heartbeat) : Bool :=
  s.num 0x400008 < h.generation || (s.num 0x400008 == h.generation && h.successorIndex < s.fabric.heardSuccessor)

/-- HEARTBEAT_RECEIVE (R254, R255): the first copy is forwarded on all team ports and answered over the tree (R243). -/
def heartbeatReceive (n : Nat) (h : Heartbeat) (s : State) : State :=
  if !s.formed || !(s.portAt n).up || h.sender = s.rank then s
  else
    let new := s.newLead h
    if !new && (h.generation < s.num 0x400008 || s.fabric.heardSuccessor < h.successorIndex) then s
    else
      let s := if new then s.followLead n h else s
      if s.leads || h.bout ≤ s.fabric.heartbeatBout then s
      else
        let s := s.mapFabric fun f => { f with lastHeartbeat := s.cycle, heartbeatBout := h.bout, leadSilent := false }
        (s.sendAll (s.teamPorts.map fun p => .heartbeat p h)).send (.heartbeatReply (s.num 0x40000C) s.rank h.generation)

/-- LEAD_SILENCE (R255): no heartbeat for lead_silence cycles. -/
def leadSilence (s : State) : State :=
  if s.formed && !s.leads then
    (s.upTo (s.fabric.lastHeartbeat + BitVec.ofNat 64 (s.num 0x400102))).mapFabric fun f => { f with leadSilent := true }
  else s

/-- A successor's index in the successors entry, counted from 1; none for the first rank and for others (R255). -/
def State.successorIndex (s : State) : Option Nat :=
  let l := s.successors.drop 1
  if has l s.rank then some ((l.takeWhile fun r => r != s.rank).length + 1) else none

/-- The seals and gates whose decision was pending when the lead device was lost: rolled back unless some device holds their
outcome (R192). -/
def State.pendingSeals (s : State) : List (W32 × BitVec 4) :=
  (s.openWorks.filter fun w => (s.attemptOf w).arrived || (s.attemptOf w).gateArrived).map fun w =>
    (BitVec.ofNat 32 (s.numberOf w), BitVec.ofNat 4 (s.attemptNumber w))

/-- The outcomes that a new lead device holds go to all with a new T (R192). -/
def State.renewOutcomes (s : State) : State :=
  let t := s.cycle + BitVec.ofNat 64 s.margin
  let msgs := s.heldOutcomes.map fun o => OutMsg.release (.outcome { o with release := t })
  (s.mapJob fun j => { j with outcomes := j.outcomes.map fun o => { o with release := t } }).sendAll msgs

/-- LEAD_TAKEOVER (R255, R256): this successor leads, with a higher generation; its count is the reference without a step. -/
def leadTakeover (s : State) : State :=
  match s.successorIndex with
  | none => s
  | some i =>
    if !s.formed || s.leads then s
    else
      let s := s.upTo (s.fabric.lastHeartbeat + BitVec.ofNat 64 (s.num 0x400102 * (i + 1) / 2))
      let s := (s.setNum 0x400008 (s.num 0x400008 + 1)).setNum 0x400007 s.rank
      let msgs := (s.fabric.subtrees.filter (·.own)).map (·.msg)
      let aborts := (s.openWorks.filter fun w => (s.attemptOf w).aborted).map fun w => (w, s.reportOf w 2)
      let s := s.mapFabric fun f =>
        { f with heardSuccessor := i, leadSilent := false, subtrees := [], collects := [], judgeRollback := s.pendingSeals }
      let s := s.settleTree.renewOutcomes.sendIdentities
      let s := msgs.foldl (fun s m => s.leadTake m) s
      aborts.foldl (fun s a => s.takeAbort (s.nextBarrier a.1) s.rank a.2) s

/-- LINK_WAIT_EXPIRY (R255, R256, R260): a named port has not returned, so the undo report says ports lost; or a device is lost,
so the job is held, or the team failed. -/
def linkWaitExpiry (lostRank : Option Nat) (s : State) : State :=
  match lostRank with
  | none =>
    if s.job.elim false (·.undoing) && s.fabric.ports.any fun p => p.named && !p.up then
      (s.mapFabric fun f => { f with portsLost := true }).tryReport
    else s
  | some _ =>
    if !s.formed then s
    else if s.ctl.cur == .tilled || s.ctl.cur == .sown then s.setNum 0x400006 3
    else s.fabricHold 0x00610006

def execPortTrainingDone (port : Nat) (ok partnerReady : Bool) (s : State) : Out := .next (portTrainingDone port ok partnerReady s)
def execTrainingRetry (port : Nat) (s : State) : Out := .next (trainingRetry port s)
def execReadyQuery (port : Nat) (arrives : Bool) (s : State) : Out := .next (readyQuery port arrives s)
def execNotReadyReceived (port : Nat) (s : State) : Out := .next (notReadyReceived port s)
def execPortDown (port : Nat) (s : State) : Out := .next (portDown port s)
def execIdentityExchange (port : Nat) (i : Identity) (s : State) : Out := .next (identityExchange port i s)
def execFormTimeout (s : State) : Out := .next (formTimeout s)
def execTimeWord (port : Nat) (t : TimeStamps) (s : State) : Out := .next (timeWord port t s)
def execHeartbeatReceive (port : Nat) (h : Heartbeat) (s : State) : Out := .next (heartbeatReceive port h s)
def execLeadSilence (s : State) : Out := .next (leadSilence s)
def execLeadTakeover (s : State) : Out := .next (leadTakeover s)
def execLinkWaitExpiry (lostRank : Option Nat) (s : State) : Out := .next (linkWaitExpiry lostRank s)

end Sys2Proof.Machine
end

