-- ==== Sys2Proof/Machine/Slots.lean ====
section
/-! DEFINITION. Sys2Proof/Machine/Slots.lean: bouts and slot positions (R229 to R231), the pieces that a port sends (R233 to R240),
scheduled frames as they arrive (R234, R238, R239), and acknowledgements (R234, R240). -/

namespace Sys2Proof.Machine

/-! ### The plan (R235, R236) -/

/-- The first global slot of an entry, once its anchor barrier has been released (R236). -/
def State.firstSlot (s : State) (e : SlotEntry) : Option Nat :=
  (s.fabric.anchors.find? fun a => a.1 == e.anchor.toNat).map fun a => a.2 + e.firstSlot

/-- Whether an entry owns a global slot (R236). -/
def State.owns (s : State) (e : SlotEntry) (slot : Nat) : Bool :=
  (s.firstSlot e).any fun f => f ≤ slot && slot < f + e.slotCount

/-- Whether an entry's last slot lies before a global slot. -/
def State.slotsPast (s : State) (e : SlotEntry) (slot : Nat) : Bool := (s.firstSlot e).any fun f => f + e.slotCount ≤ slot

/-- The entries of a port, by direction: those that send, and those that receive or forward (R235). -/
def State.entriesOf (s : State) (port : Nat) (sending : Bool) : List SlotEntry :=
  s.fabric.plan.filter fun e => e.port == port && (e.kind == 0) == sending

/-- A count of the fabric by entry key. -/
def countOf (l : List (Nat × Nat)) (k : Nat) : Nat := ((l.find? fun x => x.1 == k).map (·.2)).getD 0

/-- The count of an entry raised by one. -/
def countUp (l : List (Nat × Nat)) (k : Nat) : List (Nat × Nat) := putPair l k (countOf l k + 1)

/-! ### Pieces (R233) -/

/-- The payload bytes of a piece: 16,384, or the whole blocks that fit for full-width forms (R233). -/
def pieceBytes (g : Tag) : Nat :=
  match fmtOf g.format with
  | .fw w => 16384 / (4 + 4 * w) * (4 + 4 * w)
  | _ => 16384

/-- The number of pieces of a tile. -/
def pieceCount (t : Tile) : Nat := max 1 (ceilDiv t.payload.length (pieceBytes t.tag))

/-- The frame of a tile's k-th piece. -/
def pieceFrame (e : SlotEntry) (slot k : Nat) (late : Bool) (t : Tile) : SlotFrame :=
  let n := pieceBytes t.tag
  { late := late, lastPiece := k + 1 == pieceCount t, piece := k, tag := { t.tag with linkSlot := e.entryId }
    payload := (t.payload.drop (k * n)).take n, slot := slot }

/-! ### Sending -/

/-- A frame leaves by a port: it takes the next sequence and its check, and stays in the retry buffer (R224, R234). -/
def State.sendFrame (s : State) (port : Nat) (f : SlotFrame) : State :=
  let f := checkedFrame { f with sequence := (s.portAt port).sendSeq }
  (s.mapPort port fun p =>
    { p with sendSeq := p.sendSeq + 1, retryBuffer := p.retryBuffer ++ [{ sequence := f.sequence, frame := .slot f }] }).send
    (.frame port f)

/-- Whether a port's retry buffer takes another frame (R234). -/
def State.bufferFree (s : State) (port : Nat) : Bool := (s.portAt port).retryBuffer.length < 160

/-- The forward entry whose pieces leave in an entry's slots (R239). -/
def State.relayedBy (s : State) (e : SlotEntry) : Bool :=
  s.fabric.plan.any fun x => x.kind == 2 && x.outPort == e.port && x.outEntry == e.entryId

/-- Whether a queued tile is one of an entry's. -/
def ofEntry (e : SlotEntry) (t : Tile) : Bool := t.tag.tensorId == e.tensorId && t.tag.shard == e.shard

/-- The next piece of a plot's send queue for an entry: the first tile of the entry's tensor and shard, since the unsent pieces of an
earlier entry go late (R237; DEDUCED, log entry 153). It gives the tile, its piece, and the queue without that piece. -/
def takeQueued (e : SlotEntry) : List (Tile × Nat) → Option (Tile × Nat × List (Tile × Nat))
  | [] => none
  | x :: rest =>
    if ofEntry e x.1 then some (x.1, x.2, if x.2 + 1 = pieceCount x.1 then rest else (x.1, x.2 + 1) :: rest)
    else (takeQueued e rest).map fun r => (r.1, r.2.1, x :: r.2.2)

/-- The next piece of an entry, sent: a forwarded one, or the next of its plot's send queue (R237, R239). -/
def State.sendPiece (s : State) (e : SlotEntry) (slot : Nat) (late : Bool) : Option State :=
  let k := entryKey e
  let sent (s : State) : State := s.mapFabric fun f => { f with sent := countUp f.sent k }
  if s.relayedBy e then
    match s.fabric.relay.find? fun r => r.1 == k with
    | some r =>
      let s := s.mapFabric fun f => { f with relay := f.relay.erase r }
      some ((sent s).sendFrame e.port { r.2 with slot := slot, late := late, retry := false })
    | none => none
  else
    match (s.plotAt e.plot).bind fun pl => takeQueued e pl.sendQueue with
    | some (t, piece, queue) =>
      let s := s.mapPlot e.plot fun q => { q with sendQueue := queue }
      some ((sent s).sendFrame e.port (pieceFrame e slot piece late t))
    | none => none

/-- A frame that the neighbour asked for again (R234, R264). -/
def State.retransmit (s : State) (port slot : Nat) : Option State :=
  match (s.portAt port).resend with
  | [] => none
  | q :: rest =>
    let s := s.mapPort port fun p => { p with resend := rest }
    match (s.portAt port).retryBuffer.find? fun r => r.sequence == q with
    | some { frame := .slot f, .. } => some ((s.bump 0x404002).send (.frame port (checkedFrame { f with retry := true, slot := slot })))
    | some { frame := .best f, sequence := q, .. } =>
      some ((s.bump 0x404002).send (.bestEffort port { sequence := q, retry := true } f))
    | none => some s

/-- A piece that goes late (R237): the first entry of the port whose slots are over and that has pieces left. -/
def State.sendLate (s : State) (port slot : Nat) : Option State :=
  ((s.entriesOf port true).filter fun e => s.slotsPast e slot && countOf s.fabric.sent (entryKey e) < e.slotCount).findSome?
    fun e => (s.sendPiece e slot true).map fun s => s.bump 0x404007

/-- The next best-effort frame, under a credit (R240). -/
def State.sendBestEffort (s : State) (port : Nat) : State :=
  let p := s.portAt port
  match p.beQueue with
  | [] => s
  | f :: rest =>
    if p.credits = 0 then s
    else
      (s.mapPort port fun p =>
        { p with beQueue := rest, credits := p.credits - 1, sendSeq := p.sendSeq + 1
                 retryBuffer := p.retryBuffer ++ [{ sequence := p.sendSeq, frame := .best f }] }).send
        (.bestEffort port { sequence := p.sendSeq } f)

/-- The cycle at which a global slot's position begins (R229). -/
def slotStart (slot : Nat) : Cycle := BitVec.ofNat 64 (1856 * (slot / 28) + 64 * (slot % 28))

/-- SLOT_POSITION_START (R237, R240): an owned slot carries its entry's next piece or stays empty; an unowned one a frame asked for
again, else a late piece, else a best-effort frame. -/
def slotPositionStart (port slot : Nat) (s : State) : State :=
  let s := s.upTo (slotStart slot)
  let p := s.portAt port
  if !p.up then s
  else match (s.entriesOf port true).find? fun e => s.owns e slot with
    | some e => if p.state == .upScheduled && s.bufferFree port then (s.sendPiece e slot false).getD s else s
    | none =>
      match s.retransmit port slot with
      | some s => s
      | none =>
        if !s.bufferFree port then s
        else match (if p.state == .upScheduled then s.sendLate port slot else none) with
          | some s => s
          | none => s.sendBestEffort port

/-! ### Bouts (R229, R230, R245, R254) -/

/-- The next bout's number: a count at the first cycle of a bout begins it. -/
def nextBout (c : Cycle) : Nat := (c.toNat + 1855) / 1856

/-- The control words of a port in a bout: acknowledgement and credits, the time word towards parent and children, and the lead
device's heartbeat. The acknowledgement reaches up to the first frame that is missing, and asks once for each frame that failed
(R234). While the drill line's staging ring is full, no credit returns on the chain's ports (R334). -/
def State.controlWords (s : State) (n bout : Nat) : State :=
  let p := s.portAt n
  let team := s.formed || s.forming
  let stall := s.ringFull && s.chainPort n
  let s := (s.send (.boutMarker n bout)).send
    (.ack n { upTo := p.missing.headD p.expectSeq, again := p.ask, credits := if stall then 0 else p.creditsDue })
  let s := s.mapPort n fun p => { p with creditsDue := if stall then p.creditsDue else 0, ask := [] }
  let s := if team && (n == s.num 0x40000C || has s.fabric.children n) then s.send (.timeWord n (16 * 1856 * bout)) else s
  if s.formed && s.leads && s.sameTeam p then
    s.send (.heartbeat n { generation := s.num 0x400008, successorIndex := s.fabric.heardSuccessor, sender := s.rank, bout := bout })
  else s

/-- BOUT_START (R229): the bout marker and the control words leave on every Up port; a Foreign port carries control words only
(R257). -/
def boutStart (s : State) : State :=
  let bout := nextBout s.cycle
  let s := s.upTo (BitVec.ofNat 64 (1856 * bout))
  ((List.range 28).filter fun n => (s.portAt n).up || (s.portAt n).state == .foreign).foldl (fun s n => s.controlWords n bout) s

/-! ### Acknowledgements (R234, R240) -/

/-- Whether a sequence lies below another, modulo 2^24 (R224). -/
def seqBelow (a b : BitVec 24) : Bool := a != b && (b - a).toNat < 2 ^ 23

/-- ACK_WORD (R234, R240): acknowledged frames leave the retry buffer, the frames asked for go again, credits return. A frame
that fails for the 16th time takes the port Down (R259). -/
def ackWord (n : Nat) (w : AckWord) (s : State) : State :=
  if !(s.portAt n).up then s
  else
    let s := s.mapPort n fun p =>
      let kept := (p.retryBuffer.filter fun r => !seqBelow r.sequence w.upTo || w.again.contains r.sequence).map fun r =>
        if w.again.contains r.sequence then { r with fails := r.fails + 1 } else r
      { p with
        retryBuffer := kept, credits := min 64 (p.credits + w.credits)
        resend := p.resend ++ (kept.filter fun r => w.again.contains r.sequence && !p.resend.contains r.sequence).map (·.sequence) }
    if (s.portAt n).retryBuffer.any fun r => 16 ≤ r.fails then s.toDown n else s

/-! ### Receiving (R224, R234) -/

/-- A frame's sequence on arrival: new, asked for again, or a duplicate (R224). A frame that does not arrive whole is asked for
in the next acknowledgement word, once for each time it fails (R234). The answer says whether the frame is taken. -/
def State.takeSequence (s : State) (n : Nat) (q : BitVec 24) (ok : Bool) : State × Bool :=
  let p := s.portAt n
  let gap := (q - p.expectSeq).toNat
  if p.missing.contains q then
    if ok then (s.mapPort n fun p => { p with missing := p.missing.filter (· != q), ask := p.ask.filter (· != q) }, true)
    else (s.mapPort n fun p => { p with ask := p.ask.filter (· != q) ++ [q] }, false)
  else if gap < 2 ^ 23 then
    let lost := (List.range (min gap 160)).map fun i => p.expectSeq + BitVec.ofNat 24 i
    let failed := lost ++ if ok then [] else [q]
    (s.mapPort n fun p => { p with expectSeq := q + 1, missing := p.missing ++ failed, ask := p.ask ++ failed }, ok)
  else (s, false)

/-! ### Scheduled frames (R238, R239) -/

/-- What an arriving tile belongs to: the open work of its step, or the current work. -/
def State.workOfTag (s : State) (g : Tag) : Whose :=
  ((s.whoseOf g.stepLo g.attempt)).getD s.currentWork

/-- Whether a tile of an attempt that is over arrives: its step is under way with another attempt number (R265), or an undo
removes it (R146). -/
def State.staleTag (s : State) (g : Tag) : Bool :=
  let works := if s.serving then s.openWorks else if s.evaluating.isSome then s.openWorks else [.step, .ahead]
  let undone := s.job.elim false (·.undoing) && s.undoSet.contains g.stepLo
  let old := works.any fun w => g.stepLo == BitVec.ofNat 32 (s.numberOf w) && g.attempt != BitVec.ofNat 4 (s.attemptNumber w)
  undone || old

/-- Whether a frame arrives where its entry allows (R238): in a slot of its own, or, sent again or late, in a slot that no entry
owns, after its entry's first slot and before all its pieces have come. -/
def State.frameAllowed (s : State) (e : SlotEntry) (f : SlotFrame) : Bool :=
  s.owns e f.slot ||
    ((f.retry || f.late) && (s.firstSlot e).any (· ≤ f.slot) && countOf s.fabric.arrived (entryKey e) < e.slotCount &&
      !(s.entriesOf e.port false).any fun x => s.owns x f.slot)

/-- The region that the next tile of a receive entry takes in its arrival ring (R235). -/
def State.nextRegion (s : State) (e : SlotEntry) : Nat := e.ringFirst + countOf s.fabric.begun (entryKey e) % max e.ringLen 1

/-- A tile lands in its region, where its link_slot is 0 (R130, R136, R138, R140, R144). -/
def State.landFrame (s : State) (e : SlotEntry) (region : Nat) (t : Tile) (bad : Bool) : State :=
  let fails := !tileCheckOk t
  let s := if fails then s.meetFault (s.workOfTag t.tag) 0x04 e.plot 0xFFFF region else s
  let current := t.tag.stepLo == BitVec.ofNat 32 (s.num 0x205001 + 1)
  s.setRegion e.plot (.crib region)
    { tile := { t with tag := { t.tag with
        valid := true, linkSlot := 0, poison := t.tag.poison || fails || bad, spec := t.tag.spec && !(current && !s.serving) } }
      ready := true }

/-- The tile that a piece belongs to, under way or begun now. -/
def State.assemblyOf (s : State) (e : SlotEntry) (g : Tag) : Assembly × State :=
  match s.fabric.assembling.find? fun a => a.entry == entryKey e && a.tag == g with
  | some a => (a, s)
  | none =>
    let r := s.nextRegion e
    let s := s.mapFabric fun f => { f with begun := countUp f.begun (entryKey e) }
    ({ entry := entryKey e, plot := e.plot, region := r, tag := g },
      s.setRegion e.plot (.crib r) { tile := { tag := { g with valid := true, linkSlot := 0 } }, ready := false })

/-- A piece put to its tile; with the last one the tile lands (R233). -/
def State.takePiece (s : State) (e : SlotEntry) (f : SlotFrame) (bad : Bool) : State :=
  let (a, s) := s.assemblyOf e f.tag
  let a := { a with pieces := putPair a.pieces f.piece f.payload, last := if f.lastPiece then some f.piece else a.last
                    bad := a.bad || bad }
  let rest := s.fabric.assembling.filter fun x => !(x.entry == a.entry && x.tag == a.tag)
  let whole := a.last.any fun l => (List.range (l + 1)).all fun k => a.pieces.any fun p => p.1 == k
  if whole then
    let payload := (List.range (a.last.getD 0 + 1)).flatMap fun k => ((a.pieces.find? fun p => p.1 == k).map (·.2)).getD []
    (s.mapFabric fun f => { f with assembling := rest }).landFrame e a.region { tag := a.tag, payload := payload } a.bad
  else s.mapFabric fun f => { f with assembling := rest ++ [a] }

/-- The tiles of a packed frame (R233). -/
def packedTiles (f : SlotFrame) : List Tile :=
  let n := f.payload.length / max f.tiles 1
  (List.range f.tiles).map fun i =>
    let bs := (f.payload.drop (i * n)).take n
    { tag := { f.tag with blockOffset := f.tag.blockOffset + BitVec.ofNat 40 i
                          check := BitVec.ofNat 32 (leNat (bs.drop (n - 4))) }
      payload := bs.take (n - 4) }

/-- The tiles of a packed frame land one after another. -/
def State.takePacked (s : State) (e : SlotEntry) (f : SlotFrame) (bad : Bool) : State :=
  (packedTiles f).foldl (fun s t =>
    let r := s.nextRegion e
    (s.mapFabric fun f => { f with begun := countUp f.begun (entryKey e) }).landFrame e r t bad) s

/-- A frame in a slot that it does not own (R238, R264): the tile at its destination region is poisoned. -/
def State.slotFault (s : State) (e : Option SlotEntry) (g : Tag) : State :=
  match e with
  | some e =>
    let r := ((s.fabric.assembling.find? fun a => a.entry == entryKey e).map (·.region)).getD (s.nextRegion e)
    let s := s.meetFault (s.workOfTag g) 0x06 e.plot 0xFFFF r
    if e.kind = 1 then
      let x := s.regionAt e.plot (.crib r)
      s.setRegion e.plot (.crib r) { x with tile := { x.tile with tag := { x.tile.tag with poison := true } } }
    else s
  | none => s.meetFault (s.workOfTag g) 0x06 0xFFFF 0xFFFF 0xFFFF

/-- An accepted frame: checked against its entry, then forwarded or put to its tile (R238, R239, R141). -/
def State.acceptFrame (s : State) (e : SlotEntry) (f : SlotFrame) : State :=
  let bad := f.tag.tensorId != e.tensorId || f.tag.shard != e.shard
  let s := if bad then s.meetFault (s.workOfTag f.tag) 0x02 e.plot 0xFFFF (if e.kind = 2 then 0xFFFF else s.nextRegion e) else s
  let s := s.mapFabric fun x => { x with arrived := countUp x.arrived (entryKey e) }
  if e.kind = 2 then
    let g := { f.tag with linkSlot := e.outEntry, poison := f.tag.poison || bad }
    s.mapFabric fun x => { x with relay := x.relay ++ [(e.outPort * 2 ^ 24 + e.outEntry.toNat, { f with tag := g })] }
  else if f.packed then s.takePacked e f bad
  else s.takePiece e f bad

/-- SLOT_FRAME_RECEIVE (R234, R238, R264, R265). -/
def slotFrameReceive (n : Nat) (f : SlotFrame) (s : State) : State :=
  if !(s.portAt n).up then s
  else
    let (s, taken) := (s.bump 0x404001 f.corrected).takeSequence n f.sequence (frameGood f)
    let running := s.job.elim false (·.running)
    if !taken || !running || s.staleTag f.tag then s
    else
      let e := (s.entriesOf n false).find? fun e => e.entryId == f.tag.linkSlot
      match e.filter fun e => s.frameAllowed e f with
      | some e => s.acceptFrame e f
      | none => s.slotFault e f.tag

def execBoutStart (s : State) : Out := .next (boutStart s)
def execSlotPositionStart (port : Nat) (slot : Nat) (s : State) : Out := .next (slotPositionStart port slot s)
def execAckWord (port : Nat) (w : AckWord) (s : State) : Out := .next (ackWord port w s)

end Sys2Proof.Machine
end

