-- ==== Sys2Proof/Machine/Seasons.lean ====
section
/-! DEFINITION. Sys2Proof/Machine/Seasons.lean: seasons across sites: Winnow (R300 to R303), bales and their distribution (R304 to
R306), rosters (R307 to R309, R314), the merge sum and the commit modes (R310, R311), and joins (R316 to R318). -/

namespace Sys2Proof.Machine

/-! ### Who holds what (R270, R271, R306) -/

/-- The placements of the harrow phase of the job (R269). -/
def State.harrowPlacements (s : State) : List Placement := s.job.elim [] fun j => Machine.harrowPlacements j.binary.phaseMaps

/-- The primary holders of a tensor in the team; a device alone is the only one. -/
def State.holders (s : State) (id : W32) : List Nat :=
  if s.formed then
    (s.harrowPlacements.filter fun p => p.primary && p.tensorId == id).foldl (fun l p => addOnce l p.rank) []
  else [s.rank]

/-- Whether a tile, given by its elements' global indices, holds one of a range. -/
def tileTouches (places : List (List (Option Nat))) (lo hi : Nat) : Bool :=
  places.any fun r => r.any fun k => k.any fun k => decide (lo ≤ k) && decide (k < hi)

/-- The ranks whose harrow-phase placements hold a block of a range (R306). -/
def State.ranksOfRange (s : State) (id : W32) (first span : Nat) : List Nat :=
  match s.job, s.tensorOf id with
  | some j, some t =>
    (s.harrowPlacements.filter fun p => p.tensorId == id && (List.range p.boCount).any fun i =>
      tileTouches (tileIndices j.binary t p.shard (p.boFirst + i)) (32 * first) (32 * (first + span))).foldl
        (fun l p => addOnce l p.rank) []
  | _, _ => []

/-- The other devices of the team. -/
def State.others (s : State) : List Nat := if s.formed then (List.range s.teamSize).filter (· != s.rank) else []

/-- The rank of the lead device. -/
def State.leadRank (s : State) : Nat := if s.formed then s.num 0x400007 else s.rank

/-- The state with the season tensors changed one by one. -/
def State.mapTensors (s : State) (f : SeasonTensor → SeasonTensor) : State :=
  s.mapSeasons fun x => { x with tensors := x.tensors.map f }

/-- The season tensors that this device holds as primary holder, in tensor table order (R299, R304). -/
def State.ownTensors (s : State) : List SeasonTensor :=
  match s.job with
  | none => []
  | some j => j.binary.tensors.filterMap fun t => s.seasons.tensors.find? fun x => x.decl.primary && x.decl.weight == t.tensorId

/-! ### Bales on this device (R305, R306) -/

/-- A bale kept in the store, once; one that does not verify is not kept. -/
def State.storeBale (s : State) (b : Bale) : State :=
  if !baleVerifies b || s.seasons.store.contains b then s else s.mapSeasons fun x => { x with store := x.store ++ [b] }

/-- The teams of the wardens entry, the warden first (R314). -/
def State.wardens (s : State) : List Nat := words16 (s.oct 0x50000D)

/-- A bale that has come to the team, or that it formed: kept here, and forwarded to the ranks that hold a block of its range (R306);
on a team of the wardens list to the lead device too, which names sets (DESIGN CHOICE, log entry 40). -/
def State.spreadBale (s : State) (b : Bale) : State :=
  let s := s.storeBale b
  let ranks := s.ranksOfRange b.header.tensorId b.header.firstBlock b.header.span
  let ranks := if has s.wardens (s.num 0x500002) then addOnce ranks s.leadRank else ranks
  (s.others.filter (has ranks)).foldl (fun s r => s.sendBest r (.bale b)) s

/-- Whether a bale belongs to a set: its team, its season and its kind. -/
def Bale.inSet (b : Bale) (team season : Nat) (late : Bool) : Bool :=
  b.header.team == team && b.header.baleSeason == season && b.header.late == late

/-- The bale of a part of a set, if this device holds it. -/
def State.partOf (s : State) (team season : Nat) (late : Bool) (part : Nat) : Option Bale :=
  s.seasons.store.find? fun b => Bale.inSet b team season late && b.header.part == part

/-! ### Winnow, first pass (R301, R302) -/

/-- A residual element as a term; none for a non-finite one. -/
def residualTerm (r : Int × Int) : Option (Int × Int) := if r.2 = naf then none else some r

/-- The terms of one element: anchor, negated snapshot, residual; none when one is non-finite. -/
def elementTerms (anchor snapshot : W32) (r : Int × Int) : Option (List (Int × Int)) :=
  match fp32Term anchor, fp32Term snapshot, residualTerm r with
  | some a, some b, some c => some [a, (-b.1, b.2), c]
  | _, _, _ => none

/-- The committed residual of a season tensor. -/
def SeasonTensor.residual (x : SeasonTensor) (odd : Bool) : List (Int × Int) := if odd then x.residual1 else x.residual0

/-- The elements of the blocks of a share, with a residual: none when an element is non-finite. -/
def SeasonTensor.terms (x : SeasonTensor) (odd : Bool) (res : List (Int × Int)) : Option (List (List (List (Int × Int)))) :=
  let l := (List.range x.decl.count).map fun i => elementTerms (nth 0 (SeasonTensor.anchor x odd) i) (nth 0 x.snapshot i) (nth (0, 0) res i)
  if l.all (·.isSome) then some (runs 32 (l.map (·.getD []))) else none

/-- The kept blocks of the own sets after the committed season that a roster of this device has named (R317). -/
def State.namedOwn (s : State) (id : W32) : List (Nat × KeptBlock) :=
  let own := s.num 0x500002
  (s.seasons.store.filter fun b =>
    b.header.team == own && b.header.tensorId == id && s.committed < b.header.baleSeason &&
      s.seasons.rosters.any fun r => r.entries.any fun e =>
        e.team == own && e.baleSeason == b.header.baleSeason && e.late == b.header.late).flatMap baleContent

/-- A residual less kept blocks, exactly; `first` is the global index of its first element (R317). -/
def lessBlocks (first : Nat) (res : List (Int × Int)) (ks : List (Nat × KeptBlock)) : List (Int × Int) :=
  res.zipIdx.map fun r =>
    let g := first + r.2
    (ks.filter fun k => k.1 == g / 32).foldl (fun acc k =>
      exactAdd acc.1 acc.2 (-(nth 0 k.2.e (g % 32))) ((k.2.x : Int) - 129)) r.1

/-- The residual that a pass takes: the committed one, and for a late set what earlier sets have already said left out (R317). -/
def State.passResidual (s : State) (x : SeasonTensor) (late : Bool) : List (Int × Int) :=
  let r := SeasonTensor.residual x s.seasons.ptr
  if late then lessBlocks x.decl.base r (s.namedOwn x.decl.weight) else r

/-- The pseudo-gradients of a share, block by block; none when a term is non-finite. -/
def State.passBlocks (s : State) (x : SeasonTensor) (late : Bool) (zeroFrame : Int) : Option (List FrameBlock) :=
  (SeasonTensor.terms x s.seasons.ptr (s.passResidual x late)).map fun bl => bl.map (winnowBlock zeroFrame)

/-- Whether a line lies in an HBM region where this device's placements hold one of some tensors (R129, R270). -/
def State.lineOf (s : State) (ids : List W32) (line : Nat) : Bool :=
  ids.any fun id => (s.placementsOf id).any fun p => p.store == 1 && s.regions.hbm.any fun r =>
    p.region ≤ r.number && r.number < p.region + p.boCount && r.start ≤ 64 * line && 64 * line < r.start + r.bytes

/-- Whether a line of one of some tensors is poisoned (R353). -/
def State.tensorsPoisoned (s : State) (ids : List W32) : Bool :=
  s.host.lineMeta.any fun e => e.2.getLsbD 35 && s.lineOf ids e.1

/-- The poisoned lines of tensors that are written whole read as good again (R349). -/
def State.healLines (s : State) (ids : List W32) : State :=
  (s.host.lineMeta.filter fun e => e.2.getLsbD 35 && s.lineOf ids e.1).foldl
    (fun s e => s.setLine e.1 (e.2 &&& BitVec.ofNat 36 (2 ^ 35 - 1))) s

/-- One of two copies of a season tensor, by season_ptr (R299). -/
def copyId (odd : Bool) (ids : W32 × W32) : W32 := if odd then ids.2 else ids.1

/-- Whether an input of Winnow is poisoned: the committed anchor or residual, or the snapshot (R300, R353). -/
def State.winnowPoisoned (s : State) : Bool :=
  s.ownTensors.any fun x => s.tensorsPoisoned [copyId s.seasons.ptr x.decl.anchors, copyId s.seasons.ptr x.decl.residuals, x.decl.snapshot]

/-- Winnow of this season has failed: the team offers no set (R301, R303). The device that failed counts it and tells the others. -/
def State.failWinnow (s : State) (own : Bool) : State :=
  let s := s.mapSeasons fun x => { x with winnowFailed := true, winnowStage := 2, winnowDue := false }
  if own then
    s.others.foldl (fun s r => s.sendBest r (.histogram 0 s.seasons.winnowSeason 4 s.rank [])) (s.bump (acreCount 10))
  else s

/-- A histogram noted, once. -/
def State.noteCounts (s : State) (k : KeyCounts) : State :=
  if s.seasons.keyCounts.any fun y =>
    y.tensorId == k.tensorId && y.season == k.season && y.part == k.part && y.rank == k.rank then s
  else s.mapSeasons fun x => { x with keyCounts := x.keyCounts ++ [k] }

/-- A part of the exchange of histograms: the parts of a late pass follow those of the regular one. -/
def State.histogramPart (s : State) (part : Nat) : Nat := if s.seasons.winnowLate then part + 2 else part

/-- This device's histogram noted, and sent to the other primary holders (R302). -/
def State.shareCounts (s : State) (id : W32) (part : Nat) (counts : SMap Nat) : State :=
  let season := s.seasons.winnowSeason
  let part := s.histogramPart part
  let s := s.noteCounts { tensorId := id, season := season, part := part, rank := s.rank, counts := counts }
  ((s.holders id).filter (· != s.rank)).foldl (fun s r => s.sendBest r (.histogram id season part s.rank counts)) s

/-- The summed histogram of a tensor, once every primary holder's is here (R302). -/
def State.totalCounts (s : State) (id : W32) (part : Nat) : Option (SMap Nat) :=
  let l := s.seasons.keyCounts.filter fun y =>
    y.tensorId == id && y.season == s.seasons.winnowSeason && y.part == s.histogramPart part
  if (s.holders id).all fun r => l.any (·.rank == r) then some (l.foldl (fun h y => addHistogram h y.counts) []) else none

/-- τ of a tensor, as far as the histograms allow (R302): the bin where the kept count is reached, then the key within it. -/
def State.settleTau (s : State) (x : SeasonTensor) : State :=
  let id := x.decl.weight
  match s.totalCounts id 0 with
  | none => s
  | some h =>
    match topBin 4096 (keepCount (s.num 0x500008) (h.foldl (fun n e => n + e.2) 0)) h with
    | none => s
    | some (bin, left) =>
      let s := s.shareCounts id 1 (histogram ((x.keys.filter fun k => k / 4096 == bin).map (· % 4096)))
      match (s.totalCounts id 1).bind (topBin 4096 left) with
      | none => s
      | some (low, _) => s.mapTensors fun y => if y.decl.weight == id then { y with tau := some (bin * 4096 + low) } else y

/-- τ of every tensor whose first pass is over. -/
def State.settleTaus (s : State) : State :=
  if s.seasons.winnowStage = 1 then ((s.ownTensors.filter fun x => x.tau.isNone).foldl State.settleTau s) else s

/-- The first pass over this device's primary blocks (R301, R302). The frame of a zero block is a free value (log entry 41). -/
def State.passOne (s : State) (late : Bool) : State :=
  let zero : Int := s.fresh
  let season := s.committed + 1
  let s := s.useFree.mapSeasons fun x =>
    { x with winnowStage := 1, winnowSeason := season, winnowLate := late, winnowFailed := false
             tensors := x.tensors.map fun y => { y with tau := none, keys := [] } }
  let keys (x : SeasonTensor) : Option (List Nat) := (s.passBlocks x late zero).map fun l => l.map blockKey
  if s.winnowPoisoned || s.ownTensors.any fun x => (keys x).isNone then s.failWinnow true
  else
    let s := s.mapTensors fun x => if x.decl.primary then { x with keys := (keys x).getD [] } else x
    (s.ownTensors.foldl (fun s x => s.shareCounts x.decl.weight 0 (histogram (x.keys.map (· / 4096)))) s).settleTaus

/-- Whether a late set is due: the team was isolated, a later roster is here, and the step under way is its commit step (R317). -/
def State.lateDue (s : State) : Bool :=
  s.seasons.wasIsolated && !s.seasons.lateOffered && s.isCommitStep (s.num 0x205001 + 1) &&
    s.seasons.rosters.any fun r => s.committed + 1 < r.season

/-- Whether Winnow may run: a Growing job that takes part in seasons (R323). -/
def State.winnowMay (s : State) : Bool := s.ctl.cur == .growing && s.seasonsOn && s.job.isSome

/-- WINNOW_PASS_ONE (R301, R317). -/
def winnowPassOne (s : State) : State :=
  if !s.winnowMay then s
  else if s.seasons.winnowDue && s.seasons.winnowStage = 0 then s.passOne false
  else if s.lateDue && !(s.seasons.winnowLate && s.seasons.winnowStage = 1) then s.passOne true
  else s

/-! ### Winnow, second pass (R303, R304) -/

/-- What the second pass makes of a block: its pseudo-gradient, and its Field-4 form when it is kept. -/
structure Packed where
  block : Nat := 0
  delta : FrameBlock := {}
  kept : Option KeptBlock := none
  deriving DecidableEq, Repr

/-- The second pass over a share (R303): none where a kept block is void. -/
def State.packTensor (s : State) (x : SeasonTensor) (zeroFrame : Int) : Option (List Packed) :=
  let key := streamKey s.jobSeed 4 s.seasons.winnowSeason x.decl.weight.toNat
  match s.passBlocks x s.seasons.winnowLate zeroFrame with
  | none => none
  | some bl =>
    let l := bl.zipIdx.map fun b =>
      let first := x.decl.base + 32 * b.2
      let keep := decide (x.tau.getD 0 ≤ blockKey b.1)
      (keep, { block := first / 32, delta := b.1, kept := if keep then packBlock key first b.1 else none : Packed })
    if l.all fun p => !p.1 || p.2.kept.isSome then some (l.map (·.2)) else none

/-- The bales of a share, one for every range that it touches (R304); the part number is set later. -/
def State.balesOf (s : State) (x : SeasonTensor) (l : List Packed) : List Bale :=
  let lo := x.decl.base / 32 / rangeBlocks
  let hi := (x.decl.base + x.decl.count - 1) / 32 / rangeBlocks
  (range lo (if x.decl.count = 0 then 0 else hi + 1 - lo)).map fun r =>
    let kept := (l.filter fun p => p.block / rangeBlocks == r).filterMap fun p => p.kept.map fun k => (p.block % rangeBlocks, k)
    let body := baleBody kept
    { header :=
        { bodyDigest := digest128 body, keptBlocks := kept.length, firstBlock := r * rangeBlocks, tensorId := x.decl.weight
          baleSeason := s.seasons.winnowSeason, team := s.num 0x500002, late := s.seasons.winnowLate
          keyPrefix := BitVec.ofNat 64 (leNat ((s.oct 0x500012).take 8)) }
      body := body }

/-- A bale formed here leaves for every other team, and is spread within this one (R306). -/
def State.offerBale (s : State) (b : Bale) : State :=
  let id := baleId b.header
  (s.spreadBale b).sendToTeams id.toNat 1 id (baleHeaderBytes b ++ b.body)

/-- What follows a late set: the team joins (R317). -/
def State.endLate (s : State) : State :=
  if s.seasons.winnowLate then
    (((s.bump (acreCount 12)).mapSeasons fun x => { x with lateOffered := true }).setNum 0x500010 3).askAnchor
  else s

/-- The second pass: pending residuals, and the bales in part order (R303, R304). -/
def State.passTwo (s : State) : State :=
  let zero : Int := s.fresh
  let s := s.useFree
  let packed := s.ownTensors.map fun x => (x, s.packTensor x zero)
  if s.winnowPoisoned || packed.any fun p => p.2.isNone then s.failWinnow true
  else
    let odd := !s.seasons.ptr
    let pending (x : SeasonTensor) : SeasonTensor :=
      match packed.find? fun p => p.1.decl.weight == x.decl.weight && x.decl.primary with
      | none => x
      | some p =>
        let r := (p.2.getD []).flatMap fun b => residualBlock b.delta b.kept
        if odd then { x with residual1 := r } else { x with residual0 := r }
    let bales := (packed.flatMap fun p => s.balesOf p.1 (p.2.getD [])).zipIdx.map fun b =>
      { b.1 with header := { b.1.header with part := (if s.rank = 0 then 0 else Config.firstPart s.rank) + b.2 } }
    let s := (s.mapTensors pending).healLines (s.ownTensors.map fun x => copyId odd x.decl.residuals)
    let s := bales.foldl State.offerBale (s.mapSeasons fun x => { x with winnowStage := 2, winnowDue := false })
    s.endLate

/-- WINNOW_PASS_TWO (R303): once τ is known for every tensor. -/
def winnowPassTwo (s : State) : State :=
  if s.winnowMay && s.seasons.winnowStage = 1 && s.ownTensors.all (·.tau.isSome) then s.passTwo else s

/-! ### Bales that arrive (R293, R305, R306) -/

/-- BALE_CHUNK: a datagram of a bale; with its last stripe the bale is complete, and kept if it verifies. -/
def baleChunk (h : AcreHeader) (bytes : List Byte) (s : State) : State :=
  match s.letIn h with
  | (s, none) => s
  | (s, some i) =>
    match s.takeChunk i h bytes with
    | (s, false) => s
    | (s, true) =>
      match s.objectBytes h fun l => 64 + bitsOf 383 352 (leNat (l.take 64)) with
      | none => s
      | some l => if baleVerifies (baleOfBytes l) then s.spreadBale (baleOfBytes l) else s

/-! ### Rosters (R307 to R309) -/

/-- The roster that a merge of the next season takes: the one of lowest successor_index held (R314). -/
def State.mergeRoster (s : State) : Option Roster :=
  (s.seasons.rosters.filter fun r => r.season == s.committed + 1).foldl (fun best r =>
    match best with
    | none => some r
    | some b => if r.successorIndex < b.successorIndex then some r else some b) none

/-- Whether this device holds a named set for its blocks (R310): every part and its digest, or in a team every part that holds one of
its blocks (log entry 36). -/
def State.holdsSet (s : State) (e : RosterEntry) : Bool :=
  let l := (List.range e.baleCount).map fun p => s.partOf e.team e.baleSeason e.late p
  if l.all (·.isSome) then setDigest (l.filterMap id) == e.setDigest
  else s.formed && decide (1 < s.teamSize) &&
    (List.range e.baleCount).all fun p =>
      (s.partOf e.team e.baleSeason e.late p).isSome || !Config.partHeld e.team p s.rank

/-- A team that lacks a set which the roster of its next merge names fetches it from the forming team (R322); the manual gives no
format for the request (log entry 92). What answers it comes as bales. -/
def State.askBales (s : State) (r : Roster) : State :=
  if s.seasonsOn && s.job.isSome && s.mergeRoster == some r then
    (r.entries.filter fun e => e.team != s.num 0x500002 && !s.holdsSet e).foldl
      (fun s e => s.send (.baleFetch e.team e.baleSeason e.late)) s
  else s

/-- A roster that verified, kept on this device: the generation followed (R314), readiness for another roster of the season dropped,
forks found (R315), and the sets it names that lack here asked for (R322). -/
def State.takeRoster (s : State) (r : Roster) : State :=
  if s.seasons.rosters.any fun x => x.digest == r.digest then s
  else
    let own := r.wardenTeam == s.num 0x500002
    let newer := s.seasons.seenGeneration.all (· < r.generation)
    let better := s.seasons.chosen.isNone && r.season == s.committed + 1 &&
      s.seasons.rosters.all fun x => x.season != r.season || r.successorIndex < x.successorIndex
    let s := s.mapSeasons fun x =>
      { x with
        rosters := x.rosters ++ [r], seenGeneration := if newer then some r.generation else x.seenGeneration
        warden := if newer then own else x.warden, mergedRoster := if better then none else x.mergedRoster
        ready := if better then x.ready.filter fun e => e.2.2 != .merge else x.ready }
    (s.checkFork r).askBales r

/-- A roster that came to the team, kept here and passed to its other devices. -/
def State.spreadRoster (s : State) (r : Roster) : State :=
  s.others.foldl (fun s k => s.sendBest k (.roster r)) (s.takeRoster r)

/-- ROSTER_CHUNK (R307, R309): a datagram of a roster; a complete roster is verified, or refused. -/
def rosterChunk (h : AcreHeader) (bytes : List Byte) (signatureOk : Bool) (s : State) : State :=
  match s.letIn h with
  | (s, none) => s
  | (s, some i) =>
    match s.takeChunk i h bytes with
    | (s, false) => s
    | (s, true) =>
      match s.objectBytes h rosterSize with
      | none => s
      | some l =>
        let r := rosterOf l signatureOk
        if s.rosterOk r then s.spreadRoster r else s.bump (acreCount 9)

/-! ### The warden (R309, R314) -/

/-- The deadline D_s (R297). -/
def State.deadlineOf (s : State) (season : Nat) : Nat := s.num 0x500006 + season * s.num 0x500007

/-- The latest season whose deadline, with a wait after it, has passed (R297). -/
def State.seasonBy (s : State) (now wait : Nat) : Nat := (now - wait - s.num 0x500006) / max (s.num 0x500007) 1

/-- This team's place in the wardens list (R314). -/
def State.wardenIndex (s : State) : Option Nat := s.wardens.findIdx? (· == s.num 0x500002)

/-- Whether this team is the warden: the first of the list, until a team publishes under a higher generation (R314). -/
def State.isWarden (s : State) : Bool :=
  match s.seasons.seenGeneration with
  | none => s.wardenIndex == some 0
  | some _ => s.seasons.warden

/-- The parts of a set, if this device holds them all (R304; log entry 36). -/
def State.wholeSet (s : State) (team season : Nat) (late : Bool) : Option (List Bale) :=
  let l := (List.range (Config.partCount team)).map fun p => s.partOf team season late p
  if l.all (·.isSome) then some (l.filterMap id) else none

/-- The sets that stand in the store: team, season and kind, each once. -/
def State.setsHere (s : State) : List (Nat × Nat × Bool) :=
  s.seasons.store.foldl (fun l b =>
    let k := (b.header.team, b.header.baleSeason, b.header.late)
    if l.contains k then l else l ++ [k]) []

/-- The entries that roster s names (R309). -/
def State.rosterEntries (s : State) (season : Nat) : List RosterEntry :=
  let eligible := s.setsHere.filterMap fun k =>
    match staleness (s.num 0x500009) season k.2.1 k.2.2, s.wholeSet k.1 k.2.1 k.2.2 with
    | some sigma, some parts =>
      if s.seasons.named.contains k then none
      else some { setDigest := setDigest parts, baleSeason := k.2.1, baleCount := parts.length, team := k.1, sigma := sigma
                  late := k.2.2 : RosterEntry }
    | _, _ => none
  sortEntries entryBefore ((sortEntries chosenBefore eligible).take 512)

/-- The generation of a roster published now: above every one seen, or this team's own while it is the warden (R314). -/
def State.newGeneration (s : State) : Nat :=
  match s.seasons.seenGeneration with
  | none => 0
  | some g => if s.seasons.warden then g else g + 1

/-- Roster s published: signed, sent to every other team, and taken in this one (R307, R309). -/
def State.publish (s : State) (season index : Nat) : State :=
  let d := s.seasons.anchorDigest.getD s.digestAnchor
  let es := s.rosterEntries season
  let r : Roster :=
    { parentDigest := s.seasons.committedRoster, keyPrefix := BitVec.ofNat 128 (leNat ((s.oct 0x500012).take 16))
      anchorDigest := d, deadline := s.deadlineOf season, meanFactor := meanFactor (es.map (·.sigma)), season := season
      generation := s.newGeneration, wardenTeam := s.num 0x500002, successorIndex := index, entries := es }
  let bytes := rosterBytes r ++ fit 1280 (s.sign (rosterBytes r))
  let r := { r with digest := digest128 bytes }
  let s := s.mapSeasons fun x =>
    { x with published := x.published ++ [season], named := x.named ++ es.map fun e => (e.team, e.baleSeason, e.late) }
  (s.spreadRoster r).sendToTeams season 4 (BitVec.ofNat 64 season) bytes

/-- Whether this device may act on a deadline: the lead device of a team in seasons, with time (R296, R297). -/
def State.mayDecide (s : State) : Bool := s.isLead && s.seasonsOn && s.job.isSome && s.num 0x503002 != 0

/-- SEASON_DEADLINE (R309): D_s has passed at the warden. -/
def seasonDeadline (now : Nat) (s : State) : State :=
  let season := s.seasonBy now 0
  match s.wardenIndex with
  | none => s
  | some i => if s.mayDecide && s.isWarden && season ≠ 0 && !has s.seasons.published season then s.publish season i else s

/-- SUCCESSOR_PUBLISH (R314): the grace time of successor i has passed with no verified roster of lower index. -/
def successorPublish (now : Nat) (s : State) : State :=
  match s.wardenIndex with
  | none => s
  | some i =>
    let season := s.seasonBy now (i * s.num 0x50000C)
    let heard := s.seasons.rosters.any fun r => r.season == season && r.successorIndex < i
    if s.mayDecide && i ≠ 0 && !heard && season ≠ 0 && !has s.seasons.published season then s.publish season i else s

/-! ### The merge sum (R310, R311) -/

/-- The kept blocks of a roster's sets for a tensor, each with its entry's σ. -/
def State.namedBlocks (s : State) (r : Roster) (id : W32) : List (Nat × KeptBlock × Nat) :=
  r.entries.flatMap fun e =>
    (s.seasons.store.filter fun b => Bale.inSet b e.team e.baleSeason e.late && b.header.tensorId == id).flatMap fun b =>
      (baleContent b).map fun k => (k.1, k.2, e.sigma)

/-- ḡ of an element with a global index (R311). -/
def mergedElement (ks : List (Nat × KeptBlock × Nat)) (mean : W32) (g : Nat) : W32 :=
  let terms := (ks.filter fun k => k.1 == g / 32).map fun k =>
    (nth 0 k.2.1.e (g % 32), (k.2.1.x : Int) - 129 - (k.2.2 : Int))
  BitVec.ofNat 32 (fp32Mul (mergeElement terms) mean.toNat)

/-- A device's readiness at the lead device: one entry per device and mode. -/
def State.noteReady (s : State) (rank season : Nat) (mode : CommitMode) : State :=
  s.mapSeasons fun x =>
    { x with ready := (x.ready.filter fun e => !(e.1 == rank && e.2.2 == mode)) ++ [(rank, season, mode)] }

/-- This device tells the lead device that it is ready for a mode (R310). -/
def State.reportReady (s : State) (season : Nat) (mode : CommitMode) : State :=
  if s.isLead then s.noteReady s.rank season mode else s.sendBest s.leadRank (.ready s.rank season mode)

/-- MERGE_SUM_WRITTEN (R310, R311): ḡ of every placed element, from the sets of the roster, once Winnow has finished and every named
set is here. -/
def mergeSumWritten (s : State) : State :=
  match s.mergeRoster with
  | none => s
  | some r =>
    if !s.seasonsOn || s.job.isNone || s.seasons.winnowDue || s.seasons.winnowStage = 1 || !r.entries.all s.holdsSet then s
    else
      let s := s.mapTensors fun x =>
        let ks := s.namedBlocks r x.decl.weight
        { x with merge := (List.range x.decl.count).map fun i => mergedElement ks r.meanFactor (x.decl.base + i) }
      let s := s.healLines (s.seasons.tensors.map (·.decl.merge))
      (s.mapSeasons fun x => { x with mergedRoster := some r.digest }).reportReady (s.committed + 1) .merge

/-! ### The commit mode (R310, R316) -/

/-- Whether every device is ready for a mode of a season. -/
def State.allReady (s : State) (season : Nat) (mode : CommitMode) : Bool :=
  (if s.formed then List.range s.teamSize else [s.rank]).all fun r => s.seasons.ready.contains (r, season, mode)

/-- The join that can be committed now: every device has the fetched anchor of one season (R310, R318). -/
def State.joinTile (s : State) : Option SeasonTile :=
  s.seasons.fetched.bind fun f => if s.allReady f .join then some { mode := .join, season := f } else none

/-- The merge that can be committed now (R310): not after an isolate, and not while a join is due. -/
def State.mergeTile (s : State) : Option SeasonTile :=
  s.seasons.mergedRoster.bind fun d =>
    if s.allReady (s.committed + 1) .merge then some { mode := .merge, season := s.committed + 1, rosterDigest := d } else none

/-- Whether a commit may take isolate mode: seasons_uncommitted has not reached season_cap (R316). -/
def State.mayIsolate (s : State) : Bool := s.num 0x500011 < s.num 0x50000A

/-- The mode of a commit for which the devices are ready, if they are (R310). Without time the commit is an isolate (R296, R322). -/
def State.readyTile (s : State) : Option SeasonTile :=
  if s.num 0x503002 = 0 && s.mayIsolate then some { mode := .isolate, season := s.committed }
  else if s.joinAhead then s.joinTile else s.mergeTile

/-- Whether the lead device has a mode to choose: the commit step is under way and none is chosen (R310). -/
def State.choosing (s : State) : Bool :=
  s.isLead && s.seasonsOn && s.job.isSome && s.isCommitStep (s.num 0x205001 + 1) && s.seasons.chosen.isNone

/-- A mode fixed, with its write cycle 1,000 cycles ahead, and told to every device (R310). -/
def State.fixMode (s : State) (t : SeasonTile) : State :=
  let at_ := s.cycle + 1000
  let s := s.mapSeasons fun x => { x with chosen := some t, writeAt := some at_ }
  s.others.foldl (fun s r => s.sendBest r (.seasonTile t at_)) s

/-- COMMIT_MODE_CHOICE (R310): the devices are ready. -/
def commitModeChoice (s : State) : State :=
  if s.choosing then s.readyTile.elim s s.fixMode else s

/-- ROSTER_WAIT_EXPIRY (R310, R316): roster_wait has passed after the deadline. Without readiness the commit is an isolate; at the cap
it waits for a join. -/
def rosterWaitExpiry (now : Nat) (s : State) : State :=
  if !s.choosing || s.num 0x503002 = 0 || now < s.deadlineOf (s.committed + 1) + s.num 0x50000B then s
  else match s.readyTile with
    | some t => s.fixMode t
    | none => if s.mayIsolate then s.fixMode { mode := .isolate, season := s.committed } else s.setNum 0x500010 4

/-- The mode that the lead device fixed, as another device hears of it. -/
def State.hearMode (s : State) (t : SeasonTile) (write : Cycle) : State :=
  if s.seasons.chosen.isSome then s else s.mapSeasons fun x => { x with chosen := some t, writeAt := some write }

/-- SEASON_TILE_WRITE (R310): at the write cycle the season tile stands in every plot. -/
def seasonTileWrite (s : State) : State :=
  match s.seasons.chosen, s.seasons.writeAt with
  | some t, some c => (s.upTo c).mapSeasons fun x => { x with tile := some t, writeAt := none }
  | _, _ => s

/-! ### Joins (R317, R318) -/

/-- A run of FP32 values written into the pending copies of a share (R310). -/
def SeasonTensor.fetch (x : SeasonTensor) (odd : Bool) (first : Nat) (anchor momentum : List W32) : SeasonTensor :=
  let put (old new : List W32) : List W32 := writeCopy x.decl.base old (new.zipIdx.map fun e => (first + e.2, e.1))
  if odd then { x with anchor1 := put x.anchor1 anchor, momentum1 := put x.momentum1 momentum }
  else { x with anchor0 := put x.anchor0 anchor, momentum0 := put x.momentum0 momentum }

/-- The pending residual of a join is zero (R310). -/
def SeasonTensor.zeroResidual (x : SeasonTensor) (odd : Bool) : SeasonTensor :=
  let z := List.replicate x.decl.count ((0 : Int), (0 : Int))
  if odd then { x with residual1 := z } else { x with residual0 := z }

/-- The season tensors of the job, each with the elements of its weight, in the order of their shares in State (R318; log entry 42). -/
def State.anchorArrays (s : State) : List (SeasonTensor × Nat) :=
  s.seasons.tensors.map fun x => (x, (s.tensorOf x.decl.weight).elim 0 elementCount)

/-- The bytes of a reply to a fetch request: the receiver knows them from its own tensor table (R318). -/
def State.replyBytes (s : State) : Nat := s.anchorArrays.foldl (fun n a => n + 8 * a.2) 0

/-- The bytes of a segment of a reply in stripes of k data chunks (R318). -/
def segmentBytes (k : Nat) : Nat := 65536 * max k 1 * chunkBytes

/-- The reply to the latest request, once every segment of it is decoded (R318). -/
def State.wholeReply (s : State) (h : AcreHeader) : Option (List Byte) :=
  let n := s.replyBytes
  let seg := segmentBytes h.k
  let parts := (List.range (ceilDiv n seg)).map fun i =>
    s.objectBytes { h with objectId := BitVec.ofNat 64 (s.seasons.fetchNumber * 2 ^ 16 + i) } fun _ => min seg (n - i * seg)
  if parts.all (·.isSome) then some (parts.flatMap (·.getD [])) else none

/-- A share's part of a reply, drilled (R324 to R326): its anchor and its momentum; none where the bytes do not make them. -/
def State.drillReply (s : State) (x : SeasonTensor) (n : Nat) (bs : List Byte) : Option (List W32 × List W32) :=
  match s.job with
  | none => none
  | some j =>
    let words (id : W32) (bs : List Byte) : Option (List W32) :=
      (seasonWords j.binary s.jobSeed id x.decl.base x.decl.count bs).map (·.1)
    match words x.decl.anchors.1 (bs.take (4 * n)), words x.decl.momenta.1 ((bs.drop (4 * n)).take (4 * n)) with
    | some a, some m => some (a, m)
    | _, _ => none

/-- A whole reply cut into the parts of its tensors. -/
def replyParts : List (SeasonTensor × Nat) → List Byte → List (SeasonTensor × Nat × List Byte)
  | [], _ => []
  | (x, n) :: l, bs => (x, n, bs.take (8 * n)) :: replyParts l (bs.drop (8 * n))

/-- A whole reply laid into the pending copies, with zero residuals: the device is ready to join (R310, R318). A reply that does not
make the tensors is left. -/
def State.layReply (s : State) (season : Nat) (bs : List Byte) : State :=
  let odd := !s.seasons.ptr
  let parts := (replyParts s.anchorArrays bs).map fun p => (p.1, s.drillReply p.1 p.2.1 p.2.2)
  if parts.any (·.2.isNone) then s
  else
    let laid := parts.map fun p =>
      let w := p.2.getD ([], [])
      SeasonTensor.zeroResidual (SeasonTensor.fetch p.1 odd p.1.decl.base w.1 w.2) odd
    let ids := s.seasons.tensors.flatMap fun x => [copyId odd x.decl.anchors, copyId odd x.decl.momenta, copyId odd x.decl.residuals]
    ((s.mapSeasons fun x => { x with tensors := laid, fetched := some season }).healLines ids).reportReady season .join

/-- ANCHOR_CHUNK (R294, R310, R318): a datagram of the reply to the latest request, taken stripe by stripe like any object. `season` is
the season that the reply is of, which R318 gives no field for (log entry 42). -/
def anchorChunk (h : AcreHeader) (bytes : List Byte) (season : Nat) (s : State) : State :=
  match s.letIn h with
  | (s, none) => s
  | (s, some i) =>
    if !s.seasons.fetchAsked || h.objectId.toNat / 2 ^ 16 ≠ s.seasons.fetchNumber then s
    else match s.takeChunk i h bytes with
      | (s, false) => s
      | (s, true) => match s.wholeReply h with
        | some l => s.layReply season l
        | none => s

/-- The dense words of a tensor of which this device holds a share (R318); what other devices hold of it is free, since the manual
gives no way for it to come here (log entry 42). -/
def denseShare (free : Nat) (d : SeasonDecl) (n : Nat) (l : List W32) : List Byte :=
  (List.range n).flatMap fun i =>
    leBytes 4 (if d.base ≤ i && i < d.base + d.count then (nth 0 l (i - d.base)).toNat else Config.heldElsewhere free d.weight i)

/-- The reply to a fetch request: anchor and momentum of every season tensor (R318; log entry 42). -/
def State.anchorReply (s : State) : List Byte :=
  s.anchorArrays.flatMap fun a =>
    denseShare s.freeCount a.1.decl a.2 (SeasonTensor.anchor a.1 s.seasons.ptr) ++
      denseShare s.freeCount a.1.decl a.2 (if s.seasons.ptr then a.1.momentum1 else a.1.momentum0)

/-- FETCH_REQUEST (R318): the reply leaves in segments of at most 65,536 stripes. -/
def fetchRequest (h : AcreHeader) (s : State) : State :=
  match s.letIn h with
  | (s, none) => s
  | (s, some i) =>
    ((runs (segmentBytes s.codeShape.1) s.anchorReply).zipIdx).foldl (fun s part =>
      s.sendObject i 5 (BitVec.ofNat 64 (h.objectId.toNat / 2 ^ 16 * 2 ^ 16 + part.2)) part.1) s.useFree

/-- A histogram from another primary holder, or its word that Winnow failed (R301, R302). -/
def State.hearCounts (s : State) (k : KeyCounts) : State :=
  if k.part = 4 then
    (if k.season = s.seasons.winnowSeason && s.seasons.winnowStage ≠ 2 then s.failWinnow false else s)
  else (s.noteCounts k).settleTaus

def execBaleChunk (h : AcreHeader) (bytes : List Byte) (s : State) : Out := .next (baleChunk h bytes s)
def execRosterChunk (h : AcreHeader) (bytes : List Byte) (signatureOk : Bool) (s : State) : Out :=
  .next (rosterChunk h bytes signatureOk s)
def execAnchorChunk (h : AcreHeader) (bytes : List Byte) (season : Nat) (s : State) : Out := .next (anchorChunk h bytes season s)
def execFetchRequest (h : AcreHeader) (s : State) : Out := .next (fetchRequest h s)
def execWinnowPassOne (s : State) : Out := .next (winnowPassOne s)
def execWinnowPassTwo (s : State) : Out := .next (winnowPassTwo s)
def execSeasonDeadline (now : Nat) (s : State) : Out := .next (seasonDeadline now s)
def execSuccessorPublish (now : Nat) (s : State) : Out := .next (successorPublish now s)
def execRosterWaitExpiry (now : Nat) (s : State) : Out := .next (rosterWaitExpiry now s)
def execCommitModeChoice (s : State) : Out := .next (commitModeChoice s)
def execSeasonTileWrite (s : State) : Out := .next (seasonTileWrite s)
def execMergeSumWritten (s : State) : Out := .next (mergeSumWritten s)

end Sys2Proof.Machine
end

