-- ==== Sys2Proof/Machine/Delivery.lean ====
section
/-! DEFINITION. Sys2Proof/Machine/Delivery.lean: best-effort frames as they arrive (R240): routed on, or delivered to the unit that
their content is for. -/

namespace Sys2Proof.Machine

/-- A tile that a peer's tier move sends lands in an HBM region (R342). -/
def State.takeTierTile (s : State) (region offset : Nat) (t : Tile) : State :=
  match s.regions.hbm.find? fun r => r.number == region with
  | some r => s.writeHbmTile (r.start + offset) t
  | none => s

/-- A best-effort frame for this device, by its content. -/
def State.deliverBest (s : State) (port : Nat) (f : BeFrame) : State :=
  match f.content with
  | .tierTile region offset t => s.takeTierTile region offset t
  | .repairFetch source id shard bo => repairServe source id shard bo s
  | .repairReply id shard bo t => repairReply id shard bo t s
  | .drillChunk c => drillChunk c s
  | .histogram id season part rank counts =>
    s.hearCounts { tensorId := id, season := season, part := part, rank := rank, counts := counts }
  | .ready rank season mode => if s.isLead then s.noteReady rank season mode else s
  | .seasonTile t write => s.hearMode t write
  | .saveFrame offset bytes => saveFrameReceive port offset bytes s
  | .bale b => s.storeBale b
  | .roster r => s.takeRoster r

/-- A best-effort frame that is taken returns a credit, and is delivered here or routed on by its destination rank (R240). -/
def State.passBest (s : State) (n : Nat) (f : BeFrame) : State :=
  let s := s.mapPort n fun p => { p with creditsDue := p.creditsDue + 1 }
  if f.dest = s.rank then s.deliverBest n f else s.routeBest f

/-- Whether a frame before a sequence is missing on a port. -/
def Port.waitsBefore (p : Port) (q : BitVec 24) : Bool := p.missing.any fun m => seqBelow m q

/-- Frames that come in order go on, and after them the frames that were held for one before them and now wait for none (R240). -/
def State.passOn (s : State) (n : Nat) (fs : List BeFrame) : State :=
  let p := s.portAt n
  let free := p.held.takeWhile fun h => !p.waitsBefore h.1
  let s := s.mapPort n fun p => { p with held := p.held.drop free.length }
  (fs ++ free.map (·.2)).foldl (fun s f => s.passBest n f) s

/-- BEST_EFFORT_FRAME (R224, R240, R264): frames keep their order, so one that comes before a missing frame is held until that
arrives again. -/
def bestEffortFrame (n : Nat) (h : LinkHead) (f : BeFrame) (s : State) : State :=
  if !(s.portAt n).up then s
  else match (s.bump 0x404001 h.corrected).takeSequence n h.sequence h.frameOk with
    | (s, false) => s
    | (s, true) =>
      let p := s.portAt n
      if p.waitsBefore h.sequence then
        s.mapPort n fun p =>
          let before := p.held.takeWhile fun x => seqBelow x.1 h.sequence
          { p with held := before ++ (h.sequence, f) :: p.held.drop before.length }
      else s.passOn n [f]

def execBestEffortFrame (port : Nat) (h : LinkHead) (f : BeFrame) (s : State) : Out := .next (bestEffortFrame port h f s)

/-- A slot frame that comes again may free the best-effort frames held for it. -/
def execSlotFrameReceive (port : Nat) (f : SlotFrame) (s : State) : Out :=
  let t := slotFrameReceive port f s
  .next (if (s.portAt port).up && !(s.portAt port).held.isEmpty then t.passOn port [] else t)

end Sys2Proof.Machine
end

