-- ==== Sys2Proof/Machine/Power.lean ====
section
/-! DEFINITION. Sys2Proof/Machine/Power.lean: the yoke meter and the governor (R416 to R419). -/

namespace Sys2Proof.Machine

/-- YOKE_SAMPLE (R416): the meter's sample of 1 µs, in every state but Fallow. -/
def yokeSample (watts : Nat) (s : State) : State :=
  if s.ctl.cur == .fallow then s else { s with power := { s.power with samples := s.power.samples ++ [watts] } }

/-- The run fraction and the count of quiet windows after a window whose samples sum to `sum` over `n` (R417). -/
def governRule (r quiet sum n cap : Nat) : Nat × Nat :=
  if 3300 * n < sum then (8, 0)
  else if cap * n < sum then (max 8 (r * cap * n / sum), 0)
  else if sum * 64 ≤ cap * 62 * n then (if 100 ≤ quiet + 1 then (min 64 (r + 1), 0) else (r, quiet + 1))
  else (r, 0)

/-- The phase in progress now: the last whose release has been reached (R419). -/
def State.settlePhase (s : State) : State :=
  let due := s.power.upcoming.filter fun p => reached s.cycle p.1
  let left := s.power.upcoming.filter fun p => !reached s.cycle p.1
  { s with power := { s.power with phase := (due.getLast?.map (·.2)).orElse fun _ => s.power.phase, upcoming := left } }

/-- The declared peak of the phase in progress; before the first phase it is yoke_peak (R155, R419). -/
def State.declaredPeak (s : State) : Nat :=
  match s.job with
  | none => 0
  | some j =>
    match s.power.phase.bind fun p => j.binary.yoke.find? fun y => y.1 == p with
    | some y => y.2.1
    | none => j.binary.yokePeak

/-- The end of the window in which a count lies: the next multiple of 16,000 (R417). -/
def windowEnd (c : Cycle) : Cycle := BitVec.ofNat 64 ((c.toNat + 15999) / 16000 * 16000)

/-- GOVERNOR_WINDOW (R416, R417, R419): a window ends, with what the meter sampled in it. -/
def governorWindow (s : State) : State :=
  if s.ctl.cur == .fallow || s.power.samples.isEmpty then s
  else
    let s := (s.upTo (windowEnd s.cycle)).settlePhase
    let n := s.power.samples.length
    let sum := s.power.samples.foldl (· + ·) 0
    let r := s.num 0x700004
    let (r', quiet) := governRule r s.power.lowWindows sum n (s.num 0x700001)
    let growing := s.ctl.cur == .growing
    let s := if growing then s.bump 0x700005 (250 * (64 - r)) else s
    let s := if growing && s.declaredPeak * n < sum then s.bump 0x700006 else s
    let watts := min (sum / n) 65535
    let s := ((s.setNum 0x700002 watts).setNum 0x700003 (max (s.num 0x700003) watts)).setRun r'
    { s with power := { s.power with samples := [], lowWindows := quiet } }

def execYokeSample (watts : Nat) (s : State) : Out := .next (yokeSample watts s)
def execGovernorWindow (s : State) : Out := .next (governorWindow s)

end Sys2Proof.Machine
end

