-- ==== Sys2Proof/Machine/Dict.lean ====
section
/-! DEFINITION. Sys2Proof/Machine/Dict.lean: the values that the dictionary reads (R386, R387), the checks of a write (R384 to R388,
R391), the cross-entry checks of a commit (R63, R222, R242, R262, R320, R363), and what a written entry changes. -/

namespace Sys2Proof.Machine

/-! ### Abort codes (R395) -/

/-- The abort codes of R395. -/
inductive Abort where
  | booting | wrongState | outOfRange | noEntry | noSub | access | length | txnRequired | txnBusy | noTxn | txnFull | epochStale
  | malformed
  deriving DecidableEq, Repr

/-- The code of an abort. -/
def Abort.code : Abort → W32
  | .booting => 0x00640001
  | .wrongState => 0x00640002
  | .outOfRange => 0x00640003
  | .noEntry => 0x00640004
  | .noSub => 0x00640005
  | .access => 0x00640006
  | .length => 0x00640007
  | .txnRequired => 0x00640008
  | .txnBusy => 0x00640009
  | .noTxn => 0x0064000A
  | .txnFull => 0x0064000B
  | .epochStale => 0x0064000C
  | .malformed => 0x0064000D

/-- The code of a source: the ring master and the mirror slots (R383, R390). -/
def sourceCode : Source → Nat
  | .master => 0
  | .mirror n => 0x10 + n

/-- The bytes that a staged value takes. -/
def valueBytes (key : Nat) : EntryValue → Nat
  | .num _ => (entryOf key).elim 0 (·.type.size)
  | .octets b => b.length

/-! ### Repair maps (R362, R363) -/

/-- The entries of a soft-repair map: spares, then disabled slices (R362). -/
def repairEntries (m : RepairMap) : List Nat :=
  (m.spares.map fun a => a.physical % 256 * 2 ^ 13 + a.spare % 4 * 2 ^ 21 + (if a.column then 1 else 0) * 2 ^ 23 +
      a.site % 256 * 2 ^ 24) ++
    m.slices.map fun x => 2 ^ 12 + x % 256 * 2 ^ 24

/-- The bytes of a soft-repair map with its check (R362). -/
def repairBytes (m : RepairMap) : List Byte :=
  let es := (repairEntries m).flatMap (leBytes 4)
  let header := leBytes 60 (0x504D5253 + m.sequence % 2 ^ 32 * 2 ^ 192 + (repairEntries m).length * 2 ^ 224 +
    maskOf (m.stackList.filter (· < 24)) * 2 ^ 280 + maskOf (m.sites.filter (· < 176)) * 2 ^ 304)
  header ++ leBytes 4 (crc32c (header ++ es)).toNat ++ es

/-- The numbers whose bits a mask sets. -/
def bitList (n mask : Nat) : List Nat := (List.range n).filter mask.testBit

/-- A soft-repair map read from the bytes of repair_map; none when they are no map (R362). -/
def readRepairMap (bs : List Byte) : Option RepairMap :=
  let v := leNat (bs.take 64)
  let n := bitsOf 255 224 v
  let es := (words32 (bs.drop 64)).take n
  let slice (e : Nat) : Bool := e.testBit 12
  if bs.length != 64 + 4 * n || 1408 < n || bitsOf 31 0 v != 0x504D5253 then none
  else if es.any fun e => 175 < bitsOf 31 24 e || 195 < bitsOf 20 13 e then none
  else
    some
      { sites := bitList 176 (bitsOf 479 304 v), stackList := bitList 24 (bitsOf 303 280 v)
        slices := (es.filter slice).map (bitsOf 31 24)
        spares := (es.filter fun e => !slice e).map fun e =>
          { site := bitsOf 31 24 e, column := e.testBit 23, spare := bitsOf 22 21 e, physical := bitsOf 20 13 e } }

/-- Whether a repair map may be committed (R363): no spare named twice, at most four spares of an axis at a site, and an effective
grade that is not none. -/
def State.repairOk (s : State) (m : RepairMap) : Bool :=
  let all := s.fuses.spares ++ m.spares
  let same (a b : SpareAssign) : Bool := a.site == b.site && a.column == b.column && a.spare == b.spare
  let slices := s.fuses.slices ++ m.slices
  m.spares.all (fun a => (all.filter (same a)).length == 1) &&
    m.spares.all (fun a => (all.filter fun b => b.site == a.site && b.column == a.column).length ≤ 4) &&
    gradeOf s.lifecycle (s.fuses.sites ++ m.sites ++ slices) (s.fuses.stackList ++ m.stackList) slices != 0

/-- The map that the findings would give (R357, R360, R363); none without findings. -/
def State.proposedMap (s : State) : Option RepairMap :=
  let p := s.recovery.proposals
  let m := s.softMap
  if p = {} then none
  else some
    { sites := p.sites.foldl addOnce m.sites, stackList := p.stackList.foldl addOnce m.stackList
      slices := p.slices.foldl addOnce m.slices, spares := m.spares ++ p.spares, sequence := m.sequence }

/-- A committed map written into the flash copy that is not in force, with the next sequence (R362). -/
def State.commitMap (s : State) (m : RepairMap) : State :=
  let seq (x : Option RepairMap) : Nat := x.elim 0 (·.sequence)
  let m := { m with sequence := max (seq s.flash.mapOne) (seq s.flash.mapTwo) + 1 }
  let s := s.setOct 0x608001 (repairBytes m)
  if s.flash.mapOne.isSome && s.flash.mapOne == s.recovery.mapInForce then { s with flash := { s.flash with mapTwo := some m } }
  else { s with flash := { s.flash with mapOne := some m } }

/-! ### Values that are read (R386) -/

/-- Whether an entry reads an analogue measurement, which is a free value (R413, R415, R426; log entry 4). -/
def State.measured (s : State) (key : Nat) : Bool :=
  (0x701001 ≤ key && key ≤ 0x701003) || key == 0x704001 || key == 0x704002 || (key == 0x702001 && s.num 0x503002 == 1)

/-- The number that an entry reads. -/
def State.readNum (s : State) (key : Nat) : Nat :=
  if s.measured key then s.fresh
  else match key with
    | 0x100001 => 0x4C56
    | 0x100002 => s.fuses.product.toNat
    | 0x100003 => s.fuses.stepping.toNat
    | 0x100100 => s.ctl.stateEntry
    | 0x103001 => s.fuses.stepping.toNat
    | 0x103003 => if s.num key = 0 then s.fuses.stepping.toNat else s.num key
    | 0x104001 => s.txn.elim 0xFF fun t => sourceCode t.owner
    | 0x104002 => s.txn.elim 0 (·.staged.length)
    | 0x104003 => s.txn.elim 0 fun t => t.staged.foldl (fun n e => n + valueBytes e.1 e.2) 0
    | 0x201002 => Config.hopperBase
    | 0x400101 => s.cycle.toNat
    | 0x503003 => s.gnssNow
    | 0x602003 => min s.recovery.repairs.length 65535
    | 0x603002 => maskOf (s.recovery.suspectStacks.filter (· < 24))
    | 0x702001 => 0
    | 0x702002 => s.pllLocked
    | 0x801001 => Config.ledgerBase
    | 0x801005 => Config.digestRingBase
    | 0x801006 => Config.tallyRingBase
    | 0x802004 => Config.tapBase
    | 0x900001 => s.fuses.securityConfig.toNat
    | 0x900006 => s.fuses.fwRollback
    | _ =>
      if key / 256 = 0x4010 && key % 256 ≠ 0 then Port.status (s.portAt (key % 256 - 1))
      else if key / 256 = 0x7030 && key % 256 ≠ 0 then s.domainState (key % 256)
      else s.num key

/-- The bytes that an OCTETS entry reads. -/
def State.readOct (s : State) (key : Nat) : List Byte :=
  match key with
  | 0x100004 => fit 16 s.fuses.serial
  | 0x103004 => s.profileEntry
  | 0x402001 => fit 131072 (s.oct key)
  | 0x600001 => fit 512 (s.ctl.faultLog.flatMap FaultRecord.bytes)
  | 0x603001 => leBytes 22 (maskOf (s.recovery.suspectSites.filter (· < 176)))
  | 0x608001 => if (s.oct key).isEmpty then s.recovery.mapInForce.elim [] repairBytes else s.oct key
  | 0x608003 => s.proposedMap.elim [] repairBytes
  | 0x608004 => leBytes 47 (mapBits s.fuses.sites s.fuses.stackList s.fuses.slices)
  | 0x900002 => leBytes 32 (nth 0 s.fuses.keyHash 0).toNat
  | 0x900003 => leBytes 32 (nth 0 s.fuses.keyHash 1).toNat
  | 0x900004 => leBytes 32 (nth 0 s.fuses.keyHash 2).toNat
  | 0x900005 => leBytes 32 (nth 0 s.fuses.keyHash 3).toNat
  | 0x901001 => s.identityKey
  | 0x901002 => s.flash.cert
  | _ => s.oct key

/-! ### Checks of a write (R384 to R388) -/

/-- Whether an entry may be written in the present state (R53, R262, R321). -/
def State.writable (s : State) (e : Entry) : Bool :=
  match e.when_ with
  | .every => true
  | .tilled => s.ctl.cur == .tilled
  | .tilledSown => s.ctl.cur == .tilled || s.ctl.cur == .sown

/-- The rules that a number of its own entry must meet beyond its range (R218, R293, R458). -/
def State.numberOk (s : State) (key v : Nat) : Bool :=
  if key = 0x207007 then bitsOf 31 24 v ≤ 2
  else if key = 0x801003 then s.num 0x801003 ≤ v && v ≤ s.num 0x801002
  else if key = 0x501500 then [4, 8, 16, 32].contains (bitsOf 15 8 v) && bitsOf 7 0 v ≤ 8
  else true

/-- Whether an OCTETS entry's length is judged at the commit, by its own rule (R262, R320). -/
def lengthAtCommit (key : Nat) : Bool := key == 0x400004 || key == 0x50000D

/-- The check of one value by state and range, when it is written or staged and again at the commit (R391, R392). -/
def State.checkValue (s : State) (key : Nat) (v : EntryValue) : Option Abort :=
  match entryOf key with
  | none => some .noEntry
  | some e =>
    if !s.writable e then some .wrongState
    else match v with
      | .num n => if e.inRange n && s.numberOk key n then none else some .outOfRange
      | .octets b =>
        if lengthAtCommit key || b.length ≤ e.type.size then none else some .outOfRange

/-! ### Cross-entry checks of a commit (R392) -/

/-- A number as it would read after the staged writes. -/
def State.stagedNum (s : State) (w : List (Nat × EntryValue)) (key : Nat) : Nat :=
  match w.find? fun e => e.1 == key with
  | some (_, .num n) => n
  | _ => s.num key

/-- Bytes as they would read after the staged writes. -/
def State.stagedOct (s : State) (w : List (Nat × EntryValue)) (key : Nat) : List Byte :=
  match w.find? fun e => e.1 == key with
  | some (_, .octets b) => b
  | _ => s.oct key

/-- Whether any of some entries is staged. -/
def stages (w : List (Nat × EntryValue)) (keys : List Nat) : Bool := w.any fun e => has keys e.1

/-- The loss-scale check (R63). -/
def State.scaleOk (s : State) (w : List (Nat × EntryValue)) : Bool :=
  let i (k : Nat) : Int := ofPattern 32 (s.stagedNum w k)
  decide (i 0x302003 ≤ i 0x302001) && decide (i 0x302001 ≤ i 0x302004)

/-- The length of a list of ranks or teams: not empty, even, at most 18 bytes (R262, R320). -/
def listOk (b : List Byte) : Bool := b.length != 0 && b.length % 2 == 0 && b.length ≤ 18

/-- The season checks (R320). -/
def State.seasonsOk (s : State) (w : List (Nat × EntryValue)) : Bool :=
  let n := s.stagedNum w
  n 0x500004 != 0 && n 0x500005 != 0 && n 0x500005 < n 0x500004 && 1 ≤ n 0x500008 && n 0x500008 ≤ 256 && n 0x500009 ≤ 8 &&
    listOk (s.stagedOct w 0x50000D)

/-- The tap checks (R222). -/
def State.tapsOk (s : State) (w : List (Nat × EntryValue)) : Bool :=
  let ids := s.stagedOct w 0x802003
  (!stages w [0x802002] || s.stagedNum w 0x802001 ≤ s.stagedNum w 0x802002) &&
    (!stages w [0x802003] || (ids.length % 4 == 0 && (words32 ids).all fun x => (s.tensorOf (BitVec.ofNat 32 x)).isSome))

/-- The checks over several entries, and those that judge a whole value, at a commit. -/
def State.crossCheck (s : State) (w : List (Nat × EntryValue)) : Option Abort :=
  let repair := stages w [0x608001]
  if repair && s.ctl.flashOwn then some .wrongState
  else if !s.scaleOk w then some .outOfRange
  else if stages w [0x400002, 0x400003] && s.stagedNum w 0x400002 ≤ s.stagedNum w 0x400003 then some .outOfRange
  else if stages w [0x400004] && !listOk (s.stagedOct w 0x400004) then some .outOfRange
  else if stages w [0x500004, 0x500005, 0x500008, 0x500009, 0x50000D] && !s.seasonsOk w then some .outOfRange
  else if !s.tapsOk w then some .outOfRange
  else if repair && !((readRepairMap (s.stagedOct w 0x608001)).any s.repairOk) then some .outOfRange
  else none

/-! ### What a written entry changes -/

/-- A port's control entry (R257, R258): disabled, it is held Off; enabled again, it begins Training. -/
def State.setPortCtrl (s : State) (n v : Nat) : State :=
  s.mapPort n fun p =>
    if v = 1 then {} else if p.state = .off then { state := .training } else p

/-- An Acre port's mode (R285, R321): Off, or training in a mode that is new. -/
def State.setAcreMode (s : State) (n before v : Nat) : State :=
  if before = v then s
  else
    let s : State := { s with acre := { s.acre with portUp := modifyNth (fun _ => false) s.acre.portUp n } }
    s.setNum (0x501101 + n) (if v = 0 then 0 else 1)

/-- The bytes of a routing table as it is kept: the reserved bits [3:0] of each entry ignore writes (R10, R263). -/
def routingBytes : List Byte → List Byte
  | a :: b :: bs => (a &&& 0xF0) :: b :: routingBytes bs
  | l => l.map (· &&& 0xF0)

/-- A number as its entry keeps it: the reserved bits [23:16] of the Harvest operand of HALT ignore writes (R10, R364). -/
def keptNum (key n : Nat) : Nat := if key = 0x207007 then n - bitsOf 23 16 n * 2 ^ 16 else n

/-- One entry takes a value, with what hangs on it. -/
def State.applyEntry (s : State) (key : Nat) (v : EntryValue) : State :=
  match v with
  | .octets b =>
    if key = 0x608001 then (readRepairMap b).elim s s.commitMap
    else s.setOct key (if key = 0x402001 then routingBytes b else b)
  | .num n =>
    if key = 0x102002 then s.ackEvents n
    else if key = 0x102003 then s.writeEventMask n
    else
      let before := s.num key
      let s := s.setNum key (keptNum key n)
      if key = 0x40000A then (if s.formed then s.setReach (s.num 0x400009) else s)
      else if key = 0x801003 || key = 0x801007 then s.settleLedger
      else if key / 256 = 0x4011 then s.setPortCtrl (key % 256 - 1) n
      else if key / 256 = 0x5010 then s.setAcreMode (key % 256 - 1) before n
      else s

/-- Written entries take effect in one action (R392); new team entries are told to the neighbours (R242, R367). -/
def State.applyAll (s : State) (w : List (Nat × EntryValue)) : State :=
  let s := w.foldl (fun s e => s.applyEntry e.1 e.2) s
  if stages w [0x400001, 0x400002, 0x400003, 0x400004] then s.settlePorts.sendIdentities else s

end Sys2Proof.Machine
end

