-- ==== Sys2Proof/Machine/Requests.lean ====
section
/-! DEFINITION. Sys2Proof/Machine/Requests.lean: requests from the ring and the mirror window (R375 to R383, R387 to R393), ring frames,
event acknowledgement and MSI-X (R404). -/

namespace Sys2Proof.Machine

/-! ### Frames and answers (R377, R380, R383) -/

/-- The bytes of a request frame: header, data and CRC (R375, R377). -/
def requestBytes (r : Req) : List Byte :=
  leBytes 16 (r.reserved.toNat + r.length % 2 ^ 16 * 2 ^ 16 + r.offset.toNat * 2 ^ 32 + r.sub.toNat * 2 ^ 64 +
    r.index.toNat * 2 ^ 72 + r.seq.toNat * 2 ^ 88 + r.op.toNat * 2 ^ 96 + 2 ^ 100 + r.epoch.toNat * 2 ^ 104 +
    r.dest.toNat * 2 ^ 120) ++ r.data ++ leBytes 4 r.crc.toNat

/-- The entry that a request names. -/
def requestKey (r : Req) : Nat := r.index.toNat * 256 + r.sub.toNat

/-- The answer to a request leaves: as a response on the ring, which is kept for a retry, or in the mirror slot
(R380, R383): what a read returns takes the place of the data area and its length (DEDUCED, log entry 44). -/
def State.respond (s : State) (r : Req) (abort : Option W32) (data : List Byte) : State :=
  match r.src with
  | .master =>
    let s := s.mapCtl fun c =>
      { c with answered := (c.answered.filter fun a => a.src != r.src) ++
                 [{ src := r.src, seq := r.seq, crc := r.crc, response := data, abort := abort }] }
    (s.bump 0x101003).send (.response r abort data)
  | .mirror n =>
    let answers := r.op = 1 && abort.isNone
    s.mapCtl fun c => { c with mirror := modifyNth (fun _ =>
      { op := BitVec.ofNat 8 r.op.toNat, index := r.index, sub := r.sub, offset := r.offset
        length := if answers then data.length else r.length, result := abort.getD 0
        data := if answers then data else r.data, go := false, done := true }) c.mirror n }

/-- Whether a request's boot gate is closed (R389, R423): the device has not been Tilled since power-good or a reset, or a boot has
stopped, or a protective shutdown ended a boot. -/
def Ctl.closed (c : Ctl) : Bool :=
  (c.cur == .fallow && (!c.reachedTilled || c.stage == .stopped)) || (c.cur == .faulted && c.bootFault)

/-- The abort that the device state gives a request, before its entry is looked at (R389). -/
def State.gate (s : State) (r : Req) : Option Abort :=
  let key := requestKey r
  let reads := r.op = 1
  let verb := r.op = 3
  let c := s.ctl
  if c.closed then
    if reads && (r.index = 0x1000 || key = 0x100100) then none
    else if verb && key = 0x100201 && c.stage == .stopped then none
    else if c.cur == .faulted && (reads || (verb && (key = 0x100203 || key = 0x207001))) then none
    else some .booting
  else if c.cur == .fallow then
    if reads && (r.index = 0x1000 || r.index = 0x1001 || r.index = 0x1010 || key = 0x600001) then none
    else if verb && (key = 0x100201 || key = 0x100203 || key = 0x207001) then none
    else some .wrongState
  else none

/-- Whether a request's reserved bits refuse it: those of a ring header do (R378); those of a mirror slot are ignored when the
host writes them, so that they are 0 (R10, R383). -/
def reservedRefused (r : Req) : Bool := r.src == .master && r.reserved != 0

/-- A request that has reached the control processor (R378, R389): refused by its form or the device state, or judged by `act`, which
gives the abort or the new state with the data of the response; `after` follows the answer, and `lost` is what an abort of `act` leaves. -/
def State.execute (s : State) (r : Req) (op : BitVec 4) (act : State → Except Abort (State × List Byte))
    (after lost : State → State) : State :=
  let verb := (entryOf (requestKey r)).any fun e => e.type == .verb
  let refuse (a : Abort) : State := s.respond r (some a.code) []
  if reservedRefused r then refuse .malformed
  else match s.gate r with
    | some a => refuse a
    | none =>
      if r.op ≠ op then refuse (if r.op = 3 && !verb then .access else .malformed)
      else match act s with
        | .error a => (lost s).respond r (some a.code) []
        | .ok (s, data) => after (s.respond r none data)

/-- A request as it arrives (R375, R376, R379, R380). On the ring a closed bypass keeps it from the device; a frame for another device
passes; a repeated one gets the stored response; another epoch is stale. A mirror slot needs a configured CXL link. -/
def State.receive (s : State) (r : Req) (op : BitVec 4) (act : State → Except Abort (State × List Byte))
    (after lost : State → State) : State :=
  match r.src with
  | .mirror _ => if s.ctl.cxlUp && s.ctl.cxlConfigured then s.execute r op act after lost else s
  | .master =>
    let own := BitVec.ofNat 8 (s.num 0x101001)
    if !s.ctl.bypassOpen then s
    else
      let s := if r.dest = own && own ≠ 0 then s else s.send (.ringForward (requestBytes r))
      if own = 0 || (r.dest ≠ own && r.dest ≠ 0xFF) then s
      else match s.ctl.answered.find? fun a => a.src == r.src && a.seq == r.seq && a.crc == r.crc with
        | some a => s.respond r a.abort a.response
        | none =>
          if r.epoch = 0 || r.epoch ≠ BitVec.ofNat 8 (s.num 0x101002) then s.respond r (some Abort.epochStale.code) []
          else s.execute r op act after lost

/-- The entry that a request names, or why there is none (R405). -/
def findEntry (r : Req) : Except Abort Entry :=
  match entryOf (requestKey r) with
  | some e => .ok e
  | none => .error (if indexKnown r.index.toNat then .noSub else .noEntry)

/-! ### READ (R382, R385, R387) -/

/-- The bytes that a read asks of an OCTETS entry: its length field, or a full segment where that is 0 (DEDUCED, log entry 43). -/
def segmentLength (r : Req) : Nat := if r.length = 0 then 256 else r.length

/-- What a read returns. -/
def readEntry (r : Req) (s : State) : Except Abort (State × List Byte) :=
  match findEntry r with
  | .error a => .error a
  | .ok e =>
    let key := requestKey r
    if e.access = .wo || e.type = .verb then .error .access
    else match e.type with
      | .octets _ =>
        let b := s.readOct key
        if b.length < r.offset.toNat then .error .outOfRange
        else .ok (s, (b.drop r.offset.toNat).take (segmentLength r))
      | t =>
        if r.offset ≠ 0 then .error .malformed
        else .ok (if s.measured key then s.useFree else s, leBytes t.size (s.readNum key))

/-- The eight bytes at an offset of BAR0 (R382, R383). -/
def State.bar0 (s : State) (offset : Nat) : Nat :=
  let slot := (offset - 0x1000) / 0x400
  let within := (offset - 0x1000) % 0x400
  match offset with
  | 0x0000 => s.ctl.stateEntry
  | 0x0008 => s.num 0x205001
  | 0x0010 => s.num 0x801002
  | 0x0018 => s.num 0x102001
  | 0x0020 => s.num 0x201004
  | 0x0028 => s.cycle.toNat
  | 0x3000 => s.ctl.msixPending.toNat
  | _ =>
    if 0x1000 ≤ offset && slot < 4 then
      let m := nth {} s.ctl.mirror slot
      let control := (if m.go then 1 else 0) + (if m.done then 2 else 0) + m.op.toNat * 2 ^ 136 + m.index.toNat * 2 ^ 144 +
        m.sub.toNat * 2 ^ 160 + m.length % 2 ^ 16 * 2 ^ 176 + m.offset.toNat * 2 ^ 192 + m.result.toNat * 2 ^ 224
      leNat ((((leBytes 32 control) ++ List.replicate 224 0 ++ fit 256 m.data).drop within).take 8)
    else if 0x2000 ≤ offset && offset < 0x2080 && offset % 16 = 8 then
      (if s.ctl.msixVectorMask.getLsbD ((offset - 0x2000) / 16) then 2 ^ 32 else 0)
    else 0

/-- READ (R387), or a read of the mirror area (R382). -/
def readRequest (t : ReadTarget) (s : State) : State :=
  match t with
  | .entry r => s.receive r 1 (readEntry r) id id
  | .bar0 offset => if s.ctl.cxlUp && s.ctl.cxlConfigured then s.send (.bar0 offset (s.bar0 offset)) else s

/-! ### WRITE (R384 to R388, R390, R391) -/

/-- The value that a write gives an entry: for OCTETS a segment, which replaces what is staged or is appended to it (R388). -/
def writtenValue (e : Entry) (r : Req) (staged : Option (List Byte)) (staging : Bool) : Except Abort EntryValue :=
  match e.type with
  | .octets _ =>
    let off := r.offset.toNat
    if off = 0 then .ok (.octets r.data)
    else match staged with
      | some b => if staging && off = b.length then .ok (.octets (b ++ r.data)) else .error .outOfRange
      | none => .error .outOfRange
  | t =>
    if r.offset ≠ 0 then .error .malformed
    else if r.data.length ≠ t.size then .error .length
    else .ok (.num (leNat r.data))

/-- Whether a write of exactly 32 bytes is asked for: the nonce (R437). -/
def nonceBad (key : Nat) (v : EntryValue) : Bool :=
  match v with
  | .octets b => key == 0x901101 && b.length != 32
  | .num _ => false

/-- A transaction's staged writes with one put in (R391); none beyond its limits. -/
def stageWrite (t : Txn) (key : Nat) (v : EntryValue) : Option Txn :=
  let rest := t.staged.filter fun e => e.1 != key
  let w := rest ++ [(key, v)]
  if 256 < w.length || 262144 < w.foldl (fun n e => n + valueBytes e.1 e.2) 0 then none else some { t with staged := w }

/-- What a write does (R385, R390, R391): refused, staged in the open transaction of its source, or applied at once. -/
def writeEntry (r : Req) (s : State) : Except Abort (State × List Byte) :=
  match findEntry r with
  | .error a => .error a
  | .ok e =>
    let key := requestKey r
    if e.access = .ro || e.access = .fuse || e.type = .verb then .error .access
    else if s.txn.any fun t => t.owner != r.src then .error .txnBusy
    else if e.access = .rwt && s.txn.isNone then .error .txnRequired
    else
      let staging := s.txn.isSome && e.access != .wo
      let staged := s.txn.bind fun t => (t.staged.find? fun x => x.1 == key).bind fun x =>
        match x.2 with
        | .octets b => some b
        | .num _ => none
      match writtenValue e r staged staging with
      | .error a => .error a
      | .ok v =>
        if nonceBad key v then .error .length
        else match s.checkValue key v with
          | some a => .error a
          | none =>
            if !staging then .ok (s.applyAll [(key, v)], [])
            else match s.txn.bind fun t => stageWrite t key v with
              | some t => .ok ({ s with txn := some t }, [])
              | none => .error .txnFull

/-- WRITE (R386). -/
def writeRequest (r : Req) (s : State) : State := s.receive r 2 (writeEntry r) id id

/-- EVENT_ACK (R404): a write of event_ack. -/
def eventAck (r : Req) (s : State) : State := s.receive r 2 (writeEntry r) id id

/-- EXPORT_CURSOR_WRITE (R217, R218): a write of export_cursor. -/
def exportCursorWrite (r : Req) (s : State) : State := s.receive r 2 (writeEntry r) id id

/-! ### Transactions (R390 to R393) -/

/-- BEGIN (R390). -/
def beginTxn (r : Req) (s : State) : State :=
  s.receive r 4 (fun s => if s.txn.isSome then .error .txnBusy else .ok ({ s with txn := some { owner := r.src } }, [])) id id

/-- What a commit does: refused without its owner's open transaction or by the checks, or every staged write takes effect. -/
def commitEntry (r : Req) (s : State) : Except Abort (State × List Byte) :=
  match s.txn with
  | none => .error .noTxn
  | some t =>
    if t.owner ≠ r.src then .error .txnBusy
    else match (t.staged.findSome? fun e => s.checkValue e.1 e.2).orElse fun _ => s.crossCheck t.staged with
      | none => .ok (State.applyAll { s with txn := none } t.staged, [])
      | some a => .error a

/-- What a refused commit leaves (R392): the owner's transaction is discarded. -/
def commitLost (r : Req) (s : State) : State := if s.txn.any fun t => t.owner == r.src then { s with txn := none } else s

/-- COMMIT (R392). -/
def commitTxn (r : Req) (s : State) : State := s.receive r 5 (commitEntry r) id (commitLost r)

/-- ROLL_BACK (R393). -/
def rollBack (r : Req) (s : State) : State :=
  s.receive r 6 (fun s => match s.txn with
    | none => .error .noTxn
    | some t => if t.owner = r.src then .ok ({ s with txn := none }, []) else .error .txnBusy) id id

/-- TXN_TIMEOUT (R393). -/
def txnTimeout (s : State) : State := { s with txn := none }

/-! ### Ring frames (R375, R378, R379) -/

/-- RING_FRAME_PASS (R375, R379): a frame that is not for this device passes on, and so does every frame while it has no address; one
for it is dropped, and counted when its CRC fails. A closed bypass is a passive path. -/
def ringFramePass (f : RingFrame) (s : State) : State :=
  let own := BitVec.ofNat 8 (s.num 0x101001)
  if !s.ctl.bypassOpen then s
  else if own = 0 || f.dest ≠ own then s.send (.ringForward f.bytes)
  else if f.crcOk then s
  else s.bump 0x101004

/-- ENUMERATE (R379): the device takes the next address; epoch 0 and a full ring give none. -/
def enumerate (epoch count : BitVec 8) (s : State) : State :=
  if !s.ctl.bypassOpen then s
  else if epoch = 0 || 254 ≤ count.toNat then s.send (.enumerate epoch count)
  else ((s.setNum 0x101001 (count.toNat + 1)).setNum 0x101002 epoch.toNat).send (.enumerate epoch (count + 1))

/-! ### MSI-X (R404) -/

/-- A vector after MSI-X was written: its message leaves once its condition clears; at the enabling, every cause that event_mask lets
through counts as due. -/
def State.settleVector (s : State) (rising : Bool) (v : Nat) : State :=
  let fresh := rising && (s.num eventCause).testBit v && (s.num 0x102003).testBit v && !s.ctl.msixVectorMask.getLsbD v
  let due := fresh || s.ctl.msixPending.getLsbD v
  if due && s.ctl.vectorOpen v then
    (s.send (.msix v)).mapCtl fun c => { c with msixPending := setBit8 c.msixPending v false }
  else if due then s.mapCtl fun c => { c with msixPending := setBit8 c.msixPending v true }
  else s

/-- MSIX_ENABLE (R404). -/
def msixEnable (w : MsixWrite) (s : State) : State :=
  if !(s.ctl.cxlUp && s.ctl.cxlConfigured) then s
  else
    let rising := w.enable && !s.ctl.msixEnable
    let s := s.mapCtl fun c =>
      { c with msixEnable := w.enable, msixFunctionMask := w.functionMask, msixVectorMask := w.vectorMask }
    (List.range 8).foldl (fun s v => s.settleVector rising v) s

/-- COMPLETION_HOLDOFF_EXPIRY (R404): a completion that was held off is signalled, if its cause still stands unmasked. -/
def completionHoldoffExpiry (s : State) : State :=
  let held := s.ctl.holdoffPending && (s.num eventCause).testBit 0 && (s.num 0x102003).testBit 0
  let s := s.mapCtl fun c => { c with holdoffRunning := false, holdoffPending := false }
  if held then s.signalCompletion else s

def execRead (t : ReadTarget) (s : State) : Out := .next (readRequest t s)
def execWrite (r : Req) (s : State) : Out := .next (writeRequest r s)
def execEventAck (r : Req) (s : State) : Out := .next (eventAck r s)
def execExportCursorWrite (r : Req) (s : State) : Out := .next (exportCursorWrite r s)
def execBegin (r : Req) (s : State) : Out := .next (beginTxn r s)
def execCommit (r : Req) (s : State) : Out := .next (commitTxn r s)
def execRollBack (r : Req) (s : State) : Out := .next (rollBack r s)
def execTxnTimeout (s : State) : Out := .next (txnTimeout s)
def execRingFramePass (f : RingFrame) (s : State) : Out := .next (ringFramePass f s)
def execEnumerate (epoch count : BitVec 8) (s : State) : Out := .next (enumerate epoch count s)
def execMsixEnable (w : MsixWrite) (s : State) : Out := .next (msixEnable w s)
def execCompletionHoldoffExpiry (s : State) : Out := .next (completionHoldoffExpiry s)

end Sys2Proof.Machine
end

