-- ==== Sys2Proof/Machine/SiteTime.lean ====
section
/-! DEFINITION. Sys2Proof/Machine/SiteTime.lean: GNSS-disciplined time from the PPS input, the ring's time of day and the
management port (R296, R381, R449, R450). -/

namespace Sys2Proof.Machine

/-- One second in cycles (R12). -/
def secondCycles : Nat := 1600000000
/-- 10 µs in cycles. -/
def tenMicros : Nat := 16000

/-- Whether a span of cycles is 1 s to within 10 µs (R449). -/
def isSecond (c : Nat) : Bool := decide (secondCycles - tenMicros ≤ c) && decide (c ≤ secondCycles + tenMicros)

/-- The PTP seconds (TAI since 1970) of the GPS epoch, 1980-01-06 (PRESUMED, log entry 13). -/
def gpsEpochTai : Nat := 315964819

/-- Site time takes part in every powered state but a running boot (R424). -/
def Ctl.keepsTime (c : Ctl) : Bool := c.stage != .off && !c.booting

/-- time_state follows PPS and time of day (R296): locked while both hold; a loss starts the holdover. -/
def State.settleTime (s : State) : State :=
  let st := s.num 0x503002
  if s.time.ppsOk && s.time.todOk then
    ({ s with time := { s.time with lostAt := none } }).setNum 0x503002 1
  else if st = 1 then
    ({ s with time := { s.time with lostAt := some s.cycle } }).setNum 0x503002 2
  else s

/-- The GNSS time of an accepted edge (R381, R450): the time announced for it by the source of time_source, else the time
kept from the last edge on. -/
def State.timeAtEdge (s : State) (stamp : Cycle) : Option Nat :=
  let announced :=
    if s.num 0x503001 = 2 then (s.time.ptpSeconds.map fun x => (x - gpsEpochTai) * 1000000000) else s.time.waitingTod
  match announced with
  | some t => some t
  | none =>
    if s.time.todOk then
      s.time.lastPps.map fun p =>
        s.time.gnssAtPps + (cyclesSince stamp p + secondCycles / 2) / secondCycles * 1000000000
    else none

/-- An accepted edge (R449, R296). -/
def State.acceptEdge (s : State) (stamp : Cycle) : State :=
  let t := s.timeAtEdge stamp
  let s := { s with time := { s.time with
      lastPps := some stamp, ignored := [], ppsOk := true, waitingTod := none, ptpSeconds := none
      todOk := t.isSome, gnssAtPps := t.getD s.time.gnssAtPps } }
  s.settleTime

/-- An edge out of phase: the third of three that agree with one another is accepted; until then PPS counts as lost (R449). -/
def State.strayEdge (s : State) (stamp : Cycle) : State :=
  let agrees := match s.time.ignored with
    | b :: a :: _ => isSecond (cyclesSince stamp b) && isSecond (cyclesSince b a)
    | _ => false
  if agrees then s.acceptEdge stamp
  else ({ s with time := { s.time with ignored := (stamp :: s.time.ignored).take 2, ppsOk := false } }).settleTime

/-- PPS_EDGE (R449): a pulse high for 1 µs to 500 ms whose edge falls 1 s after the last accepted edge, or the first edge. -/
def ppsEdge (stamp : Cycle) (highNs : Nat) (s : State) : State :=
  if !s.ctl.keepsTime then s
  else
    let s := s.upTo stamp
    if highNs < 1000 || 500000000 < highNs then s
    else match s.time.lastPps with
      | none => s.acceptEdge stamp
      | some p => if isSecond (cyclesSince stamp p) then s.acceptEdge stamp else s.strayEdge stamp

/-- PPS_LOST (R296): no edge came; the holdover starts. -/
def ppsLost (s : State) : State :=
  if s.ctl.keepsTime then ({ s with time := { s.time with ppsOk := false } }).settleTime else s

/-- TIME_OF_DAY (R381): the broadcast is passed on; it is taken with time_source 0x01 when it arrives between 100 ms and 900 ms
after a PPS edge. -/
def timeOfDay (arrival : Cycle) (ns : Nat) (s : State) : State :=
  let s := if s.ctl.bypassOpen then s.send (.timeOfDay ns) else s
  if s.ctl.keepsTime && s.ctl.bypassOpen && s.num 0x503001 == 1 then
    match s.time.lastPps with
    | some p =>
      let c := cyclesSince arrival p
      if cyclesOfMs 100 ≤ c && c ≤ cyclesOfMs 900 then { s with time := { s.time with waitingTod := some ns } } else s
    | none => s
  else s

/-- PTP_MESSAGE (R450): Announce, Sync or Follow_Up (kinds 0, 1, 2) of domain 0 over a supported transport from the selected
master, with time_source 0x02: the seconds hold for the next PPS edge. -/
def ptpMessage (m : PtpMessage) (s : State) : State :=
  if s.ctl.keepsTime && s.num 0x503001 == 2 && s.time.mgmtUp && m.kind < 3 && m.domainNumber == 0 && m.transportOk &&
      m.fromSelectedMaster then
    { s with time := { s.time with ptpSeconds := some m.seconds } }
  else s

/-- MANAGEMENT_LINK_CHANGE (R454): a link down with time_source 0x02 is a loss of time of day. -/
def managementLinkChange (up : Bool) (s : State) : State :=
  let s := { s with time := { s.time with mgmtUp := up } }
  if !up && s.num 0x503001 == 2 && s.ctl.keepsTime then
    ({ s with time := { s.time with todOk := false, ptpSeconds := none } }).settleTime
  else s

/-- HOLDOVER_EXPIRY (R296): holdover_limit has passed since the loss; there is no time any more. -/
def holdoverExpiry (s : State) : State :=
  if s.num 0x503002 = 2 then
    let s := s.time.lostAt.elim s fun c => s.upTo (c + BitVec.ofNat 64 (s.num 0x503004 * secondCycles))
    ({ s with time := { s.time with todOk := false, lostAt := none } }).setNum 0x503002 0
  else s

def execPpsEdge (stamp : Cycle) (highNs : Nat) (s : State) : Out := .next (ppsEdge stamp highNs s)
def execPpsLost (s : State) : Out := .next (ppsLost s)
def execTimeOfDay (arrival : Cycle) (ns : Nat) (s : State) : Out := .next (timeOfDay arrival ns s)
def execPtpMessage (m : PtpMessage) (s : State) : Out := .next (ptpMessage m s)
def execManagementLinkChange (up : Bool) (s : State) : Out := .next (managementLinkChange up s)
def execHoldoverExpiry (s : State) : Out := .next (holdoverExpiry s)

end Sys2Proof.Machine
end

