-- ==== Sys2Proof/Machine/Verbs.lean ====
section
/-! DEFINITION. Sys2Proof/Machine/Verbs.lean: the verbs of R394 and the events that report their effects. -/

namespace Sys2Proof.Machine

/-- The operand of a verb (R378). -/
def verbOperand (r : Req) : Nat := leNat r.data

/-- A verb with its operand (R389, R394): refused by its form, by the device state or by its operand, or answered and then acted on. -/
def State.takeVerb (s : State) (r : Req) (accepted : DevState → Bool) (operandOk : Nat → Bool) 
    (effect : Nat → State → State) : State :=
  s.receive r 3
    (fun s =>
      if r.offset ≠ 0 then .error .malformed
      else if 8 < r.data.length then .error .length
      else if !accepted s.ctl.cur then .error .wrongState
      else if !operandOk (verbOperand r) then .error .outOfRange
      else .ok (s, []))
    (effect (verbOperand r)) id

/-- Accepted in every state. -/
def everyState (_ : DevState) : Bool := true

/-- Accepted in Tilled. -/
def tilledOnly (d : DevState) : Bool := d == .tilled

/-- Any operand. -/
def anyOperand (_ : Nat) : Bool := true

/-- The Wake verb acts from Fallow, asleep or after a boot that stopped (R31, R389, R394). -/
def State.wakeUp (s : State) : State :=
  if s.ctl.cur == .fallow && (s.ctl.stage == .asleep || s.ctl.stage == .stopped) then
    (s.mapCtl fun c => { c with wakeRunning := true }).beginBoot
  else s

/-- WAKE (R394). -/
def wake (r : Req) (s : State) : State := s.takeVerb r everyState anyOperand fun _ s => s.wakeUp

/-- FALLOW (R394). -/
def fallow (r : Req) (s : State) : State := s.takeVerb r tilledOnly anyOperand fun _ s => s.enterFallow

/-- RESET (R394): a device reset after the response; in Fallow no effect. -/
def resetVerb (r : Req) (s : State) : State :=
  s.takeVerb r everyState anyOperand fun _ s => if s.ctl.cur == .fallow then s else s.deviceReset

/-- HARVEST (R32, R364, R365). -/
def harvest (r : Req) (s : State) : State :=
  s.takeVerb r everyState (fun v => bitsOf 31 24 v ≤ 2) fun v s => s.takeHarvest v

/-- FORM (R242). -/
def form (r : Req) (s : State) : State := s.takeVerb r tilledOnly anyOperand fun _ s => s.beginForming

/-! ### The Gleaner (R359, R360, R431) -/

/-- The domains that an operand of the Glean verb selects, ascending (R359). -/
def gleanSelected (v : Nat) : List Nat := if v = 0 then gleanDomains else gleanDomains.filter fun d => v.testBit (d - 1)

/-- Whether the pattern set in flash verifies (R431, R429, R454). -/
def State.patternsOk (s : State) : Bool :=
  !s.ctl.flashOwn && s.flash.patterns.any fun i => i.imageType == 4 && imageOk s.fuses i

/-- The Gleaner's sweep begins (R359, R360, R367): a save holder discards its streams, the selected results read untested, and a
pattern set that does not verify ends the sweep at once (R431). -/
def State.startSweep (s : State) (v : Nat) : State :=
  let ds := gleanSelected v
  let s : State := { s with host := { s.host with held := [] } }
  let s := (ds.foldl (fun s d => s.setNum (0x607100 + d) 0) s).restIn .gleaning
  if s.patternsOk then (s.mapRecovery fun c => { c with gleanLeft := ds, gleanStop := false }).nextGlean else s.endGlean

/-- GLEAN (R359). -/
def glean (r : Req) (s : State) : State :=
  s.takeVerb r tilledOnly (fun v => v ||| gleanMask == gleanMask) fun v s => s.startSweep v

/-! ### Attestation (R436) -/

/-- ATTEST (R436): the report over the nonce and the present measurements is being made. -/
def attest (r : Req) (s : State) : State :=
  s.takeVerb r (fun d => d != .fallow) anyOperand fun _ s =>
    let nonce := fit 32 (s.oct 0x901101)
    { s with sec := { s.sec with attestNonce := some nonce, attestSnapshot := s.signedReport nonce } }

/-- ATTEST_REPORT_READY (R436, R437): the report and its signature are ready. -/
def attestReportReady (s : State) : State :=
  if s.sec.attestNonce.isNone then s
  else
    let s := (s.setOct 0x901103 s.sec.attestSnapshot).bump 0x901104
    { s with sec := { s.sec with attestNonce := none, attestSnapshot := [] } }

/-! ### Firmware (R429, R431, R432) -/

/-- Whether an image set is well formed (R431, R432): a slot's images, which are one of each of types 1 to 3 with one interface, a
pattern set, or both, and nothing else (DESIGN CHOICE, log entry 157). -/
def imageSetOk (images : List FwImage) : Bool :=
  let slot := images.filter fun i => !isPattern i
  (images.filter isPattern).length ≤ 1 && images.all (fun i => 1 ≤ i.imageType && i.imageType ≤ 4) &&
    (if slot.isEmpty then !images.isEmpty
     else match oneImage slot 1, oneImage slot 2, oneImage slot 3 with
      | some a, some b, some c => a.fwInterface == b.fwInterface && b.fwInterface == c.fwInterface
      | _, _, _ => false)

/-- The status of an image set that is being taken (R432); a payload whose digest differs counts as a failed signature check (DESIGN
CHOICE, log entry 157). -/
def fwStatus (f : Fuses) (images : List FwImage) : Nat :=
  if !imageSetOk images then 0x00670004
  else if !images.all fun i => imageOk { f with fwRollback := 0 } i then 0x00670002
  else if images.any fun i => i.rollbackIndex < f.fwRollback then 0x00670003
  else 0x00670001

/-- FW_UPDATE (R431): the set at the operand's window address is verified, and a flash write of one that verifies begins. -/
def fwUpdate (r : Req) (s : State) : State :=
  s.takeVerb r tilledOnly anyOperand fun v s =>
    if s.sec.fwWriting.isSome then s
    else if s.ctl.flashOwn then s.setNum 0x903002 0x00670005
    else
      let images := (s.imageSetAt v).getD []
      let status := fwStatus s.fuses images
      let s := s.setNum 0x903002 status
      if status = 0x00670001 then { s with sec := { s.sec with fwWriting := some images } } else s

/-- FW_UPDATE_DONE (R431). -/
def fwUpdateDone (writeOk : Bool) (s : State) : State := s.endFwWrite (writeOk && !s.ctl.flashOwn)

/-- ROLLBACK_COMMIT (R432): fw_rollback rises to the rollback_index of the control firmware in force, and never falls. -/
def rollbackCommit (r : Req) (s : State) : State :=
  s.takeVerb r tilledOnly anyOperand fun _ s =>
    match oneImage s.sec.images 1 with
    | some i => { s with fuses := { s.fuses with fwRollback := max s.fuses.fwRollback i.rollbackIndex } }
    | none => s

def execWake (r : Req) (s : State) : Out := .next (wake r s)
def execFallow (r : Req) (s : State) : Out := .next (fallow r s)
def execReset (r : Req) (s : State) : Out := .next (resetVerb r s)
def execHarvest (r : Req) (s : State) : Out := .next (harvest r s)
def execForm (r : Req) (s : State) : Out := .next (form r s)
def execGlean (r : Req) (s : State) : Out := .next (glean r s)
def execAttest (r : Req) (s : State) : Out := .next (attest r s)
def execAttestReportReady (s : State) : Out := .next (attestReportReady s)
def execFwUpdate (r : Req) (s : State) : Out := .next (fwUpdate r s)
def execFwUpdateDone (writeOk : Bool) (s : State) : Out := .next (fwUpdateDone writeOk s)
def execRollbackCommit (r : Req) (s : State) : Out := .next (rollbackCommit r s)

end Sys2Proof.Machine
end

