-- ==== Sys2Proof/Machine/Dispatch.lean ====
section
/-! DEFINITION. Sys2Proof/Machine/Dispatch.lean: one arm per command, each a direct call of its meaning. -/

namespace Sys2Proof.Machine

def exec (i : Instr) (s : State) : Host.Outcome State Fault Refusal :=
  match i with
  | .powerGood => Sys2Proof.Machine.execPowerGood s
  | .powerGoodDeasserted => Sys2Proof.Machine.execPowerGoodDeasserted s
  | .resetInReleased => Sys2Proof.Machine.execResetInReleased s
  | .cxlConventionalReset linkDown => Sys2Proof.Machine.execCxlConventionalReset linkDown s
  | .functionLevelReset => Sys2Proof.Machine.execFunctionLevelReset s
  | .flashOwnChange level => Sys2Proof.Machine.execFlashOwnChange level s
  | .monitorTrip m => Sys2Proof.Machine.execMonitorTrip m s
  | .watchdogExpiry => Sys2Proof.Machine.execWatchdogExpiry s
  | .ppsEdge stamp highNs => Sys2Proof.Machine.execPpsEdge stamp highNs s
  | .ptpMessage m => Sys2Proof.Machine.execPtpMessage m s
  | .fuseReadDone => Sys2Proof.Machine.execFuseReadDone s
  | .firmwareVerify => Sys2Proof.Machine.execFirmwareVerify s
  | .cxlConfigReady => Sys2Proof.Machine.execCxlConfigReady s
  | .hbmTrainingDone => Sys2Proof.Machine.execHbmTrainingDone s
  | .startUpSelfTest secondGroup failing mends => Sys2Proof.Machine.execStartUpSelfTest secondGroup failing mends s
  | .bootComplete => Sys2Proof.Machine.execBootComplete s
  | .ringFramePass f => Sys2Proof.Machine.execRingFramePass f s
  | .bypassChange opens => Sys2Proof.Machine.execBypassChange opens s
  | .joinNoticeResend => Sys2Proof.Machine.execJoinNoticeResend s
  | .enumerate epoch count => Sys2Proof.Machine.execEnumerate epoch count s
  | .timeOfDay arrival ns => Sys2Proof.Machine.execTimeOfDay arrival ns s
  | .read t => Sys2Proof.Machine.execRead t s
  | .write r => Sys2Proof.Machine.execWrite r s
  | .begin_ r => Sys2Proof.Machine.execBegin r s
  | .commit r => Sys2Proof.Machine.execCommit r s
  | .rollBack r => Sys2Proof.Machine.execRollBack r s
  | .txnTimeout => Sys2Proof.Machine.execTxnTimeout s
  | .eventAck r => Sys2Proof.Machine.execEventAck r s
  | .exportCursorWrite r => Sys2Proof.Machine.execExportCursorWrite r s
  | .msixEnable w => Sys2Proof.Machine.execMsixEnable w s
  | .completionHoldoffExpiry => Sys2Proof.Machine.execCompletionHoldoffExpiry s
  | .wake r => Sys2Proof.Machine.execWake r s
  | .fallow r => Sys2Proof.Machine.execFallow r s
  | .reset r => Sys2Proof.Machine.execReset r s
  | .harvest r => Sys2Proof.Machine.execHarvest r s
  | .form r => Sys2Proof.Machine.execForm r s
  | .glean r => Sys2Proof.Machine.execGlean r s
  | .attest r => Sys2Proof.Machine.execAttest r s
  | .attestReportReady => Sys2Proof.Machine.execAttestReportReady s
  | .fwUpdate r => Sys2Proof.Machine.execFwUpdate r s
  | .fwUpdateDone writeOk => Sys2Proof.Machine.execFwUpdateDone writeOk s
  | .rollbackCommit r => Sys2Proof.Machine.execRollbackCommit r s
  | .idleTimeout => Sys2Proof.Machine.execIdleTimeout s
  | .sweepIntervalExpiry w keysAgree => Sys2Proof.Machine.execSweepIntervalExpiry w keysAgree s
  | .load r w => Sys2Proof.Machine.execLoad r w s
  | .start r keysAgree => Sys2Proof.Machine.execStart r keysAgree s
  | .step r => Sys2Proof.Machine.execStep r s
  | .batch r => Sys2Proof.Machine.execBatch r s
  | .evaluation r => Sys2Proof.Machine.execEvaluation r s
  | .drill r w => Sys2Proof.Machine.execDrill r w s
  | .switch r => Sys2Proof.Machine.execSwitch r s
  | .nop plot => Sys2Proof.Machine.execNop plot s
  | .waitTile plot t seasonTile => Sys2Proof.Machine.execWaitTile plot t seasonTile s
  | .waitTileRelease plot => Sys2Proof.Machine.execWaitTileRelease plot s
  | .waitToken plot token count => Sys2Proof.Machine.execWaitToken plot token count s
  | .waitTokenRelease plot => Sys2Proof.Machine.execWaitTokenRelease plot s
  | .waitCycle plot d => Sys2Proof.Machine.execWaitCycle plot d s
  | .waitCycleRelease plot => Sys2Proof.Machine.execWaitCycleRelease plot s
  | .loop plot count endOffset => Sys2Proof.Machine.execLoop plot count endOffset s
  | .stepMark plot k => Sys2Proof.Machine.execStepMark plot k s
  | .sealWait plot => Sys2Proof.Machine.execSealWait plot s
  | .halt plot => Sys2Proof.Machine.execHalt plot s
  | .waitTimeout plot => Sys2Proof.Machine.execWaitTimeout plot s
  | .furrowIssue plot d => Sys2Proof.Machine.execFurrowIssue plot d s
  | .headlandScanDone plot => Sys2Proof.Machine.execHeadlandScanDone plot s
  | .maximaRecord plot t => Sys2Proof.Machine.execMaximaRecord plot t s
  | .furrowPass plot checksumOk => Sys2Proof.Machine.execFurrowPass plot checksumOk s
  | .passOverflow plot => Sys2Proof.Machine.execPassOverflow plot s
  | .spill plot => Sys2Proof.Machine.execSpill plot s
  | .furrowReady plot => Sys2Proof.Machine.execFurrowReady plot s
  | .chainIssue plot d => Sys2Proof.Machine.execChainIssue plot d s
  | .chainDone plot => Sys2Proof.Machine.execChainDone plot s
  | .fullWidthIssue plot d => Sys2Proof.Machine.execFullWidthIssue plot d s
  | .frameRecord plot t => Sys2Proof.Machine.execFrameRecord plot t s
  | .move plot d => Sys2Proof.Machine.execMove plot d s
  | .tineStart plot tine descs => Sys2Proof.Machine.execTineStart plot tine descs s
  | .tineStop plot tine => Sys2Proof.Machine.execTineStop plot tine s
  | .regionRelease plot region => Sys2Proof.Machine.execRegionRelease plot region s
  | .tineNop plot tine => Sys2Proof.Machine.execTineNop plot tine s
  | .tineLoad plot tine => Sys2Proof.Machine.execTineLoad plot tine s
  | .tineStore plot tine => Sys2Proof.Machine.execTineStore plot tine s
  | .tineMark plot tine => Sys2Proof.Machine.execTineMark plot tine s
  | .tineEnd plot tine => Sys2Proof.Machine.execTineEnd plot tine s
  | .tineRequestIssue plot tine => Sys2Proof.Machine.execTineRequestIssue plot tine s
  | .tineDataReturn plot tine ecc => Sys2Proof.Machine.execTineDataReturn plot tine ecc s
  | .storeAck plot tine => Sys2Proof.Machine.execStoreAck plot tine s
  | .tokenSignal plot token => Sys2Proof.Machine.execTokenSignal plot token s
  | .tierMoveDone region content checkOk => Sys2Proof.Machine.execTierMoveDone region content checkOk s
  | .tierTimeout => Sys2Proof.Machine.execTierTimeout s
  | .barrierArrive plot barrier => Sys2Proof.Machine.execBarrierArrive plot barrier s
  | .sealArrive plot gate => Sys2Proof.Machine.execSealArrive plot gate s
  | .ledgerMark plot => Sys2Proof.Machine.execLedgerMark plot s
  | .earlyAbort rank r => Sys2Proof.Machine.execEarlyAbort rank r s
  | .earlyAbortWindowExpiry => Sys2Proof.Machine.execEarlyAbortWindowExpiry s
  | .barrierArrivalMessage fromPort m => Sys2Proof.Machine.execBarrierArrivalMessage fromPort m s
  | .barrierTimeout barrier => Sys2Proof.Machine.execBarrierTimeout barrier s
  | .releaseMessage m => Sys2Proof.Machine.execReleaseMessage m s
  | .sealRelease => Sys2Proof.Machine.execSealRelease s
  | .gateRelease => Sys2Proof.Machine.execGateRelease s
  | .rollbackRelease => Sys2Proof.Machine.execRollbackRelease s
  | .undoComplete => Sys2Proof.Machine.execUndoComplete s
  | .hbmTimeout => Sys2Proof.Machine.execHbmTimeout s
  | .restart => Sys2Proof.Machine.execRestart s
  | .portTrainingDone port ok partnerReady => Sys2Proof.Machine.execPortTrainingDone port ok partnerReady s
  | .trainingRetry port => Sys2Proof.Machine.execTrainingRetry port s
  | .readyQuery port arrives => Sys2Proof.Machine.execReadyQuery port arrives s
  | .notReadyReceived port => Sys2Proof.Machine.execNotReadyReceived port s
  | .portDown port => Sys2Proof.Machine.execPortDown port s
  | .identityExchange port identity => Sys2Proof.Machine.execIdentityExchange port identity s
  | .formTimeout => Sys2Proof.Machine.execFormTimeout s
  | .boutStart => Sys2Proof.Machine.execBoutStart s
  | .slotPositionStart port slot => Sys2Proof.Machine.execSlotPositionStart port slot s
  | .slotFrameReceive port f => Sys2Proof.Machine.execSlotFrameReceive port f s
  | .ackWord port w => Sys2Proof.Machine.execAckWord port w s
  | .bestEffortFrame port h f => Sys2Proof.Machine.execBestEffortFrame port h f s
  | .timeWord port t => Sys2Proof.Machine.execTimeWord port t s
  | .heartbeatReceive port h => Sys2Proof.Machine.execHeartbeatReceive port h s
  | .leadSilence => Sys2Proof.Machine.execLeadSilence s
  | .leadTakeover => Sys2Proof.Machine.execLeadTakeover s
  | .linkWaitExpiry lostRank => Sys2Proof.Machine.execLinkWaitExpiry lostRank s
  | .baleChunk h bytes => Sys2Proof.Machine.execBaleChunk h bytes s
  | .stripeAck h sample => Sys2Proof.Machine.execStripeAck h sample s
  | .stripeNack h missing => Sys2Proof.Machine.execStripeNack h missing s
  | .nackTimer team rank objectId stripe => Sys2Proof.Machine.execNackTimer team rank objectId stripe s
  | .rosterChunk h bytes signatureOk => Sys2Proof.Machine.execRosterChunk h bytes signatureOk s
  | .anchorChunk h bytes season => Sys2Proof.Machine.execAnchorChunk h bytes season s
  | .fetchRequest h => Sys2Proof.Machine.execFetchRequest h s
  | .keyAgreement k => Sys2Proof.Machine.execKeyAgreement k s
  | .probe h => Sys2Proof.Machine.execProbe h s
  | .probeEcho h sample => Sys2Proof.Machine.execProbeEcho h sample s
  | .pacingProbe session => Sys2Proof.Machine.execPacingProbe session s
  | .keyEpochChange session => Sys2Proof.Machine.execKeyEpochChange session s
  | .oldKeyErase session => Sys2Proof.Machine.execOldKeyErase session s
  | .winnowPassOne => Sys2Proof.Machine.execWinnowPassOne s
  | .winnowPassTwo => Sys2Proof.Machine.execWinnowPassTwo s
  | .seasonDeadline now => Sys2Proof.Machine.execSeasonDeadline now s
  | .successorPublish now => Sys2Proof.Machine.execSuccessorPublish now s
  | .rosterWaitExpiry now => Sys2Proof.Machine.execRosterWaitExpiry now s
  | .commitModeChoice => Sys2Proof.Machine.execCommitModeChoice s
  | .seasonTileWrite => Sys2Proof.Machine.execSeasonTileWrite s
  | .holdoverExpiry => Sys2Proof.Machine.execHoldoverExpiry s
  | .patrolRead store ecc => Sys2Proof.Machine.execPatrolRead store ecc s
  | .repairServe port source tensorId shard blockOffset => Sys2Proof.Machine.execRepairServe port source tensorId shard blockOffset s
  | .repairReply tensorId shard blockOffset t => Sys2Proof.Machine.execRepairReply tensorId shard blockOffset t s
  | .gleanSegment => Sys2Proof.Machine.execGleanSegment s
  | .gleanDomainDone r => Sys2Proof.Machine.execGleanDomainDone r s
  | .harvestControlWord rank deadline save ledgerHoldMs => Sys2Proof.Machine.execHarvestControlWord rank deadline save ledgerHoldMs s
  | .latestStopMessage t deadline save ledgerHoldMs => Sys2Proof.Machine.execLatestStopMessage t deadline save ledgerHoldMs s
  | .latestStop => Sys2Proof.Machine.execLatestStop s
  | .saveDone => Sys2Proof.Machine.execSaveDone s
  | .saveCutoff => Sys2Proof.Machine.execSaveCutoff s
  | .saveFrameReceive port offset bytes => Sys2Proof.Machine.execSaveFrameReceive port offset bytes s
  | .ledgerHoldExpiry => Sys2Proof.Machine.execLedgerHoldExpiry s
  | .scrubDone => Sys2Proof.Machine.execScrubDone s
  | .yokeSample watts => Sys2Proof.Machine.execYokeSample watts s
  | .governorWindow => Sys2Proof.Machine.execGovernorWindow s
  | .drillChunk c => Sys2Proof.Machine.execDrillChunk c s
  | .drillComplete copy => Sys2Proof.Machine.execDrillComplete copy s
  | .drillLineTimeout copy => Sys2Proof.Machine.execDrillLineTimeout copy s
  | .resetInAsserted => Sys2Proof.Machine.execResetInAsserted s
  | .ppsLost => Sys2Proof.Machine.execPpsLost s
  | .managementLinkChange up => Sys2Proof.Machine.execManagementLinkChange up s
  | .acrePortLinkChange port up training => Sys2Proof.Machine.execAcrePortLinkChange port up training s
  | .mergeSumWritten => Sys2Proof.Machine.execMergeSumWritten s
  | .repairPeerTimeout => Sys2Proof.Machine.execRepairPeerTimeout s

end Sys2Proof.Machine
end

