-- ==== Sys2Proof/Safety.lean ====
section
/-! DEFINITION. Sys2Proof/Safety.lean: what counts as a safe outcome, in the terms that claims use. -/

namespace Sys2Proof

open Machine

/-- A command completes: it answers a next state, no fault and no refusal. -/
def Completes (i : Instr) (s : State) : Prop := ∃ t, exec i s = .next t

/-- A step keeps a property of states. -/
def StepKeeps (P : State → Prop) : Prop := ∀ s t, P s → step s = .next t → P t

/-- The canonical form of the dictionary's stored values and of every addressed memory: keys strictly rising, and nothing listed
that equals what an unlisted key reads as. -/
def Canonical (s : State) : Prop :=
  SMap.wfBy dfltNum s.nums = true ∧ SMap.wfBy dfltOct s.octs = true ∧ Memory.wf s.host.window = true ∧
    Memory.wf s.host.tier = true ∧ Memory.wf s.host.holder = true ∧ Memory.wf s.host.held = true

/-- A request has come to the control processor for the first time (R375, R376, R379, R380, R383): through a mirror slot of a
configured CXL port, or on the ring with the device's address or the broadcast address, the present epoch and no stored answer. -/
def Asked (s : State) (r : Req) : Prop :=
  match r.src with
  | .mirror n => n < s.ctl.mirror.length ∧ s.ctl.cxlUp = true ∧ s.ctl.cxlConfigured = true
  | .master =>
    let own := BitVec.ofNat 8 (s.num 0x101001)
    s.ctl.bypassOpen = true ∧ own ≠ 0 ∧ (r.dest = own ∨ r.dest = 0xFF) ∧ r.epoch ≠ 0 ∧
      r.epoch = BitVec.ofNat 8 (s.num 0x101002) ∧
      (s.ctl.answered.find? fun a => a.src == r.src && a.seq == r.seq && a.crc == r.crc) = none

/-- A request is answered, with an abort code or with the data of its response: on the ring the response leaves, in a mirror slot
the result stands with done set (R378, R383). -/
def HasAnswer (r : Req) (abort : Option W32) (data : List Byte) (t : State) : Prop :=
  match r.src with
  | .master => OutMsg.response r abort data ∈ t.outbox
  | .mirror n =>
    let m := nth {} t.ctl.mirror n
    m.done = true ∧ m.go = false ∧ m.result = abort.getD 0 ∧ (r.op = 1 → abort = none → m.data = data)

/-- A verb has come to the control processor, in a state whose gate lets it pass, with no more than eight bytes of operand (R378,
R389). -/
def VerbAsked (s : State) (r : Req) : Prop :=
  Asked s r ∧ r.reserved = 0 ∧ s.gate r = none ∧ r.op = 3 ∧ r.offset = 0 ∧ r.data.length ≤ 8

/-- What answering a request may touch (R224, R380, R383, R404): the stored answers, mirror slots and signals of the always-on
domain, what leaves the device, and the count of the requests that the ring brought. -/
def OnlyAnswers (s t : State) : Prop :=
  t = { s with ctl := t.ctl, outbox := t.outbox, nums := t.nums, freeCount := t.freeCount } ∧
    t.ctl.cur = s.ctl.cur ∧ t.ctl.tgt = s.ctl.tgt ∧ ∀ k, k ≠ 0x101003 → t.num k = s.num k

/-- A plot at work on the step after the sealed one, in a training job without an evaluation, on a device that has not arrived at
the seal and has met no earlier fault of the attempt (R142, R146, R168, R192). -/
def AtWork (s : State) (p : Nat) (pl : Plot) (j : Job) : Prop :=
  s.jobRuns = true ∧ s.plotAt p = some pl ∧ pl.stopped = false ∧ pl.arrived = false ∧ s.job = some j ∧
    j.binary.serving = false ∧ j.evalRunning = none ∧ j.attempt.fault = none ∧ j.attempt.arrived = false

/-- A finished tile stands at a place of a plot: in a region with its ready bit, in a tile buffer its bytes (R103, R129, R130). -/
def Written (t : State) (p : Nat) (pl : Plot) (l : Loc) (x : Tile) : Prop :=
  match l with
  | .buffer i n => (t.plotAt p).map (·.buffers) = some (writeBuffer i n x.payload pl).buffers
  | l => (t.regionAt p l).ready = true ∧ (t.regionAt p l).tile = x

/-- The attempt of the current step has met its first fault on this device (R167, R168, R187): counted under its kind, signed with the
plot, this device's rank, the bundle, the region and the step, and reported; nothing but the attempt, the counter, the plots, the
count, the suspects and what carries the report has changed. -/
def FirstFault (s t : State) (plot kind bundle region : Nat) : Prop :=
  (t.job.bind fun j => j.attempt.fault) = some (kindClass kind,
    { kind := BitVec.ofNat 8 kind, plot := BitVec.ofNat 16 plot, rank := BitVec.ofNat 16 s.rank
      bundle := BitVec.ofNat 16 bundle, region := BitVec.ofNat 16 region
      stepLo := BitVec.ofNat 32 (s.num 0x205001 + 1) }) ∧
    t.num (kindCounter kind) = min (s.num (kindCounter kind) + 1) (2 ^ 32 - 1) ∧
    (∀ k, k ≠ kindCounter kind → t.num k = s.num k) ∧
    t = { s with nums := t.nums, job := t.job, plots := t.plots, fabric := t.fabric, outbox := t.outbox, cycle := t.cycle,
                 recovery := t.recovery }

/-- A training job at work, no evaluation running and none waiting, and nothing that a boundary would start besides: no season, no HALT
reached, no Harvest and no record pending in the Hopper table (R34, R203, R298, R365, R463). -/
def QuietTraining (s : State) (j : Job) : Prop :=
  s.job = some j ∧ j.binary.serving = false ∧ j.evalRunning = none ∧ j.evalPending = [] ∧ j.evalQueue = [] ∧ j.batches = [] ∧
    j.running = true ∧ j.haltRecord = none ∧ s.harvest = none ∧ s.num 0x500001 = 0 ∧ s.held = false ∧
    ∀ k, (SMap.get ({} : Slot) s.hopper k).state ≠ 1

/-- The record of a ticket has completed with a status (R403). -/
def Completed (t : State) (ticket : W64) (status : Nat) : Prop :=
  let v := SMap.get ({} : Slot) t.hopper (slotOfTicket ticket)
  v.state = 3 ∧ bitsOf 31 0 v.body.toNat = status

/-- The slot of a record that the host posts for the next ticket (R397). -/
def posted (s : State) (kind : Nat) (r : RecordIn) : Slot :=
  let v : Slot := { userTag := r.userTag, ticket := BitVec.ofNat 64 (s.num 0x201004), kind := BitVec.ofNat 8 kind, state := 1
                    body := r.body }
  { v with check := slotCheck v }

/-- The state after a posted record was taken and before it acts (R398): its slot reads 0x02 and next_ticket has risen. -/
def taken (s : State) (kind : Nat) (r : RecordIn) : State :=
  { s with hopper := SMap.set {} s.hopper ((s.num 0x201004 - 1) % 4096) { posted s kind r with state := 2 } }.setNum 0x201004
    (s.num 0x201004 + 1)

/-- Records may be taken (R34, R396): the device sweeps, and the next ticket is a 64-bit number above 0. -/
def MayTake (s : State) : Prop := s.sweeps = true ∧ 0 < s.num 0x201004 ∧ s.num 0x201004 < 2 ^ 64 - 1

/-- An Acre datagram is let in on a session (R287, R288, R291): a port is up, the sender has that session, the checks hold, its type is
not reserved, and its epoch is the session's. -/
def LetIn (s : State) (h : AcreHeader) (i : Nat) : Prop :=
  s.acrePort.isSome = true ∧ s.sessionWith h.senderTeam.toNat h.senderRank.toNat = some i ∧ h.intact = true ∧
    1 ≤ h.type.toNat ∧ h.type.toNat ≤ 9 ∧ h.epoch.toNat = (s.sessionAt i).recvEpoch

/-- A session may send (R287, R291): a port is up, and its counter has not reached its last value. -/
def MaySend (s : State) (i : Nat) : Prop :=
  s.acrePort.isSome = true ∧ i < s.acre.sessions.length ∧ (s.sessionAt i).sendCounter + 1 < 2 ^ 32

/-- A datagram stands among what left the device, to a session's peer, under the session's epoch and next counter, sealed with the
epoch's key (R288, R290, R291). -/
def DatagramLeft (s t : State) (i : Nat) (h : AcreHeader) (payload : List Byte) : Prop :=
  let x := s.sessionAt i
  let full : AcreHeader := { h with
    epoch := BitVec.ofNat 32 x.sendEpoch, counter := BitVec.ofNat 32 x.sendCounter, senderRank := BitVec.ofNat 32 s.rank
    senderTeam := BitVec.ofNat 16 (s.num 0x500002), length := payload.length, intact := true }
  ∃ p, s.acrePort = some p ∧
    OutMsg.acre (s.udpPath p x.peerTeam x.endpoint) x.peerTeam x.peerRank full
      (Config.gcmSeal (epochKey x.secret x.sendEpoch x.initiator) (acreNonce full) (acreHeaderBytes full) payload) ∈ t.outbox

/-- A datagram, and nothing else, has left on a session: its counter has risen by one (R291). -/
def DatagramSent (s t : State) (i : Nat) (h : AcreHeader) (payload : List Byte) : Prop :=
  DatagramLeft s t i h payload ∧ (t.sessionAt i).sendCounter = (s.sessionAt i).sendCounter + 1

end Sys2Proof
end

