-- ==== Sys2Proof/Certificates/Slice0/Obligations.lean ====
section
/-! DEFINITION. Sys2Proof/Certificates/Slice0/Obligations.lean: the statements for the provers. A statement over several rules is the
conjunction of claims, each with its rules in its docstring. -/

open Sys2Proof Sys2Proof.Machine

/-- A step takes the command at the front of the queue: it is `exec` of that command on the state with the rest of the queue. -/
def Claims.StepRunsFront : Prop :=
  ∀ (c : Instr) (rest : List Instr) (s : State), s.pending = c :: rest → step s = exec c { s with pending := rest }

/-- On an empty queue a step is one cycle of the arithmetic clock: the team cycle count rises by one, unless the slew withholds
the increment (R246); nothing else changes. That the idle step is one cycle is the model's choice (log entry 14). -/
def Claims.EmptyQueueCountsOneCycle : Prop :=
  ∀ s : State, s.pending = [] →
    (s.fabric.withhold = false → step s = .next { s with cycle := s.cycle + 1 }) ∧
    (s.fabric.withhold = true → step s = .next { s with fabric := { s.fabric with withhold := false } })

/-- A step runs the command at the front of the queue; on an empty queue it is one cycle of the clock. -/
def Obligations.StepRunsFront : Prop :=
  Claims.StepRunsFront ∧ Claims.EmptyQueueCountsOneCycle

/-- Every command completes in every state: none stops the machine, and none is refused. What a breach of a "must" that the manual
neither refuses nor catches leaves is a free value (R4). -/
def Obligations.EveryCommandCompletes : Prop := ∀ (c : Instr) (s : State), Completes c s

/-- No command changes what is fused but rollback_commit, which changes fw_rollback alone and never lowers it (R432), and no command
touches those that wait behind it. As an invariant of steps: every other fuse stays as it is, and fw_rollback never falls. -/
def Obligations.FusesAndQueueStay : Prop :=
  (∀ f : Fuses, StepKeeps fun s =>
    { s.fuses with fwRollback := f.fwRollback } = f ∧ f.fwRollback ≤ s.fuses.fwRollback) ∧
  ∀ (c : Instr) (s t : State), exec c s = .next t → t.pending = s.pending ∧ ((∀ r, c ≠ .rollbackCommit r) → t.fuses = s.fuses)

/-- Every step keeps the canonical form of the dictionary's stored values, of the CXL.mem window, of the tier window and of what a
save holder and this device as one hold. -/
def Obligations.StepKeepsCanonicalForm : Prop := StepKeeps Canonical

/-- After a power-on reset the device is unpowered, holds no job, has every dictionary entry at its default, lists nothing in any
memory and has an empty queue; its state entry reads Fallow on the way to Tilled, as at power-good (R30). That power-good
is not asserted yet, and every value that the manual does not state, are the model's choices (log entries 1, 2 and 3). -/
def Obligations.ResetState : Prop :=
  Canonical State.reset ∧ State.reset.ctl.powerGood = false ∧ State.reset.ctl.stage = .off ∧
    State.reset.ctl.stateEntry = 0x201 ∧ (∀ k, State.reset.num k = dfltNum k) ∧ (∀ k, State.reset.oct k = dfltOct k) ∧
    State.reset.job = none ∧ State.reset.hopper = [] ∧ State.reset.host = {} ∧ State.reset.pending = []

/-- Power-good starts a boot in Fallow on the way to Tilled, which FLASH_OWN high at that moment will stop (R454); its loss is a power-on reset, which leaves fuses, flash, the two input
pins and what lies outside the device, and no more. -/
def Claims.PowerGoodPin : Prop :=
  (∀ s : State, s.ctl.powerGood = false →
    exec .powerGood s = .next { s with
      ctl := { s.ctl with powerGood := true, stage := .fuseRead, cur := .fallow, tgt := .tilled, flashBlocked := s.ctl.flashOwn } }) ∧
  ∀ s : State, s.ctl.powerGood = true →
    exec .powerGoodDeasserted s = .next
      { ctl := { resetLow := s.ctl.resetLow, flashOwn := s.ctl.flashOwn }, fuses := s.fuses, flash := s.flash
        host := { tier := s.host.tier, holder := s.host.holder }
        freeCount := s.freeCount, outbox := s.outbox, pending := s.pending }

/-- What R370 keeps through a device reset, between the state before and the state after. -/
def Claims.DeviceResetKeeps : Prop :=
  ∀ (c : Instr) (s t : State),
    (c = .resetInAsserted ∧ s.ctl.resetLow = false ∧ s.ctl.cur ≠ .faulted ∨
      c = .resetInReleased ∧ s.ctl.resetLow = true ∨ c = .watchdogExpiry ∧ s.ctl.cur ≠ .fallow) →
    s.ctl.stage ≠ .off → s.ctl.stage ≠ .fuseRead → s.ctl.tripOnBoot = false → exec c s = .next t →
      t.fuses = s.fuses ∧ t.flash = s.flash ∧
      (c ≠ .watchdogExpiry → t.ctl.faultLog = s.ctl.faultLog) ∧
      (c = .watchdogExpiry → (t.ctl.faultLog.head?.map (·.cause)) = some 7) ∧
      t.recovery.suspectSites = s.recovery.suspectSites ∧ t.recovery.suspectStacks = s.recovery.suspectStacks ∧
      (∀ k, k ≠ eventCause → t.num k = if isKeptEntry k then s.num k else dfltNum k) ∧
      t.job = none ∧ t.hopper = [] ∧ t.plots = [] ∧ t.txn = none ∧ t.acre = {} ∧
      t.host = { tier := s.host.tier, holder := s.host.holder } ∧ t.ctl.cur = .fallow ∧ t.ctl.tgt = .tilled

/-- A device reset by its input ball or by the watchdog completes; boot begins at the ring row, from the release where the ball is
low. -/
def Claims.DeviceResetBoots : Prop :=
  (∀ s : State, s.ctl.resetLow = false → s.ctl.cur ≠ .faulted → s.ctl.stage ≠ .off → s.ctl.stage ≠ .fuseRead →
    s.ctl.tripOnBoot = false →
    ∃ t, exec .resetInAsserted s = .next t ∧ t.ctl.resetLow = true ∧ t.ctl.stage = .ring ∧ t.ctl.cur = .fallow ∧
      t.fabric.ports.all (fun p => p.state == .off) = true) ∧
  (∀ s : State, s.ctl.resetLow = true → s.ctl.stage ≠ .off → s.ctl.stage ≠ .fuseRead → s.ctl.tripOnBoot = false →
    ∃ t, exec .resetInReleased s = .next t ∧ t.ctl.resetLow = false ∧ t.ctl.stage = .ring ∧ t.ctl.cur = .fallow) ∧
  (∀ s : State, s.ctl.cur ≠ .fallow → s.ctl.stage ≠ .off → s.ctl.tripOnBoot = false →
    ∃ t, exec .watchdogExpiry s = .next t ∧ t.ctl.stage = .ring ∧ t.ctl.cur = .fallow ∧
      (t.ctl.faultLog.head?.map fun r => (r.cause, r.state)) = some (7, s.ctl.cur)) ∧
  ∀ s : State, s.ctl.cur = .fallow → exec .watchdogExpiry s = .next s

/-- A CXL conventional reset resets the port's state and the mirror window and nothing else; the job continues (R369, R370). -/
def Claims.ConventionalResetSparesTheJob : Prop :=
  ∀ (linkDown : Bool) (s : State),
    ∃ t, exec (.cxlConventionalReset linkDown) s = .next t ∧ t = { s with ctl := t.ctl, txn := t.txn } ∧
      t.ctl = { s.ctl with
        cxlConfigured := false, mirror := [{}, {}, {}, {}], msixEnable := false, msixFunctionMask := false
        msixVectorMask := 0, msixPending := 0, cxlUp := if linkDown then false else s.ctl.cxlUp } ∧
      t.txn = s.txn.filter fun x => x.owner == .master

/-- Power-good, the device resets and the CXL conventional reset: what each starts, keeps and loses. -/
def Obligations.Resets : Prop :=
  Claims.PowerGoodPin ∧ Claims.DeviceResetKeeps ∧ Claims.DeviceResetBoots ∧ Claims.ConventionalResetSparesTheJob

/-- A monitor trip is a protective shutdown (R425): the device enters Faulted with a fault log record of the cause, the domain and
the state at the cause (R371), and the event cause of vector 5 is set; what plots, pool and tokens held is lost. It applies outside Fallow, and in
Fallow while a boot runs (R31); the control SRAM's fatal fault applies outside Fallow only (R31, R347). A crystal that fails in
Fallow without a boot trips the next boot (R454), and no other monitor matters there. -/
def Claims.MonitorTripEntersFaulted : Prop :=
  (∀ (m : Monitor) (s : State), Canonical s → s.ctl.stage ≠ .off → s.ctl.cur ≠ .faulted →
    (s.ctl.cur ≠ .fallow ∨ s.ctl.booting = true ∧ m ≠ .controlSram) →
    ∃ t, exec (.monitorTrip m) s = .next t ∧ t.ctl.cur = .faulted ∧ t.ctl.tgt = .faulted ∧
      (t.num eventCause).testBit 5 = true ∧ t.plots = [] ∧ t.pool = [] ∧ t.tokens = [] ∧ t.harvest = none ∧
      (t.ctl.faultLog.head?.map fun r => (r.cause, r.domain, r.state)) =
        some ((tripCause m).1, (tripCause m).2, s.ctl.cur) ∧
      t.fuses = s.fuses ∧ t.flash = s.flash) ∧
  (∀ s : State, s.ctl.stage ≠ .off → s.ctl.cur = .fallow → s.ctl.booting = false →
    exec (.monitorTrip .crystal) s = .next { s with ctl := { s.ctl with tripOnBoot := true } }) ∧
  ∀ (m : Monitor) (s : State), s.ctl.cur = .fallow → s.ctl.booting = false → m ≠ .crystal →
    exec (.monitorTrip m) s = .next s

/-- The pin FAULT# is low while the device is Faulted and while a boot has stopped, and never else (R452). -/
def Claims.FaultPin : Prop :=
  ∀ s : State, s.ctl.faultLow = true ↔ s.ctl.cur = .faulted ∨ s.ctl.stage = .stopped

/-- A monitor trip enters Faulted with a fault log record, and when FAULT# is low. -/
def Obligations.ProtectiveShutdown : Prop :=
  Claims.MonitorTripEntersFaulted ∧ Claims.FaultPin

/-- The rows of the boot from power-good (R421) in their order, each from the state that the row before it left: the fuse read opens
the ring bypass, firmware, CXL, HBM with its scrub, the two self-test groups, Tilled with Memory_Active set. -/
def Claims.BootRows : Prop :=
  (∀ s : State, s.ctl.stage = .fuseRead →
    ∃ t, exec .fuseReadDone s = .next t ∧ t.ctl.stage = .ring ∧ t.ctl.bypassOpen = true ∧
      (s.ctl.bypassOpen = false → t.outbox = s.outbox ++ [.joinNotice]) ∧
      (s.ctl.resetLow = false → ∀ n < 28, s.num (0x401101 + n) ≠ 1 → (t.portAt n).state = .training)) ∧
  (∀ s : State, s.ctl.stage = .firmware → s.ctl.booting = true →
    exec .cxlConfigReady s = .next { s with
      ctl := { s.ctl with stage := .cxl, cxlUp := true, cxlConfigured := true } }) ∧
  (∀ s : State, Canonical s → s.ctl.stage = .cxl → s.ctl.booting = true →
    ∃ t, exec .hbmTrainingDone s = .next t ∧ t.ctl.stage = .hbm ∧ t.hopper = [] ∧ t.num 0x201004 = 1 ∧ t.job = none ∧
      t.host.window = []) ∧
  (∀ (failing : List Nat) (mends : List SpareAssign) (s : State), s.ctl.stage = .hbm → s.ctl.booting = true →
    ∃ t, exec (.startUpSelfTest false failing mends) s = .next t ∧ t.ctl.stage = .selfTestOne) ∧
  (∀ (failing : List Nat) (mends : List SpareAssign) (s : State), Canonical s → s.ctl.stage = .selfTestOne →
    s.ctl.booting = true →
    ∃ t, exec (.startUpSelfTest true failing mends) s = .next t ∧ t.ctl.stage = .selfTestTwo ∧
      t.num 0x100007 = gradeOf t.lifecycle t.sitesOut t.stacksOut t.slicesOut) ∧
  ∀ s : State, Canonical s → s.ctl.stage = .selfTestTwo → s.ctl.booting = true →
    ∃ t, exec .bootComplete s = .next t ∧ t.ctl.cur = .tilled ∧ t.ctl.tgt = .tilled ∧ t.ctl.memoryActive = true ∧
      (t.num eventCause).testBit 1 = true

/-- The firmware row (R423, R429): with two verifying slots the higher control firmware version wins, slot A on a tie, and with
none, or with FLASH_OWN high now or at power-good (R454), the boot stops: Fallow with target Fallow, fw_interface 0, every port Off and the CXL link down. -/
def Claims.FirmwareRow : Prop :=
  (∀ s : State, Canonical s → s.ctl.stage = .ring → s.ctl.resetLow = false → s.ctl.booting = true →
    (s.ctl.flashOwn = true ∨ s.ctl.flashBlocked = true ∨
      slotImages s.fuses s.flash.slotA = none ∧ slotImages s.fuses s.flash.slotB = none) →
    ∃ t, exec .firmwareVerify s = .next t ∧ t.ctl.stage = .stopped ∧ t.ctl.cur = .fallow ∧ t.ctl.tgt = .fallow ∧
      t.num 0x100005 = 0 ∧ t.ctl.cxlUp = false ∧ t.ctl.faultLow = true ∧
      t.fabric.ports.all (fun p => p.state == .off) = true) ∧
  ∀ (s : State) (a b : List FwImage), s.ctl.stage = .ring → s.ctl.resetLow = false → s.ctl.booting = true →
    s.ctl.flashOwn = false → s.ctl.flashBlocked = false → slotImages s.fuses s.flash.slotA = some a → slotImages s.fuses s.flash.slotB = some b →
    ∃ t, exec .firmwareVerify s = .next t ∧ t.ctl.stage = .firmware ∧ t.cycle = 0 ∧
      t.sec.slotInForce = (if versionOf a < versionOf b then 1 else 0) ∧
      t.sec.images = (if versionOf a < versionOf b then b else a) ∧ t.sec.identityReady = true

/-- The rows of the boot, and the firmware row that takes a slot or stops. -/
def Obligations.Boot : Prop :=
  Claims.BootRows ∧ Claims.FirmwareRow

/-- Firmware (R431, R432, R454): an update of the set at the operand's window address is in progress where the set verifies, and ends
with its status where it does not; the written images stand in the slot not in force, a pattern set in the pattern area, and a failed
write leaves what it wrote to invalid. While an update is in progress another changes nothing; outside Tilled the verb is answered
with wrong-state. -/
def Claims.FirmwareUpdate : Prop :=
  (∀ (r : Req) (s : State), Canonical s → VerbAsked s r → requestKey r = 0x903001 →
    (s.ctl.cur = .tilled → s.sec.fwWriting = none → s.ctl.flashOwn = false →
      let images := (s.imageSetAt (leNat r.data)).getD []
      ∃ t, exec (.fwUpdate r) s = .next t ∧ HasAnswer r none [] t ∧ t.num 0x903002 = fwStatus s.fuses images ∧
        t.sec.fwWriting = (if fwStatus s.fuses images = 0x00670001 then some images else none) ∧
        t = { s with ctl := t.ctl, outbox := t.outbox, nums := t.nums, freeCount := t.freeCount, sec := t.sec }) ∧
    (s.ctl.cur = .tilled → s.sec.fwWriting = none → s.ctl.flashOwn = true →
      ∃ t, exec (.fwUpdate r) s = .next t ∧ HasAnswer r none [] t ∧ t.num 0x903002 = 0x00670005 ∧ t.sec = s.sec ∧
        t.flash = s.flash) ∧
    (s.ctl.cur = .tilled → s.sec.fwWriting.isSome = true →
      ∃ t, exec (.fwUpdate r) s = .next t ∧ HasAnswer r none [] t ∧ OnlyAnswers s t) ∧
    (s.ctl.cur ≠ .tilled → ∃ t, exec (.fwUpdate r) s = .next t ∧ HasAnswer r (some 0x00640002) [] t ∧ OnlyAnswers s t)) ∧
  (∀ (ok : Bool) (images : List FwImage) (s : State), Canonical s → s.sec.fwWriting = some images →
    ∃ t, exec (.fwUpdateDone ok) s = .next t ∧
      t.num 0x903002 = (if ok = true ∧ s.ctl.flashOwn = false then 0 else 0x00670005) ∧
      t = { s with
        flash := putImages s.sec.slotInForce images (ok && !s.ctl.flashOwn) s.flash
        sec := { s.sec with fwWriting := none }, nums := t.nums }) ∧
  (∀ (ok : Bool) (s : State), s.sec.fwWriting = none → exec (.fwUpdateDone ok) s = .next s) ∧
  ∀ (ok : Bool) (images : List FwImage) (f : Flash),
    (images ≠ [] → (∀ i ∈ images, i.imageType ≠ 4) →
      putImages 0 images ok f = { f with slotB := if ok then images else [] } ∧
      putImages 1 images ok f = { f with slotA := if ok then images else [] }) ∧
    ∀ i k, i.imageType = 4 → putImages k [i] ok f = { f with patterns := if ok then some i else none }

/-- FLASH_OWN raised ends an update that is being written with 0x0067_0005 and leaves what it wrote to invalid (R432, R454); without
an update, and when it falls, only the pin changes. -/
def Claims.FlashOwnPin : Prop :=
  (∀ (level : Bool) (s : State), level = false ∨ s.sec.fwWriting = none →
    exec (.flashOwnChange level) s = .next { s with ctl := { s.ctl with flashOwn := level } }) ∧
  ∀ (images : List FwImage) (s : State), Canonical s → s.sec.fwWriting = some images →
    ∃ t, exec (.flashOwnChange true) s = .next t ∧ t.num 0x903002 = 0x00670005 ∧ (∀ k, k ≠ 0x903002 → t.num k = s.num k) ∧
      t = { s with
        ctl := { s.ctl with flashOwn := true }, flash := putImages s.sec.slotInForce images false s.flash
        sec := { s.sec with fwWriting := none }, nums := t.nums }

/-- Attestation (R436): the verb takes the nonce and the present measurements; when the report is ready it stands in 0x9011.03 with its
signature, and the report counter rises. The report is 256 bytes with its fields at their bits. In Fallow the verb is answered with
wrong-state. -/
def Claims.Attestation : Prop :=
  (∀ (r : Req) (s : State), VerbAsked s r → requestKey r = 0x901102 → s.ctl.cur ≠ .fallow →
    ∃ t, exec (.attest r) s = .next t ∧ HasAnswer r none [] t ∧
      t.sec = { s.sec with attestNonce := some (fit 32 (s.oct 0x901101)), attestSnapshot := s.signedReport (fit 32 (s.oct 0x901101)) } ∧
      t = { s with ctl := t.ctl, outbox := t.outbox, nums := t.nums, freeCount := t.freeCount, sec := t.sec }) ∧
  (∀ (r : Req) (s : State), Asked s r → r.reserved = 0 → requestKey r = 0x901102 → s.ctl.closed = false → s.ctl.cur = .fallow →
    ∃ t, exec (.attest r) s = .next t ∧ HasAnswer r (some 0x00640002) [] t ∧ OnlyAnswers s t) ∧
  (∀ (nonce : List Byte) (s : State), Canonical s → s.sec.attestNonce = some nonce →
    ∃ t, exec .attestReportReady s = .next t ∧ t.oct 0x901103 = s.sec.attestSnapshot ∧
      t.num 0x901104 = min (s.num 0x901104 + 1) (2 ^ 32 - 1) ∧
      t = { s with octs := t.octs, nums := t.nums, sec := { s.sec with attestNonce := none, attestSnapshot := [] } }) ∧
  (∀ s : State, s.sec.attestNonce = none → exec .attestReportReady s = .next s) ∧
  ∀ (nonce : List Byte) (s : State),
    s.signedReport nonce = s.reportBytes nonce ++ s.sign (s.reportBytes nonce) ∧ (s.reportBytes nonce).length = 256 ∧
    field (s.reportBytes nonce) 0 4 = 0x54535441 ∧ field (s.reportBytes nonce) 4 1 = 1 ∧
    field (s.reportBytes nonce) 5 1 = s.ctl.cur.code ∧ field (s.reportBytes nonce) 6 2 = s.rank % 65536 ∧
    field (s.reportBytes nonce) 36 4 = (s.job.elim 0 fun j => j.binary.deviceCount) % 2 ^ 32 ∧
    field (s.reportBytes nonce) 40 8 = s.num 0x500001 % 2 ^ 64 ∧
    field (s.reportBytes nonce) 160 32 = (s.job.elim 0 fun j => j.binary.digest.toNat) ∧
    (s.reportBytes nonce).drop 192 = fit 32 (s.oct 0x900007) ++ fit 32 nonce

/-- Firmware update, FLASH_OWN and attestation. -/
def Obligations.FirmwareAndAttestation : Prop :=
  Claims.FirmwareUpdate ∧ Claims.FlashOwnPin ∧ Claims.Attestation

/-- R432: rollback_commit, in Tilled only, raises fw_rollback to the rollback_index of the control firmware in force and never lowers it;
an image of a lower index then no longer verifies. In another state it is answered with wrong-state. -/
def Obligations.RollbackCommit : Prop :=
  ∀ (r : Req) (s : State), VerbAsked s r → requestKey r = 0x903005 →
    (s.ctl.cur ≠ .tilled →
      ∃ t, exec (.rollbackCommit r) s = .next t ∧ HasAnswer r (some 0x00640002) [] t ∧ OnlyAnswers s t) ∧
    ∀ i, s.ctl.cur = .tilled → oneImage s.sec.images 1 = some i →
      ∃ t, exec (.rollbackCommit r) s = .next t ∧ HasAnswer r none [] t ∧
        (s.fuses.fwRollback ≤ i.rollbackIndex → t.fuses = { s.fuses with fwRollback := i.rollbackIndex }) ∧
        (i.rollbackIndex ≤ s.fuses.fwRollback → t.fuses = s.fuses) ∧
        (∀ x : FwImage, x.rollbackIndex < i.rollbackIndex → imageOk t.fuses x = false) ∧
        t = { s with ctl := t.ctl, outbox := t.outbox, nums := t.nums, freeCount := t.freeCount, fuses := t.fuses }

/-- The PPS input (R449): the first edge, and one that falls 1 s ± 10 µs after the last accepted edge, is accepted; another is not,
and PPS counts as lost until the third of three that agree; a pulse outside 1 µs to 500 ms counts for nothing. -/
def Claims.PpsEdges : Prop :=
  ∀ (stamp : Cycle) (highNs : Nat) (s : State), s.ctl.keepsTime = true →
    (1000 ≤ highNs → highNs ≤ 500000000 →
      ((s.time.lastPps = none ∨ ∃ p, s.time.lastPps = some p ∧ 1599984000 ≤ (stamp - p).toNat ∧ (stamp - p).toNat ≤ 1600016000) →
        ∃ t, exec (.ppsEdge stamp highNs) s = .next t ∧ t.time.lastPps = some stamp ∧ t.time.ppsOk = true ∧ t.time.ignored = []) ∧
      (∀ p a b l, s.time.lastPps = some p → ((stamp - p).toNat < 1599984000 ∨ 1600016000 < (stamp - p).toNat) →
        s.time.ignored = b :: a :: l → isSecond (stamp - b).toNat = true → isSecond (b - a).toNat = true →
        ∃ t, exec (.ppsEdge stamp highNs) s = .next t ∧ t.time.lastPps = some stamp ∧ t.time.ppsOk = true) ∧
      (∀ p, s.time.lastPps = some p → ((stamp - p).toNat < 1599984000 ∨ 1600016000 < (stamp - p).toNat) →
        s.time.ignored.length < 2 →
        ∃ t, exec (.ppsEdge stamp highNs) s = .next t ∧ t.time.lastPps = some p ∧ t.time.ppsOk = false)) ∧
    ((highNs < 1000 ∨ 500000000 < highNs) →
      ∃ t, exec (.ppsEdge stamp highNs) s = .next t ∧ t = { s with cycle := t.cycle })

/-- time_state (R296, R454): a locked device that loses PPS, or the management link while that link brings the time, is in holdover;
when holdover_limit has passed since, there is no time. -/
def Claims.LossOfTime : Prop :=
  (∀ s : State, Canonical s → s.ctl.keepsTime = true → s.num 0x503002 = 1 →
    ∃ t, exec .ppsLost s = .next t ∧ t.num 0x503002 = 2 ∧ t.time.lostAt = some s.cycle ∧ t.time.ppsOk = false) ∧
  (∀ s : State, Canonical s → s.ctl.keepsTime = true → s.num 0x503001 = 2 → s.num 0x503002 = 1 →
    ∃ t, exec (.managementLinkChange false) s = .next t ∧ t.num 0x503002 = 2 ∧ t.time.mgmtUp = false) ∧
  (∀ s : State, exec (.managementLinkChange true) s = .next { s with time := { s.time with mgmtUp := true } }) ∧
  ∀ s : State, Canonical s → s.num 0x503002 = 2 →
    ∃ t, exec .holdoverExpiry s = .next t ∧ t.num 0x503002 = 0 ∧ ∀ k, k ≠ 0x503002 → t.num k = s.num k

/-- The management port (R450): a PTP message of domain 0 from the selected master is taken with time_source 0x02, for the next PPS edge. -/
def Claims.PtpMessages : Prop :=
  ∀ (m : PtpMessage) (s : State), s.ctl.keepsTime = true → s.num 0x503001 = 2 → s.time.mgmtUp = true → m.kind < 3 →
    m.domainNumber = 0 → m.transportOk = true → m.fromSelectedMaster = true →
    exec (.ptpMessage m) s = .next { s with time := { s.time with ptpSeconds := some m.seconds } }

/-- PPS edges, loss of time and PTP messages. -/
def Obligations.SiteTime : Prop :=
  Claims.PpsEdges ∧ Claims.LossOfTime ∧ Claims.PtpMessages

/-- R381: a ring frame with the time of the next PPS edge is passed on; a device with time_source 0x01 takes it when it arrives between
100 ms and 900 ms after a PPS edge, ignores it outside that window, and applies the time at the next edge. -/
def Obligations.TimeOfDayFrame : Prop :=
  (∀ (arrival : Cycle) (ns : Nat) (s : State), s.ctl.keepsTime = true → s.ctl.bypassOpen = true →
    (∀ p, s.num 0x503001 = 1 → s.time.lastPps = some p → 160000000 ≤ (arrival - p).toNat → (arrival - p).toNat ≤ 1440000000 →
      exec (.timeOfDay arrival ns) s =
        .next { s with time := { s.time with waitingTod := some ns }, outbox := s.outbox ++ [.timeOfDay ns] }) ∧
    ((s.num 0x503001 ≠ 1 ∨ s.time.lastPps = none ∨
        ∃ p, s.time.lastPps = some p ∧ ((arrival - p).toNat < 160000000 ∨ 1440000000 < (arrival - p).toNat)) →
      exec (.timeOfDay arrival ns) s = .next { s with outbox := s.outbox ++ [.timeOfDay ns] })) ∧
  ∀ (stamp p : Cycle) (ns highNs : Nat) (s : State), s.ctl.keepsTime = true → s.num 0x503001 = 1 → s.time.waitingTod = some ns →
    s.time.lastPps = some p → 1599984000 ≤ (stamp - p).toNat → (stamp - p).toNat ≤ 1600016000 → 1000 ≤ highNs → highNs ≤ 500000000 →
    ∃ t, exec (.ppsEdge stamp highNs) s = .next t ∧ t.time.gnssAtPps = ns ∧ t.time.todOk = true ∧ t.time.waitingTod = none

/-- Frames that pass a device on the ring (R375, R376, R379): what is for another address, and everything while the device has none,
is passed on; a frame for the device with a wrong CRC is dropped and counted; a closed bypass is a passive path. An Enumerate
frame gives the next address and its epoch, and is passed on with the count raised; one with epoch 0 is passed on unchanged. -/
def Claims.RingFrames : Prop :=
  (∀ (f : RingFrame) (s : State), s.ctl.bypassOpen = true →
    (BitVec.ofNat 8 (s.num 0x101001) = 0 ∨ f.dest ≠ BitVec.ofNat 8 (s.num 0x101001)) →
    exec (.ringFramePass f) s = .next { s with outbox := s.outbox ++ [.ringForward f.bytes] }) ∧
  (∀ (f : RingFrame) (s : State), Canonical s → s.ctl.bypassOpen = true → BitVec.ofNat 8 (s.num 0x101001) ≠ 0 →
    f.dest = BitVec.ofNat 8 (s.num 0x101001) → f.crcOk = false →
    ∃ t, exec (.ringFramePass f) s = .next t ∧ t.outbox = s.outbox ∧ t.num 0x101004 = min (s.num 0x101004 + 1) (2 ^ 32 - 1) ∧
      ∀ k, k ≠ 0x101004 → t.num k = s.num k) ∧
  (∀ (epoch count : BitVec 8) (s : State), Canonical s → s.ctl.bypassOpen = true → epoch ≠ 0 → count.toNat < 254 →
    ∃ t, exec (.enumerate epoch count) s = .next t ∧ t.num 0x101001 = count.toNat + 1 ∧ t.num 0x101002 = epoch.toNat ∧
      t.outbox = s.outbox ++ [.enumerate epoch (count + 1)] ∧ ∀ k, k ≠ 0x101001 → k ≠ 0x101002 → t.num k = s.num k) ∧
  (∀ (count : BitVec 8) (s : State), s.ctl.bypassOpen = true →
    exec (.enumerate 0 count) s = .next { s with outbox := s.outbox ++ [.enumerate 0 count] }) ∧
  ∀ (f : RingFrame) (epoch count : BitVec 8) (s : State), s.ctl.bypassOpen = false →
    exec (.ringFramePass f) s = .next s ∧ exec (.enumerate epoch count) s = .next s

/-- The bypass (R376, R378, R424): it opens with a join notice, closes without one, and a device without an address sends the notice
again. -/
def Claims.BypassAndJoinNotice : Prop :=
  (∀ s : State, s.ctl.bypassOpen = false → s.ctl.stage ≠ .off → s.ctl.stage ≠ .fuseRead →
    exec (.bypassChange true) s = .next
      { s with ctl := { s.ctl with bypassOpen := true }, outbox := s.outbox ++ [.joinNotice] }) ∧
  (∀ s : State, exec (.bypassChange false) s = .next { s with ctl := { s.ctl with bypassOpen := false } }) ∧
  ∀ s : State, s.ctl.bypassOpen = true → s.num 0x101001 = 0 →
    exec .joinNoticeResend s = .next { s with outbox := s.outbox ++ [.joinNotice] }

/-- Ring frames, enumeration, the bypass and the join notice. -/
def Obligations.Ring : Prop :=
  Claims.RingFrames ∧ Claims.BypassAndJoinNotice

/-- R380: a device keeps the sequence and CRC of the last request that it answered on the ring, with the response it sent; a request that
repeats both is answered with that response and not executed again, so that a retried write or verb acts once. -/
def Obligations.RepeatedRequests : Prop :=
  ∀ (r : Req) (s : State), r.src = .master →
    let all := [Instr.read (.entry r), .write r, .begin_ r, .commit r, .rollBack r, .eventAck r, .exportCursorWrite r, .wake r, .fallow r,
      .reset r, .harvest r, .form r, .glean r, .attest r, .fwUpdate r, .rollbackCommit r]
    let stored (t : State) := t.ctl.answered.find? fun a => a.src == r.src && a.seq == r.seq && a.crc == r.crc
    (Asked s r → ∀ c ∈ all, ∃ t a, exec c s = .next t ∧ stored t = some a ∧ HasAnswer r a.abort a.response t) ∧
    (∀ a, s.ctl.bypassOpen = true → BitVec.ofNat 8 (s.num 0x101001) ≠ 0 →
      (r.dest = BitVec.ofNat 8 (s.num 0x101001) ∨ r.dest = 0xFF) → stored s = some a →
      ∀ c ∈ all, ∃ t, exec c s = .next t ∧ HasAnswer r a.abort a.response t ∧ OnlyAnswers s t ∧ stored t = some a)

/-- The states in which a request is turned away before its entry is looked at (R389): until the device is first Tilled every request
but reads of the 0x1000 entries and of the state entry gets the booting abort code, and in Fallow every request but the listed ones
the wrong-state code. -/
def Obligations.GateOfRequests : Prop :=
  ∀ (r : Req) (s : State),
    (s.ctl.cur = .fallow → s.ctl.reachedTilled = false → s.ctl.stage ≠ .stopped →
      s.gate r = if r.op = 1 ∧ (r.index = 0x1000 ∨ r.index = 0x1001 ∧ r.sub = 0) then none else some .booting) ∧
    (s.ctl.cur = .fallow → s.ctl.reachedTilled = true → s.ctl.stage ≠ .stopped →
      s.gate r =
        if r.op = 1 ∧ (r.index = 0x1000 ∨ r.index = 0x1001 ∨ r.index = 0x1010 ∨ r.index = 0x6000 ∧ r.sub = 1) ∨
          r.op = 3 ∧ (r.index = 0x1002 ∧ (r.sub = 1 ∨ r.sub = 3) ∨ r.index = 0x2070 ∧ r.sub = 1) then none
        else some .wrongState) ∧
    (s.ctl.cur ≠ .fallow → s.ctl.bootFault = false → s.gate r = none) ∧
    (∀ a, s.gate r = some a → r.reserved = 0 → Asked s r →
      ∀ c ∈ [Instr.read (.entry r), .write r, .begin_ r, .commit r, .rollBack r],
        ∃ t, exec c s = .next t ∧ HasAnswer r (some a.code) [] t ∧ (c ≠ .commit r → OnlyAnswers s t))

/-- A Read of an entry of a number type returns its value's bytes, least significant first, and a Read of an OCTETS entry the bytes
from its offset on, at most as many as it asks for (R385, R387); a Read of a write-only entry gets the access abort code. -/
def Claims.ReadAnswers : Prop :=
  ∀ (r : Req) (e : Entry) (s : State), Asked s r → r.reserved = 0 → s.gate r = none → r.op = 1 →
    entryOf (requestKey r) = some e →
    (e.access ≠ .wo → e.type ≠ .verb → (∀ n, e.type ≠ .octets n) → r.offset = 0 →
      ∃ t, exec (.read (.entry r)) s = .next t ∧ HasAnswer r none (leBytes e.type.size (s.readNum (requestKey r))) t ∧
        OnlyAnswers s t) ∧
    (∀ n, e.access ≠ .wo → e.type = .octets n → r.offset.toNat ≤ (s.readOct (requestKey r)).length → r.length ≠ 0 →
      ∃ t, exec (.read (.entry r)) s = .next t ∧
        HasAnswer r none (((s.readOct (requestKey r)).drop r.offset.toNat).take r.length) t ∧ OnlyAnswers s t) ∧
    (e.access = .wo ∨ e.type = .verb →
      ∃ t, exec (.read (.entry r)) s = .next t ∧ HasAnswer r (some 0x00640006) [] t ∧ OnlyAnswers s t)

/-- A Read of the mirror area of BAR0 (R382): the eight bytes of the entry at that place, here the state entry, sealed_step,
write_index, event_cause, next_ticket and the team cycle count. -/
def Claims.MirrorAreaReads : Prop :=
  ∀ s : State, s.ctl.cxlUp = true → s.ctl.cxlConfigured = true →
    ∀ p ∈ [(0x0000, s.ctl.tgt.code * 256 + s.ctl.cur.code), (0x0008, s.num 0x205001), (0x0010, s.num 0x801002),
        (0x0018, s.num 0x102001), (0x0020, s.num 0x201004), (0x0028, s.cycle.toNat)],
      exec (.read (.bar0 p.1)) s = .next { s with outbox := s.outbox ++ [.bar0 p.1 p.2] }

/-- What a Read returns, from an entry and from the mirror area. -/
def Obligations.Reads : Prop :=
  Claims.ReadAnswers ∧ Claims.MirrorAreaReads

/-- A Write of a number entry: outside a transaction an RW entry takes the value at once; a read-only or fused entry answers access,
an RWT entry transaction-required, and any writable entry transaction-busy to a source that does not own the open transaction
(R385, R390). The reserved bits [23:16] of entry 0x2070.07 ignore the write (R10, R364). -/
def Obligations.WriteOutcomes : Prop :=
  ∀ (r : Req) (e : Entry) (s : State), Canonical s → Asked s r → r.reserved = 0 → s.gate r = none → r.op = 2 →
    entryOf (requestKey r) = some e → e.type ≠ .verb → (∀ n, e.type ≠ .octets n) →
    (e.access = .rw → s.txn = none → r.offset = 0 → r.data.length = e.type.size → s.writable e = true →
      e.inRange (leNat r.data) = true → s.numberOk (requestKey r) (leNat r.data) = true →
      ∃ t, exec (.write r) s = .next t ∧ HasAnswer r none [] t ∧ t.txn = none ∧
        t.num (requestKey r) =
          if requestKey r = 0x207007 then leNat r.data - bitsOf 23 16 (leNat r.data) * 2 ^ 16 else leNat r.data) ∧
    (e.access = .ro ∨ e.access = .fuse →
      ∃ t, exec (.write r) s = .next t ∧ HasAnswer r (some 0x00640006) [] t ∧ OnlyAnswers s t) ∧
    (e.access = .rwt → s.txn = none →
      ∃ t, exec (.write r) s = .next t ∧ HasAnswer r (some 0x00640008) [] t ∧ OnlyAnswers s t) ∧
    (∀ tx, e.access ≠ .ro → e.access ≠ .fuse → s.txn = some tx → tx.owner ≠ r.src →
      ∃ t, exec (.write r) s = .next t ∧ HasAnswer r (some 0x00640009) [] t ∧ OnlyAnswers s t)

/-- Transactions (R390 to R393): Begin opens one for its source; a write of the owner is staged and invisible; a commit whose checks
pass lets the staged value take effect and ends the transaction, one whose checks fail discards every staged write; roll-back and
the timeout discard them too. -/
def Obligations.Transactions : Prop :=
  (∀ (r : Req) (s : State), Asked s r → r.reserved = 0 → s.gate r = none → r.op = 4 → s.txn = none →
    ∃ t, exec (.begin_ r) s = .next t ∧ HasAnswer r none [] t ∧ t.txn = some { owner := r.src } ∧
      OnlyAnswers { s with txn := t.txn } t) ∧
  (∀ (r : Req) (e : Entry) (tx : Txn) (s : State), Asked s r → r.reserved = 0 → s.gate r = none → r.op = 2 →
    entryOf (requestKey r) = some e → (e.access = .rw ∨ e.access = .rwt) → e.type ≠ .verb → (∀ n, e.type ≠ .octets n) →
    s.txn = some tx → tx.owner = r.src → tx.staged = [] → r.offset = 0 → r.data.length = e.type.size → r.data.length ≤ 256 →
    s.writable e = true → e.inRange (leNat r.data) = true → s.numberOk (requestKey r) (leNat r.data) = true →
    ∃ t, exec (.write r) s = .next t ∧ HasAnswer r none [] t ∧
      t.txn = some { tx with staged := [(requestKey r, .num (leNat r.data))] } ∧ OnlyAnswers { s with txn := t.txn } t) ∧
  (∀ (r : Req) (key n : Nat) (s : State), Canonical s → Asked s r → r.reserved = 0 → s.gate r = none → r.op = 5 →
    s.txn = some { owner := r.src, staged := [(key, .num n)] } → key ≠ 0x102002 → key ≠ 0x101003 →
    s.checkValue key (.num n) = none → s.crossCheck [(key, .num n)] = none →
    ∃ t, exec (.commit r) s = .next t ∧ HasAnswer r none [] t ∧ t.txn = none ∧
      t.num key = if key = 0x207007 then n - bitsOf 23 16 n * 2 ^ 16 else n) ∧
  (∀ (r : Req) (tx : Txn) (a : Abort) (s : State), Asked s r → r.reserved = 0 → s.gate r = none → r.op = 5 →
    s.txn = some tx → tx.owner = r.src →
    (tx.staged.findSome? fun x => s.checkValue x.1 x.2) = none → s.crossCheck tx.staged = some a →
    ∃ t, exec (.commit r) s = .next t ∧ HasAnswer r (some a.code) [] t ∧ t.txn = none ∧
      OnlyAnswers { s with txn := none } t) ∧
  (∀ (r : Req) (tx : Txn) (s : State), Asked s r → r.reserved = 0 → s.gate r = none → r.op = 6 →
    s.txn = some tx → tx.owner = r.src →
    ∃ t, exec (.rollBack r) s = .next t ∧ HasAnswer r none [] t ∧ t.txn = none ∧ OnlyAnswers { s with txn := none } t) ∧
  ∀ s : State, exec .txnTimeout s = .next { s with txn := none }

/-- Acknowledgements (R217, R218, R404): a write of event_ack clears the causes whose bits are 1 and no other, and one with any of
bits [31:8] set is refused with out-of-range and clears none; a write of export_cursor between its present value and write_index
moves it. -/
def Claims.Acknowledgements : Prop :=
  ∀ (r : Req) (s : State), Canonical s → Asked s r → r.reserved = 0 → s.gate r = none → r.op = 2 → s.txn = none →
    r.offset = 0 →
    (requestKey r = 0x102002 → r.data.length = 4 → leNat r.data < 256 →
      ∃ t, exec (.eventAck r) s = .next t ∧ HasAnswer r none [] t ∧
        (∀ v < 32, (t.num 0x102001).testBit v = ((s.num 0x102001).testBit v && !(leNat r.data).testBit v)) ∧
        ∀ k, k ≠ 0x102001 → k ≠ 0x101003 → t.num k = s.num k) ∧
    (requestKey r = 0x102002 → r.data.length = 4 → 256 ≤ leNat r.data →
      ∃ t, exec (.eventAck r) s = .next t ∧ HasAnswer r (some 0x00640003) [] t ∧ OnlyAnswers s t) ∧
    (requestKey r = 0x801003 → r.data.length = 8 → s.num 0x801003 ≤ leNat r.data → leNat r.data ≤ s.num 0x801002 →
      ∃ t, exec (.exportCursorWrite r) s = .next t ∧ HasAnswer r none [] t ∧ t.num 0x801003 = leNat r.data) ∧
    (requestKey r = 0x801003 → r.data.length = 8 → (leNat r.data < s.num 0x801003 ∨ s.num 0x801002 < leNat r.data) →
      ∃ t, exec (.exportCursorWrite r) s = .next t ∧ HasAnswer r (some 0x00640003) [] t ∧ OnlyAnswers s t)

/-- MSI-X (R404): a change of its control and mask bits sends the message of every open vector that is pending or, when MSI-X is
enabled anew, whose cause stands and is let through by event_mask; the hold-off of vector 0 ends with the completion that was held
off, or with nothing. -/
def Claims.MsixDelivery : Prop :=
  (∀ (w : MsixWrite) (s : State), s.ctl.cxlUp = true → s.ctl.cxlConfigured = true →
    ∃ t, exec (.msixEnable w) s = .next t ∧ t.ctl.msixEnable = w.enable ∧ t.ctl.msixFunctionMask = w.functionMask ∧
      t.ctl.msixVectorMask = w.vectorMask ∧
      ∀ v < 8, w.enable = true → w.functionMask = false → w.vectorMask.getLsbD v = false →
        (s.ctl.msixPending.getLsbD v = true ∨
          s.ctl.msixEnable = false ∧ (s.num 0x102001).testBit v = true ∧ (s.num 0x102003).testBit v = true) →
        .msix v ∈ t.outbox ∧ t.ctl.msixPending.getLsbD v = false) ∧
  (∀ s : State, s.ctl.holdoffPending = false →
    exec .completionHoldoffExpiry s = .next { s with
      ctl := { s.ctl with holdoffRunning := false, holdoffPending := false } }) ∧
  ∀ s : State, s.ctl.holdoffPending = true → (s.num 0x102001).testBit 0 = true → (s.num 0x102003).testBit 0 = true →
    s.ctl.cxlUp = true → s.ctl.cxlConfigured = true → s.ctl.vectorOpen 0 = true →
    ∃ t, exec .completionHoldoffExpiry s = .next t ∧ .msix 0 ∈ t.outbox ∧ t.ctl.holdoffPending = false ∧
      t.ctl.holdoffRunning = (s.num 0x102004 != 0)

/-- Event acknowledgement, the export cursor and MSI-X. -/
def Obligations.Events : Prop :=
  Claims.Acknowledgements ∧ Claims.MsixDelivery

/-- The verbs that move the device state (R31, R394): Wake boots an asleep device and has no effect elsewhere; Fallow turns the
device off from Tilled, and in another state is answered with wrong-state; Reset is a device reset, without effect in Fallow. -/
def Claims.StateVerbs : Prop :=
  ∀ (r : Req) (s : State), VerbAsked s r →
    (requestKey r = 0x100201 → s.ctl.cur = .fallow → s.ctl.stage = .asleep → s.ctl.tripOnBoot = false →
      ∃ t, exec (.wake r) s = .next t ∧ HasAnswer r none [] t ∧ t.ctl.cur = .fallow ∧ t.ctl.tgt = .tilled ∧
        t.ctl.stage = .ring ∧ t.ctl.wakeRunning = true) ∧
    (requestKey r = 0x100201 → s.ctl.cur ≠ .fallow →
      ∃ t, exec (.wake r) s = .next t ∧ HasAnswer r none [] t ∧ OnlyAnswers s t) ∧
    (requestKey r = 0x100202 → s.ctl.cur = .tilled →
      ∃ t, exec (.fallow r) s = .next t ∧ (r.src = .master → HasAnswer r none [] t) ∧ t.ctl.cur = .fallow ∧
        t.ctl.tgt = .fallow ∧ t.ctl.cxlUp = false ∧ t.host.window = [] ∧
        t.fabric.ports.all (fun p => p.state == .off) = true) ∧
    (requestKey r = 0x100202 → s.ctl.cur ≠ .tilled →
      ∃ t, exec (.fallow r) s = .next t ∧ HasAnswer r (some 0x00640002) [] t ∧ OnlyAnswers s t) ∧
    (requestKey r = 0x100203 → s.ctl.cur ≠ .fallow → s.ctl.tripOnBoot = false →
      ∃ t, exec (.reset r) s = .next t ∧ (r.src = .master → HasAnswer r none [] t) ∧ t.ctl.cur = .fallow ∧
        t.ctl.tgt = .tilled ∧ t.ctl.stage = .ring ∧ t.job = none ∧ t.ctl.faultLog = s.ctl.faultLog) ∧
    (requestKey r = 0x100203 → s.ctl.cur = .fallow →
      ∃ t, exec (.reset r) s = .next t ∧ HasAnswer r none [] t ∧ OnlyAnswers s t)

/-- The idle timer (R31, R32): enabled, it turns a Tilled device off; where the next record is pending, it is taken instead. -/
def Claims.IdleTimer : Prop :=
  (∀ s : State, s.ctl.cur = .tilled → s.num 0x100204 ≠ 0 →
    takeable (SMap.get {} s.hopper ((s.num 0x201004 - 1) % 4096)) (s.num 0x201004) = false →
    ∃ t, exec .idleTimeout s = .next t ∧ t.ctl.cur = .fallow ∧ t.ctl.tgt = .fallow ∧ t.ctl.cxlUp = false) ∧
  (∀ s : State, s.ctl.cur = .tilled → s.num 0x100204 ≠ 0 →
    takeable (SMap.get {} s.hopper ((s.num 0x201004 - 1) % 4096)) (s.num 0x201004) = true →
    exec .idleTimeout s = .next (s.takeRecord (SMap.get {} s.hopper ((s.num 0x201004 - 1) % 4096)) false true)) ∧
  ∀ s : State, (s.ctl.cur ≠ .tilled ∨ s.num 0x100204 = 0) → exec .idleTimeout s = .next s

/-- The verbs Wake, Fallow and Reset, and the idle timer. -/
def Obligations.StateVerbs : Prop :=
  Claims.StateVerbs ∧ Claims.IdleTimer

/-- The Gleaner (R359, R360, R431): the verb starts a sweep of the domains that its operand selects, all where it is 0, in ascending
order with their results at untested, and without a verifying pattern set ends it at once in Tilled with vector 7; a domain that is
done keeps its result and the next begins, the last ends the sweep; a Harvest verb ends it at the next pattern boundary. Outside
Tilled the verb is answered with wrong-state, and an operand with another bit with out-of-range. -/
def Claims.GleanerSweep : Prop :=
  (∀ (r : Req) (s : State), Canonical s → VerbAsked s r → requestKey r = 0x607001 →
    let v := leNat r.data
    let ds := gleanDomains.filter fun d => v == 0 || v.testBit (d - 1)
    (s.ctl.cur = .tilled → v ||| gleanMask = gleanMask → s.patternsOk = true →
      ∃ t, exec (.glean r) s = .next t ∧ HasAnswer r none [] t ∧ t.ctl.cur = .gleaning ∧
        (∃ d l, ds = d :: l ∧ t.recovery.gleanDomain = some d ∧ t.recovery.gleanLeft = l) ∧
        (∀ d ∈ ds, t.num (0x607100 + d) = 0) ∧ t.host.held = []) ∧
    (s.ctl.cur = .tilled → v ||| gleanMask = gleanMask → s.patternsOk = false →
      ∃ t, exec (.glean r) s = .next t ∧ HasAnswer r none [] t ∧ t.ctl.cur = .tilled ∧ t.recovery.gleanDomain = none ∧
        (∀ d ∈ ds, t.num (0x607100 + d) = 0) ∧ (t.num 0x102001).testBit 7 = true) ∧
    (s.ctl.cur ≠ .tilled → ∃ t, exec (.glean r) s = .next t ∧ HasAnswer r (some 0x00640002) [] t ∧ OnlyAnswers s t) ∧
    (s.ctl.cur = .tilled → v ||| gleanMask ≠ gleanMask →
      ∃ t, exec (.glean r) s = .next t ∧ HasAnswer r (some 0x00640003) [] t ∧ OnlyAnswers s t)) ∧
  (∀ (g : GleanResult) (d : Nat) (s : State), Canonical s → s.ctl.cur = .gleaning → s.recovery.gleanDomain = some d →
    (∀ e l, s.recovery.gleanLeft = e :: l → s.recovery.gleanStop = false →
      ∃ t, exec (.gleanDomainDone g) s = .next t ∧ t.ctl.cur = .gleaning ∧ t.recovery.gleanDomain = some e ∧
        t.num (0x607100 + d) = gleanCode g) ∧
    ((s.recovery.gleanLeft = [] ∨ s.recovery.gleanStop = true) →
      ∃ t, exec (.gleanDomainDone g) s = .next t ∧ t.ctl.cur = .tilled ∧ t.recovery.gleanDomain = none ∧
        t.recovery.gleanLeft = [] ∧ t.num (0x607100 + d) = gleanCode g ∧ (t.num 0x102001).testBit 7 = true)) ∧
  (∀ s : State, Canonical s → s.ctl.cur = .gleaning → s.recovery.gleanStop = true →
    ∃ t, exec .gleanSegment s = .next t ∧ t.ctl.cur = .tilled ∧ t.recovery.gleanDomain = none ∧
      t.recovery.gleanLeft = [] ∧ (t.num 0x102001).testBit 7 = true) ∧
  ∀ s : State, (s.ctl.cur ≠ .gleaning ∨ s.recovery.gleanStop = false) → exec .gleanSegment s = .next s

/-- The patrol (R347 to R350), outside Fallow: a corrected word of any SRAM is counted and changes nothing else; an uncorrectable one of
the control SRAM is a fatal fault with cause 0x04, one of a region poisons the region's tile, and one of a tile buffer marks the word,
each counted; a corrected HBM line is counted, and one that is lost is counted and reads as poisoned. In Fallow there is no patrol. -/
def Claims.PatrolReads : Prop :=
  ∀ s : State, Canonical s →
    (s.ctl.cur = .fallow → ∀ (x : PatrolStore) (e : EccResult), exec (.patrolRead x e) s = .next s) ∧
    (s.ctl.cur ≠ .fallow →
      (∀ x : PatrolStore,
        (x = .control ∨ x = .transport ∨ (∃ i, x = .faultLog i) ∨ (∃ k r, x = .pool k r ∧ s.job.isSome = true) ∨
          ∃ p, (s.plotAt p).isSome = true ∧
            ((∃ r, x = .crib p r ∨ x = .loam p r) ∨ (∃ i w, x = .buffer p i w) ∨ x = .program p)) →
        ∃ t, exec (.patrolRead x .corrected) s = .next t ∧ t.num 0x601003 = min (s.num 0x601003 + 1) (2 ^ 32 - 1) ∧
          t = { s with nums := t.nums }) ∧
      (∃ t, exec (.patrolRead .control .uncorrectable) s = .next t ∧ t.ctl.cur = .faulted ∧
        (t.ctl.faultLog.head?.map fun r => (r.cause, r.domain)) = some (4, 0)) ∧
      (∀ p pl, s.plotAt p = some pl →
        (∀ x l r, (x = .crib p r ∧ l = .crib r ∨ x = .loam p r ∧ l = .loam r) →
          ∃ t, exec (.patrolRead x .uncorrectable) s = .next t ∧ t.num 0x601004 = min (s.num 0x601004 + 1) (2 ^ 32 - 1) ∧
            (t.regionAt p l).tile.tag.poison = true ∧ (t.regionAt p l).tile.payload = (s.regionAt p l).tile.payload) ∧
        (∀ i w, ∃ t, exec (.patrolRead (.buffer p i w) .uncorrectable) s = .next t ∧
          t.num 0x601004 = min (s.num 0x601004 + 1) (2 ^ 32 - 1) ∧
          (t.plotAt p).any (fun q => q.badWords.contains (bufferAddr i 0 / 8 + w)) = true)) ∧
      (∀ l, ∃ t, exec (.patrolRead (.hbmLine l) .corrected) s = .next t ∧
        t.num 0x601001 = min (s.num 0x601001 + 1) (2 ^ 32 - 1)) ∧
      (∀ l, s.linePoison l = false →
        ∃ t, exec (.patrolRead (.hbmLine l) .uncorrectable) s = .next t ∧
          t.num 0x601002 = min (s.num 0x601002 + 1) (2 ^ 32 - 1) ∧ t.linePoison l = true))

/-- Repair from a replica peer (R355): a device asked for a tile that it does not hold good in its sealed field says so, and one that
holds it sends it and counts it; a good tile that comes back ends its repair, and is counted; a bad one, and a peer that does not
answer, send the question to the next peer that was not asked, and when none is left a running job is to be held with 0x0061_0007.
An answer to no repair changes nothing. -/
def Claims.ReplicaRepair : Prop :=
  (∀ (port source : Nat) (id shard : W32) (bo : BitVec 40) (s : State), Canonical s →
    (s.sealedTile id shard bo = none →
      exec (.repairServe port source id shard bo) s = .next (s.sendBest source (.repairReply id shard bo none))) ∧
    ∀ tile, s.sealedTile id shard bo = some tile →
      ∃ t, exec (.repairServe port source id shard bo) s = .next t ∧
        t = (s.bump 0x602002).sendBest source (.repairReply id shard bo (some tile)) ∧
        t.num 0x602002 = min (s.num 0x602002 + 1) (2 ^ 32 - 1)) ∧
  (∀ (id shard : W32) (bo : BitVec 40) (tile : Option Tile) (s : State), Canonical s →
    let found := s.recovery.repairs.find? fun x => x.tensorId == id && x.shard == shard && x.blockOffset == bo
    (found = none → exec (.repairReply id shard bo tile) s = .next s) ∧
    ∀ x, found = some x →
      (∀ g, tile = some g → s.goodSealed id shard bo g = true → (∀ j, s.job = some j → j.undoing = false) →
        ∃ t, exec (.repairReply id shard bo tile) s = .next t ∧
          t.recovery.repairs = s.recovery.repairs.filter (fun y => y.addr != x.addr) ∧
          t.num 0x602001 = min (s.num 0x602001 + 1) (2 ^ 32 - 1)) ∧
      ((∀ g, tile = some g → s.goodSealed id shard bo g = false) →
        exec (.repairReply id shard bo tile) s = .next (s.askRepair x))) ∧
  (∀ (x : Repair) (s : State), s.recovery.repairs.find? (fun y => y.asked != s.rank) = some x →
    exec .repairPeerTimeout s = .next (s.askRepair x)) ∧
  ∀ (x : Repair) (s : State),
    let put (y : Repair) : State := { s with
      recovery := { s.recovery with repairs := s.recovery.repairs.map fun z => if z.addr == x.addr then y else z } }
    (∀ r, (s.repairPeers x).find? (fun r => !has x.tried r) = some r →
      s.askRepair x = (put { x with asked := r, tried := x.tried ++ [r] }).sendBest r
        (.repairFetch s.rank x.tensorId x.shard x.blockOffset)) ∧
    ((s.repairPeers x).find? (fun r => !has x.tried r) = none →
      s.askRepair x = (put { x with asked := s.rank }).fabricHold 0x00610007)

/-- The Gleaner sweep, patrol reads and repair from a replica peer. -/
def Obligations.Recovery : Prop :=
  Claims.GleanerSweep ∧ Claims.PatrolReads ∧ Claims.ReplicaRepair

/-- The control and sync slots of a plot that may issue (R121, R122, R123, R189): NOP goes on to the next bundle, and a bundle that ends a loop
goes back to the loop's first while runs are left; LOOP opens one; a seal-arrival mark records every tine's cursor; a Ledger mark holds
nothing; SEAL_WAIT
holds only while the outcome of the plot's arrival is unknown. What may not issue leaves the state as it is. That a Ledger mark
has no effect is the model's choice (log entry 22). -/
def Claims.ControlSlot : Prop :=
  ∀ (p : Nat) (s : State),
    (∀ pl, s.issuing p = some pl →
      (pl.loops = [] →
        exec (.nop p) s = .next (s.mapPlot p fun q => { q with pc := pl.pc + 1 }) ∧
        exec (.stepMark p .sealArrival) s = .next (s.mapPlot p fun q =>
          { q with pc := pl.pc + 1
                   tines := SMap.mapValues {} (fun t => { t with arrivalMark := some (t.pos, t.running) }) q.tines })) ∧
      (∀ first left ls, pl.loops = (first, pl.pc, left) :: ls → 1 < left →
        exec (.nop p) s = .next (s.mapPlot p fun q => { q with pc := first, loops := (first, pl.pc, left - 1) :: ls })) ∧
      (∀ count off, 0 < count → 0 < off →
        exec (.loop p count off) s = .next (s.mapPlot p fun q =>
          { q with pc := pl.pc + 1, loops := (pl.pc + 1, pl.pc + off, count) :: pl.loops })) ∧
      (s.sealPending pl = true →
        exec (.sealWait p) s = .next (s.mapPlot p fun q => { q with wait := some (.seal, s.cycle, false) })) ∧
      (pl.loops = [] → s.sealPending pl = false →
        exec (.sealWait p) s = .next (s.mapPlot p fun q => { q with pc := pl.pc + 1 }))) ∧
    exec (.ledgerMark p) s = .next s ∧
    (s.issuing p = none → ∀ k count off, ∀ c ∈ [Instr.nop p, .stepMark p k, .loop p count off, .sealWait p], exec c s = .next s)

/-- STEP_MARK at the entry to a step (R123, R131, R142): the plot has entered it, or after its seal arrival the next one, and every
tine's cursor at that point is its mark for that step. Of a boundary or a commit step the plot enters the variant of its program that
the season pointer names (R299; that it does so here is the model's choice, log entry 155). -/
def Claims.StepMarkEntry : Prop :=
  ∀ (p : Nat) (pl : Plot) (s : State), s.issuing p = some pl → SMap.wf {} pl.tines = true → pl.loops = [] →
    ∃ t q, exec (.stepMark p .entry) s = .next t ∧ t = { s with plots := t.plots } ∧ t.plotAt p = some q ∧
      (∀ o, o ≠ p → t.plotAt o = s.plotAt o) ∧
      q.pc = ((s.seasonVariant (s.num 0x205001 + if pl.arrived then 2 else 1)).bind fun k => pl.seasonEntries[k]?).getD (pl.pc + 1) ∧
      (pl.arrived = false →
        q = { pl with pc := q.pc, entered := true, enteredNext := false, tines := q.tines, crib := q.crib } ∧
        ∀ n, tineOf q n = { tineOf pl n with markPos := (tineOf pl n).pos, markRunning := (tineOf pl n).running }) ∧
      (pl.arrived = true →
        q = { pl with pc := q.pc, enteredNext := true, tines := q.tines } ∧
        ∀ n x, SMap.find? pl.tines n = some x →
          tineOf q n = if x.ahead then x else { x with nextMark := some (x.pos, x.running) })

/-- NOP, LOOP, STEP_MARK, LEDGER_MARK and SEAL_WAIT in the slots of a bundle. -/
def Obligations.ControlSlot : Prop :=
  Claims.ControlSlot ∧ Claims.StepMarkEntry

/-- WAIT_TILE and WAIT_TOKEN (R123, R124, R141): the bundle holds until the region is ready, or the token's count is reached, and
then the next one follows; a tile that passes the tag check leaves the attempt without a fault. -/
def Claims.TileAndTokenWaits : Prop :=
  ∀ (p : Nat) (pl : Plot) (s : State), s.jobRuns = true → s.plotAt p = some pl → pl.stopped = false → pl.loops = [] →
    (∀ t : TileRef, pl.halted = false → pl.wait = none → (s.regionAt p t.loc).ready = false →
      exec (.waitTile p t false) s = .next (s.mapPlot p fun q => { q with wait := some (.tile t false, s.cycle, false) })) ∧
    (∀ (t : TileRef) (x : Tile), pl.halted = false → pl.wait = none → (s.regionAt p t.loc).ready = true → s.readTile p t = .ok x →
      exec (.waitTile p t false) s = .next (s.mapPlot p fun q => { q with pc := pl.pc + 1 })) ∧
    (∀ (t : TileRef) (x : Tile) (since : Cycle) (b : Bool), pl.wait = some (.tile t false, since, b) →
      (s.regionAt p t.loc).ready = true → s.readTile p t = .ok x →
      exec (.waitTileRelease p) s = .next (s.mapPlot p fun q => { q with wait := none, pc := pl.pc + 1 })) ∧
    (∀ (t : TileRef) (since : Cycle) (b : Bool), pl.wait = some (.tile t false, since, b) → (s.regionAt p t.loc).ready = false →
      exec (.waitTileRelease p) s = .next s) ∧
    (∀ n count, pl.halted = false → pl.wait = none →
      exec (.waitToken p n count) s = .next (s.mapPlot p fun q =>
        if count ≤ s.token (s.plotAhead p) n then { q with pc := pl.pc + 1 }
        else { q with wait := some (.token n count, s.cycle, false) })) ∧
    ∀ (n count : Nat) (since : Cycle) (b : Bool), pl.wait = some (.token n count, since, b) →
      exec (.waitTokenRelease p) s = .next
        (if count ≤ s.token (s.plotAhead p) n then s.mapPlot p fun q => { q with wait := none, pc := pl.pc + 1 } else s)

/-- WAIT_CYCLE (R123, R252): an absolute cycle count, or a release cycle plus an offset, holds the bundle until the count reaches
it. That the release of a wait whose cycle has come moves the count up to it is the model's choice (log entry 11). -/
def Claims.CycleWaits : Prop :=
  ∀ (p : Nat) (pl : Plot) (s : State), s.jobRuns = true → s.plotAt p = some pl → pl.stopped = false → pl.loops = [] →
    (∀ d : BitVec 512, pl.halted = false → pl.wait = none → bitsOf 511 504 d.toNat = 0 →
      exec (.waitCycle p d) s = .next (s.mapPlot p fun q =>
        if reached s.cycle (BitVec.ofNat 64 d.toNat) then { q with pc := pl.pc + 1 }
        else { q with wait := some (.cycle (BitVec.ofNat 64 d.toNat), s.cycle, false) })) ∧
    (∀ d : BitVec 512, pl.halted = false → pl.wait = none → bitsOf 511 504 d.toNat = 1 →
      s.releaseOf p (BitVec.ofNat 32 (d.toNat / 2 ^ 448)) = none →
      exec (.waitCycle p d) s = .next (s.mapPlot p fun q =>
        { q with wait := some (.barrier (BitVec.ofNat 32 (d.toNat / 2 ^ 448)) (BitVec.ofNat 64 d.toNat), s.cycle, false) })) ∧
    (∀ (c since : Cycle) (b : Bool), pl.wait = some (.cycle c, since, b) →
      exec (.waitCycleRelease p) s = .next ({ s with cycle := later s.cycle c }.mapPlot p
        fun q => { q with wait := none, pc := pl.pc + 1 })) ∧
    (∀ (x : W32) (off r since : Cycle) (b : Bool), pl.wait = some (.barrier x off, since, b) → s.releaseOf p x = some r →
      exec (.waitCycleRelease p) s = .next ({ s with cycle := later s.cycle (r + off) }.mapPlot p
        fun q => { q with wait := none, pc := pl.pc + 1 })) ∧
    ∀ (x : W32) (off since : Cycle) (b : Bool), pl.wait = some (.barrier x off, since, b) → s.releaseOf p x = none →
      exec (.waitCycleRelease p) s = .next s

/-- A wait that has held longer than wait_timeout (R126, R167, R168, R187): a fault of kind 0x0A of the plot's attempt, counted in wait_timeouts,
with the plot, the bundle and the region of the wait in its signature; it happens once, and the wait goes on. A rollback that
releases no later than the limit counts none (R154), and a wait for the season tile has no limit (R310). -/
def Claims.WaitTimeoutFaults : Prop :=
  ∀ (p : Nat) (pl : Plot) (w : WaitKind) (since : Cycle) (j : Job) (s : State), Canonical s → AtWork s p pl j →
    pl.wait = some (w, since, false) →
    let due := later s.cycle (since + BitVec.ofNat 64 (s.num 0x203001 + 1))
    ((∃ t, w = .tile t true) → exec (.waitTimeout p) s = .next s) ∧
    (s.rollsBackBy pl due = true → exec (.waitTimeout p) s = .next s) ∧
    ((∀ t, w ≠ .tile t true) → s.rollsBackBy pl due = false →
      ∃ t, exec (.waitTimeout p) s = .next t ∧
        FirstFault s t p 0x0A pl.pc (match w with
          | .tile r _ => locNumber r.loc
          | _ => 0xFFFF) ∧
        t.cycle = due ∧ t.plots = (s.mapPlot p fun q => { q with wait := some (w, since, true) }).plots) ∧
    exec (.waitTimeout p) (s.mapPlot p fun q => { q with wait := some (w, since, true) }) =
      .next (s.mapPlot p fun q => { q with wait := some (w, since, true) })

/-- WAIT_TILE, WAIT_TOKEN and WAIT_CYCLE hold, release and time out. -/
def Obligations.Waits : Prop :=
  Claims.TileAndTokenWaits ∧ Claims.CycleWaits ∧ Claims.WaitTimeoutFaults

/-- FURROW_ISSUE, the headland scan and the maxima records (R70, R71, R73, R74, R80, R81): an instruction waits at the issue slot
for its scan, its records and the previous output; then it enters the array, and its output's ready bit is cleared. The scan takes
every row's and column's largest exponent byte from operands that pass the tag check, and a share of a split extent sends them once
those that it passes on are here. A record waits for its instruction and is combined byte by byte; one of another step faults with
kind 0x02. -/
def Obligations.FurrowIssueScanAndRecords : Prop :=
  ∀ (p : Nat) (pl : Plot) (s : State), s.jobRuns = true → s.plotAt p = some pl → pl.stopped = false →
    let enters (u : State) (x : FurrowRun) : State :=
      (u.setRegion p x.desc.out { (u.regionAt p x.desc.out) with ready := false }).mapPlot p fun q => { q with
        scan := none, wait := none, furrow := some { x with since := s.plotCycle } }
    (∀ d : FurrowDesc, pl.halted = false → pl.wait = none →
      exec (.furrowIssue p d) s = .next (s.mapPlot p fun q => { q with
        wait := some (.furrow d, s.cycle, false)
        scan := some { desc := d, since := s.plotCycle, recordsLeft := if d.split then d.holders else 0 } })) ∧
    (∀ (r : FurrowRun) (as bs : List Tile), pl.scan = some r → r.scanDone = false →
      let u := s.upToPlot (r.since + BitVec.ofNat 64 (scanCycles r.desc))
      let x : FurrowRun := { r with
        scanDone := true, xaMax := (aLines r.desc as).map lineMax, xbMax := (bLines r.desc bs).map lineMax }
      u.furrowOperands p r.desc = (u, some (as, bs)) → furrowDefined r.desc as bs = true →
      (r.desc.split = false → r.recordsLeft = 0 → pl.furrow.isSome = true →
        exec (.headlandScanDone p) s = .next (u.mapPlot p fun q => { q with scan := some x })) ∧
      (∀ d c b, r.desc.split = false → r.recordsLeft = 0 → pl.furrow = none → pl.wait = some (.furrow d, c, b) →
        exec (.headlandScanDone p) s = .next
          ((u.setRegion p r.desc.out { (u.regionAt p r.desc.out) with ready := false }).mapPlot p fun q => { q with
            scan := none, wait := none, furrow := some { x with since := u.plotCycle } })) ∧
      (r.desc.split = true → r.sent = false → r.stopped = false → r.desc.below ≤ r.taken → 0 < r.recordsLeft →
        (recordsFor r.desc pl.maxima).1 = [] →
        ∃ m : Tile, exec (.headlandScanDone p) s = .next (u.mapPlot p fun q => { q with
            scan := some { x with sent := true }, sendQueue := pl.sendQueue ++ [(m, 0)] }) ∧
          m.payload = maximaBytes x.xaMax x.xbMax ∧ forTile r.desc.outTensor r.desc.outShard r.desc.outOffset m = true ∧
          tileCheckOk m = true)) ∧
    (∀ m : Tile, (pl.scan.all fun r => !r.scanDone) = true →
      exec (.maximaRecord p m) s = .next (s.mapPlot p fun q => { q with maxima := pl.maxima ++ [m] })) ∧
    (∀ (r : FurrowRun) (m : Tile), pl.scan = some r → r.scanDone = true → 0 < r.recordsLeft →
      (recordsFor r.desc pl.maxima).1 = [] → forTile r.desc.outTensor r.desc.outShard r.desc.outOffset m = true →
      (s.checkTile pl (recordTmpl r.desc.outTensor r.desc.outShard r.desc.outOffset 2) m = .ok m →
        (∀ i, r.xaMax.length = r.desc.rows → i < r.desc.rows → r.desc.rows ≤ 192 →
          nth 0 (takeRecord r m).xaMax i = max (nth 0 r.xaMax i) (nth 0 m.payload i).toNat) ∧
        (r.sent = true → 1 < r.recordsLeft →
          exec (.maximaRecord p m) s = .next (s.mapPlot p fun q => { q with scan := some (takeRecord r m) })) ∧
        (r.desc.split = true → r.sent = false → r.stopped = false → r.taken + 1 = r.desc.below → 1 < r.recordsLeft →
          ∃ o : Tile, exec (.maximaRecord p m) s = .next (s.mapPlot p fun q => { q with
              scan := some { takeRecord r m with sent := true }, sendQueue := pl.sendQueue ++ [(o, 0)] }) ∧
            o.payload = maximaBytes (takeRecord r m).xaMax (takeRecord r m).xbMax ∧ tileCheckOk o = true) ∧
        ∀ d c b, r.sent = true → r.recordsLeft = 1 → pl.furrow = none → pl.wait = some (.furrow d, c, b) →
          exec (.maximaRecord p m) s = .next (enters s (takeRecord r m))) ∧
      ∀ j : Job, Canonical s → AtWork s p pl j → r.sent = true → m.tag.valid = true → m.tag.poison = false →
        m.tag.stepLo ≠ BitVec.ofNat 32 (s.workStep pl) →
        (pl.furrow.isSome = true →
          ∃ t, exec (.maximaRecord p m) s = .next t ∧ FirstFault s t p 0x02 r.desc.bundle 0xFFFF ∧
            t.plots = (s.mapPlot p fun q => { q with scan := some (stoppedRun r) }).plots) ∧
        ∀ d c b, pl.furrow = none → pl.wait = some (.furrow d, c, b) →
          ∃ u, FirstFault s u p 0x02 r.desc.bundle 0xFFFF ∧ u.plots = s.plots ∧
            exec (.maximaRecord p m) s = .next (enters u (stoppedRun r)))

/-- Passes (R69, R70, R72, R76, R82, R84 to R88, R94, R97): a pass of an instruction that the manual defines, on operands that pass the
tag check, moves its sums into the shadow registers when none overflows, in the cycles of R72, and the next begins at repeat 0; one
that overflows is repeated with one more, counted, at most three times, and then the instruction faults with kind 0x0C. With
checksum mode off, or on with both checks passed, nothing else changes; a failed check is a fault of kind 0x0B. A poisoned operand
stops the instruction. -/
def Claims.FurrowPasses : Prop :=
  ∀ (p : Nat) (pl : Plot) (r : FurrowRun) (s : State), Canonical s → s.jobRuns = true → s.plotAt p = some pl → pl.stopped = false →
    pl.furrow = some r → r.stopped = false → r.next < r.desc.k →
    (∀ as bs : List Tile, s.furrowOperands p r.desc = (s, some (as, bs)) → furrowDefined r.desc as bs = true →
      (∀ (sums : List (List (Option Int))) (ok : Bool), r.shadow = none → furrowPassSums r as bs = some sums →
        let n := min r.desc.kPass (r.desc.k - r.next)
        let c := if r.desc.wA = 4 && r.desc.wB = 4 then n / 2 else r.desc.wB / 4 * n
        (s.checksumOn pl = false ∨ ok = true ∧ spareRowsNeeded r.desc ≤ pl.spareRows ∧ 2 ≤ pl.spareCols →
          exec (.furrowPass p ok) s = .next ((s.upToPlot (r.since + BitVec.ofNat 64 (c + 384))).mapPlot p fun q => { q with
            furrow := some { r with
              shadow := some (r.rep, sums), next := r.next + n, rep := 0, since := r.since + BitVec.ofNat 64 (max c 288)
              copied := r.since + BitVec.ofNat 64 (c + 384) } })) ∧
        (∀ j, AtWork s p pl j → s.checksumOn pl = true → spareRowsNeeded r.desc ≤ pl.spareRows → 2 ≤ pl.spareCols →
          ∃ t, exec (.furrowPass p false) s = .next t ∧ FirstFault s t p 0x0B r.desc.bundle 0xFFFF ∧
            pl.site ∈ t.recovery.suspectSites)) ∧
      (furrowPassSums r as bs = none → r.rep < 3 →
        ∃ t, exec (.passOverflow p) s = .next t ∧ t = { s with nums := t.nums, plots := t.plots, job := t.job } ∧
          t.plots = (s.mapPlot p fun q => { q with furrow := some { r with rep := r.rep + 1, since := s.plotCycle + 12 } }).plots ∧
          t.num 0x303001 = min (s.num 0x303001 + 1) (2 ^ 32 - 1) ∧ (∀ k, k ≠ 0x303001 → t.num k = s.num k) ∧
          ∀ j, AtWork s p pl j →
            t.job = some { j with attempt := { j.attempt with repeats := j.attempt.repeats + 1 } }) ∧
      ∀ j, AtWork s p pl j → furrowPassSums r as bs = none → r.rep = 3 →
        ∃ t, exec (.passOverflow p) s = .next t ∧ FirstFault s t p 0x0C r.desc.bundle 0xFFFF ∧
          pl.site ∈ t.recovery.suspectSites ∧ t.plots = (s.mapPlot p fun q => { q with furrow := some (stoppedRun r) }).plots) ∧
    ∀ (j : Job) (o : TileRef) (rest : List TileRef) (ok : Bool), AtWork s p pl j → r.shadow = none → r.desc.a = o :: rest →
      s.readTile p o = .poison →
      ∃ t, exec (.furrowPass p ok) s = .next t ∧ FirstFault s t p 0x05 r.desc.bundle (locNumber o.loc) ∧
        t.plots = (s.mapPlot p fun q => { q with furrow := some (stoppedRun r) }).plots

/-- SPILL and the ready output (R72, R73, R82, R83): the shadow registers leave, shifted by 8 bits per repeat, as the output's fresh
FWP or added to it under the tag check; after the last spill the output is ready, the plot's Furrow unit is free, and an
instruction that waits with its scan and records complete enters the array. -/
def Claims.SpillAndReady : Prop :=
  ∀ (p : Nat) (pl : Plot) (r : FurrowRun) (s : State), s.jobRuns = true → s.plotAt p = some pl → pl.stopped = false →
    pl.furrow = some r → heldFullWidth pl = none →
    (∀ rep sums, r.shadow = some (rep, sums) →
      let v := spillTile r rep sums
      let u := s.upToPlot (r.copied + BitVec.ofNat 64 (beats v.rows))
      let writes (x : FwpTile) : State := (u.setRegion p r.desc.out
        { tile := sealTile
            { tag := u.outTag pl r.desc.outTensor r.desc.outShard r.desc.outOffset 0x20 v.rows v.cols .none, payload := x.bytes }
          ready := false }).mapPlot p fun q => { q with furrow := some { r with shadow := none, spilled := true } }
      (r.desc.accumulate = false → r.spilled = false → exec (.spill p) s = .next (writes v)) ∧
      ∀ old : Tile, r.spilled = true ∨ r.desc.accumulate = true → u.readTile p (outputRef r v) = .ok old →
        (fwpAdd (fwpOf old) v).2 = 0 → exec (.spill p) s = .next (writes (fwpAdd (fwpOf old) v).1)) ∧
    (r.shadow = none → exec (.spill p) s = .next s) ∧
    (r.stopped = false → r.shadow = none → r.spilled = true → r.desc.k ≤ r.next →
      (pl.scan = none → (∀ i n, r.desc.out ≠ .buffer i n) →
        ∃ t q, exec (.furrowReady p) s = .next t ∧ t.plotAt p = some q ∧
          (t.regionAt p r.desc.out).ready = true ∧
          (t.regionAt p r.desc.out).tile.payload = (s.regionAt p r.desc.out).tile.payload ∧
          tileCheckOk (t.regionAt p r.desc.out).tile = true ∧
          q = { pl with furrow := none, crib := q.crib, loam := q.loam, digests := q.digests } ∧
          (∀ o, o ≠ p → t.plotAt o = s.plotAt o) ∧
          t = { s with plots := t.plots, pool := t.pool, job := t.job, records := t.records, nums := t.nums, host := t.host,
                       seasons := t.seasons }) ∧
      ∀ (x : FurrowRun) (d : FurrowDesc) (c : Cycle) (b : Bool), pl.scan = some x → x.scanDone = true → x.recordsLeft = 0 →
        pl.wait = some (.furrow d, c, b) →
        ∃ t q, exec (.furrowReady p) s = .next t ∧ t.plotAt p = some q ∧ q.scan = none ∧ q.wait = none ∧
          q.furrow = some { x with since := s.plotCycle })

/-- Passes and their repeats, SPILL and the ready output. -/
def Obligations.FurrowPasses : Prop :=
  Claims.FurrowPasses ∧ Claims.SpillAndReady

/-- One accumulator of a pass (R76, R85): every product is exact, is moved onto the frame by the deficit of its two blocks and the
guard, rounded there alone to nearest even, and added; the sum is there exactly when every moved product and every partial sum
lies in the range of 64 bits. -/
def Obligations.AccumulatorSums : Prop :=
  ∀ (xa xb : Nat) (g : Int) (l : List (FieldBlock × FieldBlock)),
    let shift (e : FieldBlock × FieldBlock) : Int := ((e.1.1 : Int) - xa) + ((e.2.1 : Int) - xb) + g
    let terms : List Int := l.flatMap fun e => (e.1.2.zip e.2.2).map fun q =>
      if 0 ≤ shift e then q.1 * q.2 * 2 ^ (shift e).toNat else roundShift (q.1 * q.2) (-shift e).toNat .rne 0
    let fits (v : Int) : Prop := -2 ^ 63 ≤ v ∧ v < 2 ^ 63
    (∀ v, cellSum xa xb g l 0 = some v → v = terms.sum) ∧
    ((cellSum xa xb g l 0).isSome = true ↔ (∀ q ∈ terms, fits q) ∧ ∀ n, fits (terms.take n).sum)

/-- CHAIN_ISSUE and CHAIN_DONE (R148, R149, R167): a chain on operands that passed the tag check is in flight from the cycle of its issue
with the latency of its stages; one that would write the output port in a cycle of another chain is a contract fault of kind 0x08,
and neither write lands; the chain that ends next has written its last element: its region is ready and its check holds. -/
def Claims.ChainIssueAndDone : Prop :=
  ∀ (p : Nat) (pl : Plot) (s : State), s.jobRuns = true → s.plotAt p = some pl → pl.stopped = false →
    (∀ (d : ChainDesc) (i : ChainIn) (u : State) (o : ChainOut), pl.halted = false → pl.wait = none →
      s.chainOperands p d = (s, some i) → s.chainResult pl d i = (u, o) →
      pl.chains.any (portsClash (u.chainRun pl d o)) = false →
      exec (.chainIssue p d) s = .next ((u.noteBlocks (u.whose pl) d.group o.blocks).mapPlot p fun q => { q with
        chains := pl.chains ++ [u.chainRun pl d o] })) ∧
    (∀ (d : ChainDesc) (i : ChainIn) (o : ChainOut) (j : Job), Canonical s → AtWork s p pl j → pl.halted = false →
      pl.wait = none → s.chainOperands p d = (s, some i) → s.chainResult pl d i = (s, o) →
      pl.chains.any (portsClash (s.chainRun pl d o)) = true →
      ∃ t q, exec (.chainIssue p d) s = .next t ∧ FirstFault s t p 0x08 d.bundle 0xFFFF ∧ t.plotAt p = some q ∧
        (∀ c ∈ q.chains, portsClash (s.chainRun pl d o) c = true → c.dead = true) ∧
        q.chains.length = pl.chains.length + 1) ∧
    ∀ r : ChainRun, nextDone pl.chains = some r →
      r ∈ pl.chains ∧
      (r.dead = true → exec (.chainDone p) s = .next ((s.upToPlot (r.issue + BitVec.ofNat 64 (r.latency + r.beats))).mapPlot p
        fun q => { q with chains := pl.chains.erase r })) ∧
      (r.dead = false →
        ∃ t q, exec (.chainDone p) s = .next t ∧
          t.cycle = (s.upToPlot (r.issue + BitVec.ofNat 64 (r.latency + r.beats))).cycle ∧
          t.plotAt p = some q ∧ q.chains = pl.chains.erase r ∧ Written t p pl r.desc.out (sealTile r.result) ∧
          (∀ o, o ≠ p → t.plotAt o = s.plotAt o) ∧
          t = { s with cycle := t.cycle, plots := t.plots, pool := t.pool, job := t.job, records := t.records, nums := t.nums,
                       host := t.host, seasons := t.seasons })

/-- The latency of a chain (R148, R149): 8 cycles for entry and exit, its stages' own figures, of which exp2 and log2 take 3 more on
A1, a conversion out of a block form 4 in place of 2, whichever stream brings it, and 21 more for a reducing last stage. -/
def Claims.ChainLatency : Prop :=
  ∀ (d : ChainDesc) (a1 : Bool),
    let wide (r : TileRef) : Bool := match fmtOf r.tmpl.format with
      | .fp _ => false
      | _ => true
    let block (st : Stage) : Bool := match st.args.head? with
      | some (.x, _) => d.x.any wide
      | some (.y, _) => d.y.any wide
      | some (.v, _) => d.v.any fun v => wide v.1
      | _ => false
    let figure (st : Stage) : Nat :=
      match st.op with
      | .mul | .add => 3
      | .fma => 4
      | .min | .max | .cmpsel _ | .tally _ _ => 1
      | .exp2 => if a1 then 11 else 8
      | .log2 => if a1 then 12 else 9
      | .rsqrt => 6
      | .convert f => match fmtOf f with
        | .fp _ => if block st then 4 else 2
        | _ => 5
    chainLatency a1 { d with stages := [] } = (if d.reducing then 29 else 8) ∧
      ∀ (st : Stage) (rest : List Stage),
        chainLatency a1 { d with stages := rest ++ [st] } = chainLatency a1 { d with stages := rest } + figure st

/-- CHAIN_ISSUE, CHAIN_DONE and the latency of a chain. -/
def Obligations.Chains : Prop :=
  Claims.ChainIssueAndDone ∧ Claims.ChainLatency

/-- FULL_WIDTH_ISSUE, FRAME_RECORD and MOVE (R44, R105, R108, R120, R130, R138, R141): the adder waits while a spill is due or a
record that it names has not come; an FWP addition writes the exact sums; a frame record waits for the instructions that name it, lets
a held one go on, and is a fault of kind 0x02 for the instruction when it is of another step; a move puts a tile that passed the tag
check, valid and ready, at its destination. -/
def Obligations.AdderRecordsAndMoves : Prop :=
  ∀ (p : Nat) (pl : Plot) (s : State), s.jobRuns = true → s.plotAt p = some pl → pl.stopped = false →
    (∀ d : FullWidthDesc, pl.halted = false → pl.wait = none → spillDue pl = true ∨ recordsHere pl d = false →
      exec (.fullWidthIssue p d) s = .next (s.mapPlot p fun q => { q with wait := some (.fullWidth d, s.cycle, false) })) ∧
    (∀ (d : FullWidthDesc) (a b : TileRef) (x y : Tile), pl.halted = false → pl.wait = none → spillDue pl = false →
      d.op = .add a b → s.readTile p a = .ok x → s.readTile p b = .ok y → fullWidthDefined d.op x y = true →
      (fwpAdd (fwpOf x) (fwpOf y)).2 = 0 →
      let v := (fwpAdd (fwpOf x) (fwpOf y)).1
      ∃ t, exec (.fullWidthIssue p d) s = .next t ∧
        Written t p pl d.out (sealTile
          { tag := s.outTag pl d.outTensor d.outShard d.outOffset 0x20 v.rows v.cols d.outRole, payload := v.bytes }) ∧
        (∀ o, o ≠ p → t.plotAt o = s.plotAt o) ∧
        t = { s with plots := t.plots, pool := t.pool, job := t.job, records := t.records, nums := t.nums, host := t.host,
                     seasons := t.seasons }) ∧
    (∀ m : Tile, heldFullWidth pl = none →
      exec (.frameRecord p m) s = .next (s.mapPlot p fun q => { q with frames := pl.frames ++ [m] })) ∧
    (∀ (m : Tile) (d : FullWidthDesc), heldFullWidth pl = some d → spillDue pl = false →
      recordsHere { pl with frames := pl.frames ++ [m] } d = true →
      exec (.frameRecord p m) s = .next ((s.mapPlot p fun q => { q with
        frames := pl.frames ++ [m], wait := none }).startFullWidth p d)) ∧
    (∀ (d : FullWidthDesc) (m : Tile) (rest ts : List Tile) (j : Job), Canonical s → AtWork s p pl j → pl.halted = false →
      pl.wait = none → spillDue pl = false → recordsHere pl d = true →
      s.readAll p d.bundle (fullWidthOperands d.op) = (s, some ts) → recordsOf pl d.records d.op = m :: rest →
      m.tag.valid = true → m.tag.poison = false → m.tag.stepLo ≠ BitVec.ofNat 32 (s.workStep pl) →
      ∃ t, exec (.fullWidthIssue p d) s = .next t ∧ FirstFault s t p 0x02 d.bundle 0xFFFF ∧ t.plots = s.plots) ∧
    (∀ (d : MoveDesc) (x : Tile), pl.halted = false → pl.wait = none → s.readTile p d.src = .ok x →
      let puts (y : Tile) : State := s.setRegion p d.dst
        { tile := { y with tag := { y.tag with valid := true, spec := speculative s pl } }, ready := true }
      ((∀ i n, d.src.loc ≠ .buffer i n) → exec (.move p d) s = .next (puts x)) ∧
      ∀ i n, d.src.loc = .buffer i n → exec (.move p d) s = .next (puts (sealTile x))) ∧
    ∀ (d : MoveDesc) (j : Job), Canonical s → AtWork s p pl j → pl.halted = false → pl.wait = none →
      s.readTile p d.src = .unwritten →
      ∃ t, exec (.move p d) s = .next t ∧ FirstFault s t p 0x01 d.bundle (locNumber d.src.loc) ∧ t.plots = s.plots

/-- The tine and sync slots of a bundle (R121, R133, R134, R135): a start gives a tine that stands still its list and drops its
transfer, whose requests stay in flight; a running one keeps its own; a stop ends its requests; a release clears the region's valid
and ready bits; a token other than 0 counts one up. -/
def Claims.TineAndSyncSlots : Prop :=
  ∀ (p : Nat) (pl : Plot) (s : State), s.issuing p = some pl →
    (∀ n descs, (tineOf pl n).running = false →
      exec (.tineStart p n descs) s = .next (s.mapPlot p fun q => { q with
        tines := SMap.set {} pl.tines n { tineOf pl n with
          ahead := speculative s pl, descs := descs, pos := 0, running := true, stale := inFlight (tineOf pl n), xfer := none } })) ∧
    (∀ n descs, SMap.wf {} pl.tines = true → (tineOf pl n).running = true → exec (.tineStart p n descs) s = .next s) ∧
    (∀ n, exec (.tineStop p n) s = .next (s.mapPlot p fun q => { q with
        tines := SMap.set {} pl.tines n { tineOf pl n with running := false } })) ∧
    (∀ r, exec (.regionRelease p r) s = .next (s.mapPlot p fun q => { q with
        crib := SMap.set {} pl.crib r (released (SMap.get {} pl.crib r)) })) ∧
    (∀ n, n ≠ 0 → s.plotAhead p = false → SMap.wf 0 s.tokens = true →
      ∃ t, exec (.tokenSignal p n) s = .next t ∧ t.token false n = (s.token false n + 1) % 2 ^ 18 ∧
        (∀ m, m ≠ n → t.token false m = s.token false m) ∧ t = { s with tokens := t.tokens, tiers := t.tiers }) ∧
    ∃ t, exec (.tokenSignal p 0) s = .next t ∧ t = { s with tiers := t.tiers }

/-- A tine at its descriptor (R131): NOP goes on, LOAD and STORE begin a transfer, END stops, and MARK records the cursor after it: of
the step before its plot has entered it, else of the next step, which the tine then serves. The reading of MARK is the model's
(DEDUCED from R131 and R142, log entry 50). -/
def Claims.TineDescriptors : Prop :=
  ∀ (p n op : Nat) (pl : Plot) (t : Tine) (d : BitVec 512) (s : State), s.tineAt p n op = some (pl, t, d) →
    (op = 0 → exec (.tineNop p n) s = .next (s.mapTine p n fun x => { x with pos := x.pos + 1, xfer := none })) ∧
    (op = 1 → 0 < tineTiles (tineDesc d) → 0 < (tineDesc d).lines →
      exec (.tineLoad p n) s = .next (s.mapTine p n fun x => { x with xfer := some { desc := d } })) ∧
    (op = 2 → 0 < tineTiles (tineDesc d) → 0 < (tineDesc d).lines →
      exec (.tineStore p n) s = .next (s.mapTine p n fun x => { x with xfer := some { desc := d } })) ∧
    (op = 3 → t.ahead = false → pl.entered = false →
      exec (.tineMark p n) s = .next (s.mapTine p n fun x =>
        { x with pos := x.pos + 1, xfer := none, markPos := x.pos + 1, markRunning := true })) ∧
    (op = 3 → t.ahead = false → pl.entered = true → s.serving = false → s.evaluating = none →
      exec (.tineMark p n) s = .next (s.mapTine p n fun x =>
        { x with pos := x.pos + 1, xfer := none, nextMark := some (x.pos + 1, true), ahead := true })) ∧
    (op = 4 → exec (.tineEnd p n) s = .next (s.mapTine p n fun x => { x with running := false, pos := x.pos + 1 }))

/-- Tine and sync slots of a bundle, and a tine at its descriptor. -/
def Obligations.TineSlots : Prop :=
  Claims.TineAndSyncSlots ∧ Claims.TineDescriptors

/-- A request of a tine (R133, R134, R135, R167): it takes a credit; a LOAD's first request of a tile waits for its ring region's release and
its token's count; an address outside the job's regions makes no request, stops the tine and faults with kind 0x07. -/
def Claims.TineRequests : Prop :=
  ∀ (p n : Nat) (pl : Plot) (x : Transfer) (s : State),
    let d := tineDesc x.desc
    let per := tileRequests d
    s.runsAt p = true → s.plotAt p = some pl → (tineOf pl n).xfer = some x → (tineOf pl n).running = true →
    x.next < tineTiles d * per → pl.creditsUsed < pl.credits →
    (d.op = 1 → (SMap.get {} pl.crib (ringRegion d (x.next / per))).tile.tag.valid = true → x.next % per = 0 →
      exec (.tineRequestIssue p n) s = .next s) ∧
    (d.op = 1 → d.token ≠ 0 → s.token (s.tineWhose pl (tineOf pl n) == .ahead) d.token < d.tokenCount →
      exec (.tineRequestIssue p n) s = .next s) ∧
    ((d.op = 1 ∧ s.loadMay pl (tineOf pl n) d x = true ∨ d.op = 2 ∧ storeMay pl d x = true) →
      (s.addressOk p d (tineAddr d (x.next / per)) (x.next % per) = true →
        exec (.tineRequestIssue p n) s = .next (s.mapPlot p fun q => { q with
          creditsUsed := q.creditsUsed + 1
          tines := SMap.set {} q.tines n { tineOf pl n with xfer := some { x with next := x.next + 1 } } })) ∧
      (∀ j, Canonical s → AtWork s p pl j → (tineOf pl n).ahead = false →
        s.addressOk p d (tineAddr d (x.next / per)) (x.next % per) = false →
        ∃ t, exec (.tineRequestIssue p n) s = .next t ∧ FirstFault s t p 0x07 0xFFFF 0xFFFF ∧
          t.plots = (s.mapTine p n fun y => { y with running := false }).plots))

/-- The data of a LOAD (R134, R138, R139, R140, R146): each return gives its credit back, one of a dropped transfer too; with a tile's
last one the tile stands in its ring region, valid and ready, and a tile whose check fails, or of which any request met a
miscorrected line, is poisoned and faults with kind 0x04; while an undo has stopped the plot the data is dropped. -/
def Claims.LoadReturns : Prop :=
  ∀ (p n : Nat) (pl : Plot) (s : State), s.plotAt p = some pl →
  (∀ e, (tineOf pl n).stale ≠ 0 → exec (.tineDataReturn p n e) s = .next (s.mapPlot p fun q => { q with
    creditsUsed := q.creditsUsed - 1
    tines := SMap.set {} q.tines n { tineOf pl n with stale := (tineOf pl n).stale - 1 } })) ∧
  ∀ x : Transfer,
    let d := tineDesc x.desc
    let per := tileRequests d
    let w := s.tineWhose pl (tineOf pl n)
    let last := decide (x.done % per + 1 = per)
    (tineOf pl n).stale = 0 → s.job.isSome = true → (tineOf pl n).xfer = some x → x.done < x.next → d.op = 1 →
    (s.runsAt p = false → ∀ e, exec (.tineDataReturn p n e) s = .next (s.mapPlot p fun q => { q with
      creditsUsed := q.creditsUsed - 1
      tines := SMap.set {} q.tines n { tineOf pl n with xfer := some { x with
        done := x.done + 1, bad := (x.bad || e == .miscorrected) && !last, lost := (x.lost || e == .uncorrectable) && !last } } })) ∧
    (s.runsAt p = true → x.done % per + 1 = per → (s.fetched p w d (x.done / per)).2 = true → x.bad = false → x.lost = false →
      ∃ t q, exec (.tineDataReturn p n .clean) s = .next t ∧ t = { s with plots := t.plots } ∧ t.plotAt p = some q ∧
        (∀ o, o ≠ p → t.plotAt o = s.plotAt o) ∧ q = { pl with creditsUsed := pl.creditsUsed - 1, tines := q.tines, crib := q.crib } ∧
        (t.regionAt p (.crib (ringRegion d (x.done / per)))).ready = true ∧
        (t.regionAt p (.crib (ringRegion d (x.done / per)))).tile =
          { (s.fetched p w d (x.done / per)).1 with tag := { (s.fetched p w d (x.done / per)).1.tag with valid := true } } ∧
        ∀ r, r ≠ ringRegion d (x.done / per) → t.regionAt p (.crib r) = s.regionAt p (.crib r)) ∧
    ∀ j, Canonical s → AtWork s p pl j → (tineOf pl n).ahead = false → x.done % per + 1 = per →
      (s.fetched p .step d (x.done / per)).2 = false ∨ x.bad = true →
      ∃ t, exec (.tineDataReturn p n .clean) s = .next t ∧ FirstFault s t p 0x04 0xFFFF (ringRegion d (x.done / per)) ∧
        (t.regionAt p (.crib (ringRegion d (x.done / per)))).ready = true ∧
        (t.regionAt p (.crib (ringRegion d (x.done / per)))).tile.tag.poison = true

/-- The acknowledgement of a STORE (R134, R135, R138, R139): the credit returns, that of a dropped transfer too; with a tile's last one the token counts, and a tile for HBM
stands there behind its tag line, every byte outside it as before, a tile for a port in the plot's send queue. -/
def Claims.StoreAcknowledgements : Prop :=
  ∀ (p n : Nat) (pl : Plot) (s : State), s.plotAt p = some pl →
  ((tineOf pl n).stale ≠ 0 → exec (.storeAck p n) s = .next (s.mapPlot p fun q => { q with
    creditsUsed := q.creditsUsed - 1
    tines := SMap.set {} q.tines n { tineOf pl n with stale := (tineOf pl n).stale - 1 } })) ∧
  ∀ x : Transfer,
    let d := tineDesc x.desc
    let per := tileRequests d
    let tile := (SMap.get {} pl.crib (ringRegion d (x.done / per)) : Region).tile
    let w := s.tineWhose pl (tineOf pl n)
    let addr := (s.translate w (tineAddr d (x.done / per))).1
    Canonical s → (tineOf pl n).stale = 0 → s.job.isSome = true → (tineOf pl n).xfer = some x → x.done < x.next → d.op = 2 →
    (s.runsAt p = false → exec (.storeAck p n) s = .next (s.mapPlot p fun q => { q with
      creditsUsed := q.creditsUsed - 1
      tines := SMap.set {} q.tines n { tineOf pl n with xfer := some { x with done := x.done + 1 } } })) ∧
    (s.runsAt p = true → w = .step → SMap.wf 0 s.tokens = true → d.token ≠ 0 → x.done % per + 1 = per → d.space = 1 →
      tileCheckOk tile = true →
      ∃ t, exec (.storeAck p n) s = .next t ∧
        t = { s with host := t.host, plots := t.plots, tokens := t.tokens, tiers := t.tiers } ∧
        t.host = { s.host with window := t.host.window, lineMeta := t.host.lineMeta } ∧
        t.token false d.token = (s.token false d.token + 1) % 2 ^ 18 ∧
        Memory.readBytes t.host.window addr 32 = tagBytes { tile.tag with spec := false } ∧
        Memory.readBytes t.host.window (addr + 64) tile.payload.length = tile.payload ∧
        ∀ a, (a < addr ∨ addr + 64 + 64 * payloadLines tile.payload.length ≤ a) →
          Memory.readByte t.host.window a = Memory.readByte s.host.window a) ∧
    (s.runsAt p = true → w = .step → SMap.wf 0 s.tokens = true → d.token ≠ 0 → x.done % per + 1 = per → d.space = 6 →
      ∃ t q, exec (.storeAck p n) s = .next t ∧ t = { s with plots := t.plots, tokens := t.tokens, tiers := t.tiers } ∧
        t.token false d.token = (s.token false d.token + 1) % 2 ^ 18 ∧ t.plotAt p = some q ∧
        q = { pl with creditsUsed := pl.creditsUsed - 1, tines := q.tines, sendQueue := pl.sendQueue ++ [(tile, 0)] } ∧
        ∀ o, o ≠ p → t.plotAt o = s.plotAt o)

/-- Requests of a tine, the returns of a LOAD and the acknowledgements of a STORE. -/
def Obligations.TineTransfers : Prop :=
  Claims.TineRequests ∧ Claims.LoadReturns ∧ Claims.StoreAcknowledgements

/-- The lead device's decision over the reports of an attempt (R188): a contract fault holds the job, a hardware fault replays the batch,
or holds it when its signature is that of the attempt before or max_attempts is reached; without either a numerical overflow skips,
a width overflow replays one width wider, and a clean attempt seals. Of several reports of a class the lowest rank's counts. -/
def Obligations.DecisionOverReports : Prop :=
  ∀ (rs : List SealReport) (numerical width : Bool) (group : BitVec 24) (a : Nat) (prev : Signature) (limit : Nat),
    let o := judgeReports rs numerical width group a prev limit
    let holds (cls : Nat) : Prop := ∃ r ∈ rs, r.faultClass.toNat = cls
    let lowest (cls : Nat) : Prop := ∃ r ∈ rs, r.faultClass.toNat = cls ∧ o.signature = r.signature ∧
      ∀ x ∈ rs, x.faultClass.toNat = cls → r.signature.rank.toNat ≤ x.signature.rank.toNat
    (holds 2 → o.code = .hold ∧ o.status = 0x00610001 ∧ lowest 2) ∧
    (¬ holds 2 → holds 1 → lowest 1 ∧
      (o.signature = prev → o.code = .hold ∧ o.status = 0x00610002) ∧
      (o.signature ≠ prev → limit ≤ a → o.code = .hold ∧ o.status = 0x00610003) ∧
      (o.signature ≠ prev → a < limit → o.code = .replay)) ∧
    (¬ holds 2 → ¬ holds 1 → numerical = true → o.code = .skip) ∧
    (¬ holds 2 → ¬ holds 1 → numerical = false → width = true → a < limit → o.code = .replayWider ∧ o.widthGroup = group) ∧
    (¬ holds 2 → ¬ holds 1 → numerical = false → width = true → limit ≤ a → o.code = .hold ∧ o.status = 0x00610003) ∧
    (¬ holds 2 → ¬ holds 1 → numerical = false → width = false → o.code = .seal)

/-- Arrivals on a device alone (R249, R251, R186, R188, R461): a plot's arrival that is not the last is kept; with the last plot's a
barrier of the binary is released at the count plus the barrier margin, and a clean step's seal arrival seals it at that cycle. -/
def Obligations.ArrivalsAlone : Prop :=
  ∀ (p : Nat) (pl : Plot) (j : Job) (s : State), AtWork s p pl j → s.issuing p = some pl → s.held = false → s.formed = false →
    s.fabric.collects = [] → j.outcomes = [] →
    (∀ b : W32, b.toNat ≤ 0xFFFFFFEF →
      (∃ o x, o ≠ p ∧ s.plotAt o = some x ∧ x.halted = false ∧
        (barrierKey b (BitVec.ofNat 32 (s.num 0x205001 + 1)), o) ∉ s.fabric.plotArrivals) →
      ∃ t, exec (.barrierArrive p b) s = .next t ∧
        (barrierKey b (BitVec.ofNat 32 (s.num 0x205001 + 1)), p) ∈ t.fabric.plotArrivals ∧
        t = { s with fabric := { s.fabric with plotArrivals := t.fabric.plotArrivals } }) ∧
    (∀ b : W32, b.toNat ≤ 0xFFFFFFEF →
      (∀ o x, o ≠ p → s.plotAt o = some x → x.halted = false →
        (barrierKey b (BitVec.ofNat 32 (s.num 0x205001 + 1)), o) ∈ s.fabric.plotArrivals) →
      ∃ t, exec (.barrierArrive p b) s = .next t ∧
        (barrierKey b (BitVec.ofNat 32 (s.num 0x205001 + 1)), s.cycle + BitVec.ofNat 64 s.margin) ∈ t.fabric.releases ∧
        t = { s with fabric := t.fabric, power := t.power }) ∧
    (∀ o x, o ≠ p → s.plotAt o = some x → x.arrived = false → x.halted = false → Canonical s →
      ∃ t q, exec (.sealArrive p false) s = .next t ∧ t.plotAt p = some q ∧ q.arrived = true ∧ q.digests = [] ∧ q.tallies = [] ∧
        q.pc = pl.pc ∧ t.job = s.job ∧ (∀ k, k ≠ 0x304002 → t.num k = s.num k) ∧
        t = { s with plots := t.plots, records := t.records, nums := t.nums }) ∧
    ((∀ o x, o ≠ p → s.plotAt o = some x → x.arrived = true) → (slotMapOf j.binary j.role).pairs = [] → j.binary.singleField = false →
      j.attempt.aborted = false → j.attempt.numerical = false → j.attempt.widthGroup = none →
      s.fabric.judgeRollback = [] →
      ∃ t o, exec (.sealArrive p false) s = .next t ∧ (t.job.map (·.outcomes)) = some [o] ∧ o.code = .seal ∧ o.gate = false ∧
        o.release = s.cycle + BitVec.ofNat 64 s.margin ∧ o.stepLo = BitVec.ofNat 32 (s.num 0x205001 + 1) ∧
        (t.job.map (·.attempt.arrived)) = some true)

/-- Messages of the team (R187, R188, R249, R251, R253): a device without a team takes no arrival; on the lead device a first arrival
opens a collection, and an early abort a window of 64 cycles; another device passes an early abort on, and notes a barrier's
release cycle. -/
def Obligations.TeamMessages : Prop :=
  ∀ (s : State),
    (∀ port m, s.formed = false → exec (.barrierArrivalMessage port m) s = .next s ∧ ∀ x, exec (.releaseMessage x) s = .next s) ∧
    (∀ (port : Nat) (m : ArrivalMsg) (w : Whose), s.formed = true → s.isLead = true → s.collecting = true → s.fabric.collects = [] →
      s.whoseOf m.stepLo m.attempt = some w → s.decided m.stepLo m.attempt = false → m.barrier.toNat ≤ 0xFFFFFFEF →
      m.ranks.Nodup → m.count = m.ranks.length → m.count < s.devices → m.reports = [] →
      ∃ t c, exec (.barrierArrivalMessage port m) s = .next t ∧ t.fabric.collects = [c] ∧ c.barrier = m.barrier ∧
        c.stepLo = m.stepLo ∧ c.attempt = m.attempt ∧ c.count = m.count ∧ c.ranks = m.ranks ∧ c.first = s.cycle ∧
        t = { s with fabric := { s.fabric with collects := t.fabric.collects } }) ∧
    (∀ rank r, s.isLead = false → exec (.earlyAbort rank r) s = .next { s with outbox := s.outbox ++ [.earlyAbort r] }) ∧
    (∀ (rank : Nat) (r : SealReport) (w : Whose), s.isLead = true → s.collecting = true → s.decided r.stepLo r.attempt = false →
      s.whoseOf r.stepLo r.attempt = some w → w ≠ .ahead → s.fabric.collects = [] → 2 ≤ s.devices →
      ∃ t c, exec (.earlyAbort rank r) s = .next t ∧ t.fabric.collects = [c] ∧ c.window = some (s.cycle + 64) ∧
        c.reports.map (·.signature.rank) = [BitVec.ofNat 16 rank] ∧ c.stepLo = r.stepLo ∧
        t = { s with fabric := { s.fabric with collects := t.fabric.collects } }) ∧
    (∀ (b step : W32) (attempt : BitVec 4) (c : Cycle), s.formed = true → s.isLead = false → b ≠ undoBarrier →
      (s.whoseOf step attempt).isSome = true →
      ∃ t, exec (.releaseMessage (.barrier b step attempt c)) s = .next t ∧ (barrierKey b step, c) ∈ t.fabric.releases ∧
        (s.fabric.children ≠ [] → OutMsg.release (.barrier b step attempt c) ∈ t.outbox) ∧
        t = { s with fabric := t.fabric, power := t.power, outbox := t.outbox })

/-- The lead device decides without every arrival (R188, R253): at the end of the window of the early aborts that it holds, and when a
barrier has not completed within wait_timeout of its first arrival, which is counted twice and reported against the lowest device
that is missing. The outcome is fixed for the count plus the barrier margin, and is no seal. -/
def Obligations.DecisionsByTime : Prop :=
  ∀ (j : Job) (c : Collect) (s : State), s.job = some j → s.fabric.collects = [c] → j.binary.serving = false → j.outcomes = [] →
    j.evalRunning = none → s.whoseOf c.stepLo c.attempt = some .step →
    (∀ (e : Cycle) (r : SealReport), c.window = some e → c.reports = [r] → r.faultClass = 1 → r.signature ≠ j.attempt.prev →
      j.attempt.count < s.num 0x204004 → j.attempt.gatePassed = false → (c.barrier = sealBarrier ∨ c.barrier = gateBarrier) →
      ∃ t o, exec .earlyAbortWindowExpiry s = .next t ∧ t.cycle = later s.cycle e ∧ (t.job.map (·.outcomes)) = some [o] ∧
        o.code = .replay ∧ o.signature = r.signature ∧ o.release = t.cycle + BitVec.ofNat 64 s.margin ∧
        o.stepLo = c.stepLo ∧ o.attempt = c.attempt ∧ t.fabric.collects = [] ∧
        t = { s with cycle := t.cycle, job := t.job, fabric := t.fabric, outbox := t.outbox }) ∧
    (Canonical s → s.isLead = true → s.collecting = true → c.barrier ≠ undoBarrier → c.reports = [] →
      ∃ t o, exec (.barrierTimeout c.barrier) s = .next t ∧ t.num 0x404006 = min (s.num 0x404006 + 1) (2 ^ 32 - 1) ∧
        t.num 0x605005 = min (s.num 0x605005 + 1) (2 ^ 32 - 1) ∧ (∀ k, k ≠ 0x404006 → k ≠ 0x605005 → t.num k = s.num k) ∧
        (t.job.map (·.outcomes)) = some [o] ∧ (o.code = .replay ∨ o.code = .hold) ∧
        o.release = t.cycle + BitVec.ofNat 64 s.margin ∧ t.cycle = later s.cycle (c.first + BitVec.ofNat 64 (s.num 0x203001)))

/-- The seal of a training step (R64, R189, R191, R201, R214, R403): at its release sealed_step, the field pointer and the loss scale's count move, the
attempt number is 0 again, a record of kind 1 closes the Ledger and stands in its slot of the ring, beside the tables no other byte of
the window changes (R213, R216), and the step's own record completes with status 0. The gate's outcome lets the harrow pass write. -/
def Obligations.SealOfAStep : Prop :=
  ∀ (j : Job) (o : SealOutcome) (s : State), Canonical s → QuietTraining s j → j.outcomes = [o] → o.code = .seal →
    let record := Config.ledgerBase + 256 * (s.num 0x801002 % 2 ^ 20)
    let digests := Config.digestRingBase + 65536 * (s.num 0x801002 % 4096)
    let tallies := Config.tallyRingBase + 65536 * (s.num 0x801002 % 4096)
    (o.gate = false → ∀ (it : Intake) (rest : List Intake), j.assigned = it :: rest →
      ∃ t, exec .sealRelease s = .next t ∧ t.cycle = later s.cycle o.release ∧ t.num 0x205001 = s.num 0x205001 + 1 ∧
        t.num 0x205002 = (if s.singleField then 0 else (s.num 0x205001 + 1) % 2) ∧ t.num 0x205003 = 0 ∧
        t.num 0x205007 = j.attempt.q.toNat ∧ t.num 0x801002 = s.num 0x801002 + 1 ∧
        (∃ r, t.records.ledger.getLast? = some r ∧
          (r.kind, r.step, r.attempts, r.index) = (1, s.num 0x205001 + 1, min j.attempt.count 255, s.num 0x801002) ∧
          Memory.readBytes t.host.window record 256 = ledgerBytes r) ∧
        (∀ a, (a < record ∨ record + 256 ≤ a) → (a < digests ∨ digests + 65536 ≤ a) → (a < tallies ∨ tallies + 65536 ≤ a) →
          Memory.readByte t.host.window a = Memory.readByte s.host.window a) ∧
        Completed t it.ticket 0 ∧ (t.job.map (·.assigned)) = some rest ∧ t.tokens = s.aheadTokens ∧
        (s.num 0x302002 = 0 ∨ s.num 0x302005 + 1 < s.num 0x302002 →
          t.num 0x302005 = min (s.num 0x302005 + 1) (2 ^ 32 - 1) ∧ t.num 0x302001 = s.num 0x302001) ∧
        (s.num 0x302002 ≠ 0 → s.num 0x302002 ≤ s.num 0x302005 + 1 →
          ofPattern 32 (s.num 0x302001) < ofPattern 32 (s.num 0x302004) →
          t.num 0x302005 = 0 ∧ t.num 0x302001 = toPattern 32 (ofPattern 32 (s.num 0x302001) + 1)) ∧
        t.fuses = s.fuses ∧ t.flash = s.flash ∧ t.host = { s.host with window := t.host.window }) ∧
    (o.gate = true →
      ∃ t, exec .gateRelease s = .next t ∧ t.cycle = later s.cycle o.release ∧
        (t.job.map fun x => (x.attempt.gatePassed, x.outcomes)) = some (true, []) ∧ (∀ pl ∈ t.plots, pl.gateDone = false) ∧
        t = { s with cycle := t.cycle, job := t.job, plots := t.plots, fabric := t.fabric, power := t.power })

/-- Rollbacks (R64, R146, R169, R188, R189, R194): a replay undoes the step and counts a further attempt with checksum mode on; a wider replay widens its group; a skip completes
the batch's record with 0x0062_0001 and lowers the loss scale; a hold completes it with its status and raises vector 2. None of them
moves sealed_step or the field pointer; every plot stops, and no tile of the undone steps stays valid in a Crib. -/
def Obligations.RollbackOfAStep : Prop :=
  ∀ (j : Job) (o : SealOutcome) (it : Intake) (s : State), Canonical s → QuietTraining s j → j.outcomes = [o] →
    j.undoing = false → j.assigned = [it] → o.gate = false → o.status ≠ 0x00610005 →
    ∀ c ∈ [OutcomeCode.replay, .replayWider, .skip, .hold], o.code = c →
      ∃ t, exec .rollbackRelease s = .next t ∧ t.cycle = later s.cycle o.release ∧ t.num 0x205001 = s.num 0x205001 ∧
        t.num 0x205002 = s.num 0x205002 ∧ (∀ pl ∈ t.plots, pl.stopped = true) ∧
        (∀ pl ∈ t.plots, ∀ r, (SMap.get ({} : Region) pl.crib r).tile.tag.valid = true →
          (SMap.get ({} : Region) pl.crib r).tile.tag.stepLo ≠ BitVec.ofNat 32 (s.num 0x205001 + 1)) ∧
        (c = .replay → t.num 0x205006 = min (s.num 0x205006 + 1) (2 ^ 32 - 1) ∧
          (t.job.map fun x => (x.undoing, x.attempt.count, x.attempt.checksum, x.attempt.prev, x.assigned)) =
            some (true, j.attempt.count + 1, true, o.signature, [it])) ∧
        (c = .replayWider → t.num 0x205006 = min (s.num 0x205006 + 1) (2 ^ 32 - 1) ∧
          t.num 0x302007 = min (s.num 0x302007 + 1) (2 ^ 32 - 1) ∧
          (t.job.map fun x => (x.undoing, x.attempt.count, x.attempt.prev, x.attempt.widened, x.assigned)) =
            some (true, j.attempt.count + 1, j.attempt.prev, widenGroup j.attempt.widened o.widthGroup.toNat, [it])) ∧
        (c = .skip → Completed t it.ticket 0x00620001 ∧ t.num 0x205005 = min (s.num 0x205005 + 1) (2 ^ 32 - 1) ∧ t.num 0x302005 = 0 ∧
          (ofPattern 32 (s.num 0x302003) < ofPattern 32 (s.num 0x302001) →
            t.num 0x302001 = toPattern 32 (ofPattern 32 (s.num 0x302001) - 1)) ∧
          (t.job.map fun x => (x.undoing, x.attempt.count, x.assigned)) = some (true, 1, []) ∧
          (t.records.ledger.getLast?.map (·.kind)) = some 2) ∧
        (c = .hold → Completed t it.ticket o.status.toNat ∧ t.num 0x204002 = 1 ∧ (t.num 0x102001).testBit 2 = true ∧
          (t.job.map fun x => (x.heldStatus, x.assigned)) = some (some o.status, []) ∧
          (t.records.ledger.getLast?.map (·.kind)) = some 4)

/-- The end of an undo (R146, R147, R190): with the last return every stopped plot stands at its entry bundle, the tokens are cleared, the
attempt number rises, and a device alone restarts at the count plus the barrier margin; the restart lets the plots run. A request
that does not return is a fatal fault with cause 0x05. -/
def Claims.UndoAndRestart : Prop :=
  ∀ (j : Job) (s : State), Canonical s → QuietTraining s j → j.undoing = true →
    (j.undone = false → j.undoReported = false → s.plots.any requestsOut = false → s.formed = false → s.recovery.repairs = [] →
      s.undoReportable = true → s.fabric.portsLost = false → s.fabric.collects = [] →
      ∃ t, exec .undoComplete s = .next t ∧ t.num 0x205003 = min (s.num 0x205003 + 1) (2 ^ 32 - 1) ∧ t.tokens = [] ∧ t.aheadTokens = [] ∧
        (t.job.bind (·.restartAt)) = some (s.cycle + BitVec.ofNat 64 s.margin) ∧
        (∀ p pl, s.plotAt p = some pl → pl.stopped = true →
          ∃ q, t.plotAt p = some q ∧ q.pc = pl.entry ∧ q.loops = [] ∧ q.arrived = false ∧ q.halted = false ∧ q.crib = pl.crib) ∧
        (∀ k, k ≠ 0x205003 → t.num k = s.num k) ∧
        t = { s with nums := t.nums, plots := t.plots, tokens := [], aheadTokens := [], job := t.job, tiers := t.tiers, fabric := t.fabric }) ∧
    (∀ r, j.restartAt = some r →
      ∃ t, exec .restart s = .next t ∧ t.cycle = later s.cycle r ∧ (t.job.map fun x => (x.undoing, x.restartAt)) = some (false, none) ∧
        (∀ pl ∈ t.plots, pl.stopped = false) ∧ (t.plots.map fun pl => (pl.pc, pl.entry)) = s.plots.map fun pl => (pl.pc, pl.entry)) ∧
    ((s.plots.any fun pl => pl.stopped && pl.tines.any fun t => t.2.stale != 0 || t.2.xfer.any fun x =>
        x.done < x.next && (tineDesc x.desc).space == 1) = true → s.ctl.cur ≠ .faulted →
      ∃ t, exec .hbmTimeout s = .next t ∧ t.ctl.cur = .faulted ∧ t.ctl.tgt = .faulted ∧
        (t.ctl.faultLog.head?.map fun r => (r.cause, r.state)) = some (5, s.ctl.cur) ∧ (t.num 0x102001).testBit 5 = true)

/-- HALT (R123, R463): the plot's program ends. Inside a step the Harvest waits for that step's record to complete; outside of one it comes
at once, in a Growing device that leads. -/
def Claims.HaltOfAPlot : Prop :=
  ∀ (p : Nat) (pl : Plot) (j : Job) (s : State), s.issuing p = some pl → s.job = some j → j.binary.serving = false → j.evalRunning = none →
    (pl.arrived = false → pl.entered = true → j.haltRecord = none →
      exec (.halt p) s = .next ({ s with job := some { j with haltRecord := some (s.num 0x205001 + 1) } }.mapPlot p
        fun q => { q with halted := true })) ∧
    (pl.arrived = false → pl.entered = false → s.ctl.cur = .growing → s.harvest = none → s.isLead = true →
      ∃ t, exec (.halt p) s = .next t ∧ t.ctl.cur = .harvest ∧ t.ctl.tgt = .tilled ∧ t.harvest.isSome = true)

/-- The end of an undo, the restart, an HBM timeout, and HALT. -/
def Obligations.UndoAndHalt : Prop :=
  Claims.UndoAndRestart ∧ Claims.HaltOfAPlot

/-- Records that may not act (R398, R400, R403, R459): each is taken, next_ticket rises by one, and it completes with the status of the first
failing check; a Start above the power cap or with keys that differ, and a load whose binary is not there, leave their code in
last_load_status too. That a record command is a record the host posts for the next ticket and the device takes at once is the
model's choice (log entry 17). -/
def Obligations.RecordsRefused : Prop :=
  ∀ (r : RecordIn) (s : State), Canonical s → MayTake s →
    let refused (c : Instr) (status : Nat) : Prop :=
      ∃ t, exec c s = .next t ∧ t.num 0x201004 = s.num 0x201004 + 1 ∧
        Completed t (BitVec.ofNat 64 (s.num 0x201004)) status ∧ t.ctl.cur = s.ctl.cur ∧ t.job = s.job
    (s.ctl.cur ≠ .tilled → refused (.load r []) 0x00600001) ∧
    (∀ keys, s.ctl.cur ≠ .sown → refused (.start r keys) 0x00650001) ∧
    (s.ctl.cur ≠ .growing ∨ s.serving = true → ∀ c ∈ [Instr.step r, .evaluation r], refused c 0x00650001) ∧
    (s.ctl.cur ≠ .growing ∨ s.serving = false → refused (.batch r) 0x00650001 ∧ refused (.switch r) 0x00630008) ∧
    (s.ctl.cur ≠ .sown → s.ctl.cur ≠ .growing → refused (.drill r []) 0x00630008) ∧
    (s.ctl.cur = .growing → s.held = true →
      (s.serving = false → ∀ c ∈ [Instr.step r, .evaluation r], refused c 0x00610004) ∧
      (s.serving = true → refused (.batch r) 0x00610004)) ∧
    (∀ keys, s.ctl.cur = .sown → r.body ≠ 0 → refused (.start r keys) 0x00650002) ∧
    (∀ (keys : Bool) (j : Job), s.ctl.cur = .sown → r.body = 0 → s.job = some j →
      (s.num 0x700001 < j.binary.yokePeak → refused (.start r keys) 0x0060000D) ∧
      (j.binary.yokePeak ≤ s.num 0x700001 → keys = false → refused (.start r keys) 0x0060000E)) ∧
    (s.ctl.cur = .tilled → s.bodyMalformed 1 r.body.toNat = false →
      SMap.find? s.host.binaries (bitsOf 63 0 r.body.toNat) = none → refused (.load r []) 0x00600002)

/-- Records of a job that act (R163, R166, R176, R203, R336, R398): an accepted load leaves the device Sown, Start makes the job run and
the device Growing; a step record is assigned the next step, the third waits in the table; a batch is admitted with the copy that
serve_ptr names; an evaluation waits for the next seal release. -/
def Obligations.RecordsOfAJob : Prop :=
  ∀ (r : RecordIn) (s : State), Canonical s → MayTake s →
    let body := r.body.toNat
    let ticket : W64 := BitVec.ofNat 64 (s.num 0x201004)
    let it := intakeOf ticket r.userTag body
    let u : State := { taken s 1 r with host := { s.host with held := [] } }
    (∀ (b : Binary) (v : State), s.ctl.cur = .tilled → s.bodyMalformed 1 body = false →
      u.binaryAt (bitsOf 63 0 body) (bitsOf 127 64 body) = some b → u.loadCheck b = none →
      u.loadContents b (bitsOf 199 192 body) (bitsOf 191 128 body) = .ok v →
      ∃ t, exec (.load r []) s = .next t ∧ t.ctl.cur = .sown ∧ t.ctl.tgt = .sown ∧ t.job = v.job ∧ t.plots = v.plots ∧
        (Canonical v → t.num 0x204001 = 0) ∧ Completed t ticket 0) ∧
    (∀ j, s.job = some j → s.ctl.cur = .sown → body = 0 → j.binary.yokePeak ≤ s.num 0x700001 →
      (∀ k, (SMap.get ({} : Slot) s.hopper k).state ≠ 1) →
      ∃ t, exec (.start r true) s = .next t ∧ t.ctl.cur = .growing ∧ t.ctl.tgt = .growing ∧ (t.job.map (·.running)) = some true ∧
        (∀ pl ∈ t.plots, pl.stopped = false) ∧ Completed t ticket 0 ∧ t.num 0x201004 = s.num 0x201004 + 1) ∧
    (∀ j, s.job = some j → s.ctl.cur = .growing → j.binary.serving = false → s.held = false → s.intakeOk 3 body = true →
      (j.assigned.length < 2 → s.num 0x205001 + 1 + j.assigned.length < 2 ^ 64 →
        ∃ t, exec (.step r) s = .next t ∧ (t.job.map (·.assigned)) = some (j.assigned ++ [it]) ∧
          t.num 0x205004 = min (s.num 0x205004 + 1) (2 ^ 64 - 1) ∧ t.num 0x201004 = s.num 0x201004 + 1 ∧
          (SMap.get ({} : Slot) t.hopper (slotOfTicket ticket)).state = 2 ∧
          t = { s with hopper := t.hopper, nums := t.nums, job := t.job, plots := t.plots }) ∧
      (2 ≤ j.assigned.length →
        exec (.step r) s = .next { s with
          hopper := SMap.set {} s.hopper ((s.num 0x201004 - 1) % 4096) (posted s 3 r) }) ∧
      (2 ^ 64 ≤ s.num 0x205001 + 1 + j.assigned.length → j.assigned.length < 2 →
        ∃ t, exec (.step r) s = .next t ∧ Completed t ticket 0x00620003 ∧ t.job = s.job)) ∧
    (∀ j, s.job = some j → s.ctl.cur = .growing → j.binary.serving = true → s.held = false → s.intakeOk 4 body = true →
      j.batches.length < 4 → s.tiers.drills = [] →
      ∃ t, exec (.batch r) s = .next t ∧
        (t.job.map (·.batches)) = some (j.batches ++ [{ intake := it, copy := s.num 0x206001 }]) ∧
        t.num 0x205004 = min (s.num 0x205004 + 1) (2 ^ 64 - 1) ∧ (SMap.get ({} : Slot) t.hopper (slotOfTicket ticket)).state = 2 ∧
        t = { s with hopper := t.hopper, nums := t.nums, job := t.job, plots := t.plots }) ∧
    (∀ j, s.job = some j → s.ctl.cur = .growing → j.binary.serving = false → s.held = false → s.intakeOk 5 body = true →
      j.evalSeq + j.evalQueue.length + j.evalPending.length < 2 ^ 32 - 1 →
      ∃ t, exec (.evaluation r) s = .next t ∧ (t.job.map (·.evalPending)) = some (j.evalPending ++ [it]) ∧
        (SMap.get ({} : Slot) t.hopper (slotOfTicket ticket)).state = 2 ∧
        t = { s with hopper := t.hopper, nums := t.nums, job := t.job })

/-- A sweep (R34, R341, R398): what the host wrote before it stands; with no posted record of the next ticket it takes none; a posted record
whose check fails stays where it is; one in a state that refuses it completes. -/
def Obligations.Sweeps : Prop :=
  ∀ (keys : Bool) (s : State), Canonical s →
    ((∀ k, (SMap.get ({} : Slot) s.hopper k).state ≠ 1) →
      exec (.sweepIntervalExpiry [] keys) s = .next s ∧
      ∀ (a : Nat) (bs : List Byte), ∃ t, exec (.sweepIntervalExpiry [.tier a bs] keys) s = .next t ∧
        t = { s with host := { s.host with tier := t.host.tier } } ∧ Memory.readBytes t.host.tier a bs.length = bs ∧
        ∀ x, (x < a ∨ a + bs.length ≤ x) → Memory.readByte t.host.tier x = Memory.readByte s.host.tier x) ∧
    (∀ v : Slot, SMap.get {} s.hopper ((s.num 0x201004 - 1) % 4096) = v → v.check ≠ slotCheck v →
      exec (.sweepIntervalExpiry [] keys) s = .next s) ∧
    (s.sweeps = true → s.ctl.cur = .tilled → 0 < s.num 0x201004 → s.num 0x201004 < 2 ^ 64 - 1 →
      ∀ v : Slot, SMap.get {} s.hopper ((s.num 0x201004 - 1) % 4096) = v → takeable v (s.num 0x201004) = true → v.kind = 2 →
        (∀ k, k ≠ (s.num 0x201004 - 1) % 4096 → (SMap.get ({} : Slot) s.hopper k).state ≠ 1) →
        ∃ t, exec (.sweepIntervalExpiry [] keys) s = .next t ∧ Completed t v.ticket 0x00650001 ∧
          t.num 0x201004 = s.num 0x201004 + 1 ∧ t.ctl.cur = .tilled)

/-- Drill and switch records (R330, R332, R333, R337 to R340, R344): a drill is refused by the copy or the job kind that it may not use,
queued on a Draining copy that batches hold, or begun with a manifest that reads, its copy then Building and the manifest sent down
the line; a malformed manifest ends it with 0x0063_0007, a line without a route with 0x0063_0006. A Switch to a Ready copy, or to a
Draining one without a queued drill, moves serve_ptr; to one that is not ready it completes with 0x0063_0005. -/
def Claims.DrillAndSwitchRecords : Prop :=
  ∀ (r : RecordIn) (j : Job) (s : State), Canonical s → MayTake s → s.job = some j →
    let body := r.body.toNat
    let ticket : W64 := BitVec.ofNat 64 (s.num 0x201004)
    let c := bitsOf 151 144 body
    let header := s.sourceBytes (body.testBit 137) (bitsOf 127 64 body) 64
    let crcs := s.sourceBytes (body.testBit 137) (bitsOf 127 64 body + 64) (4 * bitsOf 191 160 (leNat header))
    let d : Drill := { ticket := ticket, userTag := r.userTag, copy := c, chain := body.testBit 138, inTier := body.testBit 136
                       sourceAddr := bitsOf 63 0 body }
    let read := readManifest d header crcs (s.windowSize d.inTier - d.sourceAddr)
    (s.bodyMalformed 6 body = false → s.ctl.cur = (if s.serving then .growing else .sown) →
      (∀ status : Nat,
        (s.serving = true ∧ s.singleField = true ∧ status = 0x00630008) ∨
        (s.serving = true ∧ s.singleField = false ∧
          (s.copyState c = 3 ∧ status = 0x00630004 ∨ s.copyState c = 1 ∧ status = 0x00630008 ∨
            s.copyState c = 4 ∧ (s.queuedDrill c).isSome = true ∧ status = 0x00630008)) ∨
        (s.serving = false ∧ (c ≠ 0 ∨ (s.runningDrill 0).isSome = true) ∧ status = 0x00630008) →
        ∃ t, exec (.drill r []) s = .next t ∧ Completed t ticket status ∧ t.tiers = s.tiers ∧ ∀ k, t.copyState k = s.copyState k) ∧
      (s.serving = true → s.singleField = false → s.copyState c = 4 → s.queuedDrill c = none → s.copyHolders c ≠ 0 →
        ∃ t, exec (.drill r []) s = .next t ∧ (SMap.get ({} : Slot) t.hopper (slotOfTicket ticket)).state = 2 ∧
          t.tiers = { s.tiers with drills := s.tiers.drills ++
            [{ d with queued := true, manifest := manifestPlace (body.testBit 137) (bitsOf 127 64 body) }] } ∧
          t = { s with hopper := t.hopper, nums := t.nums, tiers := t.tiers }) ∧
      ((s.serving = true ∧ s.singleField = false ∧
          (s.copyState c = 0 ∨ s.copyState c = 2 ∨ s.copyState c = 4 ∧ s.queuedDrill c = none ∧ s.copyHolders c = 0)) ∨
        (s.serving = false ∧ c = 0) →
        s.runningDrill c = none →
        (∀ d', read = some d' → d.chain = false ∨ s.chainNext = none →
          ∃ t, exec (.drill r []) s = .next t ∧ t.tiers = { s.tiers with drills := s.tiers.drills ++ [d'] } ∧
            (s.serving = true → t.copyState c = 1) ∧ (SMap.get ({} : Slot) t.hopper (slotOfTicket ticket)).state = 2 ∧
            t = { s with hopper := t.hopper, nums := t.nums, tiers := t.tiers }) ∧
        (∀ d' x port, read = some d' → d.chain = true → s.chainNext = some x → s.routePort x = some port →
          ∃ t, exec (.drill r []) s = .next t ∧ t.tiers = { s.tiers with drills := s.tiers.drills ++ [d'] } ∧
            (s.serving = true → t.copyState c = 1) ∧ (SMap.get ({} : Slot) t.hopper (slotOfTicket ticket)).state = 2 ∧
            t.fabric = (s.queueBest port { dest := x, source := s.rank, content :=
              (.drillChunk { copy := c, drillId := d'.drillId, manifest := some (header ++ crcs) }) }).fabric ∧
            t = { s with hopper := t.hopper, nums := t.nums, tiers := t.tiers, fabric := t.fabric }) ∧
        (∀ status : Nat, (read = none ∧ status = 0x00630007) ∨
            (read.isSome = true ∧ d.chain = true ∧ (s.chainNext.any fun x => (s.routePort x).isNone) = true ∧ status = 0x00630006) →
          ∃ t, exec (.drill r []) s = .next t ∧ t.tiers = s.tiers ∧ (s.serving = true → t.copyState c = 0) ∧
            Completed t ticket status))) ∧
    (s.ctl.cur = .growing → s.serving = true → bitsOf 1791 8 body = 0 → bitsOf 7 0 body ≤ 1 →
      let target := bitsOf 7 0 body
      let stays (status : Nat) : Prop :=
        ∃ t, exec (.switch r) s = .next t ∧ Completed t ticket status ∧ t.tiers = s.tiers ∧ t.num 0x206001 = s.num 0x206001 ∧
          ∀ k, t.copyState k = s.copyState k
      (s.singleField = true → stays 0x00630008) ∧
      (s.singleField = false → s.num 0x206001 = target → stays 0) ∧
      (s.singleField = false → s.num 0x206001 ≠ target →
        (s.copyState target = 2 ∨ s.copyState target = 4 ∧ s.queuedDrill target = none →
          s.queuedDrill (1 - target) = none →
          ∃ t, exec (.switch r) s = .next t ∧ t.num 0x206001 = target ∧ t.copyState target = 3 ∧
            t.copyState (1 - target) = (if s.copyHolders (1 - target) = 0 then 2 else 4) ∧
            t.num 0x206006 = min (s.num 0x206006 + 1) (2 ^ 32 - 1) ∧ Completed t ticket 0) ∧
        (s.copyState target ≠ 2 → s.copyState target ≠ 4 ∨ (s.queuedDrill target).isSome = true → stays 0x00630005)))

/-- Chunks, the end and the line of a drill (R324 to R326, R331, R333 to R335, R353, R460): a member of the line takes the manifest; a
chunk out of turn, or one that a full staging ring holds back, is not read; a chunk that verifies is counted, kept, sent on and
drilled, with every tensor that has come whole; a poisoned one, one that fails, one without a route or a tensor that the table lacks
ends the drill, its copy Empty. A drill whose bytes have not all come does not end; then the digest of the source decides. A line
on which link_wait passes ends with 0x0063_0006. -/
def Claims.DrillChunksAndEnds : Prop :=
  ∀ (s : State), Canonical s →
    (∀ (c : DrillChunk) (m : List Byte) (d' : Drill), s.runningDrill c.copy = none → c.manifest = some m →
      ((words16 (s.oct 0x206101)).drop 1).contains s.rank = true → s.drillRefusal c.copy = none → s.copyState c.copy ≠ 4 →
      readManifest { copy := c.copy, chain := true, member := true } (m.take 64) (m.drop 64) (2 ^ 64) = some d' →
      (s.chainNext = none →
        ∃ t, exec (.drillChunk c) s = .next t ∧ t.tiers = { s.tiers with drills := s.tiers.drills ++ [d'] } ∧
          (s.serving = true → t.copyState c.copy = 1) ∧ t = { s with nums := t.nums, tiers := t.tiers }) ∧
      ∀ y port, s.chainNext = some y → s.routePort y = some port →
        ∃ t, exec (.drillChunk c) s = .next t ∧ t.tiers = { s.tiers with drills := s.tiers.drills ++ [d'] } ∧
          t.fabric = (s.queueBest port { dest := y, source := s.rank, content :=
            (.drillChunk { copy := c.copy, drillId := d'.drillId, manifest := some d'.manifest }) }).fabric ∧
          t = { s with nums := t.nums, tiers := t.tiers, fabric := t.fabric }) ∧
    ∀ d : Drill, s.runningDrill d.copy = some d → d.copy < 2 →
    let others := s.tiers.drills.filter fun x => !(x.copy == d.copy && x.queued == d.queued)
    let ends (c : Instr) (status : Nat) : Prop :=
      ∃ t, exec c s = .next t ∧ t.tiers.drills = others ∧
        (s.serving = true → t.copyState d.copy = if status = 0 then 2 else 0) ∧ (d.member = false → Completed t d.ticket status) ∧
        (status ≠ 0 → t.num 0x206105 = min (s.num 0x206105 + 1) (2 ^ 32 - 1))
    (∀ c : DrillChunk, c.copy = d.copy → c.manifest = none →
      (c.index ≠ d.nextChunk ∨ d.sourceBytes ≤ d.received.length ∨ d.member = false ∧ s.ringFull = true →
        exec (.drillChunk c) s = .next s) ∧
      (c.index = d.nextChunk → d.received.length < d.sourceBytes → d.member = true ∨ s.ringFull = false →
        let x : DrillChunk := { c with bytes := s.nextChunk d c, poisoned := s.chunkPoisoned d c }
        let u := (s.bump 0x206104 (min c.failures 4)).bump 0x206103
        let d1 : Drill := { d with nextChunk := d.nextChunk + 1, received := d.received ++ x.bytes }
        let rest := d1.received.drop d.staged
        let len := leNat ((rest.drop 8).take 8)
        let entry := s.tensorOf (BitVec.ofNat 32 (leNat (rest.take 4)))
        (x.poisoned = true → ends (.drillChunk c) 0x0063000A) ∧
        (x.poisoned = false → 4 < c.failures ∨ chunkOk d x = false →
          ends (.drillChunk c) (if d.member then 0x00630006 else 0x00630001)) ∧
        (x.poisoned = false → c.failures ≤ 4 → chunkOk d x = true →
          (d.chain = true → (s.chainNext.any fun y => (s.routePort y).isNone) = true → ends (.drillChunk c) 0x00630006) ∧
          (d.chain = false ∨ s.chainNext = none →
            (rest.length < 16 → exec (.drillChunk c) s = .next (u.putDrill d1)) ∧
            (16 ≤ rest.length → entry = none → ends (.drillChunk c) 0x00630007) ∧
            ∀ (e : TensorEntry), 16 ≤ rest.length → entry = some e →
              (∀ status, (u.putDrill d1).drillTensor e ((rest.drop 16).take len) (((rest.drop 16).take len).length == len)
                (d.copy == 1) = .error status → status ≠ 0 → ends (.drillChunk c) status) ∧
              ((u.putDrill d1).drillTensor e ((rest.drop 16).take len) (((rest.drop 16).take len).length == len) (d.copy == 1) =
                .ok none → exec (.drillChunk c) s = .next (u.putDrill d1)) ∧
              ∀ v w n, (u.putDrill d1).drillTensor e (rest.drop 16) true (d.copy == 1) = .ok (some (v, w, n)) →
                rest.length = 16 + len →
                exec (.drillChunk c) s = .next (v.putDrill { d1 with
                  staged := d.staged + 16 + len, written := d.written ++ w, tally := tallyPlus d.tally n })) ∧
          ∀ y port, d.chain = true → s.chainNext = some y → s.routePort y = some port → rest.length < 16 →
            exec (.drillChunk c) s = .next ((u.queueBest port
              { dest := y, source := s.rank, content := (.drillChunk (chunkOnward d x)) }).putDrill d1)))) ∧
    (d.received.length < d.sourceBytes → exec (.drillComplete d.copy) s = .next s) ∧
    (d.sourceBytes ≤ d.received.length → BitVec.ofNat 256 (leNat (shake256 32 d.received)) = d.sourceDigest →
      d.staged = d.received.length → ends (.drillComplete d.copy) 0) ∧
    (d.sourceBytes ≤ d.received.length →
      BitVec.ofNat 256 (leNat (shake256 32 d.received)) ≠ d.sourceDigest ∨ d.staged ≠ d.received.length →
      ends (.drillComplete d.copy) 0x00630007) ∧
    (d.chain = true → ends (.drillLineTimeout d.copy) 0x00630006) ∧
    (d.chain = false → exec (.drillLineTimeout d.copy) s = .next s)

/-- Drill and switch records, the chunks and the end of a drill. -/
def Obligations.Drills : Prop :=
  Claims.DrillAndSwitchRecords ∧ Claims.DrillChunksAndEnds

/-- Tier moves (R341, R342, R343): a drain writes its region's bytes into the tier window at the binding's place, a fill those of the tier window
into HBM; the move is over, and its done token counts. During an undo a move that does not end is a fatal fault with cause 0x06. -/
def Obligations.TierMoves : Prop :=
  ∀ (b : TierBinding) (h : HbmRegion) (j : Job) (s : State), Canonical s → s.job = some j → tierBindings s.regions = [b] →
    s.tiers.moves = [0] →
    (j.undoing = false → (s.regions.hbm.find? fun r => r.number == b.region) = some h → b.kind = 1 → b.doneToken ≠ 0 → 0 ∈ s.tiers.fired →
      SMap.wf 0 s.tokens = true →
      ∃ t, exec (.tierMoveDone b.region [] true) s = .next t ∧ t.tiers.moves = [] ∧
        Memory.readBytes t.host.tier b.backingOffset h.bytes = Memory.readBytes s.host.window h.start h.bytes ∧
        (∀ a, (a < b.backingOffset ∨ b.backingOffset + h.bytes ≤ a) → Memory.readByte t.host.tier a = Memory.readByte s.host.tier a) ∧
        t.host = { s.host with tier := t.host.tier } ∧ t.token false b.doneToken = (s.token false b.doneToken + 1) % 2 ^ 18 ∧
        t = { s with host := t.host, tiers := t.tiers, tokens := t.tokens, nums := t.nums }) ∧
    (∀ content : List Byte, j.undoing = false → (s.regions.hbm.find? fun r => r.number == b.region) = some h → b.kind = 0 ∨ b.kind = 2 →
      b.doneToken ≠ 0 → 0 ∈ s.tiers.fired → SMap.wf 0 s.tokens = true →
      let bs := if b.kind = 0 then Memory.readBytes s.host.tier b.backingOffset h.bytes else content.take h.bytes
      (s.fillRegion h.start bs).2 = true →
      ∃ t, exec (.tierMoveDone b.region content true) s = .next t ∧ t.tiers.moves = [] ∧
        t.host = (s.fillRegion h.start bs).1.host ∧ t.token false b.doneToken = (s.token false b.doneToken + 1) % 2 ^ 18 ∧
        t.num 0x206204 = (s.bump 0x206204 h.bytes).num 0x206204 ∧
        t = { s with host := t.host, tiers := t.tiers, tokens := t.tokens, nums := t.nums }) ∧
    (j.undoing = true → s.ctl.cur ≠ .faulted →
      ∃ t, exec .tierTimeout s = .next t ∧ t.ctl.cur = .faulted ∧ (t.num 0x102001).testBit 5 = true ∧
        (t.ctl.faultLog.head?.map fun r => (r.cause, r.state)) = some (6, s.ctl.cur)) ∧
    (j.undoing = false → exec .tierTimeout s = .next s)

/-- How a Harvest begins (R31, R32, R364, R365, R369): the verb is answered, has no effect in Tilled, and refuses a save above 2; in a Sown or
Growing device that leads it begins the move to Tilled and fixes the latest stop, here for a Harvest without a save; a member
passes it on; a Function Level Reset is one with a deadline of 100 ms and resets the function. -/
def Obligations.HarvestBegins : Prop :=
  (∀ (r : Req) (s : State), VerbAsked s r → requestKey r = 0x207001 →
    (s.ctl.cur = .tilled → bitsOf 31 24 (leNat r.data) ≤ 2 →
      ∃ t, exec (.harvest r) s = .next t ∧ HasAnswer r none [] t ∧ OnlyAnswers s t) ∧
    (2 < bitsOf 31 24 (leNat r.data) →
      ∃ t, exec (.harvest r) s = .next t ∧ HasAnswer r (some 0x00640003) [] t ∧ OnlyAnswers s t) ∧
    (s.ctl.cur = .sown ∨ s.ctl.cur = .growing → s.harvest = none → bitsOf 31 24 (leNat r.data) = 0 →
      let deadline := s.cycle + BitVec.ofNat 64 (1600000 * min (max (bitsOf 63 32 (leNat r.data)) 100) 600000)
      let hold := 1600000 * bitsOf 15 0 (leNat r.data)
      (s.isLead = true →
        ∃ t, exec (.harvest r) s = .next t ∧ HasAnswer r none [] t ∧ t.ctl.cur = .harvest ∧ t.ctl.tgt = .tilled ∧
          (t.harvest.map fun h => (h.deadline, h.save, h.holdCycles, h.latestStop)) =
            some (deadline, 0, hold, some (deadline - BitVec.ofNat 64 (128000000 + hold)))) ∧
      (s.isLead = false →
        ∃ t, exec (.harvest r) s = .next t ∧ t.ctl.cur = .harvest ∧
          OutMsg.harvestPass deadline 0 (bitsOf 15 0 (leNat r.data)) ∈ t.outbox))) ∧
  (∀ (rank : Nat) (deadline : Cycle) (save hold : Nat) (s : State),
    (s.formed = false ∨ s.isLead = false → exec (.harvestControlWord rank deadline save hold) s = .next s) ∧
    (s.formed = true → s.isLead = true → (s.ctl.cur = .sown ∨ s.ctl.cur = .growing) → s.harvest = none →
      ∃ t, exec (.harvestControlWord rank deadline save hold) s = .next t ∧ t.ctl.cur = .harvest ∧
        (t.harvest.map fun h => (h.deadline, h.save, h.fixedByLead)) = some (deadline, save, true))) ∧
  (∀ (c deadline : Cycle) (save hold : Nat) (s : State),
    (s.formed = false → exec (.latestStopMessage c deadline save hold) s = .next s) ∧
    (s.formed = true → s.isLead = false → (s.ctl.cur = .sown ∨ s.ctl.cur = .growing) → s.harvest = none →
      ∃ t, exec (.latestStopMessage c deadline save hold) s = .next t ∧ t.ctl.cur = .harvest ∧
        (t.harvest.map fun h => (h.deadline, h.latestStop)) = some (deadline, some c))) ∧
  ∀ s : State,
    (s.ctl.cxlUp = false → exec .functionLevelReset s = .next s) ∧
    (s.ctl.cxlUp = true → (s.ctl.cur = .sown ∨ s.ctl.cur = .growing) → s.harvest = none → s.isLead = true →
      ∃ t, exec .functionLevelReset s = .next t ∧ t.ctl.cur = .harvest ∧ t.ctl.cxlConfigured = false ∧ t.ctl.mirror = [{}, {}, {}, {}] ∧
        (t.harvest.map fun h => (h.deadline, h.save)) = some (s.cycle + 160000000, 0))

/-- How a Harvest ends (R365 to R368): at the latest stop the records of unsealed steps complete with 0x0066_0001 and the job runs no
more; the save, which repairs hold back, stands in the tier window or leaves by save_port, and its header says whether it is complete; a save holder takes frames while space remains;
the job-end record and the Harvest event precede the hold, and the scrub clears memory and leaves the device Tilled with the Hopper
table and the team as they were. A cut-off save is its header alone by the model's choice (log entry 30). -/
def Obligations.HarvestEnds : Prop :=
  (∀ (h : HarvestRun) (c : Cycle) (j : Job) (it : Intake) (s : State), Canonical s → s.harvest = some h → h.phase = .stopping →
    h.latestStop = some c → s.job = some j → j.binary.serving = false → j.evalRunning = none → j.evalQueue = [] → j.evalPending = [] →
    j.batches = [] → j.assigned = [it] → j.outcomes = [] →
    ∃ t, exec .latestStop s = .next t ∧ t.cycle = later s.cycle c ∧ Completed t it.ticket 0x00660001 ∧
      (t.job.map fun x => (x.running, x.assigned)) = some (false, [])) ∧
  (∀ (h : HarvestRun) (s : State), Canonical s → s.harvest = some h → h.phase = .saving →
    ((s.repairing = true ∨ h.save ≠ 1 ∧ (s.portAt (s.num 0x207004)).up = false) → exec .saveDone s = .next s) ∧
    ∀ c ∈ [Instr.saveDone, .saveCutoff], (c = .saveDone → s.repairing = false) →
      let head : List Byte := [0x53, 0x41, 0x56, 0x45, 1, 0, if c = .saveDone then 1 else 0, 0]
      let ended (t : State) : Prop :=
        (t.num 0x102001).testBit 4 = true ∧
        (∃ r, t.records.ledger.getLast? = some r ∧ r.kind = 5 ∧
          Memory.readBytes t.host.window (Config.ledgerBase + 256 * (s.num 0x801002 % 2 ^ 20)) 256 = ledgerBytes r) ∧
        (t.harvest.map fun x => (x.phase, x.incomplete)) =
          some (if h.holdCycles = 0 then .scrubbing else .holding, if c = .saveDone then h.incomplete else true)
      (h.save = 1 →
        ∃ t, exec c s = .next t ∧ Memory.readBytes t.host.tier (s.num 0x207003) 8 = head ∧
          t.host = { s.host with tier := t.host.tier, window := t.host.window } ∧ ended t) ∧
      (h.save ≠ 1 → (s.portAt (s.num 0x207004)).up = true →
        ∃ t bs, exec c s = .next t ∧
          OutMsg.saveFrame (s.num 0x207004) (s.portAt (s.num 0x207004)).neighbourRank 0 (head ++ bs) ∈ t.outbox ∧
          t.host = { s.host with window := t.host.window } ∧ ended t)) ∧
  (∀ (port offset : Nat) (bytes : List Byte) (s : State), Canonical s →
    (s.ctl.cur = .tilled → (s.portAt port).up = true → offset + bytes.length ≤ s.num 0x207005 →
      ∃ t, exec (.saveFrameReceive port offset bytes) s = .next t ∧ Memory.readBytes t.host.held offset bytes.length = bytes ∧
        (∀ a, (a < offset ∨ offset + bytes.length ≤ a) → Memory.readByte t.host.held a = Memory.readByte s.host.held a) ∧
        t = { s with host := { s.host with held := t.host.held }, outbox := s.outbox ++ [.credit port] }) ∧
    (s.num 0x207005 < offset + bytes.length → exec (.saveFrameReceive port offset bytes) s = .next s)) ∧
  ∀ (h : HarvestRun) (s : State), s.harvest = some h →
    (h.phase = .holding → exec .ledgerHoldExpiry s = .next { s with harvest := some { h with phase := .scrubbing } }) ∧
    (h.phase = .scrubbing → s.ctl.cur = .harvest →
      ∃ t, exec .scrubDone s = .next t ∧ t.ctl.cur = .tilled ∧ t.ctl.tgt = .tilled ∧ t.harvest = none ∧ t.job = none ∧
        t.host.window = [] ∧ t.plots = [] ∧ t.pool = [] ∧ t.hopper = s.hopper ∧ t.host.tier = s.host.tier ∧
        (∀ k, isJobEntry k = true → t.num k = dfltNum k) ∧ ∀ k, isJobEntry k = false → k ≠ eventCause → t.num k = s.num k)

/-- The yoke meter and the governor (R416, R417): a sample is taken in every state but Fallow; at the end of a window the run fraction falls
to 8 above 3,300 W, in proportion above the cap, rises by one after 100 quiet windows, and else stays; the mean and the largest
mean stand in their entries. -/
def Obligations.MeterAndGovernor : Prop :=
  (∀ (w : Nat) (s : State), s.ctl.cur ≠ .fallow →
    exec (.yokeSample w) s = .next { s with power := { s.power with samples := s.power.samples ++ [w] } }) ∧
  (∀ (w : Nat) (s : State), s.ctl.cur = .fallow → exec (.yokeSample w) s = .next s ∧ exec .governorWindow s = .next s) ∧
  ∀ s : State, Canonical s → s.ctl.cur ≠ .fallow → s.power.samples ≠ [] →
    let n := s.power.samples.length
    let sum := s.power.samples.sum
    let cap := s.num 0x700001
    let r := s.num 0x700004
    ∃ t, exec .governorWindow s = .next t ∧ t.power.samples = [] ∧ t.num 0x700002 = min (sum / n) 65535 ∧
      t.num 0x700003 = max (s.num 0x700003) (min (sum / n) 65535) ∧
      (3300 * n < sum → t.num 0x700004 = 8 ∧ t.power.lowWindows = 0) ∧
      (sum ≤ 3300 * n → cap * n < sum → t.num 0x700004 = max 8 (r * cap * n / sum) ∧ t.power.lowWindows = 0) ∧
      (sum ≤ 3300 * n → sum ≤ cap * n → sum * 64 ≤ cap * 62 * n → s.power.lowWindows < 99 →
        t.num 0x700004 = r ∧ t.power.lowWindows = s.power.lowWindows + 1) ∧
      (sum ≤ 3300 * n → sum ≤ cap * n → sum * 64 ≤ cap * 62 * n → 99 ≤ s.power.lowWindows →
        t.num 0x700004 = min 64 (r + 1) ∧ t.power.lowWindows = 0) ∧
      (sum ≤ 3300 * n → sum ≤ cap * n → cap * 62 * n < sum * 64 → t.num 0x700004 = r ∧ t.power.lowWindows = 0) ∧
      t = { s with cycle := t.cycle, power := t.power, nums := t.nums }

/-- A port through its life (R258, R259, R260, R261): a failed training and a loss take it Down with a doubled wait and count one; after
the wait it trains, unless it is disabled or its Headland is under test (R29); a query is answered with the identity or NOT-READY; a
success starts its sequences, retry buffer and credits anew and says who the device is, or NOT-READY; the loss
of a named Up port while Growing is a fault of kind 0x0A. -/
def Claims.PortLife : Prop :=
  ∀ (n : Nat) (s : State), Canonical s → n < s.fabric.ports.length →
    let p := s.portAt n
    let downed := (s.mapPort n fun p => { p with state := .down, backoffMs := min 320 (2 * p.backoffMs) }).bump 0x404003
    (∀ x, p.state = .training → exec (.portTrainingDone n false x) s = .next downed) ∧
    (∀ x, p.state = .training →
      ∃ t, exec (.portTrainingDone n true x) s = .next t ∧ (t.portAt n).state = .notReady ∧ (t.portAt n).sendSeq = 0 ∧
        (t.portAt n).expectSeq = 0 ∧ (t.portAt n).retryBuffer = [] ∧ (t.portAt n).credits = 64 ∧ (t.portAt n).backoffMs = 10 ∧
        (∀ m, m ≠ n → t.portAt m = s.portAt m) ∧
        t.outbox = s.outbox ++ [if s.ready then .identity n (t.ownIdentity n) else .notReady n] ∧
        t = { s with fabric := { s.fabric with ports := t.fabric.ports }, outbox := t.outbox }) ∧
    (p.state = .down → exec (.trainingRetry n) s =
      .next (if s.num (0x401100 + n + 1) = 1 ∨ (s.recovery.gleanDomain = some 16 ∧ n < 14) ∨
          (s.recovery.gleanDomain = some 17 ∧ 14 ≤ n ∧ n < 28) then s
        else s.mapPort n fun p => { p with state := .training })) ∧
    (p.state = .notReady → p.partnerNotReady = true →
      exec (.readyQuery n false) s = .next { s with outbox := s.outbox ++ [.readyQuery n] }) ∧
    (p.trained = true → exec (.readyQuery n true) s =
      .next { s with outbox := s.outbox ++ [if s.ready then .identity n (s.ownIdentity n) else .notReady n] }) ∧
    (p.trained = false → exec (.readyQuery n true) s = .next s) ∧
    (p.trained = true → s.ctl.cur ≠ .growing →
      ∃ t, exec (.notReadyReceived n) s = .next t ∧ (t.portAt n).state = .notReady ∧
        t.num 0x400006 = (if p.up = true ∧ s.sameTeam p = true ∧ s.formed = true ∧ (s.ctl.cur = .tilled ∨ s.ctl.cur = .sown) then 3
          else s.num 0x400006) ∧
        ∀ k, k ≠ 0x400006 → t.num k = s.num k) ∧
    (p.trained = true → p.named = false → exec (.portDown n) s = .next downed) ∧
    (∀ j, p.up = true → p.named = true → s.ctl.cur = .growing → s.job = some j → j.running = true → j.undoing = false →
      j.binary.serving = false → j.evalRunning = none → j.attempt.fault = none → j.attempt.arrived = false → s.held = false →
      ∃ t, exec (.portDown n) s = .next t ∧ FirstFault downed t 0xFFFF 0x0A 0xFFFF 0xFFFF ∧ (t.portAt n).state = .down)

/-- The exchange of identities (R242, R257, R261, R262): a trained port of a ready device is Up for a neighbour with this device's
team_id and Foreign for another; its link delay reads in the dictionary. -/
def Claims.IdentityExchange : Prop :=
  ∀ (n : Nat) (i : Identity) (s : State), Canonical s → n < 28 → s.fabric.ports.length = 28 → (s.portAt n).trained = true →
    s.ready = true → s.job = none → s.forming = false → s.formed = false →
    ∃ t, exec (.identityExchange n i) s = .next t ∧ t.num (0x401301 + n) = i.linkDelay % 2 ^ 32 ∧
      (∀ k, k ≠ 0x401301 + n → t.num k = s.num k) ∧ (t.portAt n).identity = some i ∧
      (i.teamId.toNat ≠ s.num 0x400001 → (t.portAt n).state = .foreign) ∧
      (i.teamId.toNat = s.num 0x400001 → (t.portAt n).up = true) ∧ (∀ m, m ≠ n → t.portAt m = s.portAt m) ∧
      t = { s with nums := t.nums, fabric := t.fabric, outbox := t.outbox }

/-- A port through its life, and the exchange of identities. -/
def Obligations.Ports : Prop :=
  Claims.PortLife ∧ Claims.IdentityExchange

/-- Forming a team (R242, R244, R250): the Form verb of a team of one device forms at once, with the margin of d_max 0; the lead of a
larger team without neighbours is forming, aligned to itself, in generation 0; 10 s later it has failed. -/
def Obligations.TeamFormation : Prop :=
  (∀ (r : Req) (s : State), Canonical s → VerbAsked s r → requestKey r = 0x400005 → s.ctl.cur = .tilled →
    s.fabric.ports.all (fun p => p.identity.isNone && !p.trained) = true → s.num 0x400003 = 0 → s.successors.head? = some 0 →
    ∃ t, exec (.form r) s = .next t ∧ HasAnswer r none [] t ∧ t.num 0x400007 = 0 ∧ t.num 0x400008 = 0 ∧ t.num 0x400104 = 2 ∧
      (s.num 0x400002 = 1 → t.num 0x400006 = 2 ∧ t.num 0x40000B = 120 + s.num 0x40000A ∧ (t.num 0x102001).testBit 7 = true) ∧
      (2 ≤ s.num 0x400002 → t.num 0x400006 = 1)) ∧
  (∀ (r : Req) (s : State), VerbAsked s r → requestKey r = 0x400005 → s.ctl.cur ≠ .tilled →
    ∃ t, exec (.form r) s = .next t ∧ HasAnswer r (some 0x00640002) [] t ∧ OnlyAnswers s t) ∧
  (∀ s : State, Canonical s → s.num 0x400006 = 1 →
    ∃ t, exec .formTimeout s = .next t ∧ t.num 0x400006 = 3 ∧ (t.num 0x102001).testBit 7 = true ∧
      ∀ k, k ≠ 0x400006 → k ≠ 0x102001 → t.num k = s.num k) ∧
  ∀ s : State, s.num 0x400006 ≠ 1 → exec .formTimeout s = .next s

/-- Bouts and time words (R229, R230, R245, R246, R248): a bout starts at a multiple of 1,856 cycles with a marker and an
acknowledgement on every Up port; the link delay and the offset to the parent are read from the stamps, and a formed device
adds or withholds one increment. -/
def Obligations.BoutsAndTimeWords : Prop :=
  (∀ s : State, s.cycle.toNat + 1855 < 2 ^ 64 →
    ∃ t, exec .boutStart s = .next t ∧ t.cycle.toNat = (s.cycle.toNat + 1855) / 1856 * 1856 ∧
      (∀ n, n < 28 → ((s.portAt n).up = true ∨ (s.portAt n).state = .foreign) →
        OutMsg.boutMarker n ((s.cycle.toNat + 1855) / 1856) ∈ t.outbox ∧
        OutMsg.ack n { upTo := (s.portAt n).missing.headD (s.portAt n).expectSeq, again := (s.portAt n).ask,
                       credits := if s.ringFull = true ∧ s.chainPort n = true then 0 else (s.portAt n).creditsDue } ∈ t.outbox) ∧
      t = { s with cycle := t.cycle, fabric := { s.fabric with ports := t.fabric.ports }, outbox := t.outbox }) ∧
  ∀ (n : Nat) (w : TimeStamps) (s : State), Canonical s → n < 28 → (s.portAt n).up = true →
    let delay := ((w.t2 - w.t1) + (w.t4 - w.t3)) / 2
    let offset := ((w.t2 - w.t1) - (w.t4 - w.t3)) / 2 - ofPattern 32 (s.num (0x401201 + n))
    (n ≠ s.num 0x40000C → ∃ t, exec (.timeWord n w) s = .next t ∧ t.num (0x401301 + n) = toPattern 32 delay ∧
      (∀ k, k ≠ 0x401301 + n → t.num k = s.num k) ∧ t = { s with nums := t.nums }) ∧
    (n = s.num 0x40000C → s.leads = false → s.formed = true → s.num 0x400104 = 2 → s.job = none → -1024 ≤ offset → offset ≤ 1024 →
      ∃ t, exec (.timeWord n w) s = .next t ∧ t.num (0x401301 + n) = toPattern 32 delay ∧ t.num 0x400105 = toPattern 32 offset ∧
        (1024 ≤ (s.cycle - s.fabric.lastSlew).toNat → offset < 0 → t.cycle = s.cycle + 1) ∧
        (1024 ≤ (s.cycle - s.fabric.lastSlew).toNat → 0 < offset → t.cycle = s.cycle ∧ t.fabric.withhold = true) ∧
        (((s.cycle - s.fabric.lastSlew).toNat < 1024 ∨ offset = 0) → t.cycle = s.cycle ∧ t.fabric.withhold = s.fabric.withhold) ∧
        t = { s with nums := t.nums, cycle := t.cycle, fabric := t.fabric }) ∧
    (n = s.num 0x40000C → s.leads = false → s.formed = true → s.num 0x400104 = 2 → (s.ctl.cur = .tilled ∨ s.ctl.cur = .sown) →
      7 ≤ s.fabric.lateBouts → (offset < -1024 ∨ 1024 < offset) →
      ∃ t, exec (.timeWord n w) s = .next t ∧ t.cycle = s.cycle - BitVec.ofInt 64 ((offset + 8) / 16) ∧ t.num 0x400104 = 2 ∧
        t.num 0x400105 = 0)

/-- The succession (R254, R255, R256, R260): the first copy of a heartbeat is passed on to every team port and answered, and one of a
higher generation makes its sender the lead; after lead_silence the lead is silent; the successor takes the lead in the next
generation without a step; a lost device leaves the team failed in Tilled or Sown; a named port that has not returned counts as lost. -/
def Obligations.Succession : Prop :=
  (∀ (n : Nat) (h : Heartbeat) (s : State), Canonical s → s.formed = true → (s.portAt n).up = true → h.sender ≠ s.rank →
    (h.generation = s.num 0x400008 → h.successorIndex = s.fabric.heardSuccessor → s.leads = false → s.fabric.heartbeatBout < h.bout →
      ∃ t, exec (.heartbeatReceive n h) s = .next t ∧
        t.outbox = s.outbox ++ (s.teamPorts.map fun p => .heartbeat p h) ++
          [.heartbeatReply (s.num 0x40000C) s.rank h.generation] ∧
        t.fabric.lastHeartbeat = s.cycle ∧ t.fabric.leadSilent = false ∧
        t = { s with fabric := t.fabric, outbox := t.outbox }) ∧
    (s.num 0x400008 < h.generation → 0 < h.bout →
      ∃ t, exec (.heartbeatReceive n h) s = .next t ∧ t.num 0x400008 = h.generation ∧ t.num 0x400007 = h.sender ∧
        t.fabric.lastHeartbeat = s.cycle ∧ ∀ p ∈ s.teamPorts, OutMsg.heartbeat p h ∈ t.outbox) ∧
    (h.generation < s.num 0x400008 → exec (.heartbeatReceive n h) s = .next s)) ∧
  (∀ s : State, s.formed = true → s.leads = false →
    ∃ t, exec .leadSilence s = .next t ∧
      t.cycle = later s.cycle (s.fabric.lastHeartbeat + BitVec.ofNat 64 (s.num 0x400102)) ∧ t.fabric.leadSilent = true ∧
      t = { s with cycle := t.cycle, fabric := { s.fabric with leadSilent := true } }) ∧
  (∀ (i : Nat) (s : State), Canonical s → s.formed = true → s.leads = false → s.successorIndex = some i → s.job = none →
    s.fabric.subtrees = [] →
    ∃ t, exec .leadTakeover s = .next t ∧ t.num 0x400008 = s.num 0x400008 + 1 ∧ t.num 0x400007 = s.rank ∧ t.num 0x40000C = 0xFF ∧
      t.cycle = later s.cycle (s.fabric.lastHeartbeat + BitVec.ofNat 64 (s.num 0x400102 * (i + 1) / 2))) ∧
  (∀ (rank : Nat) (s : State), s.formed = true → (s.ctl.cur = .tilled ∨ s.ctl.cur = .sown) →
    exec (.linkWaitExpiry (some rank)) s = .next (s.setNum 0x400006 3)) ∧
  (∀ (rank : Nat) (j : Job) (s : State), s.formed = true → s.ctl.cur = .growing → s.isLead = true → s.job = some j →
    j.running = true → s.held = false → j.outcomes = [] →
    ∃ t o, exec (.linkWaitExpiry (some rank)) s = .next t ∧ (t.job.map (·.outcomes)) = some [o] ∧ o.code = .hold ∧
      o.status = 0x00610006 ∧ o.release = s.cycle + BitVec.ofNat 64 (s.num 0x40000B) ∧
      t = { s with job := t.job, outbox := s.outbox ++ [.release (.outcome o)] }) ∧
  ∀ (j : Job) (s : State), s.job = some j → j.undoing = true → j.undone = false →
    s.fabric.ports.any (fun p => p.named && !p.up) = true →
    exec (.linkWaitExpiry none) s = .next { s with fabric := { s.fabric with portsLost := true } }

/-- What a slot position carries (R229, R237, R239, R240): an owned slot the next piece of its entry, which is of the first queued
tile of the entry's tensor and shard (DEDUCED, log entry 153), or nothing; an unowned one a frame asked for again, else a late piece,
else a best-effort frame under a credit. Every frame sent takes the port's next sequence. -/
def Obligations.SlotPositions : Prop :=
  ∀ (n slot : Nat) (s : State), n < s.fabric.ports.length →
    let p := s.portAt n
    let at_ : Cycle := later s.cycle (BitVec.ofNat 64 (1856 * (slot / 28) + 64 * (slot % 28)))
    (p.up = false → exec (.slotPositionStart n slot) s = .next { s with cycle := at_ }) ∧
    (∀ e pl, p.state = .upScheduled → (s.entriesOf n true).find? (fun e => s.owns e slot) = some e → s.relayedBy e = false →
      e.port = n → p.retryBuffer.length < 160 → s.plotAt e.plot = some pl →
      ((∀ y ∈ pl.sendQueue, ofEntry e y.1 = false) → exec (.slotPositionStart n slot) s = .next { s with cycle := at_ }) ∧
      ∀ before x piece after, pl.sendQueue = before ++ (x, piece) :: after → (∀ y ∈ before, ofEntry e y.1 = false) →
        ofEntry e x = true →
        ∃ t, exec (.slotPositionStart n slot) s = .next t ∧
          t.outbox = s.outbox ++ [.frame n (checkedFrame { pieceFrame e slot piece false x with sequence := p.sendSeq })] ∧
          (t.portAt n).sendSeq = p.sendSeq + 1 ∧ (t.portAt n).retryBuffer.length = p.retryBuffer.length + 1 ∧
          (t.plotAt e.plot).map (·.sendQueue) =
            some (before ++ if piece + 1 = pieceCount x then after else (x, piece + 1) :: after) ∧
          t = { s with cycle := at_, plots := t.plots, fabric := t.fabric, outbox := t.outbox }) ∧
    (∀ e pl before x piece after, Canonical s → p.state = .upScheduled → s.entriesOf n true = [e] → s.owns e slot = false →
      s.slotsPast e slot = true → countOf s.fabric.sent (entryKey e) < e.slotCount → s.relayedBy e = false → e.port = n →
      p.resend = [] → p.retryBuffer.length < 160 → s.plotAt e.plot = some pl →
      pl.sendQueue = before ++ (x, piece) :: after → (∀ y ∈ before, ofEntry e y.1 = false) → ofEntry e x = true →
      ∃ t, exec (.slotPositionStart n slot) s = .next t ∧
        t.outbox = s.outbox ++ [.frame n (checkedFrame { pieceFrame e slot piece true x with sequence := p.sendSeq })] ∧
        t.num 0x404007 = min (s.num 0x404007 + 1) (2 ^ 32 - 1) ∧ ∀ k, k ≠ 0x404007 → t.num k = s.num k) ∧
    (p.up = true → (s.entriesOf n true).find? (fun e => s.owns e slot) = none →
      (∀ q rest f k, Canonical s → p.resend = q :: rest → p.retryBuffer.find? (fun r => r.sequence == q) = some { sequence := q, frame := .slot f, fails := k } →
        ∃ t, exec (.slotPositionStart n slot) s = .next t ∧
          t.outbox = s.outbox ++ [.frame n (checkedFrame { f with retry := true, slot := slot })] ∧ (t.portAt n).resend = rest ∧
          t.num 0x404002 = min (s.num 0x404002 + 1) (2 ^ 32 - 1) ∧ ∀ k, k ≠ 0x404002 → t.num k = s.num k) ∧
      (∀ q rest f k, Canonical s → p.resend = q :: rest → p.retryBuffer.find? (fun r => r.sequence == q) = some { sequence := q, frame := .best f, fails := k } →
        ∃ t, exec (.slotPositionStart n slot) s = .next t ∧
          t.outbox = s.outbox ++ [.bestEffort n { sequence := q, retry := true } f] ∧ (t.portAt n).resend = rest ∧
          t.num 0x404002 = min (s.num 0x404002 + 1) (2 ^ 32 - 1) ∧ ∀ k, k ≠ 0x404002 → t.num k = s.num k) ∧
      (p.resend = [] → 160 ≤ p.retryBuffer.length → exec (.slotPositionStart n slot) s = .next { s with cycle := at_ }) ∧
      (∀ f rest, p.resend = [] → p.retryBuffer.length < 160 → p.beQueue = f :: rest →
        (p.state = .upBestEffort ∨
          ∀ e ∈ s.entriesOf n true, s.slotsPast e slot = true → e.slotCount ≤ countOf s.fabric.sent (entryKey e)) →
        (p.credits = 0 → exec (.slotPositionStart n slot) s = .next { s with cycle := at_ }) ∧
        (p.credits ≠ 0 →
          ∃ t, exec (.slotPositionStart n slot) s = .next t ∧
            t.outbox = s.outbox ++ [.bestEffort n { sequence := p.sendSeq } f] ∧ (t.portAt n).credits = p.credits - 1 ∧
            (t.portAt n).sendSeq = p.sendSeq + 1 ∧ (t.portAt n).beQueue = rest ∧ (∀ m, m ≠ n → t.portAt m = s.portAt m) ∧
            t = { s with cycle := at_, fabric := { s.fabric with ports := t.fabric.ports }, outbox := t.outbox })))

/-- Scheduled frames as they arrive (R224, R234, R238, R264): corrected codewords are counted; a frame with a wrong check is asked for
again and changes nothing else, and a duplicate changes nothing; one that is a whole tile, in a slot of its entry, lands in the
entry's next region; one that no entry expects is a fault of kind 0x06. -/
def Obligations.SlotFrames : Prop :=
  ∀ (n : Nat) (f : SlotFrame) (s : State), n < s.fabric.ports.length →
    let p := s.portAt n
    let v := s.bump 0x404001 f.corrected
    let u := v.mapPort n fun p => { p with expectSeq := f.sequence + 1 }
    (p.up = false → exec (.slotFrameReceive n f) s = .next s) ∧
    (p.up = true → p.held = [] → p.missing.contains f.sequence = false → 2 ^ 23 ≤ (f.sequence - p.expectSeq).toNat →
      exec (.slotFrameReceive n f) s = .next v) ∧
    (p.up = true → p.held = [] → f.sequence = p.expectSeq → p.missing = [] →
      (frameGood f = false → exec (.slotFrameReceive n f) s =
        .next (v.mapPort n fun p => { p with expectSeq := f.sequence + 1, missing := [f.sequence], ask := p.ask ++ [f.sequence] })) ∧
      (∀ e j pl, frameGood f = true → s.job = some j → j.running = true → s.staleTag f.tag = false →
        (s.entriesOf n false).find? (fun e => e.entryId == f.tag.linkSlot) = some e → e.kind = 1 → s.owns e f.slot = true →
        f.tag.tensorId = e.tensorId → f.tag.shard = e.shard → f.packed = false → f.lastPiece = true → f.piece = 0 →
        s.fabric.assembling = [] → s.plotAt e.plot = some pl → tileCheckOk { tag := f.tag, payload := f.payload } = true →
        ∃ t, exec (.slotFrameReceive n f) s = .next t ∧
          (t.regionAt e.plot (.crib (s.nextRegion e))).ready = true ∧
          (t.regionAt e.plot (.crib (s.nextRegion e))).tile.payload = f.payload ∧
          (t.regionAt e.plot (.crib (s.nextRegion e))).tile.tag.poison = f.tag.poison ∧
          (t.regionAt e.plot (.crib (s.nextRegion e))).tile.tag.linkSlot = 0 ∧
          t = { v with plots := t.plots, fabric := t.fabric }) ∧
      (∀ j, Canonical s → frameGood f = true → s.job = some j → j.running = true → j.binary.serving = false → j.evalRunning = none →
        j.attempt.fault = none → j.attempt.arrived = false → s.staleTag f.tag = false → s.workOfTag f.tag = .step →
        (s.entriesOf n false).find? (fun e => e.entryId == f.tag.linkSlot) = none →
        ∃ t, exec (.slotFrameReceive n f) s = .next t ∧ FirstFault u t 0xFFFF 0x06 0xFFFF 0xFFFF))

/-- Acknowledgements (R234, R240): frames below the acknowledged sequence leave the retry buffer, credits return up to 64, and a frame
that is asked for is sent again. -/
def Claims.AcknowledgementWords : Prop :=
  ∀ (n : Nat) (w : AckWord) (s : State), n < s.fabric.ports.length →
    let p := s.portAt n
    (p.up = false → exec (.ackWord n w) s = .next s) ∧
    (p.up = true → (∀ r ∈ p.retryBuffer, r.fails < 15) →
      ∃ t, exec (.ackWord n w) s = .next t ∧
        (t.portAt n).retryBuffer.map (·.sequence) =
          (p.retryBuffer.filter fun r => !seqBelow r.sequence w.upTo || w.again.contains r.sequence).map (·.sequence) ∧
        (t.portAt n).credits = min 64 (p.credits + w.credits) ∧
        (∀ q ∈ w.again, (p.retryBuffer.any fun r => r.sequence == q) = true → q ∈ (t.portAt n).resend) ∧
        (w.again = [] → (t.portAt n).resend = p.resend) ∧ (∀ m, m ≠ n → t.portAt m = s.portAt m) ∧
        t = { s with fabric := { s.fabric with ports := t.fabric.ports } })

/-- Best-effort frames (R240, R263): one that is taken returns a credit; for this device its content acts as the event it names, for
another rank it waits at the port that the routing table gives, and without one it is dropped and counted. Frames keep their order:
one that comes before a missing frame is held. -/
def Claims.BestEffortFrames : Prop :=
  ∀ (n : Nat) (h : LinkHead) (f : BeFrame) (s : State), n < s.fabric.ports.length →
    let p := s.portAt n
    let v := s.bump 0x404001 h.corrected
    let u := v.mapPort n fun p => { p with expectSeq := h.sequence + 1, creditsDue := p.creditsDue + 1 }
    (p.up = false → exec (.bestEffortFrame n h f) s = .next s) ∧
    (p.up = true → h.sequence = p.expectSeq → p.missing = [] → h.frameOk = false → exec (.bestEffortFrame n h f) s =
      .next (v.mapPort n fun p => { p with expectSeq := h.sequence + 1, missing := [h.sequence], ask := p.ask ++ [h.sequence] })) ∧
    (∀ m, p.up = true → p.held = [] → h.sequence = p.expectSeq → p.missing = [m] → seqBelow m h.sequence = true →
      h.frameOk = true → exec (.bestEffortFrame n h f) s =
        .next (v.mapPort n fun p => { p with expectSeq := h.sequence + 1, held := [(h.sequence, f)] })) ∧
    (p.up = true → p.held = [] → h.sequence = p.expectSeq → p.missing = [] → h.frameOk = true →
      (f.dest = s.rank →
        (∀ offset bytes, f.content = .saveFrame offset bytes →
          exec (.bestEffortFrame n h f) s = exec (.saveFrameReceive n offset bytes) u) ∧
        (∀ source id shard bo, f.content = .repairFetch source id shard bo →
          exec (.bestEffortFrame n h f) s = exec (.repairServe n source id shard bo) u) ∧
        (∀ id shard bo x, f.content = .repairReply id shard bo x →
          exec (.bestEffortFrame n h f) s = exec (.repairReply id shard bo x) u) ∧
        (∀ c, f.content = .drillChunk c → exec (.bestEffortFrame n h f) s = exec (.drillChunk c) u) ∧
        (∀ b, f.content = .bale b → exec (.bestEffortFrame n h f) s = .next (u.storeBale b)) ∧
        (∀ r, f.content = .roster r → exec (.bestEffortFrame n h f) s = .next (u.takeRoster r)) ∧
        (∀ x write, f.content = .seasonTile x write → exec (.bestEffortFrame n h f) s = .next (u.hearMode x write)) ∧
        (∀ rank season mode, f.content = .ready rank season mode →
          exec (.bestEffortFrame n h f) s = .next (if u.isLead then u.noteReady rank season mode else u)) ∧
        (∀ r offset x, f.content = .tierTile r offset x → exec (.bestEffortFrame n h f) s = .next (u.takeTierTile r offset x))) ∧
      (f.dest ≠ s.rank → s.routePort f.dest = none → exec (.bestEffortFrame n h f) s = .next (u.bump 0x404008)) ∧
      (∀ m, f.dest ≠ s.rank → s.routePort f.dest = some m →
        exec (.bestEffortFrame n h f) s = .next (u.mapPort m fun p => { p with beQueue := p.beQueue ++ [f] })))

/-- Acknowledgement words and best-effort frames. -/
def Obligations.LinkWords : Prop :=
  Claims.AcknowledgementWords ∧ Claims.BestEffortFrames

/-- The Acre datagrams as they reach the device (R287, R288, R291): without a port up nothing arrives; one without a session, or whose
checks fail, is dropped and counted, and so is one of an epoch that is over; one of a reserved type is dropped. -/
def Claims.AcreChecks : Prop :=
  ∀ (h : AcreHeader) (bytes : List Byte) (ok : Bool) (n : Nat) (l : List Nat) (s : State),
    ∀ c ∈ [Instr.baleChunk h bytes, .stripeAck h n, .stripeNack h l, .rosterChunk h bytes ok, .anchorChunk h bytes n,
        .fetchRequest h, .probe h, .probeEcho h n],
      (s.acrePort = none → exec c s = .next s) ∧
      (s.acrePort.isSome = true → s.sessionWith h.senderTeam.toNat h.senderRank.toNat = none →
        exec c s = .next (s.bump 0x504001)) ∧
      (∀ i, s.acrePort.isSome = true → s.sessionWith h.senderTeam.toNat h.senderRank.toNat = some i →
        (h.intact = false → exec c s = .next (s.bump 0x504001)) ∧
        (h.intact = true → (h.type.toNat = 0 ∨ 9 < h.type.toNat) → exec c s = .next s) ∧
        (h.intact = true → 1 ≤ h.type.toNat → h.type.toNat ≤ 9 → h.epoch.toNat < (s.sessionAt i).recvEpoch → (s.sessionAt i).oldEpoch ≠ some h.epoch.toNat →
          exec c s = .next (s.bump 0x504003)))

/-- Sessions (R289, R290, R291, R295, R321, R322): key agreement opens a session, or counts one that the checks refuse; keys move to
the next epoch and an old epoch is erased; probes are echoed, and sent while min_rtt is measured again; an echo gives a sample; a
port's link reads in the dictionary. -/
def Claims.AcreSessions : Prop :=
  (∀ (k : KeyAgreement) (s : State),
    (s.acrePort = none → exec (.keyAgreement k) s = .next s) ∧
    (s.acrePort.isSome = true → k.intact = false → exec (.keyAgreement k) s = .next (s.bump 0x504001)) ∧
    (s.acrePort.isSome = true → k.intact = true → k.fromInitiator = false →
      s.acre.requested.contains (k.peerTeam, k.endpoint) = false → exec (.keyAgreement k) s = .next s) ∧
    (s.acrePort.isSome = true → k.intact = true → k.fromInitiator = true →
      (k.attestationOk = false ∨ k.jobId.toNat ≠ s.num 0x500001 ∨ leBytes 32 k.seasonKey.toNat ≠ fit 32 (s.oct 0x500012)) →
      exec (.keyAgreement k) s = .next (s.bump 0x504002)) ∧
    (∀ p, s.acrePort = some p → s.acre.outgoing = [] → k.intact = true → k.attestationOk = true → k.jobId.toNat = s.num 0x500001 →
      leBytes 32 k.seasonKey.toNat = fit 32 (s.oct 0x500012) →
      (k.fromInitiator = true ∨ s.acre.requested.contains (k.peerTeam, k.endpoint) = true) →
      ∃ t x, exec (.keyAgreement k) s = .next t ∧ t.acre.sessions =
          (s.acre.sessions.filter fun y => !(y.peerTeam == k.peerTeam && y.peerRank == k.peerRank)) ++ [x] ∧
        x.peerTeam = k.peerTeam ∧ x.peerRank = k.peerRank ∧ x.endpoint = k.endpoint ∧ x.sendEpoch = 1 ∧ x.sendCounter = 0 ∧
        (k.fromInitiator = false → x.initiator = true ∧ x.secret = sessionSecret k.sharedSecret k.transcript ∧ t.outbox = s.outbox) ∧
        (k.fromInitiator = true → x.initiator = false ∧ ∃ b, t.outbox = s.outbox ++ [.keyAgreement
          (s.udpPath p k.peerTeam k.endpoint)
          { type := 7, senderRank := BitVec.ofNat 32 s.rank, senderTeam := BitVec.ofNat 16 (s.num 0x500002), length := b.length }
          k.peerTeam k.endpoint true b]))) ∧
  (∀ (i : Nat) (s : State), i < s.acre.sessions.length →
    ((s.sessionAt i).sendEpoch < 2 ^ 32 - 1 →
      ∃ t, exec (.keyEpochChange i) s = .next t ∧ (t.sessionAt i).sendEpoch = (s.sessionAt i).sendEpoch + 1 ∧
        (t.sessionAt i).sendCounter = 0 ∧ ∀ m, m ≠ i → t.sessionAt m = s.sessionAt m) ∧
    (∃ t, exec (.oldKeyErase i) s = .next t ∧ t.sessionAt i = { s.sessionAt i with oldEpoch := none } ∧
      (∀ m, m ≠ i → t.sessionAt m = s.sessionAt m) ∧ t = { s with acre := { s.acre with sessions := t.acre.sessions } }) ∧
    ((s.sessionAt i).resetLeft = 0 → exec (.pacingProbe i) s = .next s) ∧
    ((s.sessionAt i).resetLeft ≠ 0 → MaySend s i →
      ∃ t, exec (.pacingProbe i) s = .next t ∧ DatagramSent s t i { type := 8 } [0])) ∧
  (∀ (h : AcreHeader) (i : Nat) (s : State), LetIn s h i →
    (MaySend s i → ∃ t, exec (.probe h) s = .next t ∧ DatagramSent s t i { type := 9, objectId := h.objectId } [0]) ∧
    (∀ sample, (s.sessionAt i).resetLeft = 0 → (s.sessionAt i).samples = [] → s.acre.held = [] →
      ∃ t, exec (.probeEcho h sample) s = .next t ∧ (t.sessionAt i).minRtt = some sample ∧
        (t.sessionAt i).samples = [(s.cycle, sample)] ∧ t = { s with acre := t.acre, freeCount := s.freeCount + 2 })) ∧
  ∀ (port : Nat) (up training : Bool) (s : State), Canonical s → port < 2 → s.acre.outgoing = [] → s.acre.held = [] →
    ∃ t, exec (.acrePortLinkChange port up training) s = .next t ∧
      t.num (0x501101 + port) =
        (if s.num (0x501001 + port) = 0 then 0 else if up = true then 2 else if training = true then 1 else 0) ∧
      t.acre.portUp = modifyNth (fun _ => decide (s.num (0x501001 + port) ≠ 0) && up) s.acre.portUp port ∧
      t = { s with nums := t.nums, acre := { s.acre with portUp := t.acre.portUp } }

/-- Which Acre datagrams are let in, and the life of a session. -/
def Obligations.AcreSessions : Prop :=
  Claims.AcreChecks ∧ Claims.AcreSessions

/-- Chunks of bales, rosters and anchors (R292, R293, R305, R307, R309, R318): a chunk that is here already is dropped and counted; another is put to
its stripe; with the k-th chunk the stripe is acknowledged, and a bale that is whole and verifies is in the store, a roster that is
whole and fails a check is counted. -/
def Obligations.BaleAndRosterChunks : Prop :=
  ∀ (h : AcreHeader) (bytes : List Byte) (ok : Bool) (i : Nat) (s : State), LetIn s h i →
    (∀ x c, s.acre.stripes.find? (fun y => Stripe.named y h) = some x → SMap.find? x.chunks h.chunk = some c →
      exec (.baleChunk h bytes) s = .next (s.bump 0x504004) ∧ exec (.rosterChunk h bytes ok) s = .next (s.bump 0x504004) ∧
        (s.seasons.fetchAsked = true → h.objectId.toNat / 2 ^ 16 = s.seasons.fetchNumber →
          ∀ season, exec (.anchorChunk h bytes season) s = .next (s.bump 0x504004))) ∧
    (∀ season, ∀ c ∈ [Instr.baleChunk h bytes, .rosterChunk h bytes ok, .anchorChunk h bytes season],
      s.seasons.fetchAsked = true → h.objectId.toNat / 2 ^ 16 = s.seasons.fetchNumber → s.acre.stripes.find? (fun y => Stripe.named y h) = none → 2 ≤ h.k →
      ∃ t x, exec c s = .next t ∧ t.acre.stripes.find? (fun y => Stripe.named y h) = some x ∧
        SMap.find? x.chunks h.chunk = some (padChunk bytes) ∧ x.decoded = false ∧ t = { s with acre := t.acre }) ∧
    (∀ u, s.takeChunk i h bytes = (u, true) → MaySend s i →
      (∀ y ∈ s.acre.stripes, Stripe.named y h = true → y.k = h.k ∧ y.m = h.m) →
      (∃ t, exec (.baleChunk h bytes) s = .next t ∧
        DatagramSent s t i { type := 2, objectId := h.objectId, stripe := h.stripe, k := h.k, m := h.m } [0] ∧
        ∀ l, u.objectBytes h (fun l => 64 + bitsOf 383 352 (leNat (l.take 64))) = some l → baleVerifies (baleOfBytes l) = true →
          baleOfBytes l ∈ t.seasons.store) ∧
      (∃ t, exec (.rosterChunk h bytes ok) s = .next t ∧
        DatagramLeft s t i { type := 2, objectId := h.objectId, stripe := h.stripe, k := h.k, m := h.m } [0] ∧
        ∀ l, u.objectBytes h rosterSize = some l →
          (u.rosterOk (rosterOf l ok) = false → Canonical s →
            t.num 0x504009 = min (s.num 0x504009 + 1) (2 ^ 32 - 1) ∧ t.seasons = s.seasons) ∧
          (u.rosterOk (rosterOf l ok) = true → (t.seasons.rosters.any fun r => r.digest == (rosterOf l ok).digest) = true)))

/-- Acknowledgements, NACKs and anchors (R293, R294, R295, R318): an acknowledged stripe is kept no longer and gives a round-trip sample, at
most ten of whose delivery rates count; a NACK sends the missing data chunk again; a stripe that cannot be decoded is asked for again,
and abandoned after 8 NACKs; a fetch request is answered; the whole reply to the request under way is laid into the pending copies
with zero residuals, and a datagram of another reply is left. The
smoothed time and the rate that a sample gives are free values (log entry 38). -/
def Obligations.AcreStripes : Prop :=
  ∀ (h : AcreHeader) (i : Nat) (s : State),
    (LetIn s h i → ∀ sample, ∃ t, exec (.stripeAck h sample) s = .next t ∧
      (∀ x ∈ t.acre.sentStripes, SentStripe.named x h = false) ∧ (t.sessionAt i).rates.length ≤ 10) ∧
    (LetIn s h i → s.acre.held = [] → ∀ sample, ∃ t, exec (.stripeAck h sample) s = .next t ∧
      t.acre.sentStripes = s.acre.sentStripes.filter (fun x => !SentStripe.named x h) ∧
      (t.sessionAt i).srtt = Config.freeValue s.freeCount ∧
      ((t.sessionAt i).resetLeft ≠ 3 → (s.cycle, sample) ∈ (t.sessionAt i).samples) ∧
      t = { s with acre := t.acre, freeCount := s.freeCount + 2, nums := t.nums }) ∧
    (LetIn s h i → MaySend s i → ∀ x j, s.acre.sentStripes.find? (fun x => SentStripe.named x h) = some x → j < x.k →
      ∃ t, exec (.stripeNack h [j]) s = .next t ∧
        DatagramSent s t i { type := BitVec.ofNat 8 x.type, objectId := x.objectId, stripe := x.stripe, chunk := j, k := x.k, m := x.m }
          (usedChunk x.inUse j (nth [] x.data j)) ∧ t.acre.sentStripes = s.acre.sentStripes) ∧
    (∀ (team rank : Nat) (obj : W64) (n : Nat) (x : Stripe),
      s.acre.stripes.find? (fun x => x.senderTeam == team && x.senderRank == rank && x.objectId == obj && x.stripe == n &&
        !x.decoded && !x.abandoned) = some x →
      team < 2 ^ 16 → rank < 2 ^ 32 →
      (8 ≤ x.nacks → Canonical s →
        ∃ t, exec (.nackTimer team rank obj n) s = .next t ∧ t.num 0x504007 = min (s.num 0x504007 + 1) (2 ^ 32 - 1) ∧
          { x with abandoned := true } ∈ t.acre.stripes ∧ (∀ k, k ≠ 0x504007 → t.num k = s.num k)) ∧
      (x.nacks < 8 → s.sessionWith team rank = some i → MaySend s i →
        ∃ t, exec (.nackTimer team rank obj n) s = .next t ∧ { x with nacks := x.nacks + 1 } ∈ t.acre.stripes ∧
          DatagramSent s t i { type := 3, objectId := obj, stripe := n, k := x.k, m := x.m }
            ((Stripe.lacks x).map (BitVec.ofNat 8)))) ∧
    (LetIn s h i → ∀ bytes season,
      (s.seasons.fetchAsked = false ∨ h.objectId.toNat / 2 ^ 16 ≠ s.seasons.fetchNumber →
        exec (.anchorChunk h bytes season) s = .next s) ∧
      ∀ u, s.takeChunk i h bytes = (u, true) → MaySend s i →
        (∀ y ∈ s.acre.stripes, Stripe.named y h = true → y.k = h.k ∧ y.m = h.m) → s.seasons.fetchAsked = true →
        h.objectId.toNat / 2 ^ 16 = s.seasons.fetchNumber →
        ∃ t, exec (.anchorChunk h bytes season) s = .next t ∧
          DatagramSent s t i { type := 2, objectId := h.objectId, stripe := h.stripe, k := h.k, m := h.m } [0] ∧
          (u.wholeReply h = none → t = u) ∧
          ∀ l, u.wholeReply h = some l → (∀ p ∈ replyParts u.anchorArrays l, (u.drillReply p.1 p.2.1 p.2.2).isSome = true) →
            t.seasons.fetched = some season ∧
            ∀ p ∈ replyParts u.anchorArrays l, ∀ w, u.drillReply p.1 p.2.1 p.2.2 = some w →
              SeasonTensor.zeroResidual (SeasonTensor.fetch p.1 (!s.seasons.ptr) p.1.decl.base w.1 w.2) (!s.seasons.ptr) ∈
                t.seasons.tensors) ∧
    (LetIn s h i → s.anchorReply = [] → exec (.fetchRequest h) s = .next { s with freeCount := s.freeCount + 1 }) ∧
    (LetIn s h i → MaySend s i → 0 < s.codeShape.1 → (s.sessionAt i).sendCounter + 600 < 2 ^ 32 → s.anchorReply.length ≤ 8192 →
      s.anchorReply ≠ [] → s.acre.held = [] → (s.sessionAt i).minRtt = none →
      ∃ t, exec (.fetchRequest h) s = .next t ∧
        ∃ p, s.acrePort = some p ∧
          ∃ b, OutMsg.acre (s.udpPath p (s.sessionAt i).peerTeam (s.sessionAt i).endpoint) (s.sessionAt i).peerTeam
            (s.sessionAt i).peerRank
            { type := 5, objectId := BitVec.ofNat 64 (h.objectId.toNat / 2 ^ 16 * 2 ^ 16), stripe := 0, chunk := 0, k := s.codeShape.1
              m := s.codeShape.2, epoch := BitVec.ofNat 32 (s.sessionAt i).sendEpoch
              counter := BitVec.ofNat 32 (s.sessionAt i).sendCounter, senderRank := BitVec.ofNat 32 s.rank
              senderTeam := BitVec.ofNat 16 (s.num 0x500002), length := s.anchorReply.length } b ∈ t.outbox)

/-- Winnow's passes (R300 to R304, R317, R323): neither runs outside a Growing job in seasons; the first pass, for the regular set when it
is due and else for a late set, takes the season after the committed one and keys every block; the second, once the threshold of every
own tensor is known, forms the pending residuals and the bales, and a late set is followed by a join. A non-finite or poisoned input
fails Winnow: it is counted, and no set is offered. -/
def Claims.WinnowPasses : Prop :=
  (∀ s : State, (s.ctl.cur ≠ .growing ∨ s.num 0x500001 = 0 ∨ s.job = none) →
    exec .winnowPassOne s = .next s ∧ exec .winnowPassTwo s = .next s) ∧
  ∀ (j : Job) (s : State), Canonical s → s.ctl.cur = .growing → s.num 0x500001 ≠ 0 → s.job = some j →
    let failed (t : State) := t.seasons.winnowStage = 2 ∧ t.seasons.winnowFailed = true ∧ t.seasons.winnowDue = false ∧
      t.num 0x50400A = min (s.num 0x50400A + 1) (2 ^ 32 - 1) ∧ t.seasons.store = s.seasons.store ∧
      t.freeCount = s.freeCount + 1 ∧ t.job = s.job
    let due := s.seasons.winnowDue = true ∧ s.seasons.winnowStage = 0
    let late := s.lateDue = true ∧ ¬(s.seasons.winnowLate = true ∧ s.seasons.winnowStage = 1)
    (∀ set : Bool, (set = false ∧ due) ∨ (set = true ∧ ¬due ∧ late) →
      (s.winnowPoisoned = false → (∀ x ∈ s.ownTensors, (s.passBlocks x set s.fresh).isSome = true) →
        ∃ t, exec .winnowPassOne s = .next t ∧ t.seasons.winnowStage = 1 ∧ t.seasons.winnowSeason = s.num 0x50000F + 1 ∧
          t.seasons.winnowFailed = false ∧ t.seasons.winnowLate = set ∧ t.freeCount = s.freeCount + 1 ∧
          t.seasons.store = s.seasons.store ∧ t.job = s.job ∧
          ∀ x ∈ s.seasons.tensors, ∀ bl, x.decl.primary = true → s.passBlocks x set s.fresh = some bl →
            ∃ y ∈ t.seasons.tensors, y.decl = x.decl ∧ y.keys = bl.map blockKey) ∧
      (s.winnowPoisoned = true ∨ (∃ x ∈ s.ownTensors, s.passBlocks x set s.fresh = none) →
        ∃ t, exec .winnowPassOne s = .next t ∧ failed t ∧ t.seasons.winnowSeason = s.num 0x50000F + 1)) ∧
    (¬due → ¬late → exec .winnowPassOne s = .next s) ∧
    (s.seasons.winnowStage ≠ 1 → exec .winnowPassTwo s = .next s) ∧
    (s.seasons.winnowStage = 1 → s.ownTensors.any (fun x => x.tau.isNone) = true → exec .winnowPassTwo s = .next s) ∧
    (s.seasons.winnowStage = 1 → s.ownTensors.all (fun x => x.tau.isSome) = true →
      (s.winnowPoisoned = false → (∀ x ∈ s.ownTensors, (s.packTensor x s.fresh).isSome = true) →
        ∃ t, exec .winnowPassTwo s = .next t ∧ t.seasons.winnowStage = 2 ∧ t.seasons.winnowDue = false ∧
          t.seasons.winnowFailed = s.seasons.winnowFailed ∧ t.freeCount ≥ s.freeCount + 1 ∧
          t.seasons.tensors.map (fun x => (x.anchor0, x.anchor1, x.momentum0, x.momentum1)) =
            s.seasons.tensors.map (fun x => (x.anchor0, x.anchor1, x.momentum0, x.momentum1)) ∧ t.job = s.job ∧
          (∀ x ∈ s.ownTensors, ∀ l, s.packTensor x s.fresh = some l →
            ∃ y ∈ t.seasons.tensors, y.decl = x.decl ∧
              (if s.seasons.ptr = true then y.residual0 else y.residual1) =
                l.flatMap fun b => residualBlock b.delta b.kept) ∧
          (s.seasons.winnowLate = true → t.num 0x500010 = 3 ∧ t.seasons.lateOffered = true ∧
            t.num 0x50400C = min (s.num 0x50400C + 1) (2 ^ 32 - 1))) ∧
      (s.winnowPoisoned = true ∨ (∃ x ∈ s.ownTensors, s.packTensor x s.fresh = none) →
        ∃ t, exec .winnowPassTwo s = .next t ∧ failed t))

/-- The merge sum (R310, R311): it waits for the roster of the next season, for the end of Winnow and for every named set; then the sum of
every season tensor stands, poisoned lines of it are written anew, and the lead device learns that this one is ready. With an empty roster the sum of every element is 0. -/
def Claims.MergeSum : Prop :=
  ∀ s : State,
    (s.mergeRoster = none → exec .mergeSumWritten s = .next s) ∧
    (∀ r, s.mergeRoster = some r → (s.seasons.winnowDue = true ∨ s.seasons.winnowStage = 1 ∨ r.entries.all s.holdsSet = false) →
      exec .mergeSumWritten s = .next s) ∧
    ∀ r j, s.mergeRoster = some r → s.job = some j → s.num 0x500001 ≠ 0 → s.seasons.winnowDue = false → s.seasons.winnowStage ≠ 1 →
      r.entries.all s.holdsSet = true →
      ∃ t, exec .mergeSumWritten s = .next t ∧ t.seasons.mergedRoster = some r.digest ∧
        (s.isLead = true → (s.rank, s.num 0x50000F + 1, CommitMode.merge) ∈ t.seasons.ready ∧ t.fabric = s.fabric ∧ t.nums = s.nums) ∧
        (s.isLead = false → s.routePort s.leadRank = none → t.nums = (s.bump 0x404008).nums) ∧
        (∀ p, s.isLead = false → s.routePort s.leadRank = some p → t.nums = s.nums ∧
          (t.portAt p).beQueue = (s.portAt p).beQueue ++ (if p < s.fabric.ports.length then
            [{ dest := s.leadRank, source := s.rank, content := .ready s.rank (s.num 0x50000F + 1) .merge }] else [])) ∧
        (s.tensorsPoisoned (s.seasons.tensors.map (·.decl.merge)) = false → t.host = s.host) ∧
        t.seasons.tensors = s.seasons.tensors.map (fun x =>
          let sum := fun i => mergedElement (s.namedBlocks r x.decl.weight) r.meanFactor (x.decl.base + i)
          { x with merge := (List.range x.decl.count).map sum }) ∧
        (r.entries = [] → r.meanFactor = 0x3F800000 → ∀ x ∈ t.seasons.tensors, ∀ w ∈ x.merge, w = 0) ∧
        t = { s with seasons := { s.seasons with
          tensors := t.seasons.tensors, mergedRoster := t.seasons.mergedRoster, ready := t.seasons.ready }
                     host := { s.host with lineMeta := t.host.lineMeta }, fabric := t.fabric, nums := t.nums }

/-- The passes of Winnow and the merge sum. -/
def Obligations.Seasons : Prop :=
  Claims.WinnowPasses ∧ Claims.MergeSum

/-- Rosters published (R296, R297, R309, R314): at D_s the lead of the warden notes roster s as published, once, and a successor when its
grace time has passed without a verified roster of lower index. A team outside the wardens list publishes none. -/
def Claims.RostersPublished : Prop :=
  ∀ (now : Nat) (s : State),
    (s.wardenIndex = none → exec (.seasonDeadline now) s = .next s ∧ exec (.successorPublish now) s = .next s) ∧
    (∀ i season, s.wardenIndex = some i → season = (now - s.num 0x500006) / max (s.num 0x500007) 1 →
      (season ∈ s.seasons.published ∨ season = 0 ∨ s.num 0x503002 = 0 ∨ s.num 0x500001 = 0 →
        exec (.seasonDeadline now) s = .next s) ∧
      (∀ j, s.isLead = true → s.job = some j → s.num 0x500001 ≠ 0 → s.num 0x503002 ≠ 0 → s.isWarden = true → season ≠ 0 →
        season ∉ s.seasons.published →
        ∃ t, exec (.seasonDeadline now) s = .next t ∧ t.seasons.published = s.seasons.published ++ [season] ∧ t.job = s.job)) ∧
    (∀ i j season, s.wardenIndex = some i → i ≠ 0 → season = (now - i * s.num 0x50000C - s.num 0x500006) / max (s.num 0x500007) 1 →
      s.isLead = true → s.job = some j → s.num 0x500001 ≠ 0 → s.num 0x503002 ≠ 0 → season ≠ 0 → season ∉ s.seasons.published →
      ((∀ r ∈ s.seasons.rosters, r.season = season → i ≤ r.successorIndex) →
        ∃ t, exec (.successorPublish now) s = .next t ∧ t.seasons.published = s.seasons.published ++ [season] ∧ t.job = s.job) ∧
      ((∃ r ∈ s.seasons.rosters, r.season = season ∧ r.successorIndex < i) → exec (.successorPublish now) s = .next s))

/-- The commit mode (R296, R310, R316, R322): the lead device alone chooses, in the commit step; a mode whose readiness every device has
reported is fixed 1,000 cycles ahead; without readiness at the end of roster_wait it is an isolate, and at season_cap a wait for a
join; at the write cycle the season tile is written. -/
def Claims.CommitModes : Prop :=
  (∀ (now : Nat) (s : State), s.choosing = false → exec .commitModeChoice s = .next s ∧ exec (.rosterWaitExpiry now) s = .next s) ∧
  (∀ s : State, s.choosing = true →
    let fixed (x : SeasonTile) (t : State) :=
      t = { s with seasons := { s.seasons with chosen := some x, writeAt := some (s.cycle + 1000) }
                   fabric := t.fabric, nums := t.nums } ∧
        (s.formed = false → t = { s with seasons := t.seasons })
    (∀ x, s.readyTile = some x → ∃ t, exec .commitModeChoice s = .next t ∧ fixed x t) ∧
    (∀ f, s.num 0x503002 ≠ 0 → s.joinAhead = true → s.seasons.fetched = some f →
      (∀ r ∈ (if s.formed = true then List.range s.teamSize else [s.rank]), (r, f, CommitMode.join) ∈ s.seasons.ready) →
      s.readyTile = some { mode := .join, season := f }) ∧
    (s.readyTile = none → exec .commitModeChoice s = .next s) ∧
    (s.num 0x503002 = 0 → s.num 0x500011 < s.num 0x50000A → s.readyTile = some { mode := .isolate, season := s.num 0x50000F }) ∧
    (∀ d, s.num 0x503002 ≠ 0 → s.joinAhead = false → s.seasons.mergedRoster = some d →
      (∀ r ∈ (if s.formed = true then List.range s.teamSize else [s.rank]),
        (r, s.num 0x50000F + 1, CommitMode.merge) ∈ s.seasons.ready) →
      s.readyTile = some { mode := .merge, season := s.num 0x50000F + 1, rosterDigest := d }) ∧
    (∀ now, Canonical s → s.num 0x503002 ≠ 0 → s.readyTile = none →
      s.num 0x500006 + (s.num 0x50000F + 1) * s.num 0x500007 + s.num 0x50000B ≤ now →
      (s.num 0x500011 < s.num 0x50000A →
        ∃ t, exec (.rosterWaitExpiry now) s = .next t ∧ fixed { mode := .isolate, season := s.num 0x50000F } t) ∧
      (s.num 0x50000A ≤ s.num 0x500011 → exec (.rosterWaitExpiry now) s = .next (s.setNum 0x500010 4)))) ∧
  (∀ (x : SeasonTile) (c : Cycle) (s : State), s.seasons.chosen = some x → s.seasons.writeAt = some c →
    exec .seasonTileWrite s = .next { s with cycle := later s.cycle c, seasons := { s.seasons with tile := some x, writeAt := none } }) ∧
  ∀ s : State, s.seasons.writeAt = none → exec .seasonTileWrite s = .next s

/-- Rosters published and the commit mode. -/
def Obligations.RostersAndModes : Prop :=
  Claims.RostersPublished ∧ Claims.CommitModes

/-- R35: a Field-w element with integer bits e in a block of exponent byte X below 255 has the value e × 2^(X − 127 − (w − 2)); the
exponent byte 255 marks a void block, whose elements are non-finite. -/
def Obligations.FieldElements : Prop :=
  ∀ (w x v : Nat), 2 ≤ w → x ≤ 255 →
    (x ≠ 255 → decodeField w x v = .fin (ofPattern w v) ((x : Int) - 127 - ((w : Int) - 2))) ∧
    (x = 255 → (decodeField w x v).isFinite = false)

/-- R37: element i of a block takes the bits [w·i + w − 1 : w·i] of the element bytes, read as one little-endian string, and is written
there; for w = 12 and w = 20 an element can begin in the middle of a byte. -/
def Obligations.BlockPacking : Prop :=
  (∀ (w i : Nat) (bs : List Byte), 0 < w → i < 32 → (unpack w 32 bs)[i]? = some (leNat bs / 2 ^ (w * i) % 2 ^ w)) ∧
  (∀ (w i : Nat) (es : List Nat), 0 < w → es.length = 32 → (∀ e ∈ es, e < 2 ^ w) → i < 32 →
    (pack w es).length = 4 * w ∧ some (leNat (pack w es) / 2 ^ (w * i) % 2 ^ w) = es[i]?) ∧
  (12 * 1) % 8 ≠ 0 ∧ (20 * 1) % 8 ≠ 0

/-- round_shift (R47): nothing is discarded at n = 0, and nothing is left above 254; nearest even leaves at most half a unit, and at half a
unit an even result; stochastic rounding gives the floor, or one more for exactly the frac lowest of the 2^32 random values. -/
def Obligations.Rounding : Prop :=
  ∀ (m : Int) (n r : Nat) (mode : Mode),
    (n = 0 → roundShift m n mode r = m) ∧
    (254 < n → roundShift m n mode r = 0) ∧
    (0 < n → n ≤ 254 →
      2 * (roundShift m n .rne r * (2 ^ n : Nat) - m).natAbs ≤ 2 ^ n ∧
      (2 * (roundShift m n .rne r * (2 ^ n : Nat) - m).natAbs = 2 ^ n → roundShift m n .rne r % 2 = 0) ∧
      let fl := m / (2 ^ n : Nat)
      let rem := (m - fl * (2 ^ n : Nat)).toNat
      (n ≤ 32 → roundShift m n .sr r = if r < rem * 2 ^ (32 - n) then fl + 1 else fl) ∧
      (32 < n → roundShift m n .sr r = if r < rem / 2 ^ (n - 32) then fl + 1 else fl))
end

