-- ==== Sys2Proof/Laws/Memory.lean ====
section
/-! SUPPORT. Sys2Proof/Laws/Memory.lean: sparse tables and byte memories: what a read after a write gives, what a write leaves
alone, and that every operation keeps the canonical form. -/

namespace Sys2Proof.Machine

namespace SMap

variable {α : Type}

/-- Above a key lies no smaller key's entry. -/
theorem above_mono {j k : Nat} {m : SMap α} (h : j < k) (hk : above k m = true) : above j m = true := by
  cases m with
  | nil => rfl
  | cons e m => simp only [above, decide_eq_true_eq] at *; omega

/-- A key that the table lies above reads the default. -/
theorem get_of_above [DecidableEq α] (d : α) {f : Nat → α} {m : SMap α} {k : Nat} (hm : wfBy f m = true)
    (h : above k m = true) : get d m k = d := by
  induction m with
  | nil => rfl
  | cons e m ih =>
    obtain ⟨j, a⟩ := e
    simp only [wfBy, Bool.and_eq_true, above, decide_eq_true_eq] at hm h
    have : j ≠ k := by omega
    simp only [get, this, if_false]
    exact ih hm.2 (above_mono h hm.1.1)

@[simp] theorem get_put_same (d : α) (m : SMap α) (k : Nat) (v : α) : get d (put m k v) k = v := by
  induction m with
  | nil => simp [put, get]
  | cons e m ih =>
    obtain ⟨j, a⟩ := e
    simp only [put]
    split
    · next h => have : j ≠ k := by omega
                simp [get, this, ih]
    · split <;> simp [get]

theorem get_put_other (d : α) (m : SMap α) {k n : Nat} (v : α) (h : k ≠ n) : get d (put m k v) n = get d m n := by
  induction m with
  | nil => simp [put, get, h]
  | cons e m ih =>
    obtain ⟨j, a⟩ := e
    simp only [put]
    split
    · simp only [get, ih]
    · split
      · next hj => simp [get, h, hj]
      · simp [get, h]

theorem get_erase_other (d : α) (m : SMap α) {k n : Nat} (h : k ≠ n) : get d (erase m k) n = get d m n := by
  induction m with
  | nil => rfl
  | cons e m ih =>
    obtain ⟨j, a⟩ := e
    simp only [erase]
    split
    · next hj => simp [get, hj, h]
    · simp only [get, ih]

theorem get_erase_same [DecidableEq α] (d : α) {f : Nat → α} {m : SMap α} (k : Nat) (hm : wfBy f m = true) :
    get d (erase m k) k = d := by
  induction m with
  | nil => rfl
  | cons e m ih =>
    obtain ⟨j, a⟩ := e
    simp only [wfBy, Bool.and_eq_true] at hm
    simp only [erase]
    split
    · next hj => subst hj; exact get_of_above d hm.2 hm.1.1
    · next hj => simp only [get, hj, if_false]; exact ih hm.2

/-- A read of the key just written gives what was written. -/
theorem get_set_same [DecidableEq α] (d : α) {f : Nat → α} {m : SMap α} (k : Nat) (v : α) (hm : wfBy f m = true) :
    get d (set d m k v) k = v := by
  unfold set
  split
  · next h => rw [get_erase_same d k hm, h]
  · exact get_put_same d m k v

/-- A write leaves every other key alone, whatever the other key's default. -/
theorem get_set_other [DecidableEq α] (d d' : α) (m : SMap α) {k n : Nat} (v : α) (h : k ≠ n) :
    get d' (set d m k v) n = get d' m n := by
  unfold set
  split
  · exact get_erase_other d' m h
  · exact get_put_other d' m v h

theorem above_erase {f : Nat → α} {m : SMap α} {j : Nat} (k : Nat) [DecidableEq α] (hm : wfBy f m = true)
    (h : above j m = true) : above j (erase m k) = true := by
  cases m with
  | nil => rfl
  | cons e m =>
    obtain ⟨i, a⟩ := e
    simp only [wfBy, Bool.and_eq_true] at hm
    simp only [erase]
    split
    · simp only [above, decide_eq_true_eq] at h
      exact above_mono h hm.1.1
    · simpa [above] using h

theorem above_put {m : SMap α} {j k : Nat} (v : α) (hk : j < k) (h : above j m = true) : above j (put m k v) = true := by
  cases m with
  | nil => simp [put, above, hk]
  | cons e m =>
    obtain ⟨i, a⟩ := e
    simp only [put]
    split
    · simpa [above] using h
    · split <;> simp [above, hk]

theorem wf_erase [DecidableEq α] (f : Nat → α) {m : SMap α} (k : Nat) (hm : wfBy f m = true) :
    wfBy f (erase m k) = true := by
  induction m with
  | nil => rfl
  | cons e m ih =>
    obtain ⟨j, a⟩ := e
    have hm' := hm
    simp only [wfBy, Bool.and_eq_true] at hm'
    simp only [erase]
    split
    · exact hm'.2
    · simp only [wfBy, Bool.and_eq_true]
      exact ⟨⟨above_erase k hm'.2 hm'.1.1, hm'.1.2⟩, ih hm'.2⟩

theorem wf_put [DecidableEq α] (f : Nat → α) {m : SMap α} (k : Nat) {v : α} (hv : v ≠ f k) (hm : wfBy f m = true) :
    wfBy f (put m k v) = true := by
  induction m with
  | nil => simp [put, wfBy, above, hv]
  | cons e m ih =>
    obtain ⟨j, a⟩ := e
    have hm' := hm
    simp only [wfBy, Bool.and_eq_true] at hm'
    simp only [put]
    split
    · next h => simp only [wfBy, Bool.and_eq_true]; exact ⟨⟨above_put v h hm'.1.1, hm'.1.2⟩, ih hm'.2⟩
    · split
      · next h => subst h; simp only [wfBy, Bool.and_eq_true, decide_eq_true_eq]; exact ⟨⟨hm'.1.1, hv⟩, hm'.2⟩
      · next h h' =>
        simp only [wfBy, Bool.and_eq_true, above, decide_eq_true_eq] at *
        exact ⟨⟨by omega, hv⟩, hm'⟩

/-- A write keeps the canonical form. -/
theorem wf_set [DecidableEq α] (f : Nat → α) {m : SMap α} (k : Nat) (v : α) (hm : wfBy f m = true) :
    wfBy f (set (f k) m k v) = true := by
  unfold set
  split
  · exact wf_erase f k hm
  · next h => exact wf_put f k h hm

/-- What lies above a key still does when entries are left out. -/
theorem above_filter [DecidableEq α] {f : Nat → α} (p : Nat × α → Bool) {m : SMap α} {j : Nat} (hm : wfBy f m = true)
    (h : above j m = true) : above j (m.filter p) = true := by
  induction m generalizing j with
  | nil => rfl
  | cons e m ih =>
    simp only [wfBy, Bool.and_eq_true] at hm
    simp only [List.filter_cons]
    split
    · simpa [above] using h
    · simp only [above, decide_eq_true_eq] at h
      exact ih hm.2 (above_mono h hm.1.1)

/-- Entries left out keep the canonical form. -/
theorem wf_filter [DecidableEq α] (f : Nat → α) (p : Nat × α → Bool) {m : SMap α} (hm : wfBy f m = true) :
    wfBy f (m.filter p) = true := by
  induction m with
  | nil => rfl
  | cons e m ih =>
    obtain ⟨j, a⟩ := e
    simp only [wfBy, Bool.and_eq_true] at hm
    simp only [List.filter_cons]
    split
    · simp only [wfBy, Bool.and_eq_true]
      exact ⟨⟨above_filter p hm.2 hm.1.1, hm.1.2⟩, ih hm.2⟩
    · exact ih hm.2

theorem above_mapValues {β : Type} [DecidableEq β] [DecidableEq α] {d : Nat → α} (d' : β) (f : α → β) {m : SMap α} {j : Nat}
    (hm : wfBy d m = true) (h : above j m = true) : above j (mapValues d' f m) = true := by
  induction m generalizing j with
  | nil => rfl
  | cons e m ih =>
    obtain ⟨i, a⟩ := e
    simp only [wfBy, Bool.and_eq_true] at hm
    simp only [mapValues]
    split
    · simp only [above, decide_eq_true_eq] at h
      exact ih hm.2 (above_mono h hm.1.1)
    · simpa [above] using h

/-- A change of every entry keeps the canonical form. -/
theorem wf_mapValues {β : Type} [DecidableEq α] [DecidableEq β] {d : Nat → α} (d' : β) (f : α → β) {m : SMap α}
    (hm : wfBy d m = true) : wf d' (mapValues d' f m) = true := by
  induction m with
  | nil => rfl
  | cons e m ih =>
    obtain ⟨j, a⟩ := e
    simp only [wfBy, Bool.and_eq_true] at hm
    simp only [mapValues]
    split
    · exact ih hm.2
    · next h =>
      simp only [wf, wfBy, Bool.and_eq_true, decide_eq_true_eq]
      exact ⟨⟨above_mapValues d' f hm.2 hm.1.1, h⟩, ih hm.2⟩

end SMap

namespace Memory

/-- A byte just written reads back. -/
theorem readByte_writeByte_same {m : List Host.Cell} (a : Nat) (b : Byte) (hm : wf m = true) :
    readByte (writeByte m a b) a = b := SMap.get_set_same unlisted a b hm

/-- A byte written leaves every other address alone. -/
theorem readByte_writeByte_other (m : List Host.Cell) {a n : Nat} (b : Byte) (h : a ≠ n) :
    readByte (writeByte m a b) n = readByte m n := SMap.get_set_other unlisted unlisted m b h

/-- A byte written keeps the canonical form. -/
theorem wf_writeByte {m : List Host.Cell} (a : Nat) (b : Byte) (hm : wf m = true) : wf (writeByte m a b) = true :=
  SMap.wf_set (fun _ => unlisted) a b hm

/-- Bytes written keep the canonical form. -/
theorem wf_writeBytes {m : List Host.Cell} (a : Nat) (bs : List Byte) (hm : wf m = true) : wf (writeBytes m a bs) = true := by
  induction bs generalizing m a with
  | nil => exact hm
  | cons b bs ih => exact ih (a + 1) (wf_writeByte a b hm)

/-- Bytes written leave every address outside them alone. -/
theorem readByte_writeBytes_other (m : List Host.Cell) {a n : Nat} (bs : List Byte) (h : n < a ∨ a + bs.length ≤ n) :
    readByte (writeBytes m a bs) n = readByte m n := by
  induction bs generalizing m a with
  | nil => rfl
  | cons b bs ih =>
    simp only [List.length_cons] at h
    rw [writeBytes, ih _ (by omega), readByte_writeByte_other m b (by omega)]

/-- Bytes just written read back. -/
theorem readBytes_writeBytes_same {m : List Host.Cell} (a : Nat) (bs : List Byte) (hm : wf m = true) :
    readBytes (writeBytes m a bs) a bs.length = bs := by
  induction bs generalizing m a with
  | nil => rfl
  | cons b bs ih =>
    simp only [writeBytes, List.length_cons, readBytes]
    rw [ih (a + 1) (wf_writeByte a b hm), readByte_writeBytes_other _ bs (by omega), readByte_writeByte_same a b hm]

/-- Bytes set to zero keep the canonical form. -/
theorem wf_zero {m : List Host.Cell} (a n : Nat) (hm : wf m = true) : wf (zero m a n) = true :=
  SMap.wf_filter (fun _ => unlisted) _ hm

/-- Bytes set to zero leave every address outside them alone. -/
theorem readByte_zero_other (m : List Host.Cell) {a n k : Nat} (h : k < a ∨ a + n ≤ k) :
    readByte (zero m a n) k = readByte m k := by
  unfold zero readByte
  induction m with
  | nil => rfl
  | cons c m ih =>
    simp only [List.filter_cons]
    by_cases hc : (c.1 < a || a + n ≤ c.1) = true
    · rw [if_pos hc]
      simp only [SMap.get, ih]
    · rw [if_neg hc]
      simp only [Bool.or_eq_true, decide_eq_true_eq, not_or] at hc
      simp only [SMap.get, ih]
      rw [if_neg (by omega)]

end Memory

end Sys2Proof.Machine
end

