-- ==== Sys2Proof/Laws/State.lean ====
section
/-! SUPPORT. Sys2Proof/Laws/State.lean: what each named update of the state leaves in each field, so that no proof unfolds a record
update. -/

namespace Sys2Proof.Machine

variable (s : State)

/-! ### setNum -/

@[simp] theorem State.setNum_ctl (k v : Nat) : (s.setNum k v).ctl = s.ctl := rfl
@[simp] theorem State.setNum_fuses (k v : Nat) : (s.setNum k v).fuses = s.fuses := rfl
@[simp] theorem State.setNum_flash (k v : Nat) : (s.setNum k v).flash = s.flash := rfl
@[simp] theorem State.setNum_sec (k v : Nat) : (s.setNum k v).sec = s.sec := rfl
@[simp] theorem State.setNum_time (k v : Nat) : (s.setNum k v).time = s.time := rfl
@[simp] theorem State.setNum_cycle (k v : Nat) : (s.setNum k v).cycle = s.cycle := rfl
@[simp] theorem State.setNum_nums (k v : Nat) : (s.setNum k v).nums = SMap.set (dfltNum k) s.nums k v := rfl
@[simp] theorem State.setNum_octs (k v : Nat) : (s.setNum k v).octs = s.octs := rfl
@[simp] theorem State.setNum_txn (k v : Nat) : (s.setNum k v).txn = s.txn := rfl
@[simp] theorem State.setNum_hopper (k v : Nat) : (s.setNum k v).hopper = s.hopper := rfl
@[simp] theorem State.setNum_host (k v : Nat) : (s.setNum k v).host = s.host := rfl
@[simp] theorem State.setNum_job (k v : Nat) : (s.setNum k v).job = s.job := rfl
@[simp] theorem State.setNum_records (k v : Nat) : (s.setNum k v).records = s.records := rfl
@[simp] theorem State.setNum_plots (k v : Nat) : (s.setNum k v).plots = s.plots := rfl
@[simp] theorem State.setNum_pool (k v : Nat) : (s.setNum k v).pool = s.pool := rfl
@[simp] theorem State.setNum_tokens (k v : Nat) : (s.setNum k v).tokens = s.tokens := rfl
@[simp] theorem State.setNum_aheadTokens (k v : Nat) : (s.setNum k v).aheadTokens = s.aheadTokens := rfl
@[simp] theorem State.setNum_fabric (k v : Nat) : (s.setNum k v).fabric = s.fabric := rfl
@[simp] theorem State.setNum_seasons (k v : Nat) : (s.setNum k v).seasons = s.seasons := rfl
@[simp] theorem State.setNum_acre (k v : Nat) : (s.setNum k v).acre = s.acre := rfl
@[simp] theorem State.setNum_tiers (k v : Nat) : (s.setNum k v).tiers = s.tiers := rfl
@[simp] theorem State.setNum_recovery (k v : Nat) : (s.setNum k v).recovery = s.recovery := rfl
@[simp] theorem State.setNum_harvest (k v : Nat) : (s.setNum k v).harvest = s.harvest := rfl
@[simp] theorem State.setNum_power (k v : Nat) : (s.setNum k v).power = s.power := rfl
@[simp] theorem State.setNum_freeCount (k v : Nat) : (s.setNum k v).freeCount = s.freeCount := rfl
@[simp] theorem State.setNum_outbox (k v : Nat) : (s.setNum k v).outbox = s.outbox := rfl
@[simp] theorem State.setNum_pending (k v : Nat) : (s.setNum k v).pending = s.pending := rfl
@[simp] theorem State.setNum_oct (k v : Nat) (j : Nat) : (s.setNum k v).oct j = s.oct j := rfl
@[simp] theorem State.setNum_plotAt (k v : Nat) (j : Nat) : (s.setNum k v).plotAt j = s.plotAt j := rfl
@[simp] theorem State.setNum_portAt (k v : Nat) (j : Nat) : (s.setNum k v).portAt j = s.portAt j := rfl
@[simp] theorem State.setNum_serving (k v : Nat) : (s.setNum k v).serving = s.serving := rfl

/-! ### setOct -/

@[simp] theorem State.setOct_ctl (k : Nat) (v : List Byte) : (s.setOct k v).ctl = s.ctl := rfl
@[simp] theorem State.setOct_fuses (k : Nat) (v : List Byte) : (s.setOct k v).fuses = s.fuses := rfl
@[simp] theorem State.setOct_flash (k : Nat) (v : List Byte) : (s.setOct k v).flash = s.flash := rfl
@[simp] theorem State.setOct_sec (k : Nat) (v : List Byte) : (s.setOct k v).sec = s.sec := rfl
@[simp] theorem State.setOct_time (k : Nat) (v : List Byte) : (s.setOct k v).time = s.time := rfl
@[simp] theorem State.setOct_cycle (k : Nat) (v : List Byte) : (s.setOct k v).cycle = s.cycle := rfl
@[simp] theorem State.setOct_nums (k : Nat) (v : List Byte) : (s.setOct k v).nums = s.nums := rfl
@[simp] theorem State.setOct_octs (k : Nat) (v : List Byte) : (s.setOct k v).octs = SMap.set (dfltOct k) s.octs k v := rfl
@[simp] theorem State.setOct_txn (k : Nat) (v : List Byte) : (s.setOct k v).txn = s.txn := rfl
@[simp] theorem State.setOct_hopper (k : Nat) (v : List Byte) : (s.setOct k v).hopper = s.hopper := rfl
@[simp] theorem State.setOct_host (k : Nat) (v : List Byte) : (s.setOct k v).host = s.host := rfl
@[simp] theorem State.setOct_job (k : Nat) (v : List Byte) : (s.setOct k v).job = s.job := rfl
@[simp] theorem State.setOct_records (k : Nat) (v : List Byte) : (s.setOct k v).records = s.records := rfl
@[simp] theorem State.setOct_plots (k : Nat) (v : List Byte) : (s.setOct k v).plots = s.plots := rfl
@[simp] theorem State.setOct_pool (k : Nat) (v : List Byte) : (s.setOct k v).pool = s.pool := rfl
@[simp] theorem State.setOct_tokens (k : Nat) (v : List Byte) : (s.setOct k v).tokens = s.tokens := rfl
@[simp] theorem State.setOct_aheadTokens (k : Nat) (v : List Byte) : (s.setOct k v).aheadTokens = s.aheadTokens := rfl
@[simp] theorem State.setOct_fabric (k : Nat) (v : List Byte) : (s.setOct k v).fabric = s.fabric := rfl
@[simp] theorem State.setOct_seasons (k : Nat) (v : List Byte) : (s.setOct k v).seasons = s.seasons := rfl
@[simp] theorem State.setOct_acre (k : Nat) (v : List Byte) : (s.setOct k v).acre = s.acre := rfl
@[simp] theorem State.setOct_tiers (k : Nat) (v : List Byte) : (s.setOct k v).tiers = s.tiers := rfl
@[simp] theorem State.setOct_recovery (k : Nat) (v : List Byte) : (s.setOct k v).recovery = s.recovery := rfl
@[simp] theorem State.setOct_harvest (k : Nat) (v : List Byte) : (s.setOct k v).harvest = s.harvest := rfl
@[simp] theorem State.setOct_power (k : Nat) (v : List Byte) : (s.setOct k v).power = s.power := rfl
@[simp] theorem State.setOct_freeCount (k : Nat) (v : List Byte) : (s.setOct k v).freeCount = s.freeCount := rfl
@[simp] theorem State.setOct_outbox (k : Nat) (v : List Byte) : (s.setOct k v).outbox = s.outbox := rfl
@[simp] theorem State.setOct_pending (k : Nat) (v : List Byte) : (s.setOct k v).pending = s.pending := rfl
@[simp] theorem State.setOct_num (k : Nat) (v : List Byte) (j : Nat) : (s.setOct k v).num j = s.num j := rfl
@[simp] theorem State.setOct_plotAt (k : Nat) (v : List Byte) (j : Nat) : (s.setOct k v).plotAt j = s.plotAt j := rfl
@[simp] theorem State.setOct_portAt (k : Nat) (v : List Byte) (j : Nat) : (s.setOct k v).portAt j = s.portAt j := rfl
@[simp] theorem State.setOct_serving (k : Nat) (v : List Byte) : (s.setOct k v).serving = s.serving := rfl
@[simp] theorem State.setOct_held (k : Nat) (v : List Byte) : (s.setOct k v).held = s.held := rfl
@[simp] theorem State.setOct_rank (k : Nat) (v : List Byte) : (s.setOct k v).rank = s.rank := rfl
@[simp] theorem State.setOct_teamSize (k : Nat) (v : List Byte) : (s.setOct k v).teamSize = s.teamSize := rfl
@[simp] theorem State.setOct_formed (k : Nat) (v : List Byte) : (s.setOct k v).formed = s.formed := rfl
@[simp] theorem State.setOct_isLead (k : Nat) (v : List Byte) : (s.setOct k v).isLead = s.isLead := rfl

/-! ### bump -/

@[simp] theorem State.bump_ctl (k n : Nat) : (s.bump k n).ctl = s.ctl := rfl
@[simp] theorem State.bump_fuses (k n : Nat) : (s.bump k n).fuses = s.fuses := rfl
@[simp] theorem State.bump_flash (k n : Nat) : (s.bump k n).flash = s.flash := rfl
@[simp] theorem State.bump_sec (k n : Nat) : (s.bump k n).sec = s.sec := rfl
@[simp] theorem State.bump_time (k n : Nat) : (s.bump k n).time = s.time := rfl
@[simp] theorem State.bump_cycle (k n : Nat) : (s.bump k n).cycle = s.cycle := rfl
@[simp] theorem State.bump_nums (k n : Nat) : (s.bump k n).nums = SMap.set (dfltNum k) s.nums k (stick (widthOf k) (s.num k) n) := rfl
@[simp] theorem State.bump_octs (k n : Nat) : (s.bump k n).octs = s.octs := rfl
@[simp] theorem State.bump_txn (k n : Nat) : (s.bump k n).txn = s.txn := rfl
@[simp] theorem State.bump_hopper (k n : Nat) : (s.bump k n).hopper = s.hopper := rfl
@[simp] theorem State.bump_host (k n : Nat) : (s.bump k n).host = s.host := rfl
@[simp] theorem State.bump_job (k n : Nat) : (s.bump k n).job = s.job := rfl
@[simp] theorem State.bump_records (k n : Nat) : (s.bump k n).records = s.records := rfl
@[simp] theorem State.bump_plots (k n : Nat) : (s.bump k n).plots = s.plots := rfl
@[simp] theorem State.bump_pool (k n : Nat) : (s.bump k n).pool = s.pool := rfl
@[simp] theorem State.bump_tokens (k n : Nat) : (s.bump k n).tokens = s.tokens := rfl
@[simp] theorem State.bump_aheadTokens (k n : Nat) : (s.bump k n).aheadTokens = s.aheadTokens := rfl
@[simp] theorem State.bump_fabric (k n : Nat) : (s.bump k n).fabric = s.fabric := rfl
@[simp] theorem State.bump_seasons (k n : Nat) : (s.bump k n).seasons = s.seasons := rfl
@[simp] theorem State.bump_acre (k n : Nat) : (s.bump k n).acre = s.acre := rfl
@[simp] theorem State.bump_tiers (k n : Nat) : (s.bump k n).tiers = s.tiers := rfl
@[simp] theorem State.bump_recovery (k n : Nat) : (s.bump k n).recovery = s.recovery := rfl
@[simp] theorem State.bump_harvest (k n : Nat) : (s.bump k n).harvest = s.harvest := rfl
@[simp] theorem State.bump_power (k n : Nat) : (s.bump k n).power = s.power := rfl
@[simp] theorem State.bump_freeCount (k n : Nat) : (s.bump k n).freeCount = s.freeCount := rfl
@[simp] theorem State.bump_outbox (k n : Nat) : (s.bump k n).outbox = s.outbox := rfl
@[simp] theorem State.bump_pending (k n : Nat) : (s.bump k n).pending = s.pending := rfl
@[simp] theorem State.bump_oct (k n : Nat) (j : Nat) : (s.bump k n).oct j = s.oct j := rfl
@[simp] theorem State.bump_plotAt (k n : Nat) (j : Nat) : (s.bump k n).plotAt j = s.plotAt j := rfl
@[simp] theorem State.bump_portAt (k n : Nat) (j : Nat) : (s.bump k n).portAt j = s.portAt j := rfl
@[simp] theorem State.bump_serving (k n : Nat) : (s.bump k n).serving = s.serving := rfl

/-! ### send -/

@[simp] theorem State.send_ctl (m : OutMsg) : (s.send m).ctl = s.ctl := rfl
@[simp] theorem State.send_fuses (m : OutMsg) : (s.send m).fuses = s.fuses := rfl
@[simp] theorem State.send_flash (m : OutMsg) : (s.send m).flash = s.flash := rfl
@[simp] theorem State.send_sec (m : OutMsg) : (s.send m).sec = s.sec := rfl
@[simp] theorem State.send_time (m : OutMsg) : (s.send m).time = s.time := rfl
@[simp] theorem State.send_cycle (m : OutMsg) : (s.send m).cycle = s.cycle := rfl
@[simp] theorem State.send_nums (m : OutMsg) : (s.send m).nums = s.nums := rfl
@[simp] theorem State.send_octs (m : OutMsg) : (s.send m).octs = s.octs := rfl
@[simp] theorem State.send_txn (m : OutMsg) : (s.send m).txn = s.txn := rfl
@[simp] theorem State.send_hopper (m : OutMsg) : (s.send m).hopper = s.hopper := rfl
@[simp] theorem State.send_host (m : OutMsg) : (s.send m).host = s.host := rfl
@[simp] theorem State.send_job (m : OutMsg) : (s.send m).job = s.job := rfl
@[simp] theorem State.send_records (m : OutMsg) : (s.send m).records = s.records := rfl
@[simp] theorem State.send_plots (m : OutMsg) : (s.send m).plots = s.plots := rfl
@[simp] theorem State.send_pool (m : OutMsg) : (s.send m).pool = s.pool := rfl
@[simp] theorem State.send_tokens (m : OutMsg) : (s.send m).tokens = s.tokens := rfl
@[simp] theorem State.send_aheadTokens (m : OutMsg) : (s.send m).aheadTokens = s.aheadTokens := rfl
@[simp] theorem State.send_fabric (m : OutMsg) : (s.send m).fabric = s.fabric := rfl
@[simp] theorem State.send_seasons (m : OutMsg) : (s.send m).seasons = s.seasons := rfl
@[simp] theorem State.send_acre (m : OutMsg) : (s.send m).acre = s.acre := rfl
@[simp] theorem State.send_tiers (m : OutMsg) : (s.send m).tiers = s.tiers := rfl
@[simp] theorem State.send_recovery (m : OutMsg) : (s.send m).recovery = s.recovery := rfl
@[simp] theorem State.send_harvest (m : OutMsg) : (s.send m).harvest = s.harvest := rfl
@[simp] theorem State.send_power (m : OutMsg) : (s.send m).power = s.power := rfl
@[simp] theorem State.send_freeCount (m : OutMsg) : (s.send m).freeCount = s.freeCount := rfl
@[simp] theorem State.send_outbox (m : OutMsg) : (s.send m).outbox = s.outbox ++ [m] := rfl
@[simp] theorem State.send_pending (m : OutMsg) : (s.send m).pending = s.pending := rfl
@[simp] theorem State.send_num (m : OutMsg) (j : Nat) : (s.send m).num j = s.num j := rfl
@[simp] theorem State.send_oct (m : OutMsg) (j : Nat) : (s.send m).oct j = s.oct j := rfl
@[simp] theorem State.send_plotAt (m : OutMsg) (j : Nat) : (s.send m).plotAt j = s.plotAt j := rfl
@[simp] theorem State.send_portAt (m : OutMsg) (j : Nat) : (s.send m).portAt j = s.portAt j := rfl
@[simp] theorem State.send_serving (m : OutMsg) : (s.send m).serving = s.serving := rfl
@[simp] theorem State.send_held (m : OutMsg) : (s.send m).held = s.held := rfl
@[simp] theorem State.send_rank (m : OutMsg) : (s.send m).rank = s.rank := rfl
@[simp] theorem State.send_teamSize (m : OutMsg) : (s.send m).teamSize = s.teamSize := rfl
@[simp] theorem State.send_formed (m : OutMsg) : (s.send m).formed = s.formed := rfl
@[simp] theorem State.send_isLead (m : OutMsg) : (s.send m).isLead = s.isLead := rfl

/-! ### sendAll -/

@[simp] theorem State.sendAll_ctl (ms : List OutMsg) : (s.sendAll ms).ctl = s.ctl := rfl
@[simp] theorem State.sendAll_fuses (ms : List OutMsg) : (s.sendAll ms).fuses = s.fuses := rfl
@[simp] theorem State.sendAll_flash (ms : List OutMsg) : (s.sendAll ms).flash = s.flash := rfl
@[simp] theorem State.sendAll_sec (ms : List OutMsg) : (s.sendAll ms).sec = s.sec := rfl
@[simp] theorem State.sendAll_time (ms : List OutMsg) : (s.sendAll ms).time = s.time := rfl
@[simp] theorem State.sendAll_cycle (ms : List OutMsg) : (s.sendAll ms).cycle = s.cycle := rfl
@[simp] theorem State.sendAll_nums (ms : List OutMsg) : (s.sendAll ms).nums = s.nums := rfl
@[simp] theorem State.sendAll_octs (ms : List OutMsg) : (s.sendAll ms).octs = s.octs := rfl
@[simp] theorem State.sendAll_txn (ms : List OutMsg) : (s.sendAll ms).txn = s.txn := rfl
@[simp] theorem State.sendAll_hopper (ms : List OutMsg) : (s.sendAll ms).hopper = s.hopper := rfl
@[simp] theorem State.sendAll_host (ms : List OutMsg) : (s.sendAll ms).host = s.host := rfl
@[simp] theorem State.sendAll_job (ms : List OutMsg) : (s.sendAll ms).job = s.job := rfl
@[simp] theorem State.sendAll_records (ms : List OutMsg) : (s.sendAll ms).records = s.records := rfl
@[simp] theorem State.sendAll_plots (ms : List OutMsg) : (s.sendAll ms).plots = s.plots := rfl
@[simp] theorem State.sendAll_pool (ms : List OutMsg) : (s.sendAll ms).pool = s.pool := rfl
@[simp] theorem State.sendAll_tokens (ms : List OutMsg) : (s.sendAll ms).tokens = s.tokens := rfl
@[simp] theorem State.sendAll_aheadTokens (ms : List OutMsg) : (s.sendAll ms).aheadTokens = s.aheadTokens := rfl
@[simp] theorem State.sendAll_fabric (ms : List OutMsg) : (s.sendAll ms).fabric = s.fabric := rfl
@[simp] theorem State.sendAll_seasons (ms : List OutMsg) : (s.sendAll ms).seasons = s.seasons := rfl
@[simp] theorem State.sendAll_acre (ms : List OutMsg) : (s.sendAll ms).acre = s.acre := rfl
@[simp] theorem State.sendAll_tiers (ms : List OutMsg) : (s.sendAll ms).tiers = s.tiers := rfl
@[simp] theorem State.sendAll_recovery (ms : List OutMsg) : (s.sendAll ms).recovery = s.recovery := rfl
@[simp] theorem State.sendAll_harvest (ms : List OutMsg) : (s.sendAll ms).harvest = s.harvest := rfl
@[simp] theorem State.sendAll_power (ms : List OutMsg) : (s.sendAll ms).power = s.power := rfl
@[simp] theorem State.sendAll_freeCount (ms : List OutMsg) : (s.sendAll ms).freeCount = s.freeCount := rfl
@[simp] theorem State.sendAll_outbox (ms : List OutMsg) : (s.sendAll ms).outbox = s.outbox ++ ms := rfl
@[simp] theorem State.sendAll_pending (ms : List OutMsg) : (s.sendAll ms).pending = s.pending := rfl
@[simp] theorem State.sendAll_num (ms : List OutMsg) (j : Nat) : (s.sendAll ms).num j = s.num j := rfl
@[simp] theorem State.sendAll_oct (ms : List OutMsg) (j : Nat) : (s.sendAll ms).oct j = s.oct j := rfl
@[simp] theorem State.sendAll_plotAt (ms : List OutMsg) (j : Nat) : (s.sendAll ms).plotAt j = s.plotAt j := rfl
@[simp] theorem State.sendAll_portAt (ms : List OutMsg) (j : Nat) : (s.sendAll ms).portAt j = s.portAt j := rfl
@[simp] theorem State.sendAll_serving (ms : List OutMsg) : (s.sendAll ms).serving = s.serving := rfl
@[simp] theorem State.sendAll_held (ms : List OutMsg) : (s.sendAll ms).held = s.held := rfl
@[simp] theorem State.sendAll_rank (ms : List OutMsg) : (s.sendAll ms).rank = s.rank := rfl
@[simp] theorem State.sendAll_teamSize (ms : List OutMsg) : (s.sendAll ms).teamSize = s.teamSize := rfl
@[simp] theorem State.sendAll_formed (ms : List OutMsg) : (s.sendAll ms).formed = s.formed := rfl
@[simp] theorem State.sendAll_isLead (ms : List OutMsg) : (s.sendAll ms).isLead = s.isLead := rfl

/-! ### useFree -/

@[simp] theorem State.useFree_ctl : s.useFree.ctl = s.ctl := rfl
@[simp] theorem State.useFree_fuses : s.useFree.fuses = s.fuses := rfl
@[simp] theorem State.useFree_flash : s.useFree.flash = s.flash := rfl
@[simp] theorem State.useFree_sec : s.useFree.sec = s.sec := rfl
@[simp] theorem State.useFree_time : s.useFree.time = s.time := rfl
@[simp] theorem State.useFree_cycle : s.useFree.cycle = s.cycle := rfl
@[simp] theorem State.useFree_nums : s.useFree.nums = s.nums := rfl
@[simp] theorem State.useFree_octs : s.useFree.octs = s.octs := rfl
@[simp] theorem State.useFree_txn : s.useFree.txn = s.txn := rfl
@[simp] theorem State.useFree_hopper : s.useFree.hopper = s.hopper := rfl
@[simp] theorem State.useFree_host : s.useFree.host = s.host := rfl
@[simp] theorem State.useFree_job : s.useFree.job = s.job := rfl
@[simp] theorem State.useFree_records : s.useFree.records = s.records := rfl
@[simp] theorem State.useFree_plots : s.useFree.plots = s.plots := rfl
@[simp] theorem State.useFree_pool : s.useFree.pool = s.pool := rfl
@[simp] theorem State.useFree_tokens : s.useFree.tokens = s.tokens := rfl
@[simp] theorem State.useFree_aheadTokens : s.useFree.aheadTokens = s.aheadTokens := rfl
@[simp] theorem State.useFree_fabric : s.useFree.fabric = s.fabric := rfl
@[simp] theorem State.useFree_seasons : s.useFree.seasons = s.seasons := rfl
@[simp] theorem State.useFree_acre : s.useFree.acre = s.acre := rfl
@[simp] theorem State.useFree_tiers : s.useFree.tiers = s.tiers := rfl
@[simp] theorem State.useFree_recovery : s.useFree.recovery = s.recovery := rfl
@[simp] theorem State.useFree_harvest : s.useFree.harvest = s.harvest := rfl
@[simp] theorem State.useFree_power : s.useFree.power = s.power := rfl
@[simp] theorem State.useFree_freeCount : s.useFree.freeCount = s.freeCount + 1 := rfl
@[simp] theorem State.useFree_outbox : s.useFree.outbox = s.outbox := rfl
@[simp] theorem State.useFree_pending : s.useFree.pending = s.pending := rfl
@[simp] theorem State.useFree_num (j : Nat) : s.useFree.num j = s.num j := rfl
@[simp] theorem State.useFree_oct (j : Nat) : s.useFree.oct j = s.oct j := rfl
@[simp] theorem State.useFree_plotAt (j : Nat) : s.useFree.plotAt j = s.plotAt j := rfl
@[simp] theorem State.useFree_portAt (j : Nat) : s.useFree.portAt j = s.portAt j := rfl
@[simp] theorem State.useFree_serving : s.useFree.serving = s.serving := rfl
@[simp] theorem State.useFree_held : s.useFree.held = s.held := rfl
@[simp] theorem State.useFree_rank : s.useFree.rank = s.rank := rfl
@[simp] theorem State.useFree_teamSize : s.useFree.teamSize = s.teamSize := rfl
@[simp] theorem State.useFree_formed : s.useFree.formed = s.formed := rfl
@[simp] theorem State.useFree_isLead : s.useFree.isLead = s.isLead := rfl

/-! ### upTo -/

@[simp] theorem State.upTo_ctl (c : Cycle) : (s.upTo c).ctl = s.ctl := rfl
@[simp] theorem State.upTo_fuses (c : Cycle) : (s.upTo c).fuses = s.fuses := rfl
@[simp] theorem State.upTo_flash (c : Cycle) : (s.upTo c).flash = s.flash := rfl
@[simp] theorem State.upTo_sec (c : Cycle) : (s.upTo c).sec = s.sec := rfl
@[simp] theorem State.upTo_time (c : Cycle) : (s.upTo c).time = s.time := rfl
@[simp] theorem State.upTo_cycle (c : Cycle) : (s.upTo c).cycle = later s.cycle c := rfl
@[simp] theorem State.upTo_nums (c : Cycle) : (s.upTo c).nums = s.nums := rfl
@[simp] theorem State.upTo_octs (c : Cycle) : (s.upTo c).octs = s.octs := rfl
@[simp] theorem State.upTo_txn (c : Cycle) : (s.upTo c).txn = s.txn := rfl
@[simp] theorem State.upTo_hopper (c : Cycle) : (s.upTo c).hopper = s.hopper := rfl
@[simp] theorem State.upTo_host (c : Cycle) : (s.upTo c).host = s.host := rfl
@[simp] theorem State.upTo_job (c : Cycle) : (s.upTo c).job = s.job := rfl
@[simp] theorem State.upTo_records (c : Cycle) : (s.upTo c).records = s.records := rfl
@[simp] theorem State.upTo_plots (c : Cycle) : (s.upTo c).plots = s.plots := rfl
@[simp] theorem State.upTo_pool (c : Cycle) : (s.upTo c).pool = s.pool := rfl
@[simp] theorem State.upTo_tokens (c : Cycle) : (s.upTo c).tokens = s.tokens := rfl
@[simp] theorem State.upTo_aheadTokens (c : Cycle) : (s.upTo c).aheadTokens = s.aheadTokens := rfl
@[simp] theorem State.upTo_fabric (c : Cycle) : (s.upTo c).fabric = s.fabric := rfl
@[simp] theorem State.upTo_seasons (c : Cycle) : (s.upTo c).seasons = s.seasons := rfl
@[simp] theorem State.upTo_acre (c : Cycle) : (s.upTo c).acre = s.acre := rfl
@[simp] theorem State.upTo_tiers (c : Cycle) : (s.upTo c).tiers = s.tiers := rfl
@[simp] theorem State.upTo_recovery (c : Cycle) : (s.upTo c).recovery = s.recovery := rfl
@[simp] theorem State.upTo_harvest (c : Cycle) : (s.upTo c).harvest = s.harvest := rfl
@[simp] theorem State.upTo_power (c : Cycle) : (s.upTo c).power = s.power := rfl
@[simp] theorem State.upTo_freeCount (c : Cycle) : (s.upTo c).freeCount = s.freeCount := rfl
@[simp] theorem State.upTo_outbox (c : Cycle) : (s.upTo c).outbox = s.outbox := rfl
@[simp] theorem State.upTo_pending (c : Cycle) : (s.upTo c).pending = s.pending := rfl
@[simp] theorem State.upTo_num (c : Cycle) (j : Nat) : (s.upTo c).num j = s.num j := rfl
@[simp] theorem State.upTo_oct (c : Cycle) (j : Nat) : (s.upTo c).oct j = s.oct j := rfl
@[simp] theorem State.upTo_plotAt (c : Cycle) (j : Nat) : (s.upTo c).plotAt j = s.plotAt j := rfl
@[simp] theorem State.upTo_portAt (c : Cycle) (j : Nat) : (s.upTo c).portAt j = s.portAt j := rfl
@[simp] theorem State.upTo_serving (c : Cycle) : (s.upTo c).serving = s.serving := rfl
@[simp] theorem State.upTo_held (c : Cycle) : (s.upTo c).held = s.held := rfl
@[simp] theorem State.upTo_rank (c : Cycle) : (s.upTo c).rank = s.rank := rfl
@[simp] theorem State.upTo_teamSize (c : Cycle) : (s.upTo c).teamSize = s.teamSize := rfl
@[simp] theorem State.upTo_formed (c : Cycle) : (s.upTo c).formed = s.formed := rfl
@[simp] theorem State.upTo_isLead (c : Cycle) : (s.upTo c).isLead = s.isLead := rfl

/-! ### mapJob -/

@[simp] theorem State.mapJob_ctl (f : Job → Job) : (s.mapJob f).ctl = s.ctl := rfl
@[simp] theorem State.mapJob_fuses (f : Job → Job) : (s.mapJob f).fuses = s.fuses := rfl
@[simp] theorem State.mapJob_flash (f : Job → Job) : (s.mapJob f).flash = s.flash := rfl
@[simp] theorem State.mapJob_sec (f : Job → Job) : (s.mapJob f).sec = s.sec := rfl
@[simp] theorem State.mapJob_time (f : Job → Job) : (s.mapJob f).time = s.time := rfl
@[simp] theorem State.mapJob_cycle (f : Job → Job) : (s.mapJob f).cycle = s.cycle := rfl
@[simp] theorem State.mapJob_nums (f : Job → Job) : (s.mapJob f).nums = s.nums := rfl
@[simp] theorem State.mapJob_octs (f : Job → Job) : (s.mapJob f).octs = s.octs := rfl
@[simp] theorem State.mapJob_txn (f : Job → Job) : (s.mapJob f).txn = s.txn := rfl
@[simp] theorem State.mapJob_hopper (f : Job → Job) : (s.mapJob f).hopper = s.hopper := rfl
@[simp] theorem State.mapJob_host (f : Job → Job) : (s.mapJob f).host = s.host := rfl
@[simp] theorem State.mapJob_job (f : Job → Job) : (s.mapJob f).job = s.job.map f := rfl
@[simp] theorem State.mapJob_records (f : Job → Job) : (s.mapJob f).records = s.records := rfl
@[simp] theorem State.mapJob_plots (f : Job → Job) : (s.mapJob f).plots = s.plots := rfl
@[simp] theorem State.mapJob_pool (f : Job → Job) : (s.mapJob f).pool = s.pool := rfl
@[simp] theorem State.mapJob_tokens (f : Job → Job) : (s.mapJob f).tokens = s.tokens := rfl
@[simp] theorem State.mapJob_aheadTokens (f : Job → Job) : (s.mapJob f).aheadTokens = s.aheadTokens := rfl
@[simp] theorem State.mapJob_fabric (f : Job → Job) : (s.mapJob f).fabric = s.fabric := rfl
@[simp] theorem State.mapJob_seasons (f : Job → Job) : (s.mapJob f).seasons = s.seasons := rfl
@[simp] theorem State.mapJob_acre (f : Job → Job) : (s.mapJob f).acre = s.acre := rfl
@[simp] theorem State.mapJob_tiers (f : Job → Job) : (s.mapJob f).tiers = s.tiers := rfl
@[simp] theorem State.mapJob_recovery (f : Job → Job) : (s.mapJob f).recovery = s.recovery := rfl
@[simp] theorem State.mapJob_harvest (f : Job → Job) : (s.mapJob f).harvest = s.harvest := rfl
@[simp] theorem State.mapJob_power (f : Job → Job) : (s.mapJob f).power = s.power := rfl
@[simp] theorem State.mapJob_freeCount (f : Job → Job) : (s.mapJob f).freeCount = s.freeCount := rfl
@[simp] theorem State.mapJob_outbox (f : Job → Job) : (s.mapJob f).outbox = s.outbox := rfl
@[simp] theorem State.mapJob_pending (f : Job → Job) : (s.mapJob f).pending = s.pending := rfl
@[simp] theorem State.mapJob_num (f : Job → Job) (j : Nat) : (s.mapJob f).num j = s.num j := rfl
@[simp] theorem State.mapJob_oct (f : Job → Job) (j : Nat) : (s.mapJob f).oct j = s.oct j := rfl
@[simp] theorem State.mapJob_plotAt (f : Job → Job) (j : Nat) : (s.mapJob f).plotAt j = s.plotAt j := rfl
@[simp] theorem State.mapJob_portAt (f : Job → Job) (j : Nat) : (s.mapJob f).portAt j = s.portAt j := rfl
@[simp] theorem State.mapJob_held (f : Job → Job) : (s.mapJob f).held = s.held := rfl
@[simp] theorem State.mapJob_rank (f : Job → Job) : (s.mapJob f).rank = s.rank := rfl
@[simp] theorem State.mapJob_teamSize (f : Job → Job) : (s.mapJob f).teamSize = s.teamSize := rfl
@[simp] theorem State.mapJob_formed (f : Job → Job) : (s.mapJob f).formed = s.formed := rfl
@[simp] theorem State.mapJob_isLead (f : Job → Job) : (s.mapJob f).isLead = s.isLead := rfl

/-! ### mapPlot -/

@[simp] theorem State.mapPlot_ctl (p : Nat) (f : Plot → Plot) : (s.mapPlot p f).ctl = s.ctl := rfl
@[simp] theorem State.mapPlot_fuses (p : Nat) (f : Plot → Plot) : (s.mapPlot p f).fuses = s.fuses := rfl
@[simp] theorem State.mapPlot_flash (p : Nat) (f : Plot → Plot) : (s.mapPlot p f).flash = s.flash := rfl
@[simp] theorem State.mapPlot_sec (p : Nat) (f : Plot → Plot) : (s.mapPlot p f).sec = s.sec := rfl
@[simp] theorem State.mapPlot_time (p : Nat) (f : Plot → Plot) : (s.mapPlot p f).time = s.time := rfl
@[simp] theorem State.mapPlot_cycle (p : Nat) (f : Plot → Plot) : (s.mapPlot p f).cycle = s.cycle := rfl
@[simp] theorem State.mapPlot_nums (p : Nat) (f : Plot → Plot) : (s.mapPlot p f).nums = s.nums := rfl
@[simp] theorem State.mapPlot_octs (p : Nat) (f : Plot → Plot) : (s.mapPlot p f).octs = s.octs := rfl
@[simp] theorem State.mapPlot_txn (p : Nat) (f : Plot → Plot) : (s.mapPlot p f).txn = s.txn := rfl
@[simp] theorem State.mapPlot_hopper (p : Nat) (f : Plot → Plot) : (s.mapPlot p f).hopper = s.hopper := rfl
@[simp] theorem State.mapPlot_host (p : Nat) (f : Plot → Plot) : (s.mapPlot p f).host = s.host := rfl
@[simp] theorem State.mapPlot_job (p : Nat) (f : Plot → Plot) : (s.mapPlot p f).job = s.job := rfl
@[simp] theorem State.mapPlot_records (p : Nat) (f : Plot → Plot) : (s.mapPlot p f).records = s.records := rfl
@[simp] theorem State.mapPlot_plots (p : Nat) (f : Plot → Plot) : (s.mapPlot p f).plots = modifyNth f s.plots p := rfl
@[simp] theorem State.mapPlot_pool (p : Nat) (f : Plot → Plot) : (s.mapPlot p f).pool = s.pool := rfl
@[simp] theorem State.mapPlot_tokens (p : Nat) (f : Plot → Plot) : (s.mapPlot p f).tokens = s.tokens := rfl
@[simp] theorem State.mapPlot_aheadTokens (p : Nat) (f : Plot → Plot) : (s.mapPlot p f).aheadTokens = s.aheadTokens := rfl
@[simp] theorem State.mapPlot_fabric (p : Nat) (f : Plot → Plot) : (s.mapPlot p f).fabric = s.fabric := rfl
@[simp] theorem State.mapPlot_seasons (p : Nat) (f : Plot → Plot) : (s.mapPlot p f).seasons = s.seasons := rfl
@[simp] theorem State.mapPlot_acre (p : Nat) (f : Plot → Plot) : (s.mapPlot p f).acre = s.acre := rfl
@[simp] theorem State.mapPlot_tiers (p : Nat) (f : Plot → Plot) : (s.mapPlot p f).tiers = s.tiers := rfl
@[simp] theorem State.mapPlot_recovery (p : Nat) (f : Plot → Plot) : (s.mapPlot p f).recovery = s.recovery := rfl
@[simp] theorem State.mapPlot_harvest (p : Nat) (f : Plot → Plot) : (s.mapPlot p f).harvest = s.harvest := rfl
@[simp] theorem State.mapPlot_power (p : Nat) (f : Plot → Plot) : (s.mapPlot p f).power = s.power := rfl
@[simp] theorem State.mapPlot_freeCount (p : Nat) (f : Plot → Plot) : (s.mapPlot p f).freeCount = s.freeCount := rfl
@[simp] theorem State.mapPlot_outbox (p : Nat) (f : Plot → Plot) : (s.mapPlot p f).outbox = s.outbox := rfl
@[simp] theorem State.mapPlot_pending (p : Nat) (f : Plot → Plot) : (s.mapPlot p f).pending = s.pending := rfl
@[simp] theorem State.mapPlot_num (p : Nat) (f : Plot → Plot) (j : Nat) : (s.mapPlot p f).num j = s.num j := rfl
@[simp] theorem State.mapPlot_oct (p : Nat) (f : Plot → Plot) (j : Nat) : (s.mapPlot p f).oct j = s.oct j := rfl
@[simp] theorem State.mapPlot_portAt (p : Nat) (f : Plot → Plot) (j : Nat) : (s.mapPlot p f).portAt j = s.portAt j := rfl
@[simp] theorem State.mapPlot_serving (p : Nat) (f : Plot → Plot) : (s.mapPlot p f).serving = s.serving := rfl
@[simp] theorem State.mapPlot_held (p : Nat) (f : Plot → Plot) : (s.mapPlot p f).held = s.held := rfl
@[simp] theorem State.mapPlot_rank (p : Nat) (f : Plot → Plot) : (s.mapPlot p f).rank = s.rank := rfl
@[simp] theorem State.mapPlot_teamSize (p : Nat) (f : Plot → Plot) : (s.mapPlot p f).teamSize = s.teamSize := rfl
@[simp] theorem State.mapPlot_formed (p : Nat) (f : Plot → Plot) : (s.mapPlot p f).formed = s.formed := rfl
@[simp] theorem State.mapPlot_isLead (p : Nat) (f : Plot → Plot) : (s.mapPlot p f).isLead = s.isLead := rfl

/-! ### mapPlots -/

@[simp] theorem State.mapPlots_ctl (f : Plot → Plot) : (s.mapPlots f).ctl = s.ctl := rfl
@[simp] theorem State.mapPlots_fuses (f : Plot → Plot) : (s.mapPlots f).fuses = s.fuses := rfl
@[simp] theorem State.mapPlots_flash (f : Plot → Plot) : (s.mapPlots f).flash = s.flash := rfl
@[simp] theorem State.mapPlots_sec (f : Plot → Plot) : (s.mapPlots f).sec = s.sec := rfl
@[simp] theorem State.mapPlots_time (f : Plot → Plot) : (s.mapPlots f).time = s.time := rfl
@[simp] theorem State.mapPlots_cycle (f : Plot → Plot) : (s.mapPlots f).cycle = s.cycle := rfl
@[simp] theorem State.mapPlots_nums (f : Plot → Plot) : (s.mapPlots f).nums = s.nums := rfl
@[simp] theorem State.mapPlots_octs (f : Plot → Plot) : (s.mapPlots f).octs = s.octs := rfl
@[simp] theorem State.mapPlots_txn (f : Plot → Plot) : (s.mapPlots f).txn = s.txn := rfl
@[simp] theorem State.mapPlots_hopper (f : Plot → Plot) : (s.mapPlots f).hopper = s.hopper := rfl
@[simp] theorem State.mapPlots_host (f : Plot → Plot) : (s.mapPlots f).host = s.host := rfl
@[simp] theorem State.mapPlots_job (f : Plot → Plot) : (s.mapPlots f).job = s.job := rfl
@[simp] theorem State.mapPlots_records (f : Plot → Plot) : (s.mapPlots f).records = s.records := rfl
@[simp] theorem State.mapPlots_plots (f : Plot → Plot) : (s.mapPlots f).plots = s.plots.map f := rfl
@[simp] theorem State.mapPlots_pool (f : Plot → Plot) : (s.mapPlots f).pool = s.pool := rfl
@[simp] theorem State.mapPlots_tokens (f : Plot → Plot) : (s.mapPlots f).tokens = s.tokens := rfl
@[simp] theorem State.mapPlots_aheadTokens (f : Plot → Plot) : (s.mapPlots f).aheadTokens = s.aheadTokens := rfl
@[simp] theorem State.mapPlots_fabric (f : Plot → Plot) : (s.mapPlots f).fabric = s.fabric := rfl
@[simp] theorem State.mapPlots_seasons (f : Plot → Plot) : (s.mapPlots f).seasons = s.seasons := rfl
@[simp] theorem State.mapPlots_acre (f : Plot → Plot) : (s.mapPlots f).acre = s.acre := rfl
@[simp] theorem State.mapPlots_tiers (f : Plot → Plot) : (s.mapPlots f).tiers = s.tiers := rfl
@[simp] theorem State.mapPlots_recovery (f : Plot → Plot) : (s.mapPlots f).recovery = s.recovery := rfl
@[simp] theorem State.mapPlots_harvest (f : Plot → Plot) : (s.mapPlots f).harvest = s.harvest := rfl
@[simp] theorem State.mapPlots_power (f : Plot → Plot) : (s.mapPlots f).power = s.power := rfl
@[simp] theorem State.mapPlots_freeCount (f : Plot → Plot) : (s.mapPlots f).freeCount = s.freeCount := rfl
@[simp] theorem State.mapPlots_outbox (f : Plot → Plot) : (s.mapPlots f).outbox = s.outbox := rfl
@[simp] theorem State.mapPlots_pending (f : Plot → Plot) : (s.mapPlots f).pending = s.pending := rfl
@[simp] theorem State.mapPlots_num (f : Plot → Plot) (j : Nat) : (s.mapPlots f).num j = s.num j := rfl
@[simp] theorem State.mapPlots_oct (f : Plot → Plot) (j : Nat) : (s.mapPlots f).oct j = s.oct j := rfl
@[simp] theorem State.mapPlots_portAt (f : Plot → Plot) (j : Nat) : (s.mapPlots f).portAt j = s.portAt j := rfl
@[simp] theorem State.mapPlots_serving (f : Plot → Plot) : (s.mapPlots f).serving = s.serving := rfl
@[simp] theorem State.mapPlots_held (f : Plot → Plot) : (s.mapPlots f).held = s.held := rfl
@[simp] theorem State.mapPlots_rank (f : Plot → Plot) : (s.mapPlots f).rank = s.rank := rfl
@[simp] theorem State.mapPlots_teamSize (f : Plot → Plot) : (s.mapPlots f).teamSize = s.teamSize := rfl
@[simp] theorem State.mapPlots_formed (f : Plot → Plot) : (s.mapPlots f).formed = s.formed := rfl
@[simp] theorem State.mapPlots_isLead (f : Plot → Plot) : (s.mapPlots f).isLead = s.isLead := rfl

/-! ### mapPort -/

@[simp] theorem State.mapPort_ctl (n : Nat) (f : Port → Port) : (s.mapPort n f).ctl = s.ctl := rfl
@[simp] theorem State.mapPort_fuses (n : Nat) (f : Port → Port) : (s.mapPort n f).fuses = s.fuses := rfl
@[simp] theorem State.mapPort_flash (n : Nat) (f : Port → Port) : (s.mapPort n f).flash = s.flash := rfl
@[simp] theorem State.mapPort_sec (n : Nat) (f : Port → Port) : (s.mapPort n f).sec = s.sec := rfl
@[simp] theorem State.mapPort_time (n : Nat) (f : Port → Port) : (s.mapPort n f).time = s.time := rfl
@[simp] theorem State.mapPort_cycle (n : Nat) (f : Port → Port) : (s.mapPort n f).cycle = s.cycle := rfl
@[simp] theorem State.mapPort_nums (n : Nat) (f : Port → Port) : (s.mapPort n f).nums = s.nums := rfl
@[simp] theorem State.mapPort_octs (n : Nat) (f : Port → Port) : (s.mapPort n f).octs = s.octs := rfl
@[simp] theorem State.mapPort_txn (n : Nat) (f : Port → Port) : (s.mapPort n f).txn = s.txn := rfl
@[simp] theorem State.mapPort_hopper (n : Nat) (f : Port → Port) : (s.mapPort n f).hopper = s.hopper := rfl
@[simp] theorem State.mapPort_host (n : Nat) (f : Port → Port) : (s.mapPort n f).host = s.host := rfl
@[simp] theorem State.mapPort_job (n : Nat) (f : Port → Port) : (s.mapPort n f).job = s.job := rfl
@[simp] theorem State.mapPort_records (n : Nat) (f : Port → Port) : (s.mapPort n f).records = s.records := rfl
@[simp] theorem State.mapPort_plots (n : Nat) (f : Port → Port) : (s.mapPort n f).plots = s.plots := rfl
@[simp] theorem State.mapPort_pool (n : Nat) (f : Port → Port) : (s.mapPort n f).pool = s.pool := rfl
@[simp] theorem State.mapPort_tokens (n : Nat) (f : Port → Port) : (s.mapPort n f).tokens = s.tokens := rfl
@[simp] theorem State.mapPort_aheadTokens (n : Nat) (f : Port → Port) : (s.mapPort n f).aheadTokens = s.aheadTokens := rfl
@[simp] theorem State.mapPort_fabric (n : Nat) (f : Port → Port) : (s.mapPort n f).fabric = { s.fabric with ports := modifyNth f s.fabric.ports n } := rfl
@[simp] theorem State.mapPort_seasons (n : Nat) (f : Port → Port) : (s.mapPort n f).seasons = s.seasons := rfl
@[simp] theorem State.mapPort_acre (n : Nat) (f : Port → Port) : (s.mapPort n f).acre = s.acre := rfl
@[simp] theorem State.mapPort_tiers (n : Nat) (f : Port → Port) : (s.mapPort n f).tiers = s.tiers := rfl
@[simp] theorem State.mapPort_recovery (n : Nat) (f : Port → Port) : (s.mapPort n f).recovery = s.recovery := rfl
@[simp] theorem State.mapPort_harvest (n : Nat) (f : Port → Port) : (s.mapPort n f).harvest = s.harvest := rfl
@[simp] theorem State.mapPort_power (n : Nat) (f : Port → Port) : (s.mapPort n f).power = s.power := rfl
@[simp] theorem State.mapPort_freeCount (n : Nat) (f : Port → Port) : (s.mapPort n f).freeCount = s.freeCount := rfl
@[simp] theorem State.mapPort_outbox (n : Nat) (f : Port → Port) : (s.mapPort n f).outbox = s.outbox := rfl
@[simp] theorem State.mapPort_pending (n : Nat) (f : Port → Port) : (s.mapPort n f).pending = s.pending := rfl
@[simp] theorem State.mapPort_num (n : Nat) (f : Port → Port) (j : Nat) : (s.mapPort n f).num j = s.num j := rfl
@[simp] theorem State.mapPort_oct (n : Nat) (f : Port → Port) (j : Nat) : (s.mapPort n f).oct j = s.oct j := rfl
@[simp] theorem State.mapPort_plotAt (n : Nat) (f : Port → Port) (j : Nat) : (s.mapPort n f).plotAt j = s.plotAt j := rfl
@[simp] theorem State.mapPort_serving (n : Nat) (f : Port → Port) : (s.mapPort n f).serving = s.serving := rfl
@[simp] theorem State.mapPort_held (n : Nat) (f : Port → Port) : (s.mapPort n f).held = s.held := rfl
@[simp] theorem State.mapPort_rank (n : Nat) (f : Port → Port) : (s.mapPort n f).rank = s.rank := rfl
@[simp] theorem State.mapPort_teamSize (n : Nat) (f : Port → Port) : (s.mapPort n f).teamSize = s.teamSize := rfl
@[simp] theorem State.mapPort_formed (n : Nat) (f : Port → Port) : (s.mapPort n f).formed = s.formed := rfl
@[simp] theorem State.mapPort_isLead (n : Nat) (f : Port → Port) : (s.mapPort n f).isLead = s.isLead := rfl

/-! ### mapFabric -/

@[simp] theorem State.mapFabric_ctl (f : Fabric → Fabric) : (s.mapFabric f).ctl = s.ctl := rfl
@[simp] theorem State.mapFabric_fuses (f : Fabric → Fabric) : (s.mapFabric f).fuses = s.fuses := rfl
@[simp] theorem State.mapFabric_flash (f : Fabric → Fabric) : (s.mapFabric f).flash = s.flash := rfl
@[simp] theorem State.mapFabric_sec (f : Fabric → Fabric) : (s.mapFabric f).sec = s.sec := rfl
@[simp] theorem State.mapFabric_time (f : Fabric → Fabric) : (s.mapFabric f).time = s.time := rfl
@[simp] theorem State.mapFabric_cycle (f : Fabric → Fabric) : (s.mapFabric f).cycle = s.cycle := rfl
@[simp] theorem State.mapFabric_nums (f : Fabric → Fabric) : (s.mapFabric f).nums = s.nums := rfl
@[simp] theorem State.mapFabric_octs (f : Fabric → Fabric) : (s.mapFabric f).octs = s.octs := rfl
@[simp] theorem State.mapFabric_txn (f : Fabric → Fabric) : (s.mapFabric f).txn = s.txn := rfl
@[simp] theorem State.mapFabric_hopper (f : Fabric → Fabric) : (s.mapFabric f).hopper = s.hopper := rfl
@[simp] theorem State.mapFabric_host (f : Fabric → Fabric) : (s.mapFabric f).host = s.host := rfl
@[simp] theorem State.mapFabric_job (f : Fabric → Fabric) : (s.mapFabric f).job = s.job := rfl
@[simp] theorem State.mapFabric_records (f : Fabric → Fabric) : (s.mapFabric f).records = s.records := rfl
@[simp] theorem State.mapFabric_plots (f : Fabric → Fabric) : (s.mapFabric f).plots = s.plots := rfl
@[simp] theorem State.mapFabric_pool (f : Fabric → Fabric) : (s.mapFabric f).pool = s.pool := rfl
@[simp] theorem State.mapFabric_tokens (f : Fabric → Fabric) : (s.mapFabric f).tokens = s.tokens := rfl
@[simp] theorem State.mapFabric_aheadTokens (f : Fabric → Fabric) : (s.mapFabric f).aheadTokens = s.aheadTokens := rfl
@[simp] theorem State.mapFabric_fabric (f : Fabric → Fabric) : (s.mapFabric f).fabric = f s.fabric := rfl
@[simp] theorem State.mapFabric_seasons (f : Fabric → Fabric) : (s.mapFabric f).seasons = s.seasons := rfl
@[simp] theorem State.mapFabric_acre (f : Fabric → Fabric) : (s.mapFabric f).acre = s.acre := rfl
@[simp] theorem State.mapFabric_tiers (f : Fabric → Fabric) : (s.mapFabric f).tiers = s.tiers := rfl
@[simp] theorem State.mapFabric_recovery (f : Fabric → Fabric) : (s.mapFabric f).recovery = s.recovery := rfl
@[simp] theorem State.mapFabric_harvest (f : Fabric → Fabric) : (s.mapFabric f).harvest = s.harvest := rfl
@[simp] theorem State.mapFabric_power (f : Fabric → Fabric) : (s.mapFabric f).power = s.power := rfl
@[simp] theorem State.mapFabric_freeCount (f : Fabric → Fabric) : (s.mapFabric f).freeCount = s.freeCount := rfl
@[simp] theorem State.mapFabric_outbox (f : Fabric → Fabric) : (s.mapFabric f).outbox = s.outbox := rfl
@[simp] theorem State.mapFabric_pending (f : Fabric → Fabric) : (s.mapFabric f).pending = s.pending := rfl
@[simp] theorem State.mapFabric_num (f : Fabric → Fabric) (j : Nat) : (s.mapFabric f).num j = s.num j := rfl
@[simp] theorem State.mapFabric_oct (f : Fabric → Fabric) (j : Nat) : (s.mapFabric f).oct j = s.oct j := rfl
@[simp] theorem State.mapFabric_plotAt (f : Fabric → Fabric) (j : Nat) : (s.mapFabric f).plotAt j = s.plotAt j := rfl
@[simp] theorem State.mapFabric_serving (f : Fabric → Fabric) : (s.mapFabric f).serving = s.serving := rfl
@[simp] theorem State.mapFabric_held (f : Fabric → Fabric) : (s.mapFabric f).held = s.held := rfl
@[simp] theorem State.mapFabric_rank (f : Fabric → Fabric) : (s.mapFabric f).rank = s.rank := rfl
@[simp] theorem State.mapFabric_teamSize (f : Fabric → Fabric) : (s.mapFabric f).teamSize = s.teamSize := rfl
@[simp] theorem State.mapFabric_formed (f : Fabric → Fabric) : (s.mapFabric f).formed = s.formed := rfl
@[simp] theorem State.mapFabric_isLead (f : Fabric → Fabric) : (s.mapFabric f).isLead = s.isLead := rfl

/-! ### mapSeasons -/

@[simp] theorem State.mapSeasons_ctl (f : Seasons → Seasons) : (s.mapSeasons f).ctl = s.ctl := rfl
@[simp] theorem State.mapSeasons_fuses (f : Seasons → Seasons) : (s.mapSeasons f).fuses = s.fuses := rfl
@[simp] theorem State.mapSeasons_flash (f : Seasons → Seasons) : (s.mapSeasons f).flash = s.flash := rfl
@[simp] theorem State.mapSeasons_sec (f : Seasons → Seasons) : (s.mapSeasons f).sec = s.sec := rfl
@[simp] theorem State.mapSeasons_time (f : Seasons → Seasons) : (s.mapSeasons f).time = s.time := rfl
@[simp] theorem State.mapSeasons_cycle (f : Seasons → Seasons) : (s.mapSeasons f).cycle = s.cycle := rfl
@[simp] theorem State.mapSeasons_nums (f : Seasons → Seasons) : (s.mapSeasons f).nums = s.nums := rfl
@[simp] theorem State.mapSeasons_octs (f : Seasons → Seasons) : (s.mapSeasons f).octs = s.octs := rfl
@[simp] theorem State.mapSeasons_txn (f : Seasons → Seasons) : (s.mapSeasons f).txn = s.txn := rfl
@[simp] theorem State.mapSeasons_hopper (f : Seasons → Seasons) : (s.mapSeasons f).hopper = s.hopper := rfl
@[simp] theorem State.mapSeasons_host (f : Seasons → Seasons) : (s.mapSeasons f).host = s.host := rfl
@[simp] theorem State.mapSeasons_job (f : Seasons → Seasons) : (s.mapSeasons f).job = s.job := rfl
@[simp] theorem State.mapSeasons_records (f : Seasons → Seasons) : (s.mapSeasons f).records = s.records := rfl
@[simp] theorem State.mapSeasons_plots (f : Seasons → Seasons) : (s.mapSeasons f).plots = s.plots := rfl
@[simp] theorem State.mapSeasons_pool (f : Seasons → Seasons) : (s.mapSeasons f).pool = s.pool := rfl
@[simp] theorem State.mapSeasons_tokens (f : Seasons → Seasons) : (s.mapSeasons f).tokens = s.tokens := rfl
@[simp] theorem State.mapSeasons_aheadTokens (f : Seasons → Seasons) : (s.mapSeasons f).aheadTokens = s.aheadTokens := rfl
@[simp] theorem State.mapSeasons_fabric (f : Seasons → Seasons) : (s.mapSeasons f).fabric = s.fabric := rfl
@[simp] theorem State.mapSeasons_seasons (f : Seasons → Seasons) : (s.mapSeasons f).seasons = f s.seasons := rfl
@[simp] theorem State.mapSeasons_acre (f : Seasons → Seasons) : (s.mapSeasons f).acre = s.acre := rfl
@[simp] theorem State.mapSeasons_tiers (f : Seasons → Seasons) : (s.mapSeasons f).tiers = s.tiers := rfl
@[simp] theorem State.mapSeasons_recovery (f : Seasons → Seasons) : (s.mapSeasons f).recovery = s.recovery := rfl
@[simp] theorem State.mapSeasons_harvest (f : Seasons → Seasons) : (s.mapSeasons f).harvest = s.harvest := rfl
@[simp] theorem State.mapSeasons_power (f : Seasons → Seasons) : (s.mapSeasons f).power = s.power := rfl
@[simp] theorem State.mapSeasons_freeCount (f : Seasons → Seasons) : (s.mapSeasons f).freeCount = s.freeCount := rfl
@[simp] theorem State.mapSeasons_outbox (f : Seasons → Seasons) : (s.mapSeasons f).outbox = s.outbox := rfl
@[simp] theorem State.mapSeasons_pending (f : Seasons → Seasons) : (s.mapSeasons f).pending = s.pending := rfl
@[simp] theorem State.mapSeasons_num (f : Seasons → Seasons) (j : Nat) : (s.mapSeasons f).num j = s.num j := rfl
@[simp] theorem State.mapSeasons_oct (f : Seasons → Seasons) (j : Nat) : (s.mapSeasons f).oct j = s.oct j := rfl
@[simp] theorem State.mapSeasons_plotAt (f : Seasons → Seasons) (j : Nat) : (s.mapSeasons f).plotAt j = s.plotAt j := rfl
@[simp] theorem State.mapSeasons_portAt (f : Seasons → Seasons) (j : Nat) : (s.mapSeasons f).portAt j = s.portAt j := rfl
@[simp] theorem State.mapSeasons_serving (f : Seasons → Seasons) : (s.mapSeasons f).serving = s.serving := rfl
@[simp] theorem State.mapSeasons_held (f : Seasons → Seasons) : (s.mapSeasons f).held = s.held := rfl
@[simp] theorem State.mapSeasons_rank (f : Seasons → Seasons) : (s.mapSeasons f).rank = s.rank := rfl
@[simp] theorem State.mapSeasons_teamSize (f : Seasons → Seasons) : (s.mapSeasons f).teamSize = s.teamSize := rfl
@[simp] theorem State.mapSeasons_formed (f : Seasons → Seasons) : (s.mapSeasons f).formed = s.formed := rfl
@[simp] theorem State.mapSeasons_isLead (f : Seasons → Seasons) : (s.mapSeasons f).isLead = s.isLead := rfl

/-! ### mapRecovery -/

@[simp] theorem State.mapRecovery_ctl (f : Recovery → Recovery) : (s.mapRecovery f).ctl = s.ctl := rfl
@[simp] theorem State.mapRecovery_fuses (f : Recovery → Recovery) : (s.mapRecovery f).fuses = s.fuses := rfl
@[simp] theorem State.mapRecovery_flash (f : Recovery → Recovery) : (s.mapRecovery f).flash = s.flash := rfl
@[simp] theorem State.mapRecovery_sec (f : Recovery → Recovery) : (s.mapRecovery f).sec = s.sec := rfl
@[simp] theorem State.mapRecovery_time (f : Recovery → Recovery) : (s.mapRecovery f).time = s.time := rfl
@[simp] theorem State.mapRecovery_cycle (f : Recovery → Recovery) : (s.mapRecovery f).cycle = s.cycle := rfl
@[simp] theorem State.mapRecovery_nums (f : Recovery → Recovery) : (s.mapRecovery f).nums = s.nums := rfl
@[simp] theorem State.mapRecovery_octs (f : Recovery → Recovery) : (s.mapRecovery f).octs = s.octs := rfl
@[simp] theorem State.mapRecovery_txn (f : Recovery → Recovery) : (s.mapRecovery f).txn = s.txn := rfl
@[simp] theorem State.mapRecovery_hopper (f : Recovery → Recovery) : (s.mapRecovery f).hopper = s.hopper := rfl
@[simp] theorem State.mapRecovery_host (f : Recovery → Recovery) : (s.mapRecovery f).host = s.host := rfl
@[simp] theorem State.mapRecovery_job (f : Recovery → Recovery) : (s.mapRecovery f).job = s.job := rfl
@[simp] theorem State.mapRecovery_records (f : Recovery → Recovery) : (s.mapRecovery f).records = s.records := rfl
@[simp] theorem State.mapRecovery_plots (f : Recovery → Recovery) : (s.mapRecovery f).plots = s.plots := rfl
@[simp] theorem State.mapRecovery_pool (f : Recovery → Recovery) : (s.mapRecovery f).pool = s.pool := rfl
@[simp] theorem State.mapRecovery_tokens (f : Recovery → Recovery) : (s.mapRecovery f).tokens = s.tokens := rfl
@[simp] theorem State.mapRecovery_aheadTokens (f : Recovery → Recovery) : (s.mapRecovery f).aheadTokens = s.aheadTokens := rfl
@[simp] theorem State.mapRecovery_fabric (f : Recovery → Recovery) : (s.mapRecovery f).fabric = s.fabric := rfl
@[simp] theorem State.mapRecovery_seasons (f : Recovery → Recovery) : (s.mapRecovery f).seasons = s.seasons := rfl
@[simp] theorem State.mapRecovery_acre (f : Recovery → Recovery) : (s.mapRecovery f).acre = s.acre := rfl
@[simp] theorem State.mapRecovery_tiers (f : Recovery → Recovery) : (s.mapRecovery f).tiers = s.tiers := rfl
@[simp] theorem State.mapRecovery_recovery (f : Recovery → Recovery) : (s.mapRecovery f).recovery = f s.recovery := rfl
@[simp] theorem State.mapRecovery_harvest (f : Recovery → Recovery) : (s.mapRecovery f).harvest = s.harvest := rfl
@[simp] theorem State.mapRecovery_power (f : Recovery → Recovery) : (s.mapRecovery f).power = s.power := rfl
@[simp] theorem State.mapRecovery_freeCount (f : Recovery → Recovery) : (s.mapRecovery f).freeCount = s.freeCount := rfl
@[simp] theorem State.mapRecovery_outbox (f : Recovery → Recovery) : (s.mapRecovery f).outbox = s.outbox := rfl
@[simp] theorem State.mapRecovery_pending (f : Recovery → Recovery) : (s.mapRecovery f).pending = s.pending := rfl
@[simp] theorem State.mapRecovery_num (f : Recovery → Recovery) (j : Nat) : (s.mapRecovery f).num j = s.num j := rfl
@[simp] theorem State.mapRecovery_oct (f : Recovery → Recovery) (j : Nat) : (s.mapRecovery f).oct j = s.oct j := rfl
@[simp] theorem State.mapRecovery_plotAt (f : Recovery → Recovery) (j : Nat) : (s.mapRecovery f).plotAt j = s.plotAt j := rfl
@[simp] theorem State.mapRecovery_portAt (f : Recovery → Recovery) (j : Nat) : (s.mapRecovery f).portAt j = s.portAt j := rfl
@[simp] theorem State.mapRecovery_serving (f : Recovery → Recovery) : (s.mapRecovery f).serving = s.serving := rfl
@[simp] theorem State.mapRecovery_held (f : Recovery → Recovery) : (s.mapRecovery f).held = s.held := rfl
@[simp] theorem State.mapRecovery_rank (f : Recovery → Recovery) : (s.mapRecovery f).rank = s.rank := rfl
@[simp] theorem State.mapRecovery_teamSize (f : Recovery → Recovery) : (s.mapRecovery f).teamSize = s.teamSize := rfl
@[simp] theorem State.mapRecovery_formed (f : Recovery → Recovery) : (s.mapRecovery f).formed = s.formed := rfl
@[simp] theorem State.mapRecovery_isLead (f : Recovery → Recovery) : (s.mapRecovery f).isLead = s.isLead := rfl

/-! ### mapCtl -/

@[simp] theorem State.mapCtl_ctl (f : Ctl → Ctl) : (s.mapCtl f).ctl = f s.ctl := rfl
@[simp] theorem State.mapCtl_fuses (f : Ctl → Ctl) : (s.mapCtl f).fuses = s.fuses := rfl
@[simp] theorem State.mapCtl_flash (f : Ctl → Ctl) : (s.mapCtl f).flash = s.flash := rfl
@[simp] theorem State.mapCtl_sec (f : Ctl → Ctl) : (s.mapCtl f).sec = s.sec := rfl
@[simp] theorem State.mapCtl_time (f : Ctl → Ctl) : (s.mapCtl f).time = s.time := rfl
@[simp] theorem State.mapCtl_cycle (f : Ctl → Ctl) : (s.mapCtl f).cycle = s.cycle := rfl
@[simp] theorem State.mapCtl_nums (f : Ctl → Ctl) : (s.mapCtl f).nums = s.nums := rfl
@[simp] theorem State.mapCtl_octs (f : Ctl → Ctl) : (s.mapCtl f).octs = s.octs := rfl
@[simp] theorem State.mapCtl_txn (f : Ctl → Ctl) : (s.mapCtl f).txn = s.txn := rfl
@[simp] theorem State.mapCtl_hopper (f : Ctl → Ctl) : (s.mapCtl f).hopper = s.hopper := rfl
@[simp] theorem State.mapCtl_host (f : Ctl → Ctl) : (s.mapCtl f).host = s.host := rfl
@[simp] theorem State.mapCtl_job (f : Ctl → Ctl) : (s.mapCtl f).job = s.job := rfl
@[simp] theorem State.mapCtl_records (f : Ctl → Ctl) : (s.mapCtl f).records = s.records := rfl
@[simp] theorem State.mapCtl_plots (f : Ctl → Ctl) : (s.mapCtl f).plots = s.plots := rfl
@[simp] theorem State.mapCtl_pool (f : Ctl → Ctl) : (s.mapCtl f).pool = s.pool := rfl
@[simp] theorem State.mapCtl_tokens (f : Ctl → Ctl) : (s.mapCtl f).tokens = s.tokens := rfl
@[simp] theorem State.mapCtl_aheadTokens (f : Ctl → Ctl) : (s.mapCtl f).aheadTokens = s.aheadTokens := rfl
@[simp] theorem State.mapCtl_fabric (f : Ctl → Ctl) : (s.mapCtl f).fabric = s.fabric := rfl
@[simp] theorem State.mapCtl_seasons (f : Ctl → Ctl) : (s.mapCtl f).seasons = s.seasons := rfl
@[simp] theorem State.mapCtl_acre (f : Ctl → Ctl) : (s.mapCtl f).acre = s.acre := rfl
@[simp] theorem State.mapCtl_tiers (f : Ctl → Ctl) : (s.mapCtl f).tiers = s.tiers := rfl
@[simp] theorem State.mapCtl_recovery (f : Ctl → Ctl) : (s.mapCtl f).recovery = s.recovery := rfl
@[simp] theorem State.mapCtl_harvest (f : Ctl → Ctl) : (s.mapCtl f).harvest = s.harvest := rfl
@[simp] theorem State.mapCtl_power (f : Ctl → Ctl) : (s.mapCtl f).power = s.power := rfl
@[simp] theorem State.mapCtl_freeCount (f : Ctl → Ctl) : (s.mapCtl f).freeCount = s.freeCount := rfl
@[simp] theorem State.mapCtl_outbox (f : Ctl → Ctl) : (s.mapCtl f).outbox = s.outbox := rfl
@[simp] theorem State.mapCtl_pending (f : Ctl → Ctl) : (s.mapCtl f).pending = s.pending := rfl
@[simp] theorem State.mapCtl_num (f : Ctl → Ctl) (j : Nat) : (s.mapCtl f).num j = s.num j := rfl
@[simp] theorem State.mapCtl_oct (f : Ctl → Ctl) (j : Nat) : (s.mapCtl f).oct j = s.oct j := rfl
@[simp] theorem State.mapCtl_plotAt (f : Ctl → Ctl) (j : Nat) : (s.mapCtl f).plotAt j = s.plotAt j := rfl
@[simp] theorem State.mapCtl_portAt (f : Ctl → Ctl) (j : Nat) : (s.mapCtl f).portAt j = s.portAt j := rfl
@[simp] theorem State.mapCtl_serving (f : Ctl → Ctl) : (s.mapCtl f).serving = s.serving := rfl
@[simp] theorem State.mapCtl_held (f : Ctl → Ctl) : (s.mapCtl f).held = s.held := rfl
@[simp] theorem State.mapCtl_rank (f : Ctl → Ctl) : (s.mapCtl f).rank = s.rank := rfl
@[simp] theorem State.mapCtl_teamSize (f : Ctl → Ctl) : (s.mapCtl f).teamSize = s.teamSize := rfl
@[simp] theorem State.mapCtl_formed (f : Ctl → Ctl) : (s.mapCtl f).formed = s.formed := rfl
@[simp] theorem State.mapCtl_isLead (f : Ctl → Ctl) : (s.mapCtl f).isLead = s.isLead := rfl

end Sys2Proof.Machine
end

