-- ==== Sys2Proof/Laws/Ops.lean ====
section
/-! SUPPORT. Sys2Proof/Laws/Ops.lean: what the shared operations do: stored values, plots, events, the
device state. -/

namespace Sys2Proof.Machine

/-! ### Stored values -/

/-- An entry just stored reads back. -/
theorem State.num_setNum_same {s : State} (h : Canonical s) (k v : Nat) : (s.setNum k v).num k = v :=
  SMap.get_set_same (dfltNum k) k v h.1

/-- An entry stored leaves every other entry alone. -/
theorem State.num_setNum_other (s : State) {k j : Nat} (v : Nat) (h : k ≠ j) : (s.setNum k v).num j = s.num j :=
  SMap.get_set_other (dfltNum k) (dfltNum j) s.nums v h

/-- Every entry after one is stored. -/
theorem State.num_setNum {s : State} (h : Canonical s) (k v j : Nat) :
    (s.setNum k v).num j = if k = j then v else s.num j := by
  split
  · next e => subst e; exact State.num_setNum_same h k v
  · next e => exact State.num_setNum_other s v e

/-- Bytes just stored read back. -/
theorem State.oct_setOct_same {s : State} (h : Canonical s) (k : Nat) (v : List Byte) : (s.setOct k v).oct k = v :=
  SMap.get_set_same (dfltOct k) k v h.2.1

/-- Bytes stored leave every other entry alone. -/
theorem State.oct_setOct_other (s : State) {k j : Nat} (v : List Byte) (h : k ≠ j) : (s.setOct k v).oct j = s.oct j :=
  SMap.get_set_other (dfltOct k) (dfltOct j) s.octs v h

/-- A counter just raised. -/
theorem State.num_bump_same {s : State} (h : Canonical s) (k n : Nat) :
    (s.bump k n).num k = stick (widthOf k) (s.num k) n := State.num_setNum_same h _ _

/-- A counter raised leaves every other entry alone. -/
theorem State.num_bump_other (s : State) {k j : Nat} (n : Nat) (h : k ≠ j) : (s.bump k n).num j = s.num j :=
  State.num_setNum_other s _ h

/-- The canonical form needs only the stored values and the memories. -/
theorem State.canonical_of_eq {s t : State} (h : Canonical s) (hn : t.nums = s.nums) (ho : t.octs = s.octs) (hh : t.host = s.host) :
    Canonical t := by
  unfold Canonical; rw [hn, ho, hh]; exact h

/-- Storing an entry keeps the canonical form. -/
theorem State.canonical_setNum {s : State} (h : Canonical s) (k v : Nat) : Canonical (s.setNum k v) :=
  ⟨SMap.wf_set dfltNum k v h.1, h.2⟩

/-- Storing bytes keeps the canonical form. -/
theorem State.canonical_setOct {s : State} (h : Canonical s) (k : Nat) (v : List Byte) : Canonical (s.setOct k v) :=
  ⟨h.1, SMap.wf_set dfltOct k v h.2.1, h.2.2⟩

/-- Raising a counter keeps the canonical form. -/
theorem State.canonical_bump {s : State} (h : Canonical s) (k n : Nat) : Canonical (s.bump k n) := State.canonical_setNum h _ _

/-- The job entries' return to their defaults keeps the canonical form. -/
theorem State.canonical_clearJobEntries {s : State} (h : Canonical s) : Canonical s.clearJobEntries :=
  ⟨SMap.wf_filter dfltNum _ h.1, SMap.wf_filter dfltOct _ h.2.1, h.2.2⟩

/-! ### Plots and issue (R22, R122) -/

/-- An entry of a list changed, read back. -/
theorem getElem?_modifyNth_same {α : Type} (f : α → α) (l : List α) (n : Nat) : (modifyNth f l n)[n]? = l[n]?.map f := by
  induction l generalizing n with
  | nil => simp [modifyNth]
  | cons a as ih => cases n with
    | zero => simp [modifyNth]
    | succ n => simpa [modifyNth] using ih n

/-- The other entries of a list stay. -/
theorem getElem?_modifyNth_other {α : Type} (f : α → α) (l : List α) {n m : Nat} (h : m ≠ n) : (modifyNth f l n)[m]? = l[m]? := by
  induction l generalizing n m with
  | nil => simp [modifyNth]
  | cons a as ih => cases n <;> cases m <;> simp_all [modifyNth]

/-- Two changes of one entry are one. -/
theorem modifyNth_modifyNth {α : Type} (f g : α → α) (l : List α) (n : Nat) :
    modifyNth g (modifyNth f l n) n = modifyNth (fun a => g (f a)) l n := by
  induction l generalizing n with
  | nil => rfl
  | cons a as ih => cases n with
    | zero => rfl
    | succ n => simpa [modifyNth] using ih n

/-- A change depends on the entry alone. -/
theorem modifyNth_congr {α : Type} {f g : α → α} {l : List α} {n : Nat} {a : α} (h : l[n]? = some a) (e : f a = g a) :
    modifyNth f l n = modifyNth g l n := by
  induction l generalizing n with
  | nil => rfl
  | cons b as ih => cases n with
    | zero => simp only [List.getElem?_cons_zero, Option.some.injEq] at h; subst h; simp [modifyNth, e]
    | succ n => simp only [List.getElem?_cons_succ] at h; simp [modifyNth, ih h]

/-- A plot changed, read back. -/
theorem State.plotAt_mapPlot_same {s : State} {p : Nat} {pl : Plot} (h : s.plotAt p = some pl) (f : Plot → Plot) :
    (s.mapPlot p f).plotAt p = some (f pl) := by
  have := getElem?_modifyNth_same f s.plots p
  unfold State.plotAt at h ⊢
  simpa [h] using this

/-- The other plots stay. -/
theorem State.plotAt_mapPlot_other (s : State) {p q : Nat} (f : Plot → Plot) (h : q ≠ p) :
    (s.mapPlot p f).plotAt q = s.plotAt q := getElem?_modifyNth_other f s.plots h

/-- Two changes of one plot are one. -/
theorem State.mapPlot_mapPlot (s : State) (p : Nat) (f g : Plot → Plot) :
    (s.mapPlot p f).mapPlot p g = s.mapPlot p fun a => g (f a) := by
  unfold State.mapPlot
  simp only [modifyNth_modifyNth]

/-- A change of a plot depends on the plot alone. -/
theorem State.mapPlot_congr {s : State} {p : Nat} {pl : Plot} {f g : Plot → Plot} (h : s.plotAt p = some pl) (e : f pl = g pl) :
    s.mapPlot p f = s.mapPlot p g := by
  unfold State.mapPlot
  rw [modifyNth_congr h e]

/-- A plot of a running job runs unless an undo has stopped it. -/
theorem State.runsAt_of {s : State} {p : Nat} {pl : Plot} (hr : s.jobRuns = true) (hp : s.plotAt p = some pl)
    (h : pl.stopped = false) : s.runsAt p = true := by
  simp [State.runsAt, hr, hp, h]

/-- A plot issues when it runs, is not halted and waits for nothing (R122). -/
theorem State.issuing_of {s : State} {p : Nat} {pl : Plot} (hr : s.jobRuns = true) (hp : s.plotAt p = some pl)
    (h : pl.stopped = false) (hh : pl.halted = false) (hw : pl.wait = none) : s.issuing p = some pl := by
  simp [State.issuing, hr, hp, h, hh, hw]

/-! ### Events and the device state (R29, R30, R404) -/

/-- A vector signalled changes the outbox and the always-on domain only. -/
theorem State.signal_frame (s : State) (v : Nat) :
    s.signal v = { s with ctl := (s.signal v).ctl, outbox := (s.signal v).outbox } := by
  unfold State.signal State.deliver State.notice
  repeat' split
  all_goals rfl

/-- A vector signalled, with the hold-off of vector 0, changes the outbox and the always-on domain only. -/
theorem State.signalVec_frame (s : State) (v : Nat) :
    s.signalVec v = { s with ctl := (s.signalVec v).ctl, outbox := (s.signalVec v).outbox } := by
  unfold State.signalVec State.signalCompletion
  repeat' split
  · rfl
  · rw [State.signal_frame s 0]; rfl
  · exact State.signal_frame s v

/-- An event changes event_cause, the outbox and the always-on domain only. -/
theorem State.raise_frame (s : State) (v : Vec) :
    s.raise v = { s with ctl := (s.raise v).ctl, outbox := (s.raise v).outbox, nums := (s.raise v).nums } := by
  unfold State.raise
  dsimp only
  repeat' split
  · rfl
  · rw [State.signalVec_frame]; rfl
  · rfl

/-- A change of the device state changes event_cause, the outbox and the always-on domain only. -/
theorem State.moveTo_frame (s : State) (cur tgt : DevState) :
    s.moveTo cur tgt =
      { s with ctl := (s.moveTo cur tgt).ctl, outbox := (s.moveTo cur tgt).outbox, nums := (s.moveTo cur tgt).nums } := by
  unfold State.moveTo
  split
  · rfl
  · rw [State.raise_frame]; rfl

/-- A vector signalled touches nothing of the always-on domain but the pending bits and the hold-off. -/
theorem State.signalVec_ctl (s : State) (v : Nat) :
    (s.signalVec v).ctl = { s.ctl with
      msixPending := (s.signalVec v).ctl.msixPending, holdoffRunning := (s.signalVec v).ctl.holdoffRunning
      holdoffPending := (s.signalVec v).ctl.holdoffPending } := by
  unfold State.signalVec State.signalCompletion State.signal State.deliver State.notice
  repeat' split
  all_goals rfl

/-- An event touches nothing of the always-on domain but MSI-X, the hold-off and the causes that rose while masked. -/
theorem State.raise_ctl (s : State) (v : Vec) :
    (s.raise v).ctl = { s.ctl with
      msixPending := (s.raise v).ctl.msixPending, holdoffRunning := (s.raise v).ctl.holdoffRunning
      holdoffPending := (s.raise v).ctl.holdoffPending, maskedRise := (s.raise v).ctl.maskedRise } := by
  unfold State.raise
  dsimp only
  repeat' split
  · rfl
  · rw [State.signalVec_ctl]; rfl
  · rfl

/-- An event's cause stands; no other stored value changes. -/
theorem State.raise_nums (s : State) (v : Vec) :
    (s.raise v).nums = if (s.num eventCause).testBit v.n then s.nums
      else SMap.set (dfltNum eventCause) s.nums eventCause (s.num eventCause ||| 2 ^ v.n) := by
  unfold State.raise
  dsimp only
  split
  · rfl
  · split
    · rw [State.signalVec_frame]; rfl
    · rfl

/-- An event leaves every entry but event_cause alone. -/
theorem State.num_raise_other (s : State) (v : Vec) {j : Nat} (h : eventCause ≠ j) : (s.raise v).num j = s.num j := by
  unfold State.num
  rw [State.raise_nums]
  split
  · rfl
  · exact SMap.get_set_other _ _ s.nums _ h

/-- An event sets its cause bit (R404). -/
theorem State.raise_sets {s : State} (h : Canonical s) (v : Vec) : ((s.raise v).num eventCause).testBit v.n = true := by
  by_cases hb : (s.num eventCause).testBit v.n = true
  · have : (s.raise v).num eventCause = s.num eventCause := by unfold State.num; rw [State.raise_nums, if_pos hb]
    rw [this, hb]
  · have : (s.raise v).num eventCause = s.num eventCause ||| 2 ^ v.n := by
      rw [State.num, State.raise_nums, if_neg hb]
      exact SMap.get_set_same _ _ _ h.1
    rw [this, Nat.testBit_or, Nat.testBit_two_pow_self, Bool.or_true]

/-- An event keeps the canonical form. -/
theorem State.canonical_raise {s : State} (h : Canonical s) (v : Vec) : Canonical (s.raise v) := by
  have hn : SMap.wfBy dfltNum (s.raise v).nums = true := by
    rw [State.raise_nums]
    split
    · exact h.1
    · exact SMap.wf_set dfltNum _ _ h.1
  have hf := State.raise_frame s v
  have ho : (s.raise v).octs = s.octs := by rw [hf]
  have hh : (s.raise v).host = s.host := by rw [hf]
  unfold Canonical
  rw [ho, hh]
  exact ⟨hn, h.2⟩

/-- The device state after a change. -/
@[simp] theorem State.moveTo_cur (s : State) (cur tgt : DevState) : (s.moveTo cur tgt).ctl.cur = cur := by
  unfold State.moveTo
  split
  · next h => simp only [Bool.and_eq_true, decide_eq_true_eq] at h; exact h.1
  · rw [State.raise_ctl]; rfl

/-- The target state after a change. -/
@[simp] theorem State.moveTo_tgt (s : State) (cur tgt : DevState) : (s.moveTo cur tgt).ctl.tgt = tgt := by
  unfold State.moveTo
  split
  · next h => simp only [Bool.and_eq_true, decide_eq_true_eq] at h; exact h.2
  · rw [State.raise_ctl]; rfl

/-- A change of the device state leaves every entry but event_cause alone. -/
theorem State.num_moveTo_other (s : State) (cur tgt : DevState) {j : Nat} (h : eventCause ≠ j) :
    (s.moveTo cur tgt).num j = s.num j := by
  unfold State.moveTo
  split
  · rfl
  · rw [State.num_raise_other _ _ h]; rfl

/-- A change of the device state raises vector 1 (R404). -/
theorem State.moveTo_raises {s : State} (h : Canonical s) {cur tgt : DevState} (hc : ¬(s.ctl.cur = cur ∧ s.ctl.tgt = tgt)) :
    ((s.moveTo cur tgt).num eventCause).testBit 1 = true := by
  unfold State.moveTo
  have : (decide (s.ctl.cur = cur) && decide (s.ctl.tgt = tgt)) = false := by simpa using hc
  simp only [this, Bool.false_eq_true, if_false]
  exact State.raise_sets (s := s.mapCtl fun c => { c with cur := cur, tgt := tgt }) (State.canonical_of_eq h rfl rfl rfl) .state

end Sys2Proof.Machine
end

