-- ==== Sys2Proof/Laws/PerInstr.lean ====
section
/-! SUPPORT. Sys2Proof/Laws/PerInstr.lean: the family Placed: a well-formed command that names a logical plot names one of
the 160 that a device has (R22), shown for every command. -/

namespace Sys2Proof.Laws.Placed

open Sys2Proof

/-- The logical plot that a command names; none where it names none. -/
def plotOf : Instr → Option Nat
  | .nop p => some p
  | .waitTile p _ _ => some p
  | .waitTileRelease p => some p
  | .waitToken p _ _ => some p
  | .waitTokenRelease p => some p
  | .waitCycle p _ => some p
  | .waitCycleRelease p => some p
  | .loop p _ _ => some p
  | .stepMark p _ => some p
  | .sealWait p => some p
  | .halt p => some p
  | .waitTimeout p => some p
  | .furrowIssue p _ => some p
  | .headlandScanDone p => some p
  | .maximaRecord p _ => some p
  | .furrowPass p _ => some p
  | .passOverflow p => some p
  | .spill p => some p
  | .furrowReady p => some p
  | .chainIssue p _ => some p
  | .chainDone p => some p
  | .fullWidthIssue p _ => some p
  | .frameRecord p _ => some p
  | .move p _ => some p
  | .tineStart p _ _ => some p
  | .tineStop p _ => some p
  | .regionRelease p _ => some p
  | .tineNop p _ => some p
  | .tineLoad p _ => some p
  | .tineStore p _ => some p
  | .tineMark p _ => some p
  | .tineEnd p _ => some p
  | .tineRequestIssue p _ => some p
  | .tineDataReturn p _ _ => some p
  | .storeAck p _ => some p
  | .tokenSignal p _ => some p
  | .barrierArrive p _ => some p
  | .sealArrive p _ => some p
  | .ledgerMark p => some p
  | .powerGood | .powerGoodDeasserted | .resetInReleased | .cxlConventionalReset _ | .functionLevelReset | .flashOwnChange _
  | .monitorTrip _ | .watchdogExpiry | .ppsEdge _ _ | .ptpMessage _ | .fuseReadDone | .firmwareVerify | .cxlConfigReady
  | .hbmTrainingDone | .startUpSelfTest _ _ _ | .bootComplete | .ringFramePass _ | .bypassChange _ | .joinNoticeResend
  | .enumerate _ _ | .timeOfDay _ _ | .read _ | .write _ | .begin_ _ | .commit _ | .rollBack _ | .txnTimeout | .eventAck _
  | .exportCursorWrite _ | .msixEnable _ | .completionHoldoffExpiry | .wake _ | .fallow _ | .reset _ | .harvest _ | .form _
  | .glean _ | .attest _ | .attestReportReady | .fwUpdate _ | .fwUpdateDone _ | .rollbackCommit _ | .idleTimeout
  | .sweepIntervalExpiry _ _ | .load _ _ | .start _ _ | .step _ | .batch _ | .evaluation _ | .drill _ _ | .switch _
  | .tierMoveDone _ _ _ | .tierTimeout | .earlyAbort _ _ | .earlyAbortWindowExpiry | .barrierArrivalMessage _ _
  | .barrierTimeout _ | .releaseMessage _ | .sealRelease | .gateRelease | .rollbackRelease | .undoComplete | .hbmTimeout
  | .restart | .portTrainingDone _ _ _ | .trainingRetry _ | .readyQuery _ _ | .notReadyReceived _ | .portDown _
  | .identityExchange _ _ | .formTimeout | .boutStart | .slotPositionStart _ _ | .slotFrameReceive _ _ | .ackWord _ _
  | .bestEffortFrame _ _ _ | .timeWord _ _ | .heartbeatReceive _ _ | .leadSilence | .leadTakeover | .linkWaitExpiry _
  | .baleChunk _ _ | .stripeAck _ _ | .stripeNack _ _ | .nackTimer _ _ _ _ | .rosterChunk _ _ _ | .anchorChunk _ _ _
  | .fetchRequest _ | .keyAgreement _ | .probe _ | .probeEcho _ _ | .pacingProbe _ | .keyEpochChange _ | .oldKeyErase _
  | .winnowPassOne | .winnowPassTwo | .seasonDeadline _ | .successorPublish _ | .rosterWaitExpiry _ | .commitModeChoice
  | .seasonTileWrite | .holdoverExpiry | .patrolRead _ _ | .repairServe _ _ _ _ _ | .repairReply _ _ _ _ | .gleanSegment
  | .gleanDomainDone _ | .harvestControlWord _ _ _ _ | .latestStopMessage _ _ _ _ | .latestStop | .saveDone | .saveCutoff
  | .saveFrameReceive _ _ _ | .ledgerHoldExpiry | .scrubDone | .yokeSample _ | .governorWindow | .drillChunk _
  | .drillComplete _ | .drillLineTimeout _ | .resetInAsserted | .ppsLost | .managementLinkChange _ | .acrePortLinkChange _ _ _
  | .mergeSumWritten | .repairPeerTimeout => none

/-- A well-formed command's plot is one of the device's. -/
def Statement (i : Instr) : Prop := i.wf = true → ∀ p, plotOf i = some p → p < 160

/-- A plot that passed the check of its number. -/
theorem plot_lt (p : Nat) (h : plotOk p = true) : p < 160 := by simpa [plotOk] using h

/-- A command that names no plot. -/
theorem of_none (i : Instr) (h : plotOf i = none) : Statement i := by
  intro _ p hp
  rw [h] at hp
  cases hp

/-- A command whose check covers its plot. -/
theorem of_some (i : Instr) (p : Nat) (h : plotOf i = some p) (hw : i.wf = true → plotOk p = true) : Statement i := by
  intro hi q hq
  rw [h] at hq
  cases hq
  exact plot_lt p (hw hi)

theorem powerGood :
    Statement .powerGood := of_none _ rfl
theorem powerGoodDeasserted :
    Statement .powerGoodDeasserted := of_none _ rfl
theorem resetInReleased :
    Statement .resetInReleased := of_none _ rfl
theorem cxlConventionalReset (linkDown : Bool) :
    Statement (.cxlConventionalReset linkDown) := of_none _ rfl
theorem functionLevelReset :
    Statement .functionLevelReset := of_none _ rfl
theorem flashOwnChange (level : Bool) :
    Statement (.flashOwnChange level) := of_none _ rfl
theorem monitorTrip (m : Monitor) :
    Statement (.monitorTrip m) := of_none _ rfl
theorem watchdogExpiry :
    Statement .watchdogExpiry := of_none _ rfl
theorem ppsEdge (stamp : Cycle) (highNs : Nat) :
    Statement (.ppsEdge stamp highNs) := of_none _ rfl
theorem ptpMessage (m : PtpMessage) :
    Statement (.ptpMessage m) := of_none _ rfl
theorem fuseReadDone :
    Statement .fuseReadDone := of_none _ rfl
theorem firmwareVerify :
    Statement .firmwareVerify := of_none _ rfl
theorem cxlConfigReady :
    Statement .cxlConfigReady := of_none _ rfl
theorem hbmTrainingDone :
    Statement .hbmTrainingDone := of_none _ rfl
theorem startUpSelfTest (secondGroup : Bool) (failing : List Nat) (mends : List SpareAssign) :
    Statement (.startUpSelfTest secondGroup failing mends) := of_none _ rfl
theorem bootComplete :
    Statement .bootComplete := of_none _ rfl
theorem ringFramePass (f : RingFrame) :
    Statement (.ringFramePass f) := of_none _ rfl
theorem bypassChange (opens : Bool) :
    Statement (.bypassChange opens) := of_none _ rfl
theorem joinNoticeResend :
    Statement .joinNoticeResend := of_none _ rfl
theorem enumerate (epoch count : BitVec 8) :
    Statement (.enumerate epoch count) := of_none _ rfl
theorem timeOfDay (arrival : Cycle) (ns : Nat) :
    Statement (.timeOfDay arrival ns) := of_none _ rfl
theorem read (t : ReadTarget) :
    Statement (.read t) := of_none _ rfl
theorem write (r : Req) :
    Statement (.write r) := of_none _ rfl
theorem begin_ (r : Req) :
    Statement (.begin_ r) := of_none _ rfl
theorem commit (r : Req) :
    Statement (.commit r) := of_none _ rfl
theorem rollBack (r : Req) :
    Statement (.rollBack r) := of_none _ rfl
theorem txnTimeout :
    Statement .txnTimeout := of_none _ rfl
theorem eventAck (r : Req) :
    Statement (.eventAck r) := of_none _ rfl
theorem exportCursorWrite (r : Req) :
    Statement (.exportCursorWrite r) := of_none _ rfl
theorem msixEnable (w : MsixWrite) :
    Statement (.msixEnable w) := of_none _ rfl
theorem completionHoldoffExpiry :
    Statement .completionHoldoffExpiry := of_none _ rfl
theorem wake (r : Req) :
    Statement (.wake r) := of_none _ rfl
theorem fallow (r : Req) :
    Statement (.fallow r) := of_none _ rfl
theorem reset (r : Req) :
    Statement (.reset r) := of_none _ rfl
theorem harvest (r : Req) :
    Statement (.harvest r) := of_none _ rfl
theorem form (r : Req) :
    Statement (.form r) := of_none _ rfl
theorem glean (r : Req) :
    Statement (.glean r) := of_none _ rfl
theorem attest (r : Req) :
    Statement (.attest r) := of_none _ rfl
theorem attestReportReady :
    Statement .attestReportReady := of_none _ rfl
theorem fwUpdate (r : Req) :
    Statement (.fwUpdate r) := of_none _ rfl
theorem fwUpdateDone (writeOk : Bool) :
    Statement (.fwUpdateDone writeOk) := of_none _ rfl
theorem rollbackCommit (r : Req) :
    Statement (.rollbackCommit r) := of_none _ rfl
theorem idleTimeout :
    Statement .idleTimeout := of_none _ rfl
theorem sweepIntervalExpiry (w : List HostWrite) (keysAgree : Bool) :
    Statement (.sweepIntervalExpiry w keysAgree) := of_none _ rfl
theorem load (r : RecordIn) (w : List HostWrite) :
    Statement (.load r w) := of_none _ rfl
theorem start (r : RecordIn) (keysAgree : Bool) :
    Statement (.start r keysAgree) := of_none _ rfl
theorem step (r : RecordIn) :
    Statement (.step r) := of_none _ rfl
theorem batch (r : RecordIn) :
    Statement (.batch r) := of_none _ rfl
theorem evaluation (r : RecordIn) :
    Statement (.evaluation r) := of_none _ rfl
theorem drill (r : RecordIn) (w : List HostWrite) :
    Statement (.drill r w) := of_none _ rfl
theorem switch (r : RecordIn) :
    Statement (.switch r) := of_none _ rfl
theorem nop (plot : Nat) :
    Statement (.nop plot) := of_some _ plot rfl id
theorem waitTile (plot : Nat) (t : TileRef) (seasonTile : Bool) :
    Statement (.waitTile plot t seasonTile) := of_some _ plot rfl fun h => (Bool.and_eq_true_iff.mp h).1
theorem waitTileRelease (plot : Nat) :
    Statement (.waitTileRelease plot) := of_some _ plot rfl id
theorem waitToken (plot token count : Nat) :
    Statement (.waitToken plot token count) := of_some _ plot rfl fun h => (Bool.and_eq_true_iff.mp (Bool.and_eq_true_iff.mp h).1).1
theorem waitTokenRelease (plot : Nat) :
    Statement (.waitTokenRelease plot) := of_some _ plot rfl id
theorem waitCycle (plot : Nat) (d : BitVec 512) :
    Statement (.waitCycle plot d) := of_some _ plot rfl id
theorem waitCycleRelease (plot : Nat) :
    Statement (.waitCycleRelease plot) := of_some _ plot rfl id
theorem loop (plot count endOffset : Nat) :
    Statement (.loop plot count endOffset) := of_some _ plot rfl fun h =>
      (Bool.and_eq_true_iff.mp (Bool.and_eq_true_iff.mp (Bool.and_eq_true_iff.mp h).1).1).1
theorem stepMark (plot : Nat) (k : MarkKind) :
    Statement (.stepMark plot k) := of_some _ plot rfl id
theorem sealWait (plot : Nat) :
    Statement (.sealWait plot) := of_some _ plot rfl id
theorem halt (plot : Nat) :
    Statement (.halt plot) := of_some _ plot rfl id
theorem waitTimeout (plot : Nat) :
    Statement (.waitTimeout plot) := of_some _ plot rfl id
theorem furrowIssue (plot : Nat) (d : FurrowDesc) :
    Statement (.furrowIssue plot d) := of_some _ plot rfl fun h => (Bool.and_eq_true_iff.mp h).1
theorem headlandScanDone (plot : Nat) :
    Statement (.headlandScanDone plot) := of_some _ plot rfl id
theorem maximaRecord (plot : Nat) (t : Tile) :
    Statement (.maximaRecord plot t) := of_some _ plot rfl fun h => (Bool.and_eq_true_iff.mp h).1
theorem furrowPass (plot : Nat) (checksumOk : Bool) :
    Statement (.furrowPass plot checksumOk) := of_some _ plot rfl id
theorem passOverflow (plot : Nat) :
    Statement (.passOverflow plot) := of_some _ plot rfl id
theorem spill (plot : Nat) :
    Statement (.spill plot) := of_some _ plot rfl id
theorem furrowReady (plot : Nat) :
    Statement (.furrowReady plot) := of_some _ plot rfl id
theorem chainIssue (plot : Nat) (d : ChainDesc) :
    Statement (.chainIssue plot d) := of_some _ plot rfl fun h => (Bool.and_eq_true_iff.mp h).1
theorem chainDone (plot : Nat) :
    Statement (.chainDone plot) := of_some _ plot rfl id
theorem fullWidthIssue (plot : Nat) (d : FullWidthDesc) :
    Statement (.fullWidthIssue plot d) := of_some _ plot rfl fun h => (Bool.and_eq_true_iff.mp h).1
theorem frameRecord (plot : Nat) (t : Tile) :
    Statement (.frameRecord plot t) := of_some _ plot rfl fun h => (Bool.and_eq_true_iff.mp h).1
theorem move (plot : Nat) (d : MoveDesc) :
    Statement (.move plot d) := of_some _ plot rfl fun h => (Bool.and_eq_true_iff.mp h).1
theorem tineStart (plot tine : Nat) (descs : List (BitVec 512)) :
    Statement (.tineStart plot tine descs) := of_some _ plot rfl fun h => (Bool.and_eq_true_iff.mp h).1
theorem tineStop (plot tine : Nat) :
    Statement (.tineStop plot tine) := of_some _ plot rfl fun h => (Bool.and_eq_true_iff.mp h).1
theorem regionRelease (plot region : Nat) :
    Statement (.regionRelease plot region) := of_some _ plot rfl fun h => (Bool.and_eq_true_iff.mp h).1
theorem tineNop (plot tine : Nat) :
    Statement (.tineNop plot tine) := of_some _ plot rfl fun h => (Bool.and_eq_true_iff.mp h).1
theorem tineLoad (plot tine : Nat) :
    Statement (.tineLoad plot tine) := of_some _ plot rfl fun h => (Bool.and_eq_true_iff.mp h).1
theorem tineStore (plot tine : Nat) :
    Statement (.tineStore plot tine) := of_some _ plot rfl fun h => (Bool.and_eq_true_iff.mp h).1
theorem tineMark (plot tine : Nat) :
    Statement (.tineMark plot tine) := of_some _ plot rfl fun h => (Bool.and_eq_true_iff.mp h).1
theorem tineEnd (plot tine : Nat) :
    Statement (.tineEnd plot tine) := of_some _ plot rfl fun h => (Bool.and_eq_true_iff.mp h).1
theorem tineRequestIssue (plot tine : Nat) :
    Statement (.tineRequestIssue plot tine) := of_some _ plot rfl fun h => (Bool.and_eq_true_iff.mp h).1
theorem tineDataReturn (plot tine : Nat) (ecc : EccResult) :
    Statement (.tineDataReturn plot tine ecc) := of_some _ plot rfl fun h => (Bool.and_eq_true_iff.mp h).1
theorem storeAck (plot tine : Nat) :
    Statement (.storeAck plot tine) := of_some _ plot rfl fun h => (Bool.and_eq_true_iff.mp h).1
theorem tokenSignal (plot token : Nat) :
    Statement (.tokenSignal plot token) := of_some _ plot rfl fun h => (Bool.and_eq_true_iff.mp h).1
theorem tierMoveDone (region : Nat) (content : List Byte) (checkOk : Bool) :
    Statement (.tierMoveDone region content checkOk) := of_none _ rfl
theorem tierTimeout :
    Statement .tierTimeout := of_none _ rfl
theorem barrierArrive (plot : Nat) (barrier : W32) :
    Statement (.barrierArrive plot barrier) := of_some _ plot rfl id
theorem sealArrive (plot : Nat) (gate : Bool) :
    Statement (.sealArrive plot gate) := of_some _ plot rfl id
theorem ledgerMark (plot : Nat) :
    Statement (.ledgerMark plot) := of_some _ plot rfl id
theorem earlyAbort (rank : Nat) (r : SealReport) :
    Statement (.earlyAbort rank r) := of_none _ rfl
theorem earlyAbortWindowExpiry :
    Statement .earlyAbortWindowExpiry := of_none _ rfl
theorem barrierArrivalMessage (fromPort : Nat) (m : ArrivalMsg) :
    Statement (.barrierArrivalMessage fromPort m) := of_none _ rfl
theorem barrierTimeout (barrier : W32) :
    Statement (.barrierTimeout barrier) := of_none _ rfl
theorem releaseMessage (m : ReleaseMsg) :
    Statement (.releaseMessage m) := of_none _ rfl
theorem sealRelease :
    Statement .sealRelease := of_none _ rfl
theorem gateRelease :
    Statement .gateRelease := of_none _ rfl
theorem rollbackRelease :
    Statement .rollbackRelease := of_none _ rfl
theorem undoComplete :
    Statement .undoComplete := of_none _ rfl
theorem hbmTimeout :
    Statement .hbmTimeout := of_none _ rfl
theorem restart :
    Statement .restart := of_none _ rfl
theorem portTrainingDone (port : Nat) (ok partnerReady : Bool) :
    Statement (.portTrainingDone port ok partnerReady) := of_none _ rfl
theorem trainingRetry (port : Nat) :
    Statement (.trainingRetry port) := of_none _ rfl
theorem readyQuery (port : Nat) (arrives : Bool) :
    Statement (.readyQuery port arrives) := of_none _ rfl
theorem notReadyReceived (port : Nat) :
    Statement (.notReadyReceived port) := of_none _ rfl
theorem portDown (port : Nat) :
    Statement (.portDown port) := of_none _ rfl
theorem identityExchange (port : Nat) (identity : Identity) :
    Statement (.identityExchange port identity) := of_none _ rfl
theorem formTimeout :
    Statement .formTimeout := of_none _ rfl
theorem boutStart :
    Statement .boutStart := of_none _ rfl
theorem slotPositionStart (port : Nat) (slot : Nat) :
    Statement (.slotPositionStart port slot) := of_none _ rfl
theorem slotFrameReceive (port : Nat) (f : SlotFrame) :
    Statement (.slotFrameReceive port f) := of_none _ rfl
theorem ackWord (port : Nat) (w : AckWord) :
    Statement (.ackWord port w) := of_none _ rfl
theorem bestEffortFrame (port : Nat) (h : LinkHead) (f : BeFrame) :
    Statement (.bestEffortFrame port h f) := of_none _ rfl
theorem timeWord (port : Nat) (t : TimeStamps) :
    Statement (.timeWord port t) := of_none _ rfl
theorem heartbeatReceive (port : Nat) (h : Heartbeat) :
    Statement (.heartbeatReceive port h) := of_none _ rfl
theorem leadSilence :
    Statement .leadSilence := of_none _ rfl
theorem leadTakeover :
    Statement .leadTakeover := of_none _ rfl
theorem linkWaitExpiry (lostRank : Option Nat) :
    Statement (.linkWaitExpiry lostRank) := of_none _ rfl
theorem baleChunk (h : AcreHeader) (bytes : List Byte) :
    Statement (.baleChunk h bytes) := of_none _ rfl
theorem stripeAck (h : AcreHeader) (sample : Nat) :
    Statement (.stripeAck h sample) := of_none _ rfl
theorem stripeNack (h : AcreHeader) (missing : List Nat) :
    Statement (.stripeNack h missing) := of_none _ rfl
theorem nackTimer (team rank : Nat) (objectId : W64) (stripe : Nat) :
    Statement (.nackTimer team rank objectId stripe) := of_none _ rfl
theorem rosterChunk (h : AcreHeader) (bytes : List Byte) (signatureOk : Bool) :
    Statement (.rosterChunk h bytes signatureOk) := of_none _ rfl
theorem anchorChunk (h : AcreHeader) (bytes : List Byte) (season : Nat) :
    Statement (.anchorChunk h bytes season) := of_none _ rfl
theorem fetchRequest (h : AcreHeader) :
    Statement (.fetchRequest h) := of_none _ rfl
theorem keyAgreement (k : KeyAgreement) :
    Statement (.keyAgreement k) := of_none _ rfl
theorem probe (h : AcreHeader) :
    Statement (.probe h) := of_none _ rfl
theorem probeEcho (h : AcreHeader) (sample : Nat) :
    Statement (.probeEcho h sample) := of_none _ rfl
theorem pacingProbe (session : Nat) :
    Statement (.pacingProbe session) := of_none _ rfl
theorem keyEpochChange (session : Nat) :
    Statement (.keyEpochChange session) := of_none _ rfl
theorem oldKeyErase (session : Nat) :
    Statement (.oldKeyErase session) := of_none _ rfl
theorem winnowPassOne :
    Statement .winnowPassOne := of_none _ rfl
theorem winnowPassTwo :
    Statement .winnowPassTwo := of_none _ rfl
theorem seasonDeadline (now : Nat) :
    Statement (.seasonDeadline now) := of_none _ rfl
theorem successorPublish (now : Nat) :
    Statement (.successorPublish now) := of_none _ rfl
theorem rosterWaitExpiry (now : Nat) :
    Statement (.rosterWaitExpiry now) := of_none _ rfl
theorem commitModeChoice :
    Statement .commitModeChoice := of_none _ rfl
theorem seasonTileWrite :
    Statement .seasonTileWrite := of_none _ rfl
theorem holdoverExpiry :
    Statement .holdoverExpiry := of_none _ rfl
theorem patrolRead (store : PatrolStore) (ecc : EccResult) :
    Statement (.patrolRead store ecc) := of_none _ rfl
theorem repairServe (port source : Nat) (tensorId shard : W32) (blockOffset : BitVec 40) :
    Statement (.repairServe port source tensorId shard blockOffset) := of_none _ rfl
theorem repairReply (tensorId shard : W32) (blockOffset : BitVec 40) (t : Option Tile) :
    Statement (.repairReply tensorId shard blockOffset t) := of_none _ rfl
theorem gleanSegment :
    Statement .gleanSegment := of_none _ rfl
theorem gleanDomainDone (r : GleanResult) :
    Statement (.gleanDomainDone r) := of_none _ rfl
theorem harvestControlWord (rank : Nat) (deadline : Cycle) (save ledgerHoldMs : Nat) :
    Statement (.harvestControlWord rank deadline save ledgerHoldMs) := of_none _ rfl
theorem latestStopMessage (t deadline : Cycle) (save ledgerHoldMs : Nat) :
    Statement (.latestStopMessage t deadline save ledgerHoldMs) := of_none _ rfl
theorem latestStop :
    Statement .latestStop := of_none _ rfl
theorem saveDone :
    Statement .saveDone := of_none _ rfl
theorem saveCutoff :
    Statement .saveCutoff := of_none _ rfl
theorem saveFrameReceive (port : Nat) (offset : Nat) (bytes : List Byte) :
    Statement (.saveFrameReceive port offset bytes) := of_none _ rfl
theorem ledgerHoldExpiry :
    Statement .ledgerHoldExpiry := of_none _ rfl
theorem scrubDone :
    Statement .scrubDone := of_none _ rfl
theorem yokeSample (watts : Nat) :
    Statement (.yokeSample watts) := of_none _ rfl
theorem governorWindow :
    Statement .governorWindow := of_none _ rfl
theorem drillChunk (c : DrillChunk) :
    Statement (.drillChunk c) := of_none _ rfl
theorem drillComplete (copy : Nat) :
    Statement (.drillComplete copy) := of_none _ rfl
theorem drillLineTimeout (copy : Nat) :
    Statement (.drillLineTimeout copy) := of_none _ rfl
theorem resetInAsserted :
    Statement .resetInAsserted := of_none _ rfl
theorem ppsLost :
    Statement .ppsLost := of_none _ rfl
theorem managementLinkChange (up : Bool) :
    Statement (.managementLinkChange up) := of_none _ rfl
theorem acrePortLinkChange (port : Nat) (up training : Bool) :
    Statement (.acrePortLinkChange port up training) := of_none _ rfl
theorem mergeSumWritten :
    Statement .mergeSumWritten := of_none _ rfl
theorem repairPeerTimeout :
    Statement .repairPeerTimeout := of_none _ rfl

end Sys2Proof.Laws.Placed
end

