-- ==== Sys2Proof/Machine/Package.lean ====
section
/-! DEFINITION. Sys2Proof/Machine/Package.lean: the ball map, the ratings and the thermal path of the package (R14, R439 to R446,
R456, R457). Nothing a command does depends on it. A position is a pair of the coordinates x and y, viewed from the ball side. -/

namespace Sys2Proof.Machine

/-! ### The ball map (R14, R440 to R443) -/

/-- The four balls of a lane. -/
inductive LaneBall where
  | txP | txN | rxP | rxN
  deriving DecidableEq, Repr

/-- The ball of lane `l` of Windrow port `p` (R441): ports 14 to 27 mirror ports 0 to 13. -/
def windrowBall (p l : Nat) (b : LaneBall) : Nat × Nat :=
  let x0 := match b with
    | .txP => 4
    | .txN => 5
    | .rxP => 16
    | .rxN => 17
  let x := x0 + 6 * (l / 8)
  if p < 14 then (x, 4 + 8 * p + l % 8) else (149 - x, 4 + 8 * (p - 14) + l % 8)

/-- The column of a lane's ball in zone C (R442). -/
def LaneBall.columnC : LaneBall → Nat
  | .txP => 119
  | .txN => 120
  | .rxP => 122
  | .rxN => 123

/-- The ball of lane `l` of an Acre port (R442). -/
def acreBall (a l : Nat) (b : LaneBall) : Nat × Nat := (b.columnC, 8 + 8 * a + l)

/-- The ball of a CXL lane (R442). -/
def cxlBall (k : Nat) (b : LaneBall) : Nat × Nat := (b.columnC, 40 + k)

/-- The named balls of row y058 of zone C (R442). -/
def cxlSideband : List (String × Nat × Nat) :=
  [("CX_REFCLK_P", 119, 58), ("CX_REFCLK_N", 120, 58), ("CX_PERST#", 122, 58), ("CX_CLKREQ#", 123, 58)]

/-- The ball of zone D at i and j (R440). -/
def zoneD (i j : Nat) : Nat × Nat := (37 + 2 * i, 24 + 2 * j)

/-- The sideband balls of row y024, from i = 0 (R443). -/
def sideband : List String :=
  ["RING_IN_P", "RING_IN_N", "RING_OUT_P", "RING_OUT_N", "MGMT_TX_P", "MGMT_TX_N", "MGMT_RX_P", "MGMT_RX_N", "PPS_IN",
   "XTAL_IN", "XTAL_OUT", "FL_CS#", "FL_CLK", "FL_DQS", "FL_DQ0", "FL_DQ1", "FL_DQ2", "FL_DQ3", "FL_DQ4", "FL_DQ5", "FL_DQ6",
   "FL_DQ7", "FL_RESET#", "FLASH_OWN", "RESET_IN#", "FAULT#", "TCK", "TMS", "TDI", "TDO", "TRST#"]

/-- What a ball carries. -/
inductive BallUse where
  | lane | vin | sideband | reserved | ground
  deriving DecidableEq, Repr

/-- The use of zone D's ball at i and j (R443). -/
def zoneDUse (i j : Nat) : BallUse :=
  if j = 0 then (if i < 31 then .sideband else .reserved)
  else if j = 35 then .reserved
  else if 10 ≤ i && i ≤ 25 && 8 ≤ j && j ≤ 17 then .vin
  else .ground

/-- Whether a column from 1 to 24 of zones A and B, counted from the package's edge, carries lanes in its rows (R441). -/
def laneColumn (x : Nat) : Bool := [4, 5, 10, 11, 16, 17, 22, 23].contains x

/-- The use of the ball at a position, if there is a ball (R440 to R443). -/
def ballAt (x y : Nat) : Option BallUse :=
  if 4 ≤ y && y ≤ 115 && ((1 ≤ x && x ≤ 24) || (125 ≤ x && x ≤ 148)) then
    some (if laneColumn (if x ≤ 24 then x else 149 - x) then .lane else .ground)
  else if 4 ≤ y && y ≤ 115 && 119 ≤ x && x ≤ 124 then
    some (if [119, 120, 122, 123].contains x then
      (if (8 ≤ y && y ≤ 23) || (40 ≤ y && y ≤ 55) then .lane else if y = 58 then .sideband else .ground) else .ground)
  else if 37 ≤ x && x ≤ 107 && 24 ≤ y && y ≤ 94 && x % 2 = 1 && y % 2 = 0 then some (zoneDUse ((x - 37) / 2) ((y - 24) / 2))
  else none

/-- The balls with a use in a row. -/
def ballsInRow (u : BallUse) (y : Nat) : Nat := ((range 1 148).filter fun x => ballAt x y == some u).length

/-! ### Ratings and power (R408, R444 to R446) -/

/-- The operating range of the input, in mV (R408). -/
def inputRange : Nat × Nat := (50000, 60000)

/-- Whether the input stands in the operating range (R408, R410). -/
def inputInRange (mv : Nat) : Bool := decide (inputRange.1 ≤ mv) && decide (mv ≤ inputRange.2)

/-- The largest draw in W averaged over 1 s, by state (R446): the cap while Growing, and 900 W while a boot runs. -/
def largestDraw (d : DevState) (booting : Bool) (cap : Nat) : Nat :=
  match d with
  | .fallow => if booting then 900 else 6
  | .tilled => 560
  | .sown => 600
  | .growing => cap
  | .harvest => 1150
  | .gleaning => 900
  | .faulted => 60

/-- The current in mA that a power in W draws at an input voltage in mV (R408, R446). -/
def currentAt (watts mv : Nat) : Nat := watts * 1000000 / mv

/-! ### The thermal path (R456) -/

/-- Parts of the package that carry power. -/
inductive ThermalPart where
  | fieldDie | headland | hbmStack
  deriving DecidableEq, Repr

/-- Watts of a part at TDP (R456). -/
def ThermalPart.watts : ThermalPart → Nat
  | .fieldDie => 2330
  | .headland => 110
  | .hbmStack => 14

/-- Thermal resistance from a part to the lid top, in mK/W (R456). -/
def ThermalPart.resistance : ThermalPart → Nat
  | .fieldDie => 10
  | .headland => 80
  | .hbmStack => 250

/-- A part's temperature at TDP in mK above 0 °C, over a coolant inlet at a temperature in mK (R456): the plate's 9 mK/W of the package's
3,000 W, then the part's own path. -/
def junction (p : ThermalPart) (inlet : Nat) : Nat := inlet + 9 * 3000 + p.resistance * p.watts

/-! ### Ordering codes (R457) -/

/-- The ordering code of a product and a stepping. -/
def orderingCode (product stepping : Nat) : Option String :=
  if stepping = 0xB0 then (if product = 0x160 then some "LZ9-160-B0" else if product = 0x144 then some "LZ9-144-B0" else none)
  else if stepping = 0xA1 then (if product = 0x160 then some "LZ9-160-A1" else if product = 0x144 then some "LZ9-144-A1" else none)
  else none

end Sys2Proof.Machine
end

