-- ==== Sys2Proof/Tests/Slice0.lean ====
section
/-! SUPPORT. Sys2Proof/Tests/Slice0.lean: small tests of single steps, an ill-formed term for each check of WellFormed, and for every
statement with hypotheses a theorem (meets_<claim>) that names a state and operands meeting them, clause by clause. -/

namespace Sys2Proof.Tests

set_option Elab.async false

open Sys2Proof Machine

/-! ### Small states -/

/-- A Tilled device alone, its boot complete, both host paths up. -/
def tilled : State :=
  { State.reset with ctl :=
      { powerGood := true, bypassOpen := true, cur := .tilled, tgt := .tilled, stage := .done, reachedTilled := true
        cxlUp := true, cxlConfigured := true, memoryActive := true } }

/-- The same device in another state. -/
def inState (s : State) (d : DevState) : State := { s with ctl := { s.ctl with cur := d, tgt := d } }

/-- A device whose boot has come to a row. -/
def bootingAt (b : BootStage) : State := { State.reset with ctl := { powerGood := true, stage := b } }

/-- A device in Fallow. -/
def fallowOf (b : BootStage) (reached : Bool) : State :=
  { tilled with ctl := { tilled.ctl with cur := .fallow, tgt := .fallow, stage := b, reachedTilled := reached } }

/-- A request of the mirror's slot 0 for an entry. -/
def ask (op : BitVec 4) (key : Nat) (data : List Byte) : Req :=
  { src := .mirror 0, op := op, index := BitVec.ofNat 16 (key / 256), sub := BitVec.ofNat 8 key, data := data, length := data.length }

/-- A ring device with address 5 and epoch 9. -/
def ringDevice : State := (tilled.setNum 0x101001 5).setNum 0x101002 9

/-- A request of the ring master to it. -/
def ringAsk (op : BitVec 4) (key : Nat) (data : List Byte) : Req := { ask op key data with src := .master, dest := 5, epoch := 9, seq := 1 }

/-- A training job that runs. -/
def aJob : Job := { binary := {}, running := true }

/-- A Growing device alone that runs a training job on one plot. -/
def withPlot (pl : Plot) : State := { inState tilled .growing with job := some aJob, plots := [pl] }

/-- The plot at work. -/
def growing : State := withPlot { entered := true }

/-- A small tile of a tensor whose check value holds. -/
def goodTile (id stepLo : Nat) (payload : List Byte) : Tile :=
  sealTile { tag := { tensorId := BitVec.ofNat 32 id, stepLo := BitVec.ofNat 32 stepLo, format := 1, rowsM1 := 0, colsM1 := 0, valid := true }
             payload := payload }

/-- A member of a formed team; rank 0 leads. -/
def member (s : State) (size rank : Nat) : State := ((s.setNum 0x400006 2).setNum 0x400002 size).setNum 0x400003 rank

/-- Three images of a slot. -/
def images3 (v : Nat) : List FwImage := [{ imageType := 1, version := v, rollbackIndex := v }, { imageType := 2 }, { imageType := 3 }]

theorem asked_mirror {s : State} {r : Req}
    (h : r.src = .mirror 0 ∧ 0 < s.ctl.mirror.length ∧ s.ctl.cxlUp = true ∧ s.ctl.cxlConfigured = true) : Asked s r := by
  unfold Asked
  rw [h.1]
  exact h.2

theorem asked_ring {s : State} {r : Req}
    (h : r.src = .master ∧ s.ctl.bypassOpen = true ∧ BitVec.ofNat 8 (s.num 0x101001) ≠ 0 ∧
      (r.dest = BitVec.ofNat 8 (s.num 0x101001) ∨ r.dest = 0xFF) ∧ r.epoch ≠ 0 ∧ r.epoch = BitVec.ofNat 8 (s.num 0x101002) ∧
      (s.ctl.answered.find? fun a => a.src == r.src && a.seq == r.seq && a.crc == r.crc) = none) : Asked s r := by
  unfold Asked
  rw [h.1]
  exact ⟨h.2.1, h.2.2.1, h.2.2.2.1, h.2.2.2.2.1, h.2.2.2.2.2.1, by simpa [h.1] using h.2.2.2.2.2.2⟩

/-! ### Queue, resets and boot -/

theorem meets_StepRunsFront : ({ tilled with pending := [.boutStart] } : State).pending = .boutStart :: [] := by decide

theorem meets_EmptyQueueCountsOneCycle :
    tilled.pending = [] ∧ tilled.fabric.withhold = false ∧ { tilled.fabric with withhold := true }.withhold = true := by decide

theorem meets_StepKeepsCanonicalForm : Canonical State.reset ∧ Canonical ringDevice ∧ Canonical growing := by
  unfold Canonical
  decide +kernel

theorem meets_FusesAndQueueStay :
    { State.reset.fuses with fwRollback := State.reset.fuses.fwRollback } = State.reset.fuses ∧ exec .txnTimeout tilled = .next tilled := by
  exact ⟨rfl, rfl⟩

theorem meets_PowerGoodPin : State.reset.ctl.powerGood = false ∧ tilled.ctl.powerGood = true := by decide

theorem meets_DeviceResetKeeps :
    tilled.ctl.resetLow = false ∧ tilled.ctl.cur ≠ .faulted ∧ tilled.ctl.cur ≠ .fallow ∧ tilled.ctl.stage ≠ .off ∧
      tilled.ctl.stage ≠ .fuseRead ∧ tilled.ctl.tripOnBoot = false ∧ { tilled.ctl with resetLow := true }.resetLow = true := by decide

theorem meets_DeviceResetBoots :
    tilled.ctl.cur ≠ .fallow ∧ tilled.ctl.resetLow = false ∧ (fallowOf .asleep true).ctl.cur = .fallow := by decide

theorem meets_MonitorTripEntersFaulted :
    Canonical tilled ∧ tilled.ctl.stage ≠ .off ∧ tilled.ctl.cur ≠ .faulted ∧ tilled.ctl.cur ≠ .fallow ∧
      (bootingAt .ring).ctl.cur = .fallow ∧ (bootingAt .ring).ctl.booting = true := by
  unfold Canonical
  decide +kernel

theorem meets_BootRows :
    (∀ b ∈ [BootStage.firmware, .cxl, .hbm, .selfTestOne, .selfTestTwo], (bootingAt b).ctl.stage = b ∧ (bootingAt b).ctl.booting = true) ∧
      (bootingAt .fuseRead).ctl.stage = .fuseRead ∧ (bootingAt .fuseRead).ctl.bypassOpen = false ∧
      (bootingAt .fuseRead).ctl.resetLow = false ∧ (bootingAt .fuseRead).num 0x401101 ≠ 1 ∧
      (bootingAt .fuseRead).num (0x401101 + 27) ≠ 1 ∧ Canonical (bootingAt .cxl) := by
  unfold Canonical
  decide +kernel

theorem meets_FirmwareRow :
    Canonical (bootingAt .ring) ∧ (bootingAt .ring).ctl.stage = .ring ∧ (bootingAt .ring).ctl.resetLow = false ∧
      (bootingAt .ring).ctl.booting = true ∧ (bootingAt .ring).ctl.flashOwn = false ∧ slotImages State.reset.fuses [] = none ∧
      (slotImages State.reset.fuses (images3 3)).isSome = true ∧ (slotImages State.reset.fuses (images3 4)).isSome = true := by
  unfold Canonical
  decide +kernel

theorem meets_FlashOwnPin :
    Canonical tilled ∧ tilled.sec.fwWriting = none ∧ { tilled.sec with fwWriting := some (images3 3) }.fwWriting = some (images3 3) := by
  unfold Canonical
  decide +kernel

/-! ### Site time and the ring -/

/-- A device whose last accepted edge was at a count. -/
def ppsAt (s : State) (c : Cycle) : State := { s with time := { s.time with lastPps := some c } }

theorem meets_PpsEdges :
    tilled.ctl.keepsTime = true ∧ tilled.time.lastPps = none ∧ (ppsAt tilled 1000).time.lastPps = some 1000 ∧
      1599984000 ≤ ((1599985000 : Cycle) - 1000).toNat ∧ ((1600017000 : Cycle) - 1000).toNat ≤ 1600016000 ∧
      ((1599984999 : Cycle) - 1000).toNat < 1599984000 ∧ 1600016000 < ((1600017001 : Cycle) - 1000).toNat ∧
      isSecond ((8200000000 : Cycle) - 6600000000).toNat = true ∧ isSecond ((6600000000 : Cycle) - 5000000000).toNat = true ∧
      (ppsAt tilled 1000).time.ignored.length < 2 := by decide +kernel

theorem meets_LossOfTime :
    Canonical (tilled.setNum 0x503002 1) ∧ (tilled.setNum 0x503002 1).ctl.keepsTime = true ∧ (tilled.setNum 0x503002 1).num 0x503002 = 1 ∧
      Canonical ((tilled.setNum 0x503002 1).setNum 0x503001 2) ∧ ((tilled.setNum 0x503002 1).setNum 0x503001 2).num 0x503001 = 2 ∧
      ((tilled.setNum 0x503002 1).setNum 0x503001 2).num 0x503002 = 1 ∧ (tilled.setNum 0x503002 2).num 0x503002 = 2 := by
  unfold Canonical
  decide +kernel

/-- A device that takes its time over the management port. -/
def ptpDevice : State := { tilled.setNum 0x503001 2 with time := { tilled.time with mgmtUp := true } }

theorem meets_PtpMessages :
    ptpDevice.ctl.keepsTime = true ∧ ptpDevice.num 0x503001 = 2 ∧ ptpDevice.time.mgmtUp = true ∧
      ({ kind := 2, transportOk := true, fromSelectedMaster := true } : PtpMessage).kind < 3 ∧
      ({ kind := 2, transportOk := true, fromSelectedMaster := true } : PtpMessage).domainNumber = 0 := by decide +kernel

/-- A device that takes its time from the ring. -/
def todDevice : State := ppsAt (tilled.setNum 0x503001 1) 1000

theorem meets_TimeOfDayFrame :
    todDevice.ctl.keepsTime = true ∧ todDevice.ctl.bypassOpen = true ∧ todDevice.num 0x503001 = 1 ∧
      todDevice.time.lastPps = some 1000 ∧ 160000000 ≤ ((160001000 : Cycle) - 1000).toNat ∧
      ((1440001000 : Cycle) - 1000).toNat ≤ 1440000000 ∧ ((160000999 : Cycle) - 1000).toNat < 160000000 ∧
      1440000000 < ((1440001001 : Cycle) - 1000).toNat ∧ (tilled.setNum 0x503001 2).num 0x503001 ≠ 1 ∧ tilled.time.lastPps = none ∧
      { todDevice.time with waitingTod := some 77 }.waitingTod = some 77 := by decide +kernel

theorem meets_RingFrames :
    ringDevice.ctl.bypassOpen = true ∧ BitVec.ofNat 8 (ringDevice.num 0x101001) = 5 ∧ BitVec.ofNat 8 (tilled.num 0x101001) = 0 ∧
      ({ dest := 7 } : RingFrame).dest ≠ BitVec.ofNat 8 (ringDevice.num 0x101001) ∧ Canonical ringDevice ∧
      ({ dest := 5, crcOk := false } : RingFrame).dest = BitVec.ofNat 8 (ringDevice.num 0x101001) ∧
      (253 : BitVec 8).toNat < 254 ∧ State.reset.ctl.bypassOpen = false := by
  unfold Canonical
  decide +kernel

theorem meets_BypassAndJoinNotice :
    { tilled.ctl with bypassOpen := false }.bypassOpen = false ∧ tilled.ctl.stage ≠ .off ∧ tilled.ctl.stage ≠ .fuseRead ∧
      tilled.ctl.bypassOpen = true ∧ tilled.num 0x101001 = 0 := by decide +kernel

/-! ### Requests -/

theorem meets_RepeatedRequests :
    (ringAsk 2 0x100204 []).src = .master ∧ Asked ringDevice (ringAsk 2 0x100204 []) ∧
      ({ ringDevice.ctl with answered := [{ src := .master, seq := 1, crc := 0, response := [], abort := none }] }.answered.find?
        fun (a : Answered) => a.src == (ringAsk 2 0x100204 []).src && a.seq == (ringAsk 2 0x100204 []).seq && a.crc == (ringAsk 2 0x100204 []).crc).isSome
        = true := by
  refine ⟨rfl, asked_ring (by decide +kernel), by decide +kernel⟩

theorem meets_GateOfRequests :
    (fallowOf .ring false).ctl.reachedTilled = false ∧ (fallowOf .ring false).ctl.stage ≠ .stopped ∧
      (fallowOf .asleep true).ctl.reachedTilled = true ∧ (fallowOf .asleep true).ctl.cur = .fallow ∧ tilled.ctl.cur ≠ .fallow ∧
      tilled.ctl.bootFault = false ∧ (fallowOf .asleep true).gate (ask 2 0x100204 []) = some .wrongState ∧
      (fallowOf .ring false).gate (ask 2 0x100204 []) = some .booting ∧ Asked (fallowOf .asleep true) (ask 2 0x100204 []) := by
  refine ⟨?_, ?_, ?_, ?_, ?_, ?_, ?_, ?_, asked_mirror (by decide +kernel)⟩ <;> decide +kernel

theorem meets_ReadAnswers :
    Asked tilled (ask 1 0x100000 []) ∧ Asked tilled (ask 1 0x400004 []) ∧ Asked tilled (ask 1 0x102002 []) ∧
      (∀ k ∈ [0x100000, 0x400004, 0x102002], (ask 1 k []).reserved = 0 ∧ tilled.gate (ask 1 k []) = none ∧ requestKey (ask 1 k []) = k) ∧
      ((entryOf 0x100000).map fun e => (e.access ≠ .wo : Bool)) = some true ∧
      ((entryOf 0x102002).map fun e => (e.access = .wo : Bool)) = some true ∧
      ((entryOf 0x400004).map fun e => match e.type with | .octets _ => true | _ => false) = some true ∧
      { ask 1 0x400004 [] with length := 256 }.offset.toNat ≤ (tilled.readOct 0x400004).length := by
  refine ⟨asked_mirror ?_, asked_mirror ?_, asked_mirror ?_, ?_⟩ <;> decide +kernel

theorem meets_WriteOutcomes :
    (∀ r ∈ [ask 2 0x100204 [1, 0, 0, 0], ask 2 0x100000 [1, 0, 0, 0], ask 2 0x400001 [1, 0, 0, 0, 0, 0, 0, 0]],
        Asked tilled r ∧ r.reserved = 0 ∧ tilled.gate r = none ∧ r.op = 2) ∧ Canonical tilled ∧ tilled.txn = none ∧
      ((entryOf 0x100204).map fun e => (e.access, e.type.size, tilled.writable e, e.inRange 1, tilled.numberOk 0x100204 1)) =
        some (.rw, 4, true, true, true) ∧
      ((entryOf 0x100000).map (·.access)) = some .ro ∧ ((entryOf 0x400001).map (·.access)) = some .rwt ∧
      ({ tilled with txn := some { owner := .master } } : State).txn = some { owner := .master } := by
  refine ⟨?_, ?_⟩
  · intro r h
    simp only [List.mem_cons, List.not_mem_nil, or_false] at h
    obtain rfl | rfl | rfl := h <;> exact ⟨asked_mirror (by decide +kernel), by decide +kernel, by decide +kernel, rfl⟩
  · unfold Canonical
    decide +kernel

/-- A transaction of the mirror's slot 0. -/
def inTxn (st : List (Nat × EntryValue)) : State := { tilled with txn := some { owner := .mirror 0, staged := st } }

theorem meets_Transactions :
    (∀ op ∈ [(4 : BitVec 4), 5, 6], Asked tilled (ask op 0 []) ∧ (ask op 0 []).reserved = 0 ∧ tilled.gate (ask op 0 []) = none) ∧
      Asked (inTxn []) (ask 2 0x400003 [1, 0, 0, 0]) ∧ (inTxn []).gate (ask 2 0x400003 [1, 0, 0, 0]) = none ∧
      ((entryOf 0x400003).map fun e => (e.access, e.type.size, (inTxn []).writable e, e.inRange 1, (inTxn []).numberOk 0x400003 1)) =
        some (.rwt, 4, true, true, true) ∧
      Canonical (inTxn [(0x400001, .num 7)]) ∧ (inTxn [(0x400001, .num 7)]).checkValue 0x400001 (.num 7) = none ∧
      (inTxn [(0x400001, .num 7)]).crossCheck [(0x400001, .num 7)] = none ∧
      ((inTxn [(0x400003, .num 7)]).crossCheck [(0x400003, .num 7)]).isSome = true ∧
      (inTxn [(0x400003, .num 7)]).checkValue 0x400003 (.num 7) = none := by
  refine ⟨?_, asked_mirror (by decide +kernel), ?_⟩
  · intro op h
    simp only [List.mem_cons, List.not_mem_nil, or_false] at h
    obtain rfl | rfl | rfl := h <;> exact ⟨asked_mirror (by decide +kernel), by decide +kernel, by decide +kernel⟩
  · unfold Canonical
    decide +kernel

/-- A device whose Ledger has nine records, four of them exported. -/
def exporting : State := (tilled.setNum 0x801002 9).setNum 0x801003 4

theorem meets_Acknowledgements :
    (∀ r ∈ [ask 2 0x102002 [255, 0, 0, 0], ask 2 0x102002 [0, 1, 0, 0], ask 2 0x801003 [4, 0, 0, 0, 0, 0, 0, 0],
        ask 2 0x801003 [9, 0, 0, 0, 0, 0, 0, 0], ask 2 0x801003 [3, 0, 0, 0, 0, 0, 0, 0], ask 2 0x801003 [10, 0, 0, 0, 0, 0, 0, 0]],
      Asked exporting r ∧ exporting.gate r = none) ∧ Canonical exporting ∧ exporting.txn = none ∧
      requestKey (ask 2 0x102002 []) = 0x102002 ∧ requestKey (ask 2 0x801003 []) = 0x801003 ∧ leNat [(255 : Byte), 0, 0, 0] = 255 ∧
      leNat [(0 : Byte), 1, 0, 0] = 256 ∧ exporting.num 0x801003 = 4 ∧ exporting.num 0x801002 = 9 := by
  refine ⟨?_, ?_⟩
  · intro r h
    simp only [List.mem_cons, List.not_mem_nil, or_false] at h
    obtain rfl | rfl | rfl | rfl | rfl | rfl := h <;> exact ⟨asked_mirror (by decide +kernel), by decide +kernel⟩
  · unfold Canonical
    decide +kernel

/-- A device with every cause standing and let through, and the hold-off of vector 0 running. -/
def signalling (enable : Bool) : State :=
  { (tilled.setNum 0x102001 0xFF).setNum 0x102003 0xFF with
    ctl := { tilled.ctl with msixPending := 0x0F, holdoffPending := true, holdoffRunning := true, msixEnable := enable } }

theorem meets_MsixDelivery :
    (signalling false).ctl.cxlUp = true ∧ (signalling false).ctl.cxlConfigured = true ∧
      (signalling false).ctl.msixPending.getLsbD 0 = true ∧ (signalling false).ctl.msixEnable = false ∧
      ((signalling false).num 0x102001).testBit 7 = true ∧ ((signalling false).num 0x102003).testBit 7 = true ∧
      tilled.ctl.holdoffPending = false ∧ (signalling true).ctl.holdoffPending = true ∧ (signalling true).ctl.vectorOpen 0 = true := by
  decide +kernel

/-! ### Verbs -/

theorem verb_asked {s : State} {r : Req}
    (h : r.src = .mirror 0 ∧ 0 < s.ctl.mirror.length ∧ s.ctl.cxlUp = true ∧ s.ctl.cxlConfigured = true)
    (g : r.reserved = 0 ∧ s.gate r = none ∧ r.op = 3 ∧ r.offset = 0 ∧ r.data.length ≤ 8) : VerbAsked s r := ⟨asked_mirror h, g⟩

theorem meets_StateVerbs :
    VerbAsked (fallowOf .asleep true) (ask 3 0x100201 []) ∧ VerbAsked tilled (ask 3 0x100201 []) ∧ VerbAsked tilled (ask 3 0x100202 []) ∧
      VerbAsked growing (ask 3 0x100202 []) ∧ VerbAsked tilled (ask 3 0x100203 []) ∧ VerbAsked (fallowOf .asleep true) (ask 3 0x100203 []) ∧
      requestKey (ask 3 0x100201 []) = 0x100201 ∧ (fallowOf .asleep true).ctl.stage = .asleep ∧ tilled.ctl.tripOnBoot = false := by
  refine ⟨?_, ?_, ?_, ?_, ?_, ?_, ?_⟩
  case refine_7 => decide +kernel
  all_goals exact verb_asked (by decide +kernel) (by decide +kernel)

theorem meets_IdleTimer :
    (tilled.setNum 0x100204 5).ctl.cur = .tilled ∧ (tilled.setNum 0x100204 5).num 0x100204 ≠ 0 ∧
      (SMap.get {} (tilled.setNum 0x100204 5).hopper (((tilled.setNum 0x100204 5).num 0x201004 - 1) % 4096)).state ≠ 1 ∧
      (SMap.get {} [(0, ({ state := 1 } : Slot))] ((tilled.num 0x201004 - 1) % 4096)).state = 1 := by decide +kernel

theorem meets_Attestation :
    VerbAsked tilled (ask 3 0x901102 []) ∧ tilled.ctl.cur ≠ .fallow ∧ Canonical tilled ∧
      { tilled.sec with attestNonce := some [1] }.attestNonce = some [1] := by
  refine ⟨verb_asked (by decide +kernel) (by decide +kernel), ?_⟩
  unfold Canonical
  decide +kernel

theorem meets_FirmwareUpdate :
    Canonical tilled ∧ VerbAsked tilled (ask 3 0x903001 []) ∧ tilled.sec.fwWriting = none ∧ tilled.ctl.flashOwn = false ∧
      VerbAsked growing (ask 3 0x903001 []) ∧ growing.ctl.cur ≠ .tilled ∧
      (images3 3).all (fun i => i.imageType ≠ 4) = true ∧
      tilled.sec.slotInForce = 0 ∧ { tilled.sec with slotInForce := 1 }.slotInForce = 1 := by
  refine ⟨?_, verb_asked (by decide +kernel) (by decide +kernel), by decide, by decide, verb_asked (by decide +kernel) (by decide +kernel), ?_⟩
  · unfold Canonical
    decide +kernel
  · decide +kernel

theorem meets_RollbackCommit :
    VerbAsked tilled (ask 3 0x903005 []) ∧ requestKey (ask 3 0x903005 []) = 0x903005 ∧ VerbAsked growing (ask 3 0x903005 []) ∧
      oneImage (images3 5) 1 = some { imageType := 1, version := 5, rollbackIndex := 5 } := by
  exact ⟨verb_asked (by decide +kernel) (by decide +kernel), by decide +kernel, verb_asked (by decide +kernel) (by decide +kernel),
    by decide +kernel⟩

/-! ### Recovery -/

/-- A Gleaning device at a domain, with those left. -/
def gleaningAt (left : List Nat) (stop : Bool) : State :=
  { inState tilled .gleaning with recovery := { tilled.recovery with gleanDomain := some 3, gleanLeft := left, gleanStop := stop } }

theorem meets_GleanerSweep :
    Canonical tilled ∧ VerbAsked tilled (ask 3 0x607001 [4, 0, 0, 0]) ∧ requestKey (ask 3 0x607001 [4, 0, 0, 0]) = 0x607001 ∧
      3 ∈ gleanDomains ∧ leNat (ask 3 0x607001 [4, 0, 0, 0]).data = 2 ^ (3 - 1) ∧ tilled.patternsOk = false ∧
      ({ tilled with flash := { patterns := some { imageType := 4 } } } : State).patternsOk = true ∧
      tilled.recovery.gleanStop = false ∧ Canonical (gleaningAt [4] false) ∧ (gleaningAt [4] false).recovery.gleanDomain = some 3 ∧
      (gleaningAt [4] false).recovery.gleanLeft = [4] ∧ (gleaningAt [] false).recovery.gleanLeft = [] ∧
      (gleaningAt [4] true).recovery.gleanStop = true ∧ (gleaningAt [4] true).ctl.cur = .gleaning := by
  refine ⟨?_, verb_asked (by decide +kernel) (by decide +kernel), ?_⟩ <;> (try unfold Canonical) <;> decide +kernel

theorem meets_PatrolReads :
    Canonical tilled ∧ tilled.ctl.cur ≠ .fallow ∧ growing.plotAt 0 = some { entered := true } ∧ growing.ctl.cur ≠ .fallow ∧
      Canonical growing ∧ (fallowOf .asleep true).ctl.cur = .fallow := by
  unfold Canonical
  decide +kernel

/-- A Tilled device that still holds the sealed tile 5 of step 0 in its Crib, with a repair of it under way. -/
def holdsTile : State :=
  { tilled with plots := [{ crib := [(3, { tile := goodTile 5 0 [1, 2, 3, 4], ready := true })] }]
                recovery := { repairs := [{ tensorId := 5, asked := 1 }] } }

theorem meets_ReplicaRepair :
    tilled.sealedTile 5 0 0 = none ∧ holdsTile.sealedTile 5 0 0 = some (goodTile 5 0 [1, 2, 3, 4]) ∧ Canonical holdsTile ∧
      holdsTile.job = none ∧ holdsTile.goodSealed 5 0 0 (goodTile 5 0 [1, 2, 3, 4]) = true ∧ (1 : Nat) ≠ holdsTile.rank := by
  unfold Canonical
  decide +kernel

/-! ### Plots -/

/-- The FP32 element 1. -/
def one32 : List Byte := [0, 0, 0x80, 0x3F]

/-- A Crib whose region 0 holds a good tile. -/
def crib1 : SMap Region := [(0, { tile := goodTile 5 1 one32, ready := true })]

/-- A reference to a region of the plot's Crib that expects that tile. -/
def ref1 (r : Nat) : TileRef := { loc := .crib r, tmpl := { tensorId := 5, format := 1, rowsM1 := 0, colsM1 := 0 } }

theorem atWork {pl : Plot} (h : pl.stopped = false ∧ pl.arrived = false) : AtWork (withPlot pl) 0 pl aJob :=
  ⟨rfl, rfl, h.1, h.2, rfl, rfl, rfl, rfl, rfl⟩

theorem meets_ControlSlot :
    (withPlot {}).issuing 0 = some {} ∧ (withPlot { loops := [(0, 0, 2)] }).issuing 0 = some { loops := [(0, 0, 2)] } ∧
      growing.sealPending { entered := true } = false ∧ (withPlot { arrived := true }).sealPending { arrived := true } = true ∧
      (withPlot { arrived := true }).issuing 0 = some { arrived := true } ∧ tilled.issuing 0 = none := by decide +kernel

theorem meets_StepMarkEntry :
    (withPlot { tines := [(1, { pos := 3, running := true })] }).issuing 0 = some { tines := [(1, { pos := 3, running := true })] } ∧
      SMap.wf ({} : Tine) [(1, { pos := 3, running := true })] = true := by decide +kernel

/-- A plot that waits. -/
def waiting (w : WaitKind) : Plot := { crib := crib1, wait := some (w, 5, false), entered := true }

theorem meets_TileAndTokenWaits :
    growing.jobRuns = true ∧ (growing.regionAt 0 (ref1 0).loc).ready = false ∧
      ((withPlot { crib := crib1 }).regionAt 0 (ref1 0).loc).ready = true ∧
      (withPlot { crib := crib1 }).readTile 0 (ref1 0) = .ok (goodTile 5 1 one32) ∧
      (waiting (.tile (ref1 0) false)).wait = some (.tile (ref1 0) false, 5, false) ∧
      (withPlot (waiting (.tile (ref1 0) false))).readTile 0 (ref1 0) = .ok (goodTile 5 1 one32) ∧
      ((withPlot (waiting (.tile (ref1 1) false))).regionAt 0 (ref1 1).loc).ready = false ∧
      (waiting (.token 2 3)).wait = some (.token 2 3, 5, false) := by decide +kernel

/-- The descriptor of a wait for barrier 7 and ten cycles. -/
def barrierWait : BitVec 512 := BitVec.ofNat 512 (2 ^ 504 + 7 * 2 ^ 448 + 10)

/-- A plot that waits for barrier 7, whose release has come. -/
def released7 : State :=
  { withPlot (waiting (.barrier 7 10)) with fabric := { growing.fabric with releases := [(barrierKey 7 1, 900)] } }

theorem meets_CycleWaits :
    bitsOf 511 504 (500 : BitVec 512).toNat = 0 ∧ bitsOf 511 504 barrierWait.toNat = 1 ∧
      growing.releaseOf 0 (BitVec.ofNat 32 (barrierWait.toNat / 2 ^ 448)) = none ∧
      (waiting (.cycle 500)).wait = some (.cycle 500, 5, false) ∧ released7.releaseOf 0 7 = some 900 ∧
      (withPlot (waiting (.barrier 7 10))).releaseOf 0 7 = none := by decide +kernel

theorem meets_WaitTimeoutFaults :
    Canonical (withPlot (waiting (.token 2 3))) ∧ AtWork (withPlot (waiting (.token 2 3))) 0 (waiting (.token 2 3)) aJob ∧
      (waiting (.token 2 3)).wait = some (.token 2 3, 5, false) ∧ (∀ t, WaitKind.token 2 3 ≠ .tile t true) ∧
      (withPlot (waiting (.token 2 3))).rollsBackBy (waiting (.token 2 3)) 99 = false ∧
      ({ withPlot (waiting (.token 2 3)) with job := some { aJob with outcomes := [{ code := .replay, release := 99 }] } } :
        State).rollsBackBy (waiting (.token 2 3)) 99 = true := by
  refine ⟨?_, atWork ⟨rfl, rfl⟩, rfl, by simp, ?_⟩
  · unfold Canonical
    decide +kernel
  · decide +kernel

/-! ### Furrow -/

/-- Two operands of one block a line, 32 elements 1 and 32 elements 2. -/
def fieldA : Tile :=
  sealTile { tag := { tensorId := 6, stepLo := 1, format := 0x11, rowsM1 := 0, colsM1 := 31, valid := true }, payload := 127 :: List.replicate 32 1 }

def fieldB : Tile :=
  sealTile { tag := { tensorId := 7, stepLo := 1, format := 0x11, rowsM1 := 31, colsM1 := 0, valid := true }, payload := 127 :: List.replicate 32 2 }

def furrowD : FurrowDesc :=
  { a := [{ loc := .crib 0, tmpl := { tensorId := 6, format := 0x11, rowsM1 := 0, colsM1 := 31 } }]
    b := [{ loc := .crib 1, tmpl := { tensorId := 7, format := 0x11, rowsM1 := 31, colsM1 := 0 } }], rows := 1, out := .crib 9, outTensor := 8, bundle := 3 }

/-- The instruction at the issue slot, after its scan, and with a pass in the shadow registers. -/
def run0 : FurrowRun := { desc := furrowD }

def run1 : FurrowRun := { run0 with xaMax := [127], xbMax := [127], scanDone := true }

def run2 : FurrowRun := { run1 with shadow := some (0, [[some 64]]), next := 32 }

/-- A plot with both operands in its Crib; one that runs an instruction; one where an instruction waits at the issue slot. -/
def operands : Plot := { crib := [(0, { tile := fieldA, ready := true }), (1, { tile := fieldB, ready := true })], entered := true }

def withRun (r : FurrowRun) : Plot := { operands with furrow := some r }

def withScan (r : FurrowRun) : Plot := { operands with scan := some r, wait := some (.furrow r.desc, 0, false) }

/-- A share of a split extent: its instruction waits for two records, one of which it passes on. -/
def splitD : FurrowDesc := { furrowD with split := true, holders := 2, below := 1 }

/-- A maxima record of its output (R81), of a step. -/
def maxima (stepLo : Nat) : Tile :=
  { tag := { tensorId := 8, stepLo := BitVec.ofNat 32 stepLo, rowsM1 := 1, colsM1 := 191, valid := true }, payload := List.replicate 384 5 }

/-- The 24-bit operands of one block a line with all elements at the largest value, and an instruction that they overflow. -/
def wideTile (id : Nat) (down : Bool) : Tile :=
  sealTile
    { tag := { tensorId := BitVec.ofNat 32 id, stepLo := 1, format := 0x15, rowsM1 := if down then 31 else 0
               colsM1 := if down then 0 else 31, valid := true }
      payload := 127 :: (List.replicate 32 [255, 255, 127]).flatten }

def overD : FurrowDesc :=
  { a := [{ loc := .crib 0, tmpl := { tensorId := 6, format := 0x15, rowsM1 := 0, colsM1 := 31 } }]
    b := [{ loc := .crib 1, tmpl := { tensorId := 7, format := 0x15, rowsM1 := 31, colsM1 := 0 } }], wA := 24, wB := 24, rows := 1
    guard := 24, out := .crib 9, outTensor := 8, bundle := 3 }

def runOver (top rep : Nat) : FurrowRun := { desc := overD, xaMax := [top], xbMax := [top], scanDone := true, rep := rep }

def withOver (top rep : Nat) : Plot :=
  { crib := [(0, { tile := wideTile 6 false, ready := true }), (1, { tile := wideTile 7 true, ready := true })], entered := true
    furrow := some (runOver top rep) }

/-- A full-width tile of one element. -/
def fwpTile (v : Nat) : Tile :=
  sealTile { tag := { tensorId := 8, stepLo := 1, format := 0x20, rowsM1 := 0, colsM1 := 0, valid := true }, payload := leBytes 16 v ++ [0, 0, 0, 0] }

theorem meets_FurrowIssueScanAndRecords :
    (∀ pl ∈ [operands, withScan run0, { withScan run0 with furrow := some run1 }, withScan { run0 with desc := splitD, recordsLeft := 2, taken := 1 }],
      (withPlot pl).jobRuns = true ∧ (withPlot pl).plotAt 0 = some pl ∧ pl.stopped = false) ∧
      (withPlot (withScan run0)).furrowOperands 0 furrowD = (withPlot (withScan run0), some ([fieldA], [fieldB])) ∧
      (withPlot (withScan run0)).upToPlot (0 + BitVec.ofNat 64 (scanCycles furrowD)) ≠ withPlot (withScan run0) ∧
      furrowDefined furrowD [fieldA] [fieldB] = true ∧ furrowDefined splitD [fieldA] [fieldB] = true ∧
      (recordsFor splitD []).1 = [] ∧ splitD.below ≤ 1 := by
  decide +kernel

theorem meets_FurrowRecords :
    (∀ st ∈ [1, 7], forTile 8 0 0 (maxima st) = true ∧ (maxima st).tag.valid = true ∧ (maxima st).tag.poison = false) ∧
      (withPlot (withScan { run1 with recordsLeft := 2 })).checkTile (withScan { run1 with recordsLeft := 2 }) (recordTmpl 8 0 0 2) (maxima 1) =
        .ok (maxima 1) ∧
      (maxima 7).tag.stepLo ≠ BitVec.ofNat 32 ((withPlot (withScan run1)).workStep (withScan run1)) ∧
      Canonical (withPlot (withScan { run1 with sent := true, recordsLeft := 1 })) ∧
      AtWork (withPlot (withScan { run1 with sent := true, recordsLeft := 1 })) 0 (withScan { run1 with sent := true, recordsLeft := 1 }) aJob ∧
      (withScan run0).scan.all (fun r => !r.scanDone) = true ∧ run1.xaMax.length = run1.desc.rows := by
  refine ⟨?_, ?_, ?_, ?_, atWork ⟨rfl, rfl⟩, ?_⟩ <;> (try unfold Canonical) <;> decide +kernel

theorem meets_FurrowPasses :
    Canonical (withPlot (withRun run1)) ∧ AtWork (withPlot (withRun run1)) 0 (withRun run1) aJob ∧ run1.next < run1.desc.k ∧
      (withPlot (withRun run1)).furrowOperands 0 furrowD = (withPlot (withRun run1), some ([fieldA], [fieldB])) ∧
      furrowPassSums run1 [fieldA] [fieldB] = some [[some 64]] ∧ (withPlot (withRun run1)).checksumOn (withRun run1) = false ∧
      ((withPlot (withRun run1)).setNum 0x604001 1).checksumOn (withRun run1) = true ∧
      ((withPlot (withRun run1)).setNum 0x604001 1).furrowOperands 0 furrowD =
        ((withPlot (withRun run1)).setNum 0x604001 1, some ([fieldA], [fieldB])) ∧
      Canonical ((withPlot (withRun run1)).setNum 0x604001 1) ∧
      spareRowsNeeded run1.desc ≤ (withRun run1).spareRows ∧ 2 ≤ (withRun run1).spareCols := by
  refine ⟨?_, atWork ⟨rfl, rfl⟩, ?_, ?_, ?_, ?_, ?_, ?_, ?_, ?_, ?_⟩ <;> (try unfold Canonical) <;> decide +kernel

theorem meets_FurrowRepeats :
    (∀ x ∈ [(127, 0), (100, 3)], Canonical (withPlot (withOver x.1 x.2)) ∧ (runOver x.1 x.2).next < overD.k ∧
      (withPlot (withOver x.1 x.2)).furrowOperands 0 overD =
        (withPlot (withOver x.1 x.2), some ([wideTile 6 false], [wideTile 7 true])) ∧
      furrowPassSums (runOver x.1 x.2) [wideTile 6 false] [wideTile 7 true] = none) ∧
      AtWork (withPlot (withOver 100 3)) 0 (withOver 100 3) aJob ∧ AtWork (withPlot (withOver 127 0)) 0 (withOver 127 0) aJob ∧
      furrowDefined overD [wideTile 6 false] [wideTile 7 true] = true ∧
      (withPlot { withRun run1 with crib := [(0, { tile := { fieldA with tag := { fieldA.tag with poison := true } }, ready := true })] }).readTile
        0 { loc := .crib 0, tmpl := { tensorId := 6, format := 0x11, rowsM1 := 0, colsM1 := 31 } } = .poison := by
  refine ⟨?_, atWork ⟨rfl, rfl⟩, atWork ⟨rfl, rfl⟩, ?_⟩ <;> (try unfold Canonical) <;> decide +kernel

theorem meets_SpillAndReady :
    heldFullWidth (withRun run2) = none ∧ run2.desc.accumulate = false ∧ run2.spilled = false ∧
      ((withPlot { withRun run2 with crib := [(9, { tile := fwpTile 100, ready := true })] }).upToPlot
        (0 + BitVec.ofNat 64 (beats (spillTile run2 0 [[some 64]]).rows))).readTile 0 (outputRef run2 (spillTile run2 0 [[some 64]])) =
          .ok (fwpTile 100) ∧
      (fwpAdd (fwpOf (fwpTile 100)) (spillTile run2 0 [[some 64]])).2 = 0 ∧ run1.shadow = none ∧
      { run1 with next := 32 }.desc.k ≤ { run1 with next := 32 }.next ∧ (withRun run2).scan = none ∧
      (∀ i n, furrowD.out ≠ .buffer i n) ∧ (withScan run1).wait = some (.furrow furrowD, 0, false) ∧
      (withScan run1).scan = some run1 := by
  refine ⟨?_, ?_, ?_, ?_, ?_, ?_, ?_, ?_, fun i n h => by simp [furrowD] at h, ?_, ?_⟩ <;> decide +kernel

/-! ### Chains, the adder and moves -/

/-- A chain of one stage that adds 1. -/
def chainD : ChainDesc :=
  { stages := [{ op := .add, args := [(.x, .none), (.const 0, .none)] }], x := some (ref1 0), consts := [0x3F800000], rows := 1, cols := 1
    out := .crib 7, outTensor := 9, bundle := 4 }

/-- A plot that holds its operand, and the operand. -/
def chainPlot (l : List ChainRun) : Plot := { crib := crib1, chains := l, entered := true }

def chainIn : ChainIn := { x := some (goodTile 5 1 one32) }

/-- What the chain makes of it. -/
def chainOut : ChainOut := ((withPlot (chainPlot [])).chainResult (chainPlot []) chainD chainIn).2

/-- A chain in flight that meets it at the output port. -/
def clash : ChainRun := { desc := chainD, issue := 0, latency := 11, beats := 5, result := goodTile 5 1 one32 }

theorem meets_ChainIssueAndDone :
    (∀ l ∈ [[], [clash]], (withPlot (chainPlot l)).chainOperands 0 chainD = (withPlot (chainPlot l), some chainIn) ∧
      (withPlot (chainPlot l)).chainResult (chainPlot l) chainD chainIn = (withPlot (chainPlot l), chainOut)) ∧
      ([] : List ChainRun).any (portsClash ((withPlot (chainPlot [])).chainRun (chainPlot []) chainD chainOut)) = false ∧
      [clash].any (portsClash ((withPlot (chainPlot [clash])).chainRun (chainPlot [clash]) chainD chainOut)) = true ∧
      AtWork (withPlot (chainPlot [clash])) 0 (chainPlot [clash]) aJob ∧ Canonical (withPlot (chainPlot [clash])) ∧
      nextDone [clash] = some clash ∧ clash.dead = false ∧ nextDone [{ clash with dead := true }] = some { clash with dead := true } := by
  refine ⟨?_, ?_, ?_, atWork ⟨rfl, rfl⟩, ?_, ?_⟩ <;> (try unfold Canonical) <;> decide +kernel

/-- A plot with two full-width tiles, and one where an addition waits for a record. -/
def sums : Plot := { crib := [(0, { tile := fwpTile 5, ready := true }), (1, { tile := fwpTile 6, ready := true })], entered := true }

def refF (r : Nat) : TileRef := { loc := .crib r, tmpl := { tensorId := 8, format := 0x20, rowsM1 := 0, colsM1 := 0 } }

/-- A block addition that names one record of the tile it makes. -/
def encodeD : FullWidthDesc := { op := .encode (refF 0) 32 0, records := 1, out := .crib 7, outTensor := 9, bundle := 4 }

def heldSums : Plot := { sums with wait := some (.fullWidth encodeD, 0, false) }

/-- A frame record of the tile that it reads, of a step. -/
def frameRec (stepLo : Nat) : Tile :=
  { tag := { tensorId := 8, stepLo := BitVec.ofNat 32 stepLo, rowsM1 := 2, colsM1 := 191, valid := true }, payload := List.replicate 768 0 }

theorem meets_AdderRecordsAndMoves :
    spillDue (withRun run2) = true ∧ spillDue sums = false ∧ recordsHere sums encodeD = false ∧
      (withPlot sums).readTile 0 (refF 0) = .ok (fwpTile 5) ∧ (withPlot sums).readTile 0 (refF 1) = .ok (fwpTile 6) ∧
      fullWidthDefined (.add (refF 0) (refF 1)) (fwpTile 5) (fwpTile 6) = true ∧ (fwpAdd (fwpOf (fwpTile 5)) (fwpOf (fwpTile 6))).2 = 0 ∧
      heldFullWidth sums = none ∧ heldFullWidth heldSums = some encodeD ∧ spillDue heldSums = false ∧
      recordsHere { heldSums with frames := heldSums.frames ++ [frameRec 1] } encodeD = true ∧
      recordsHere { sums with frames := [frameRec 9] } encodeD = true ∧
      (withPlot { sums with frames := [frameRec 9] }).readAll 0 4 (fullWidthOperands encodeD.op) =
        (withPlot { sums with frames := [frameRec 9] }, some [fwpTile 5]) ∧
      recordsOf { sums with frames := [frameRec 9] } 1 encodeD.op = [frameRec 9] ∧
      (frameRec 9).tag.valid = true ∧ (frameRec 9).tag.poison = false ∧
      (frameRec 9).tag.stepLo ≠ BitVec.ofNat 32 ((withPlot sums).workStep sums) ∧ Canonical (withPlot { sums with frames := [frameRec 9] }) ∧
      AtWork (withPlot { sums with frames := [frameRec 9] }) 0 { sums with frames := [frameRec 9] } aJob ∧
      (withPlot { crib := crib1 }).readTile 0 (ref1 0) = .ok (goodTile 5 1 one32) ∧ (∀ i n, (ref1 0).loc ≠ .buffer i n) ∧
      (match growing.readTile 0 { ref1 0 with loc := .buffer 0 0 } with | .ok _ => true | _ => false) = true ∧ growing.readTile 0 (ref1 3) = .unwritten ∧
      AtWork growing 0 { entered := true } aJob := by
  refine ⟨?_, ?_, ?_, ?_, ?_, ?_, ?_, ?_, ?_, ?_, ?_, ?_, ?_, ?_, ?_, ?_, ?_, ?_, atWork ⟨rfl, rfl⟩, ?_, fun i n h => by simp [ref1] at h, ?_, ?_,
    atWork ⟨rfl, rfl⟩⟩ <;> (try unfold Canonical) <;> decide +kernel


/-! ### Tines -/

/-- A descriptor of one tile of tensor 5 (R131): its operation, space, ring region, token, token count, base and lines. -/
def tineWord (op space ring token count base lines : Nat) : BitVec 512 :=
  BitVec.ofNat 512 (op * 2 ^ 504 + space * 2 ^ 500 + ring * 2 ^ 486 + 1 * 2 ^ 478 + token * 2 ^ 466 + count * 2 ^ 448 + base * 2 ^ 408 +
    lines * 2 ^ 384 + 2 ^ 320 + 2 ^ 336 + 2 ^ 352 + 2 ^ 368 + 5 * 2 ^ 128 + 1)

/-- A load into region 3, one that waits for token 4, one outside every region, a store and a send. -/
def ldW : BitVec 512 := tineWord 1 1 3 0 0 0 2
def ldTok : BitVec 512 := tineWord 1 1 3 4 9 0 2
def ldBad : BitVec 512 := tineWord 1 1 3 0 0 8192 2
def stW : BitVec 512 := tineWord 2 1 3 6 0 128 2
def stSend : BitVec 512 := tineWord 2 6 3 6 0 0 2

/-- A plot whose tine 1 stands at a descriptor, and one whose tine 1 has a transfer. -/
def onDesc (d : BitVec 512) : Plot := { entered := true, tines := [(1, { descs := [d], running := true })] }
def inXfer (d : BitVec 512) (next : Nat) : Plot :=
  { entered := true, creditsUsed := next
    tines := [(1, { descs := [d], running := true, xfer := some { desc := d, next := next } })] }

/-- A job with one HBM region of 4,096 bytes at 0, and a device that runs it. -/
def hbmJob : Job := { aJob with binary := { regions := [{ hbm := [{ bytes := 4096 }], plots := [{ plot := 0, crib := [(0, 64)] }] }] } }
def hbmState (pl : Plot) : State := { withPlot pl with job := some hbmJob }

theorem atHbm {pl : Plot} (h : pl.stopped = false ∧ pl.arrived = false) : AtWork (hbmState pl) 0 pl hbmJob :=
  ⟨rfl, rfl, h.1, h.2, rfl, rfl, rfl, rfl, rfl⟩

theorem meets_TineAndSyncSlots :
    growing.issuing 0 = some { entered := true } ∧ (tineOf { entered := true } 1).running = false ∧
      (withPlot (onDesc ldW)).issuing 0 = some (onDesc ldW) ∧ SMap.wf ({} : Tine) (onDesc ldW).tines = true ∧
      (tineOf (onDesc ldW) 1).running = true ∧ (262143 : Nat) ≠ 0 ∧ growing.plotAhead 0 = false ∧ SMap.wf 0 growing.tokens = true := by
  decide +kernel

theorem meets_TineDescriptors :
    (∀ op ∈ [0, 1, 2, 3, 4], ((hbmState (onDesc (tineWord op 1 3 0 0 0 2))).tineAt 0 1 op).isSome = true) ∧
      0 < tineTiles (tineDesc ldW) ∧ 0 < (tineDesc ldW).lines ∧ 0 < tineTiles (tineDesc stW) ∧ 0 < (tineDesc stW).lines ∧
      (tineOf (onDesc ldW) 1).ahead = false ∧ (onDesc ldW).entered = true ∧ ({ onDesc ldW with entered := false } : Plot).entered = false ∧
      (hbmState (onDesc ldW)).serving = false ∧ (hbmState (onDesc ldW)).evaluating = none := by decide +kernel

theorem meets_TineRequests :
    ([ldW, ldTok, ldBad].all fun d => (hbmState (inXfer d 0)).runsAt 0 && (tineOf (inXfer d 0) 1).xfer == some { desc := d } &&
      (tineOf (inXfer d 0) 1).running && decide (0 < tineTiles (tineDesc d) * tileRequests (tineDesc d)) &&
      decide ((inXfer d 0).creditsUsed < (inXfer d 0).credits) && decide ((tineDesc d).op = 1)) = true ∧
      ringRegion (tineDesc ldW) 0 = 3 ∧ (goodTile 5 1 one32).tag.valid = true ∧ (tineDesc ldTok).token ≠ 0 ∧
      (hbmState (inXfer ldTok 0)).token ((hbmState (inXfer ldTok 0)).tineWhose (inXfer ldTok 0) (tineOf (inXfer ldTok 0) 1) == .ahead)
        (tineDesc ldTok).token < (tineDesc ldTok).tokenCount ∧
      (hbmState (inXfer ldW 0)).loadMay (inXfer ldW 0) (tineOf (inXfer ldW 0) 1) (tineDesc ldW) { desc := ldW } = true ∧
      storeMay { inXfer stW 0 with crib := [(3, { tile := goodTile 5 1 one32, ready := true })] } (tineDesc stW) { desc := stW } = true ∧
      (hbmState (inXfer ldW 0)).addressOk 0 (tineDesc ldW) (tineAddr (tineDesc ldW) 0) 0 = true ∧
      (hbmState (inXfer ldBad 0)).addressOk 0 (tineDesc ldBad) (tineAddr (tineDesc ldBad) 0) 0 = false ∧
      AtWork (hbmState (inXfer ldBad 0)) 0 (inXfer ldBad 0) hbmJob ∧ (tineOf (inXfer ldBad 0) 1).ahead = false := by
  refine ⟨?_, ?_, ?_, ?_, ?_, ?_, ?_, ?_, ?_, atHbm ⟨rfl, rfl⟩, ?_⟩ <;> decide +kernel

/-- The load's last return, from HBM that holds the tile, and from HBM that holds it with other bytes. -/
def loadGood : State := (hbmState (inXfer ldW 1)).writeHbmTile 0 (goodTile 5 1 one32)
def loadBad : State :=
  { hbmState (inXfer ldW 1) with
    host := { window := Memory.writeBytes [] 0 (tagBytes (goodTile 5 1 one32).tag ++ List.replicate 32 0 ++ [1, 2, 3, 4]) } }

theorem meets_LoadReturns :
    loadGood.plotAt 0 = some (inXfer ldW 1) ∧ loadGood.job.isSome = true ∧ (0 : Nat) < 1 ∧ (tineDesc ldW).op = 1 ∧
      (hbmState { inXfer ldW 1 with stopped := true }).runsAt 0 = false ∧ loadGood.runsAt 0 = true ∧
      (tineOf (inXfer ldW 1) 1).stale = 0 ∧ (tineOf { inXfer ldW 1 with tines := [(1, { stale := 2 })] } 1).stale ≠ 0 ∧
      0 % tileRequests (tineDesc ldW) + 1 = tileRequests (tineDesc ldW) ∧
      (loadGood.fetched 0 (loadGood.tineWhose (inXfer ldW 1) (tineOf (inXfer ldW 1) 1)) (tineDesc ldW) 0).2 = true ∧
      (loadBad.fetched 0 .step (tineDesc ldW) 0).2 = false ∧ loadBad.plotAt 0 = some (inXfer ldW 1) ∧ loadBad.jobRuns = true ∧
      Canonical loadBad := by
  unfold Canonical
  decide +kernel

/-- A store whose tile is in its ring region, before its acknowledgement. -/
def storing (d : BitVec 512) : Plot := { inXfer d 1 with crib := [(3, { tile := goodTile 5 1 one32, ready := true })] }

theorem meets_StoreAcknowledgements :
    ([stW, stSend].all fun d => (hbmState (storing d)).plotAt 0 == some (storing d) &&
      (tineOf (storing d) 1).xfer == some { desc := d, next := 1 } && decide ((tineDesc d).op = 2) && (hbmState (storing d)).runsAt 0 &&
      (hbmState (storing d)).tineWhose (storing d) (tineOf (storing d) 1) == .step && SMap.wf 0 (hbmState (storing d)).tokens &&
      decide ((tineDesc d).token ≠ 0) && decide (0 % tileRequests (tineDesc d) + 1 = tileRequests (tineDesc d))) = true ∧
      Canonical (hbmState (storing stW)) ∧ Canonical (hbmState (storing stSend)) ∧
      (hbmState { storing stW with stopped := true }).runsAt 0 = false ∧ (tineDesc stW).space = 1 ∧ (tineDesc stSend).space = 6 ∧
      tileCheckOk (goodTile 5 1 one32) = true := by
  unfold Canonical
  decide +kernel

/-! ### Barriers, reports and the decision -/

/-- A report of a hardware fault of a rank. -/
def hwReport (rank : Nat) : SealReport :=
  { signature := { kind := 4, rank := BitVec.ofNat 16 rank, stepLo := 1 }, faultClass := 1, stepLo := 1 }

theorem meets_DecisionOverReports :
    (∃ r ∈ [{ hwReport 3 with faultClass := 2 }, hwReport 1], r.faultClass.toNat = 2) ∧ (¬ ∃ r ∈ [hwReport 2, hwReport 1], r.faultClass.toNat = 2) ∧
      (∃ r ∈ [hwReport 2, hwReport 1], r.faultClass.toNat = 1) ∧ (¬ ∃ r ∈ ([] : List SealReport), r.faultClass.toNat = 1) ∧
      (judgeReports [hwReport 2, hwReport 1] false false 5 16 (hwReport 1).signature 16).signature = (hwReport 1).signature ∧
      (judgeReports [hwReport 2, hwReport 1] false false 5 16 {} 16).signature ≠ {} ∧ (15 : Nat) < 16 := by decide +kernel

/-- Two plots, the second of which has arrived or not. -/
def twoPlots (arrived : Bool) : State :=
  { growing with plots := [{ entered := true }, { entered := true, arrived := arrived, site := 1 }] }

theorem meets_ArrivalsAlone :
    (∀ b, AtWork (twoPlots b) 0 { entered := true } aJob ∧ (twoPlots b).issuing 0 = some { entered := true } ∧ (twoPlots b).held = false ∧
      (twoPlots b).formed = false ∧ (twoPlots b).fabric.collects = []) ∧ aJob.outcomes = [] ∧ (7 : W32).toNat ≤ 0xFFFFFFEF ∧
      (0xFFFFFFEF : W32).toNat ≤ 0xFFFFFFEF ∧ (twoPlots false).plotAt 1 = some { entered := true, site := 1 } ∧
      (barrierKey 7 (BitVec.ofNat 32 (growing.num 0x205001 + 1)), 1) ∉ growing.fabric.plotArrivals ∧
      (∀ o x, o ≠ 0 → growing.plotAt o = some x → x.arrived = true ∧ x.halted = true) ∧ (slotMapOf aJob.binary aJob.role).pairs = [] ∧
      aJob.binary.singleField = false ∧ aJob.attempt.aborted = false ∧ growing.fabric.judgeRollback = [] := by
  refine ⟨fun b => ⟨⟨rfl, rfl, rfl, rfl, rfl, rfl, rfl, rfl, rfl⟩, rfl, ?_⟩, ?_, ?_, ?_, ?_, ?_, ?_, ?_⟩
  case refine_7 =>
    rintro (_ | o) x h e
    · exact absurd rfl h
    · cases o <;> cases e
  all_goals (first | decide +kernel | (revert b; decide +kernel))

/-- A collection of the seal, with a window and a report, or without. -/
def sealCollect (window : Option Cycle) (reports : List SealReport) : Collect :=
  { barrier := sealBarrier, stepLo := 1, count := 1, ranks := [1], first := 100, window := window, reports := reports }

/-- The lead of a team of three that collects, and a member. -/
def leading (l : List Collect) : State := { member growing 3 0 with fabric := { growing.fabric with collects := l } }
def following : State := { member growing 3 1 with fabric := { growing.fabric with children := [4] } }

/-- A subtree's arrival at barrier 7. -/
def arrival7 : ArrivalMsg := { barrier := 7, stepLo := 1, count := 1, ranks := [1] }

theorem meets_TeamMessages :
    growing.formed = false ∧ (leading []).formed = true ∧ (leading []).isLead = true ∧ (leading []).collecting = true ∧
      (leading []).fabric.collects = [] ∧ (leading []).whoseOf 1 0 = some .step ∧ (leading []).decided 1 0 = false ∧
      arrival7.ranks.Nodup ∧ arrival7.count = arrival7.ranks.length ∧ arrival7.count < (leading []).devices ∧ arrival7.reports = [] ∧
      arrival7.barrier.toNat ≤ 0xFFFFFFEF ∧ following.isLead = false ∧ following.formed = true ∧ Whose.step ≠ .ahead ∧
      2 ≤ (leading []).devices ∧ (7 : W32) ≠ undoBarrier ∧ (following.whoseOf 1 0).isSome = true ∧ following.fabric.children ≠ [] := by
  decide +kernel

theorem meets_DecisionsByTime :
    (leading [sealCollect (some 200) [hwReport 1]]).job = some aJob ∧
      (leading [sealCollect (some 200) [hwReport 1]]).whoseOf 1 0 = some .step ∧ (hwReport 1).faultClass = 1 ∧
      (hwReport 1).signature ≠ aJob.attempt.prev ∧ aJob.attempt.count < (leading [sealCollect (some 200) [hwReport 1]]).num 0x204004 ∧
      aJob.attempt.gatePassed = false ∧ (sealCollect none []).barrier = sealBarrier ∧ Canonical (leading [sealCollect none []]) ∧
      (leading [sealCollect none []]).isLead = true ∧ (leading [sealCollect none []]).collecting = true ∧ sealBarrier ≠ undoBarrier := by
  unfold Canonical
  decide +kernel

/-! ### Seal, rollback, undo and restart -/

/-- A device whose job has an outcome, one record with ticket 7 assigned, and its plot arrived. -/
def judged (o : SealOutcome) : State :=
  { growing with job := some { aJob with outcomes := [o], assigned := [{ ticket := 7, userTag := 1 }] }
                 hopper := [(6, { state := 2, ticket := 7 })], plots := [{ entered := true, arrived := true, crib := crib1 }] }

theorem quiet {s : State} {j : Job} (h : s.hopper = [(6, ({ state := 2, ticket := 7 } : Slot))])
    (g : s.job = some j ∧ j.binary.serving = false ∧ j.evalRunning = none ∧ j.evalPending = [] ∧ j.evalQueue = [] ∧ j.batches = [] ∧
      j.running = true ∧ j.haltRecord = none ∧ s.harvest = none ∧ s.num 0x500001 = 0 ∧ s.held = false) : QuietTraining s j := by
  refine ⟨g.1, g.2.1, g.2.2.1, g.2.2.2.1, g.2.2.2.2.1, g.2.2.2.2.2.1, g.2.2.2.2.2.2.1, g.2.2.2.2.2.2.2.1, g.2.2.2.2.2.2.2.2.1,
    g.2.2.2.2.2.2.2.2.2.1, g.2.2.2.2.2.2.2.2.2.2, fun k => ?_⟩
  rw [h]
  by_cases hk : k = 6
  · subst hk; decide
  · have : ¬ (6 = k) := fun e => hk e.symm
    simp [SMap.get, this]

theorem meets_SealOfAStep :
    (∀ o ∈ [({ release := 500, stepLo := 1 } : SealOutcome), { release := 500, stepLo := 1, gate := true }],
      Canonical (judged o) ∧ QuietTraining (judged o) { aJob with outcomes := [o], assigned := [{ ticket := 7, userTag := 1 }] } ∧ o.code = .seal) ∧
      (judged {}).num 0x302002 ≠ 0 ∧ (judged {}).num 0x302005 + 1 < (judged {}).num 0x302002 ∧
      ((judged {}).setNum 0x302005 ((judged {}).num 0x302002 - 1)).num 0x302002 ≤
        ((judged {}).setNum 0x302005 ((judged {}).num 0x302002 - 1)).num 0x302005 + 1 ∧
      ofPattern 32 ((judged {}).num 0x302001) < ofPattern 32 ((judged {}).num 0x302004) := by
  refine ⟨fun o h => ?_, ?_⟩
  · simp only [List.mem_cons, List.not_mem_nil, or_false] at h
    obtain rfl | rfl := h <;> refine ⟨?_, quiet rfl (by decide +kernel), rfl⟩ <;> unfold Canonical <;> decide +kernel
  · decide +kernel

theorem meets_RollbackOfAStep :
    ∀ c ∈ [OutcomeCode.replay, .replayWider, .skip, .hold],
      Canonical (judged { code := c, release := 500, stepLo := 1 }) ∧
      QuietTraining (judged { code := c, release := 500, stepLo := 1 })
        { aJob with outcomes := [{ code := c, release := 500, stepLo := 1 }], assigned := [{ ticket := 7, userTag := 1 }] } ∧
      aJob.undoing = false ∧ (0 : W32) ≠ 0x00610005 := by
  intro c h
  simp only [List.mem_cons, List.not_mem_nil, or_false] at h
  obtain rfl | rfl | rfl | rfl := h <;> refine ⟨?_, quiet rfl (by decide +kernel), rfl, by decide⟩ <;> unfold Canonical <;> decide +kernel

/-- A device that undoes a step, its plot stopped; with a restart fixed; and with a request to HBM out. -/
def undoJob : Job := { aJob with undoing := true, assigned := [{ ticket := 7 }] }
def undoing (pl : Plot) (j : Job) : State :=
  { growing with job := some j, hopper := [(6, { state := 2, ticket := 7 })], plots := [pl] }
def outReq : Plot := { stopped := true, tines := [(1, { xfer := some { desc := BitVec.ofNat 512 (2 ^ 504 + 2 ^ 500), next := 1 } })] }

theorem meets_UndoAndRestart :
    Canonical (undoing { stopped := true, pc := 7, entry := 2 } undoJob) ∧
      QuietTraining (undoing { stopped := true, pc := 7, entry := 2 } undoJob) undoJob ∧ undoJob.undone = false ∧
      (undoing { stopped := true, pc := 7, entry := 2 } undoJob).plots.any requestsOut = false ∧
      (undoing { stopped := true, pc := 7, entry := 2 } undoJob).undoReportable = true ∧
      (undoing { stopped := true, pc := 7, entry := 2 } undoJob).fabric.collects = [] ∧ undoJob.undoReported = false ∧
      (undoing { stopped := true, pc := 7, entry := 2 } undoJob).recovery.repairs = [] ∧
      (undoing { stopped := true, pc := 7, entry := 2 } undoJob).fabric.portsLost = false ∧
      QuietTraining (undoing { stopped := true } { undoJob with restartAt := some 900 }) { undoJob with restartAt := some 900 } ∧
      QuietTraining (undoing outReq undoJob) undoJob ∧
      ((undoing outReq undoJob).plots.any fun pl => pl.stopped && pl.tines.any fun t => t.2.xfer.any fun x =>
        x.done < x.next && (tineDesc x.desc).space == 1) = true := by
  refine ⟨?_, quiet rfl (by decide +kernel), ?_, ?_, ?_, ?_, ?_, ?_, ?_, quiet rfl (by decide +kernel), quiet rfl (by decide +kernel), ?_⟩
  · unfold Canonical
    decide +kernel
  all_goals decide +kernel

theorem meets_HaltOfAPlot :
    growing.issuing 0 = some { entered := true } ∧ growing.job = some aJob ∧ aJob.haltRecord = none ∧
      (withPlot {}).issuing 0 = some {} ∧ (withPlot {}).ctl.cur = .growing ∧ (withPlot {}).harvest = none ∧ (withPlot {}).isLead = true := by
  decide +kernel

/-! ### Records -/

/-- An empty serving job; a Sown device; a device with a serving job. -/
def srvJob : Job := { aJob with binary := { serving := true, entries := [1] } }
def serving : State := { inState tilled .growing with job := some srvJob, plots := [{}] }
def sown (peak : Nat) : State :=
  { inState tilled .sown with job := some { aJob with binary := { yokePeak := peak }, running := false }, plots := [{ stopped := false }] }

theorem empty_hopper (k : Nat) : (SMap.get ({} : Slot) [] k).state ≠ 1 := by
  show (0 : BitVec 8) ≠ 1
  decide

/-- The body of a load record, and of a step record with an entry. -/
def loadBody (addr bytes source offset : Nat) : BitVec 1792 :=
  BitVec.ofNat 1792 (addr + bytes * 2 ^ 64 + offset * 2 ^ 128 + source * 2 ^ 192)
def stepBody (entry : Nat) : BitVec 1792 := BitVec.ofNat 1792 (0xABCD + entry * 2 ^ 1536 + (2 ^ 1024 - 1) * 2 ^ 512)

theorem meets_RecordsRefused :
    Canonical tilled ∧ MayTake tilled ∧ MayTake growing ∧ growing.ctl.cur ≠ .tilled ∧ tilled.ctl.cur ≠ .sown ∧ tilled.ctl.cur ≠ .growing ∧
      growing.serving = false ∧ serving.serving = true ∧ MayTake serving ∧ (growing.setNum 0x204002 1).held = true ∧
      (serving.setNum 0x204002 1).held = true ∧ MayTake (sown 100) ∧ (sown 100).ctl.cur = .sown ∧ (1 : BitVec 1792) ≠ 0 ∧
      ((sown 100).setNum 0x700001 50).num 0x700001 < 100 ∧ 100 ≤ (sown 100).num 0x700001 ∧
      tilled.bodyMalformed 1 (loadBody 4096 128 0 0).toNat = false ∧
      SMap.find? tilled.host.binaries (bitsOf 63 0 (loadBody 4096 128 0 0).toNat) = none := by
  unfold Canonical MayTake
  decide +kernel

theorem leBytes_length (n v : Nat) : (leBytes n v).length = n := by
  induction n generalizing v with
  | zero => rfl
  | succ n ih => simp [leBytes, ih]

theorem leNat_leBytes (n v : Nat) : leNat (leBytes n v) = v % 256 ^ n := by
  induction n generalizing v with
  | zero => simp [leBytes, leNat, Nat.mod_one]
  | succ n ih =>
    have h : (BitVec.ofNat 8 v).toNat = v % 256 := by simp
    rw [leBytes, leNat, ih, h, Nat.pow_succ, Nat.mul_comm (256 ^ n), Nat.mod_mul]

/-- A directory entry's 32 bytes (R156). -/
def dirBytes (ty inst off len : Nat) : List Byte := leBytes 32 (ty + inst * 2 ^ 32 + len * 2 ^ 128 + off * 2 ^ 192)

/-- The bytes after the header of a small binary for one device of 144 plots: its directory, one tensor, one phase, a yoke profile. -/
def imageBody : List Byte :=
  ([(1, 4992, 64), (2, 4992, 0), (5, 5056, 96), (7, 5184, 6), (8, 4992, 0), (10, 4992, 0), (11, 4992, 0)].flatMap fun e =>
    dirBytes e.1 0xFFFFFFFF e.2.1 e.2.2) ++ dirBytes 4 0 4992 0 ++ dirBytes 6 0 4992 0 ++
    ((List.range 144).flatMap fun p => dirBytes 3 p 4992 0) ++
    tensorBytes { tensorId := 5, cls := 1, format := 1, dims := 2, blockAxis := 1, shape := [192, 192, 1, 1, 1, 1], tallySlot := 0xFFFF, digestSlot := 0xFFFF } ++
    leBytes 32 (2 ^ 240 + 2 ^ 224 + 2 ^ 208 + 2 ^ 192 + 2 ^ 176 + 1 * 2 ^ 64 + 1 * 2 ^ 96) ++
    leBytes 32 (1 * 2 ^ 160 + 1 * 2 ^ 8) ++
    leBytes 32 (5 * 2 ^ 224 + 1 * 2 ^ 112 + 3 * 2 ^ 64 + 1 * 2 ^ 60 + 1 * 2 ^ 32 + 2 ^ 31) ++ leBytes 32 0 ++ leBytes 6 (100 * 2 ^ 16)

/-- Its first 64 header bytes (R155). -/
def imageHeader : Nat := 0x39584D5A + 2 ^ 32 + 153 * 2 ^ 48 + 144 * 2 ^ 64 + 2 ^ 96 + 0xB0 * 2 ^ 128 + 100 * 2 ^ 160

/-- The sections whose bytes the manual does not lay out. -/
def imageRest (latency : List Byte) : Binary :=
  { latency := latency
    regions := [{ role := 0, plots := (List.range 144).map fun p => { plot := p, crib := [(0, 73856), (81920, 73856)] } }]
    numerics := { jobSeed := 77, scaleExp := some 3, growthInterval := some 2, scaleMin := some (-2), scaleMax := some 10, domains := [1] } }

/-- What they spell. -/
def imageBase : Binary :=
  { imageRest [] with
    bytes := 5190, sectionCount := 153, plots := 144, yokePeak := 100
    directory := ([(1, 4992, 64), (2, 4992, 0), (5, 5056, 96), (7, 5184, 6), (8, 4992, 0), (10, 4992, 0), (11, 4992, 0)].map fun e =>
        ({ offset := e.2.1, length := e.2.2, inst := 0xFFFFFFFF, type := BitVec.ofNat 16 e.1 } : DirEntry)) ++
      [{ offset := 4992, length := 0, inst := 0, type := 4 }, { offset := 4992, length := 0, inst := 0, type := 6 }] ++
      (List.range 144).map fun p => ({ offset := 4992, length := 0, inst := BitVec.ofNat 32 p, type := 3 } : DirEntry)
    tensors := [{ tensorId := 5, cls := 1, format := 1, dims := 2, blockAxis := 1, shape := [192, 192, 1, 1, 1, 1], tallySlot := 0xFFFF, digestSlot := 0xFFFF }]
    images := (List.range 144).map fun p => { plot := p, bytes := 0 }
    phaseMaps :=
      { placementCount := 1, phaseCount := 1, phases := [{ placementCount := 1, kind := 1 }]
        placements := [{ tensorId := 5, boCount := 1, plot := 3, store := 1, region := 1, primary := true }] }
    yoke := [(0, 100, 0)] }

/-- With a latency table and a digest that holds. -/
def imageBinary (latency : List Byte) (d : BitVec 256) : Binary := { imageBase with latency := latency, digest := d, actualDigest := d }

set_option maxRecDepth 100000 in
theorem image_reads : { binaryOf (imageRest []) imageHeader 0 0 imageBody with bytes := 5190 } = imageBase := by decide +kernel


/-- The binary's bytes with a digest field. -/
def loadImage (d : Nat) : List Byte := leBytes 64 imageHeader ++ (leBytes 32 d ++ imageBody)

theorem imageBody_length : imageBody.length = 5094 := by decide +kernel

theorem loadImage_length (d : Nat) : (loadImage d).length = 5190 := by
  simp [loadImage, leBytes_length, imageBody_length]

theorem field_loadImage (d : Nat) :
    (loadImage d).take 64 = leBytes 64 imageHeader ∧ (loadImage d).drop 96 = imageBody ∧
      field (loadImage d) 0 64 = imageHeader ∧ field (loadImage d) 64 32 = d % 2 ^ 256 := by
  have a : (loadImage d).take 64 = leBytes 64 imageHeader := by
    rw [loadImage, List.take_left' (leBytes_length ..)]
  have b : (loadImage d).drop 64 = leBytes 32 d ++ imageBody := by
    rw [loadImage, List.drop_left' (leBytes_length ..)]
  have c : (loadImage d).drop 96 = imageBody := by
    rw [show (96 : Nat) = 64 + 32 from rfl, ← List.drop_drop, b, List.drop_left' (leBytes_length ..)]
  refine ⟨a, c, ?_, ?_⟩
  · rw [field, List.drop_zero, a, leNat_leBytes]
    decide
  · have p : (256 : Nat) ^ 32 = 2 ^ 256 := (Nat.pow_mul 2 8 32).symm
    have e : field (loadImage d) 64 32 = d % 256 ^ 32 := by
      rw [field, b, List.take_left' (leBytes_length ..)]
      exact leNat_leBytes ..
    exact e.trans (congrArg (d % ·) p)

/-- The parts of a binary's bytes give the binary. -/
theorem readBinary_of (rest : Binary) (latency : List Byte) {bs body : List Byte} {h d g : Nat} (hh : field bs 0 64 = h)
    (hd : field bs 64 32 = d) (hg : leNat (shake256 32 (bs.take 64 ++ bs.drop 96)) = g) (hb : bs.drop 96 = body) :
    readBinary { rest with latency := latency } bs =
      { ({ binaryOf rest h 0 0 body with bytes := bs.length } : Binary) with
        latency := latency, digest := BitVec.ofNat 256 d, actualDigest := BitVec.ofNat 256 g } := by
  subst hh hd hg hb
  rfl

theorem loadImage_reads (latency : List Byte) (n : Nat) (hn : leNat (shake256 32 (leBytes 64 imageHeader ++ imageBody)) = n) :
    readBinary (imageRest latency) (loadImage n) = imageBinary latency (BitVec.ofNat 256 n) := by
  obtain ⟨a, c, h, f⟩ := field_loadImage n
  have e : BitVec.ofNat 256 (n % 2 ^ 256) = BitVec.ofNat 256 n := by
    apply BitVec.eq_of_toNat_eq
    simp
  have r := readBinary_of (imageRest []) latency h f (g := n) (by rw [a, c, hn]) c
  rw [loadImage_length, image_reads, e] at r
  exact r

/-- A device of grade 2 and firmware 9 whose host has written the binary at 4,096 of the window. -/
def loadable (latency : List Byte) (n : Nat) : State :=
  { (tilled.setNum 0x100007 2).setNum 0x100005 9 with
    host := { binaries := [(4096, imageRest latency)], window := Memory.writeBytes [] 4096 (loadImage n) } }

theorem loadable_window (latency : List Byte) (n : Nat) :
    (loadable latency n).host.window = Memory.writeBytes [] 4096 (loadImage n) := by
  simp only [loadable]

theorem loadable_canonical (latency : List Byte) (n : Nat) : Canonical (loadable latency n) := by
  unfold Canonical
  rw [loadable_window]
  exact ⟨(by decide +kernel : SMap.wfBy dfltNum ((tilled.setNum 0x100007 2).setNum 0x100005 9).nums = true), rfl,
    Memory.wf_writeBytes _ _ rfl, rfl, rfl, rfl⟩

theorem loadable_binaryAt (latency : List Byte) (n : Nat) (hn : leNat (shake256 32 (leBytes 64 imageHeader ++ imageBody)) = n) :
    (loadable latency n).binaryAt 4096 5190 = some (imageBinary latency (BitVec.ofNat 256 n)) := by
  have h : Memory.readBytes (loadable latency n).host.window 4096 5190 = loadImage n := by
    rw [loadable_window, ← loadImage_length n]
    exact Memory.readBytes_writeBytes_same 4096 (loadImage n) rfl
  rw [State.binaryAt, h, ← loadImage_reads latency n hn]
  rfl

/-- A load check reads neither what the host holds nor, but for the digest tests, the latency section and the digests. -/
theorem loadCheck_none {s : State} {b : Binary} {p : W32} {latency : List Byte} (h : HostMemory) (d : BitVec 256)
    (hp : activeProfile b s.fuses.stepping (s.num 0x103002) = some p) (hl : digest16 latency = profileDigest p)
    (hd : b.digest = b.actualDigest)
    (c : malformed b = false ∧ ¬ s.num 0x100005 < b.minFirmware ∧ ¬ s.num 0x100007 = 0 ∧
      ¬ ((b.plots != 144 && b.plots != 160) || (b.plots = 160 && s.num 0x100007 = 1)) = true ∧ ¬ (b.deviceCount != s.teamSize) = true ∧
      ¬ reservedCode b = true ∧
      ¬ (!b.regions.all (fun t => roleFits b (s.num 0x204007) t && tiersFit b (s.num 0x206202) t)) = true ∧ ¬ (!workFits b) = true ∧
      ¬ (!s.linksOk b) = true ∧ ¬ (!variantsOk b) = true ∧ ¬ s.num 0x700001 < (b.yoke.map (·.2.1)).foldl max b.yokePeak) :
    ({ s with host := h } : State).loadCheck { b with latency := latency, digest := d, actualDigest := d } = none := by
  obtain ⟨m, c1, c2, c3, c4, c5, c6, c7, c8, c9, c10⟩ := c
  have e : malformed { b with latency := latency, digest := d, actualDigest := d } = malformed b := by
    unfold malformed
    rw [bne_self_eq_false d, hd, bne_self_eq_false b.actualDigest]
    rfl
  have q : ¬ (activeProfile b s.fuses.stepping (s.num 0x103002)).all (fun p => profileDigest p != digest16 latency) = true := by
    rw [hp, hl]
    simp
  exact (if_neg (by rw [e, m]; decide)).trans ((if_neg c1).trans ((if_neg c2).trans ((if_neg c3).trans ((if_neg c4).trans
    ((if_neg q).trans ((if_neg c5).trans ((if_neg c6).trans ((if_neg c7).trans ((if_neg c8).trans ((if_neg c9).trans (if_neg c10)))))))))))

theorem loadable_check (latency : List Byte) (n : Nat) (d : BitVec 256) (h : digest16 latency = profileDigest 0xB0) :
    (loadable latency n).loadCheck (imageBinary latency d) = none := by
  unfold loadable imageBinary
  exact loadCheck_none (s := (tilled.setNum 0x100007 2).setNum 0x100005 9) (b := imageBase) _ d (by decide +kernel) h rfl (by decide +kernel)

theorem loadable_body (latency : List Byte) (n body : Nat) :
    (loadable latency n).bodyMalformed 1 body = tilled.bodyMalformed 1 body := rfl

theorem mayTake_host {s : State} (h : HostMemory) (m : MayTake s) : MayTake { s with host := h } := m

theorem meets_RecordsOfAJob_load :
    ∃ (s : State) (b : Binary), Canonical s ∧ MayTake s ∧ s.bodyMalformed 1 (loadBody 4096 5190 0 0).toNat = false ∧
      s.binaryAt (bitsOf 63 0 (loadBody 4096 5190 0 0).toNat) (bitsOf 127 64 (loadBody 4096 5190 0 0).toNat) = some b ∧
      s.loadCheck b = none ∧ b.initialData = [] := by
  have l : bitsOf 63 0 (loadBody 4096 5190 0 0).toNat = 4096 ∧ bitsOf 127 64 (loadBody 4096 5190 0 0).toNat = 5190 := by
    decide +kernel
  obtain ⟨n, hn⟩ : ∃ n, leNat (shake256 32 (leBytes 64 imageHeader ++ imageBody)) = n := ⟨_, rfl⟩
  refine ⟨loadable (Config.profileTable 0xB0) n, imageBinary (Config.profileTable 0xB0) (BitVec.ofNat 256 n), loadable_canonical _ n,
    ?_, ?_, ?_, loadable_check _ n _ rfl, rfl⟩
  · exact mayTake_host _ (by unfold MayTake; decide +kernel)
  · rw [loadable_body]
    decide +kernel
  · have r := loadable_binaryAt (Config.profileTable 0xB0) n hn
    rw [l.1, l.2, r]

theorem meets_RecordsOfAJob_contents (b : Binary) (h : b.initialData = []) (s : State) (bytes : Nat) :
    ∃ v, s.loadContents b 0 bytes = .ok v := by
  unfold State.loadContents
  simp [h, State.layInitial]

theorem meets_RecordsOfAJob :
    MayTake (sown 100) ∧ 100 ≤ (sown 100).num 0x700001 ∧ (sown 100).hopper = [] ∧ growing.intakeOk 3 (stepBody 0).toNat = true ∧
      growing.held = false ∧ aJob.assigned.length < 2 ∧ growing.num 0x205001 + 1 + aJob.assigned.length < 2 ^ 64 ∧
      2 ^ 64 ≤ (growing.setNum 0x205001 (2 ^ 64 - 1)).num 0x205001 + 1 + aJob.assigned.length ∧
      2 ≤ { aJob with assigned := [{}, {}] }.assigned.length ∧ serving.intakeOk 4 (stepBody 1).toNat = true ∧ serving.held = false ∧
      srvJob.batches.length < 4 ∧ serving.tiers.drills = [] ∧
      ({ growing with job := some { aJob with binary := { entries := [1] } } } : State).intakeOk 5 (stepBody 1).toNat = true ∧
      aJob.evalSeq + aJob.evalQueue.length + aJob.evalPending.length < 2 ^ 32 - 1 := by
  unfold MayTake
  decide +kernel

theorem meets_Sweeps :
    Canonical tilled ∧ tilled.hopper = [] ∧ slotCheck { state := 1, ticket := 1 } ≠ ({ state := 1, ticket := 1 } : Slot).check ∧
      tilled.sweeps = true ∧ 0 < tilled.num 0x201004 ∧ tilled.num 0x201004 < 2 ^ 64 - 1 ∧
      takeable (posted tilled 2 {}) (tilled.num 0x201004) = true ∧ (posted tilled 2 {}).kind = 2 ∧
      (tilled.num 0x201004 - 1) % 4096 = 0 := by
  unfold Canonical
  decide +kernel

/-! ### Drills and tiers -/

/-- The body of a drill record for copy 1 with its manifest at 1,000 of HBM. -/
def drillBody : BitVec 1792 := BitVec.ofNat 1792 (1000 + 0 * 2 ^ 64 + 1 * 2 ^ 144)

/-- A manifest of five bytes in one chunk. -/
def manifest : List Byte := leBytes 64 (0x4C4C5244 + 55 * 2 ^ 96 + 2 ^ 128 + 1 * 2 ^ 160 + 5 * 2 ^ 192)

theorem meets_DrillAndSwitchRecords :
    Canonical serving ∧ MayTake serving ∧ serving.tiers.drills = [] ∧ srvJob.binary.singleField = false ∧
      serving.bodyMalformed 6 drillBody.toNat = false ∧ drillBody.toNat.testBit 138 = false ∧ serving.copyState 1 = 0 ∧
      (serving.setNum 0x206003 2).copyState 1 = 2 ∧
      (readManifest { copy := 1 } manifest (leBytes 4 (crc32c [1, 2, 3, 4, 5]).toNat) 1000000).isSome = true ∧
      readManifest { copy := 1 } [] [] 1000000 = none ∧ bitsOf 1791 8 (1 : BitVec 1792).toNat = 0 ∧
      serving.num 0x206001 ≠ bitsOf 7 0 (1 : BitVec 1792).toNat := by
  unfold Canonical MayTake
  decide +kernel

/-- A drill of five bytes, before its chunk and after it. -/
def drill0 : Drill := { ticket := 1, sourceBytes := 5, crcs := [crc32c [1, 2, 3, 4, 5]] }
def drill1 : Drill := { drill0 with received := [1, 2, 3, 4, 5], staged := 5, nextChunk := 1 }
def drilling (d : Drill) : State := { serving with tiers := { serving.tiers with drills := [d] }, hopper := [(0, { state := 2, ticket := 1 })] }

theorem meets_DrillChunksAndEnds :
    Canonical (drilling drill0) ∧ (drilling drill0).serving = true ∧ drill0.queued = false ∧ drill0.member = false ∧ drill0.copy < 2 ∧
      drill0.received.length < drill0.sourceBytes ∧ drill0.chain = false ∧ crc32c [1, 2, 3, 4, 5] = nth 0 drill0.crcs 0 ∧
      ([1, 2, 3, 4, 5] : List Byte).length < 16 ∧ crc32c [1, 2, 3, 4, 6] ≠ nth 0 drill0.crcs 0 ∧ drill1.sourceBytes ≤ drill1.received.length ∧
      drill1.staged = drill1.received.length ∧ { drill0 with chain := true }.chain = true := by
  unfold Canonical
  decide +kernel

/-- The digest that a drill gives its source, or another, meets the two clauses about its end. -/
theorem meets_DrillEnds (x : BitVec 256) : ∃ d : Drill, d.sourceDigest = x := ⟨{ sourceDigest := x }, rfl⟩

/-- A binding of a kind for region 4, its word (R341), and the device that has its move under way. -/
def binding (kind : Nat) : TierBinding := { region := 4, backingOffset := 64, kind := kind, triggerToken := 3, doneToken := 7 }
def bindingWord (kind : Nat) : BitVec 256 :=
  BitVec.ofNat 256 (64 * 2 ^ 192 + 4 * 2 ^ 128 + 3 * 2 ^ 116 + 7 * 2 ^ 86 + kind * 2 ^ 84)
def tierJob (kind : Nat) : Job :=
  { aJob with binary := { regions := [{ hbm := [{ number := 4, start := 32, bytes := 4 }], tiers := [bindingWord kind] }] } }
def moving (j : Job) : State := { growing with job := some j, tiers := { growing.tiers with moves := [0], fired := [0] } }

theorem meets_TierMoves :
    Canonical (moving (tierJob 1)) ∧ tierBindings (moving (tierJob 1)).regions = [binding 1] ∧ (moving (tierJob 1)).tiers.moves = [0] ∧
      (tierJob 1).undoing = false ∧
      ((moving (tierJob 1)).regions.hbm.find? fun r => r.number == (binding 1).region) = some { number := 4, start := 32, bytes := 4 } ∧
      0 ∈ (moving (tierJob 1)).tiers.fired ∧ SMap.wf 0 (moving (tierJob 1)).tokens = true ∧
      (tierBindings (moving (tierJob 0)).regions = [binding 0] ∧
        ((moving (tierJob 0)).fillRegion 32 (Memory.readBytes (moving (tierJob 0)).host.tier 64 4)).2 = true) ∧
      (tierBindings (moving (tierJob 2)).regions = [binding 2] ∧ ((moving (tierJob 2)).fillRegion 32 [1, 2, 3, 4]).2 = true) ∧
      (moving { tierJob 1 with undoing := true }).ctl.cur ≠ .faulted ∧
      tierBindings (moving { tierJob 1 with undoing := true }).regions = [binding 1] := by
  unfold Canonical
  decide +kernel

/-! ### Harvest and power -/

theorem meets_HarvestBegins :
    VerbAsked tilled (ask 3 0x207001 [0]) ∧ VerbAsked tilled (ask 3 0x207001 [0, 0, 0, 3]) ∧ VerbAsked growing (ask 3 0x207001 [0]) ∧
      VerbAsked (member growing 4 2) (ask 3 0x207001 [0]) ∧ bitsOf 31 24 (leNat [(0 : Byte)]) = 0 ∧
      2 < bitsOf 31 24 (leNat [(0 : Byte), 0, 0, 3]) ∧ growing.harvest = none ∧ growing.isLead = true ∧
      (member growing 4 2).isLead = false ∧ (member growing 4 2).formed = true ∧ (member growing 4 0).isLead = true ∧
      (member growing 4 0).formed = true ∧ growing.ctl.cxlUp = true ∧ { tilled.ctl with cxlUp := false }.cxlUp = false := by
  refine ⟨verb_asked ?_ ?_, verb_asked ?_ ?_, verb_asked ?_ ?_, verb_asked ?_ ?_, ?_⟩ <;> decide +kernel

/-- A device in Harvest. -/
def harvesting (h : HarvestRun) (j : Job) : State := { inState growing .harvest with job := some j, harvest := some h }

theorem meets_HarvestEnds :
    Canonical (harvesting { phase := .stopping, latestStop := some 9000 } { aJob with assigned := [{ ticket := 5 }] }) ∧
      aJob.evalRunning = none ∧ aJob.outcomes = [] ∧ (harvesting { phase := .saving, save := 1 } aJob).ctl.cur = .harvest ∧
      Canonical (harvesting { phase := .saving, save := 1 } aJob) ∧
      ({ tilled with fabric := { tilled.fabric with ports := [{ state := .upBestEffort }] } } : State).ctl.cur = .tilled ∧
      (({ tilled with fabric := { tilled.fabric with ports := [{ state := .upBestEffort }] } } : State).portAt 0).up = true ∧
      (tilled.setNum 0x207005 64).num 0x207005 = 64 ∧ (harvesting { phase := .holding } aJob).harvest = some { phase := .holding } ∧
      (harvesting { phase := .scrubbing } aJob).harvest = some { phase := .scrubbing } := by
  unfold Canonical
  decide +kernel

/-- A device with samples of a window. -/
def metered (l : List Nat) (low cap : Nat) : State :=
  { tilled.setNum 0x700001 cap with power := { tilled.power with samples := l, lowWindows := low } }

theorem meets_MeterAndGovernor :
    Canonical (metered [4000] 0 700) ∧ (metered [4000] 0 700).ctl.cur ≠ .fallow ∧ 3300 * 1 < [4000].sum ∧
      ([1000, 1003].sum ≤ 3300 * 2 ∧ (metered [] 0 1001).num 0x700001 * 2 < [1000, 1003].sum) ∧
      ([1000, 1003].sum ≤ (metered [] 0 1400).num 0x700001 * 2 ∧ [1000, 1003].sum * 64 ≤ (metered [] 0 1400).num 0x700001 * 62 * 2) ∧
      (metered [] 98 1400).power.lowWindows < 99 ∧ 99 ≤ (metered [] 99 1400).power.lowWindows ∧
      ([1000, 1003].sum ≤ (metered [] 0 1010).num 0x700001 * 2 ∧ (metered [] 0 1010).num 0x700001 * 62 * 2 < [1000, 1003].sum * 64) ∧
      (fallowOf .asleep true).ctl.cur = .fallow := by
  unfold Canonical
  decide +kernel

/-! ### Ports and the team -/

/-- A device whose port 0 is as said, its other ports off. -/
def port0 (s : State) (p : Port) : State := { s with fabric := { s.fabric with ports := p :: List.replicate 27 {} } }

/-- An Up port to a neighbour of the same team. -/
def upPort : Port := { state := .upBestEffort, identity := some { rank := 3 } }

theorem meets_PortLife :
    Canonical (port0 tilled upPort) ∧ 0 < (port0 tilled upPort).fabric.ports.length ∧
      ((port0 tilled { state := .training }).portAt 0).state = .training ∧ ((port0 tilled { state := .down }).portAt 0).state = .down ∧
      ((port0 tilled { state := .notReady, partnerNotReady := true }).portAt 0).partnerNotReady = true ∧
      upPort.trained = true ∧ tilled.ctl.cur ≠ .growing ∧ upPort.named = false ∧ { upPort with named := true }.up = true ∧
      (port0 growing { upPort with named := true }).job = some aJob ∧ aJob.undoing = false ∧ aJob.attempt.fault = none ∧
      (port0 growing upPort).held = false := by
  unfold Canonical
  decide +kernel

theorem meets_IdentityExchange :
    Canonical (port0 tilled upPort) ∧ (port0 tilled upPort).fabric.ports.length = 28 ∧ ((port0 tilled upPort).portAt 0).trained = true ∧
      (port0 tilled upPort).ready = true ∧ (port0 tilled upPort).job = none ∧ (port0 tilled upPort).forming = false ∧
      (port0 tilled upPort).formed = false ∧ ({} : Identity).teamId.toNat = (port0 tilled upPort).num 0x400001 ∧
      ({ teamId := 7 } : Identity).teamId.toNat ≠ (port0 tilled upPort).num 0x400001 := by
  unfold Canonical
  decide +kernel

theorem meets_TeamFormation :
    Canonical tilled ∧ VerbAsked tilled (ask 3 0x400005 []) ∧ tilled.fabric.ports.all (fun p => p.identity.isNone && !p.trained) = true ∧
      tilled.num 0x400003 = 0 ∧ tilled.successors.head? = some 0 ∧ tilled.num 0x400002 = 1 ∧ 2 ≤ (tilled.setNum 0x400002 2).num 0x400002 ∧
      VerbAsked growing (ask 3 0x400005 []) ∧ Canonical (tilled.setNum 0x400006 1) ∧ (tilled.setNum 0x400006 1).num 0x400006 = 1 ∧
      tilled.num 0x400006 ≠ 1 := by
  refine ⟨?_, verb_asked (by decide +kernel) (by decide +kernel), ?_, ?_, ?_, ?_, ?_, verb_asked (by decide +kernel) (by decide +kernel), ?_⟩ <;>
    (try unfold Canonical) <;> decide +kernel

/-- An aligned member of a team of four, rank 2, with its parent at port 0. -/
def aligned : State := (((member (port0 tilled upPort) 4 2).setNum 0x400104 2).setNum 0x40000C 0).setNum 0x400102 1000

theorem meets_BoutsAndTimeWords :
    tilled.cycle.toNat + 1855 < 2 ^ 64 ∧ ((port0 tilled upPort).portAt 0).up = true ∧ Canonical (port0 tilled upPort) ∧
      0 ≠ (port0 tilled upPort).num 0x40000C ∧ 0 = aligned.num 0x40000C ∧ aligned.leads = false ∧ aligned.formed = true ∧
      aligned.num 0x400104 = 2 ∧ aligned.job = none ∧ Canonical aligned ∧
      1024 ≤ (({ aligned with cycle := 1024 } : State).cycle - aligned.fabric.lastSlew).toNat ∧
      (({ aligned with cycle := 1023 } : State).cycle - aligned.fabric.lastSlew).toNat < 1024 ∧
      (((1024 : Int) - 0) - (0 - 1024)) / 2 - ofPattern 32 (aligned.num 0x401201) = 1024 ∧
      (((-1024 : Int) - 0) - (0 - -1024)) / 2 - ofPattern 32 (aligned.num 0x401201) = -1024 ∧
      1024 < (((1026 : Int) - 0) - (0 - 1024)) / 2 - ofPattern 32 (aligned.num 0x401201) ∧
      7 ≤ { aligned.fabric with lateBouts := 7 }.lateBouts := by
  unfold Canonical
  decide +kernel

/-- The same in the list of successors. -/
def successor2 : State := aligned.setOct 0x400004 [0, 0, 2, 0]

theorem meets_Succession :
    Canonical aligned ∧ aligned.formed = true ∧ (aligned.portAt 0).up = true ∧ (0 : Nat) ≠ aligned.rank ∧ aligned.num 0x400008 = 0 ∧
      0 = aligned.fabric.heardSuccessor ∧ aligned.leads = false ∧ aligned.fabric.heartbeatBout < 9 ∧ aligned.num 0x400008 < 3 ∧
      1 < (aligned.setNum 0x400008 3).num 0x400008 ∧ Canonical successor2 ∧ successor2.successorIndex = some 1 ∧
      successor2.fabric.subtrees = [] ∧ successor2.job = none ∧ aligned.ctl.cur = .tilled ∧ (member growing 4 0).isLead = true ∧
      (member growing 4 0).formed = true ∧ (member growing 4 0).held = false ∧ undoJob.undoing = true ∧ undoJob.undone = false ∧
      (port0 growing { state := .down, named := true }).fabric.ports.any (fun p => p.named && !p.up) = true := by
  unfold Canonical
  decide +kernel

/-! ### Slots and links -/

/-- An entry that sends and one that receives, their plan, and a device that runs it. -/
def sendEntry : SlotEntry := { entryId := 1, kind := 0, slotCount := 3, tensorId := 5 }
def recvEntry : SlotEntry := { entryId := 2, kind := 1, slotCount := 3, tensorId := 5, ringFirst := 4 }
def scheduled : Port := { upPort with state := .upScheduled, named := true }
def onPlan (p : Port) (q : List (Tile × Nat)) : State :=
  { withPlot { entered := true, sendQueue := q } with fabric := { (port0 growing p).fabric with plan := [sendEntry, recvEntry], anchors := [(0, 0)] } }

/-- A port that has frame 8 to send again. -/
def resending : Port :=
  { upPort with resend := [8], retryBuffer := [{ sequence := 8, frame := .slot { sequence := 8 }, fails := 1 }], credits := 60 }

/-- A best-effort frame to a rank. -/
def toRank (d : Nat) (c : BestEffort) : BeFrame := { dest := d, source := 1, content := c }
def resendingBest : Port :=
  { upPort with resend := [8], retryBuffer := [{ sequence := 8, frame := .best (toRank 1 (.saveFrame 0 [])), fails := 1 }] }

/-- A queue whose second tile is the entry's. -/
def twoQueued : List (Tile × Nat) := [(goodTile 6 1 one32, 0), (goodTile 5 1 one32, 0)]

theorem meets_SlotPositions :
    { upPort with state := .down }.up = false ∧ (onPlan scheduled []).plotAt 0 = some { entered := true } ∧
      ((onPlan scheduled []).entriesOf 0 true).find? (fun e => (onPlan scheduled []).owns e 2) = some sendEntry ∧
      (onPlan scheduled []).relayedBy sendEntry = false ∧ sendEntry.port = 0 ∧ scheduled.retryBuffer.length < 160 ∧
      (onPlan scheduled twoQueued).plotAt 0 = some { entered := true, sendQueue := [(goodTile 6 1 one32, 0)] ++ (goodTile 5 1 one32, 0) :: [] } ∧
      ofEntry sendEntry (goodTile 6 1 one32) = false ∧ ofEntry sendEntry (goodTile 5 1 one32) = true ∧
      (onPlan scheduled twoQueued).entriesOf 0 true = [sendEntry] ∧ (onPlan scheduled twoQueued).owns sendEntry 3 = false ∧
      (onPlan scheduled twoQueued).slotsPast sendEntry 3 = true ∧
      countOf (onPlan scheduled twoQueued).fabric.sent (entryKey sendEntry) < sendEntry.slotCount ∧ Canonical (onPlan scheduled twoQueued) ∧
      ((onPlan resending []).entriesOf 0 true).find? (fun e => (onPlan resending []).owns e 3) = none ∧ resending.resend = 8 :: [] ∧
      resending.retryBuffer.find? (fun r => r.sequence == 8) = some { sequence := 8, frame := .slot { sequence := 8 }, fails := 1 } ∧
      resendingBest.retryBuffer.find? (fun r => r.sequence == 8) =
        some { sequence := 8, frame := .best (toRank 1 (.saveFrame 0 [])), fails := 1 } ∧ resendingBest.resend = 8 :: [] ∧
      Canonical (onPlan resending []) ∧ resending.up = true ∧ upPort.state = .upBestEffort ∧ upPort.resend = [] ∧
      160 ≤ { upPort with retryBuffer := List.replicate 160 { sequence := 8, frame := .slot {}, fails := 0 } }.retryBuffer.length ∧
      { upPort with credits := 0 }.credits = 0 ∧ upPort.credits ≠ 0 ∧
      { upPort with beQueue := [toRank 1 (.saveFrame 0 [])] }.beQueue = toRank 1 (.saveFrame 0 []) :: [] := by
  unfold Canonical
  decide +kernel

/-- The good tile as one frame of the receiving entry, and of no entry. -/
def frame5 (entry : BitVec 24) : SlotFrame :=
  { tag := { (goodTile 5 1 one32).tag with linkSlot := entry }, payload := one32, slot := 1 }

theorem frameGood_checked (f : SlotFrame) : frameGood (checkedFrame f) = f.fecOk := by
  have h : frameCheck (checkedFrame f) = frameCheck f := rfl
  simp only [frameGood, h]
  exact (Bool.and_eq_left_iff_imp.mpr fun _ => beq_self_eq_true (frameCheck f))

theorem meets_SlotFrames :
    ((onPlan scheduled []).portAt 0).up = true ∧ (frame5 2).sequence = ((onPlan scheduled []).portAt 0).expectSeq ∧
      ((onPlan scheduled []).portAt 0).missing = [] ∧ ((onPlan scheduled []).portAt 0).held = [] ∧
      frameGood { frame5 2 with fecOk := false } = false ∧
      (((onPlan scheduled []).portAt 0).missing.contains ({ frame5 2 with sequence := 0xFFFFFF } : SlotFrame).sequence = false ∧
        2 ^ 23 ≤ (({ frame5 2 with sequence := 0xFFFFFF } : SlotFrame).sequence - ((onPlan scheduled []).portAt 0).expectSeq).toNat) ∧
      (onPlan scheduled []).job = some aJob ∧ (onPlan scheduled []).staleTag (frame5 2).tag = false ∧ recvEntry.kind = 1 ∧
      ((onPlan scheduled []).entriesOf 0 false).find? (fun e => e.entryId == (frame5 2).tag.linkSlot) = some recvEntry ∧
      (onPlan scheduled []).owns recvEntry (frame5 2).slot = true ∧ (frame5 2).tag.tensorId = recvEntry.tensorId ∧
      (frame5 2).tag.shard = recvEntry.shard ∧ (frame5 2).packed = false ∧ (frame5 2).lastPiece = true ∧ (frame5 2).piece = 0 ∧
      (onPlan scheduled []).fabric.assembling = [] ∧
      tileCheckOk { tag := (frame5 2).tag, payload := (frame5 2).payload } = true ∧ aJob.attempt.arrived = false ∧
      aJob.attempt.fault = none ∧ aJob.evalRunning = none ∧ aJob.binary.serving = false ∧
      (onPlan scheduled []).workOfTag (frame5 77).tag = .step ∧ (onPlan scheduled []).staleTag (frame5 77).tag = false ∧
      ((onPlan scheduled []).entriesOf 0 false).find? (fun e => e.entryId == (frame5 77).tag.linkSlot) = none ∧
      Canonical (onPlan scheduled []) := by
  unfold Canonical
  decide +kernel

/-- The frame that lands and the one that no entry expects arrive whole: each with its check. -/
theorem meets_SlotFrames_whole :
    frameGood (checkedFrame (frame5 2)) = true ∧ (checkedFrame (frame5 2)).tag = (frame5 2).tag ∧
      frameGood (checkedFrame (frame5 77)) = true ∧ (checkedFrame (frame5 77)).tag = (frame5 77).tag :=
  ⟨frameGood_checked _, rfl, frameGood_checked _, rfl⟩

theorem meets_AcknowledgementWords :
    resending.up = true ∧ (∀ r ∈ resending.retryBuffer, r.fails < 15) ∧ (resending.retryBuffer.any fun r => r.sequence == 8) = true := by
  decide +kernel

/-- A device that routes rank 1 over port 0 and knows no way to rank 2. -/
def routing : State := (port0 tilled upPort).setOct 0x402001 [0, 0, 0x20, 0, 0, 0]

theorem meets_BestEffortFrames :
    upPort.up = true ∧ ({} : LinkHead).sequence = upPort.expectSeq ∧ upPort.missing = [] ∧ upPort.held = [] ∧ ({} : LinkHead).frameOk = true ∧
      (toRank 0 (.saveFrame 0 [1])).dest = routing.rank ∧ (1 : Nat) ≠ routing.rank ∧ routing.routePort 1 = some 0 ∧
      routing.routePort 2 = none ∧ ({ sequence := 9 } : LinkHead).sequence = { upPort with missing := [7], expectSeq := 9 }.expectSeq ∧
      seqBelow 7 9 = true := by decide +kernel

/-! ### Acre -/

/-- A device with the second Acre port up and a session with rank 4 of team 3. -/
def acreDevice (x : Session) : State :=
  { tilled.setNum 0x501500 0x0201 with acre := { tilled.acre with portUp := [false, true], sessions := [x] } }
def peer : Session := { peerTeam := 3, peerRank := 4 }
def header : AcreHeader := { senderTeam := 3, senderRank := 4, k := 2, m := 1 }

theorem meets_AcreChecks :
    tilled.acrePort = none ∧ (acreDevice peer).acrePort.isSome = true ∧ (acreDevice {}).sessionWith 3 4 = none ∧
      (acreDevice peer).sessionWith 3 4 = some 0 ∧ { header with intact := false }.intact = false ∧ header.intact = true ∧
      { header with type := 0 }.type.toNat = 0 ∧ 9 < { header with type := 10 }.type.toNat ∧ 1 ≤ header.type.toNat ∧
      header.type.toNat ≤ 9 ∧ header.epoch.toNat < ((acreDevice { peer with recvEpoch := 2 }).sessionAt 0).recvEpoch ∧
      ((acreDevice { peer with recvEpoch := 2 }).sessionAt 0).oldEpoch ≠ some header.epoch.toNat := by decide +kernel

theorem let_in : LetIn (acreDevice peer) header 0 ∧ MaySend (acreDevice peer) 0 := by
  unfold LetIn MaySend
  decide +kernel

/-- The device with a stripe of the peer that has chunks. -/
def withStripe (x : Stripe) : State :=
  { acreDevice peer with acre := { (acreDevice peer).acre with stripes := [{ x with senderTeam := 3, senderRank := 4, k := 2, m := 1 }] } }

/-- The same with a fetch under way. -/
def asking (x : Stripe) : State := { withStripe x with seasons := { tilled.seasons with fetchAsked := true } }

theorem meets_BaleAndRosterChunks :
    LetIn (withStripe { chunks := [(0, [1])] }) header 0 ∧
      ((withStripe { chunks := [(0, [1])] }).acre.stripes.find? (fun y => Stripe.named y header)).isSome = true ∧
      SMap.find? [(0, [(1 : Byte)])] header.chunk = some [1] ∧ (acreDevice peer).acre.stripes.find? (fun y => Stripe.named y header) = none ∧
      2 ≤ header.k ∧ MaySend (withStripe { chunks := [(1, [1])] }) 0 ∧ ((withStripe { chunks := [(1, [1])] }).takeChunk 0 header [1]).2 = true ∧
      (∀ y ∈ (withStripe { chunks := [(1, [1])] }).acre.stripes, Stripe.named y header = true → y.k = header.k ∧ y.m = header.m) ∧
      (asking { chunks := [(0, [1])] }).seasons.fetchAsked = true ∧
      header.objectId.toNat / 2 ^ 16 = (asking { chunks := [(0, [1])] }).seasons.fetchNumber := by
  unfold LetIn MaySend
  refine ⟨?_, ?_, ?_, ?_, ?_, ?_, ?_, ?_, ?_, ?_⟩ <;> decide +kernel

/-- A season tensor of two elements. -/
def seasonTensor : SeasonTensor := { decl := { weight := 5, anchors := (6, 6), momenta := (8, 8), count := 2 }, anchor0 := [1, 2], anchor1 := [3, 4], momentum0 := [5, 6], momentum1 := [7, 8] }

/-- The device with it, a fetch under way. -/
def fetching : State :=
  let t (id : W32) : TensorEntry := { tensorId := id, cls := 5, format := 1, dims := 2, blockAxis := 1, shape := [1, 2] }
  { acreDevice peer with
    job := some { aJob with binary := { tensors := [t 5, t 6, t 8] } }
    seasons := { tilled.seasons with tensors := [seasonTensor], fetchAsked := true } }
def oneChunk : AcreHeader := { header with k := 1 }

theorem meets_AcreStripes :
    LetIn (acreDevice peer) header 0 ∧ MaySend (acreDevice peer) 0 ∧ (acreDevice peer).acre.held = [] ∧
      ((acreDevice peer).sessionAt 0).resetLeft ≠ 3 ∧
      ([({ team := 3, rank := 4, k := 2, m := 1 } : SentStripe)].find? (fun x => SentStripe.named x header)).isSome = true ∧
      ((withStripe { nacks := 8 }).acre.stripes.find? (fun x => x.senderTeam == 3 && x.senderRank == 4 && x.objectId == 0 &&
        x.stripe == 0 && !x.decoded && !x.abandoned)).isSome = true ∧
      8 ≤ ({ nacks := 8 } : Stripe).nacks ∧ ({ nacks := 7 } : Stripe).nacks < 8 ∧ (withStripe { nacks := 7 }).sessionWith 3 4 = some 0 ∧
      MaySend (withStripe { nacks := 7 }) 0 ∧ Canonical (withStripe { nacks := 8 }) ∧ LetIn fetching header 0 ∧ MaySend fetching 0 ∧
      fetching.seasons.fetchAsked = true ∧ header.objectId.toNat / 2 ^ 16 = fetching.seasons.fetchNumber ∧
      tilled.seasons.fetchAsked = false ∧ (acreDevice peer).anchorReply = [] ∧ 0 < fetching.codeShape.1 ∧
      (fetching.sessionAt 0).sendCounter + 600 < 2 ^ 32 ∧ fetching.acre.held = [] ∧ (fetching.sessionAt 0).minRtt = none := by
  unfold LetIn MaySend Canonical
  refine ⟨?_, ?_, ?_, ?_, ?_, ?_, ?_⟩ <;> decide +kernel

theorem meets_AcreStripes_reply : fetching.anchorReply.length ≤ 8192 ∧ fetching.anchorReply ≠ [] := by
  have h : fetching.anchorReply.length = 16 := by decide +kernel
  exact ⟨by omega, fun e => by simp [e] at h⟩

/-- The 16 bytes of a whole reply in one chunk: anchors 1 and 2, momenta 3 and 4. -/
theorem meets_AcreStripes_whole :
    let u := (fetching.takeChunk 0 oneChunk (leBytes 16 (1 + 2 * 2 ^ 32 + 3 * 2 ^ 64 + 4 * 2 ^ 96))).1
    LetIn fetching oneChunk 0 ∧ (fetching.takeChunk 0 oneChunk (leBytes 16 (1 + 2 * 2 ^ 32 + 3 * 2 ^ 64 + 4 * 2 ^ 96))).2 = true ∧
      (fetching.acre.stripes = []) ∧ u.wholeReply oneChunk = some (leBytes 16 (1 + 2 * 2 ^ 32 + 3 * 2 ^ 64 + 4 * 2 ^ 96)) ∧
      (∀ p ∈ replyParts u.anchorArrays (leBytes 16 (1 + 2 * 2 ^ 32 + 3 * 2 ^ 64 + 4 * 2 ^ 96)),
        u.drillReply p.1 p.2.1 p.2.2 = some ([1, 2], [3, 4])) := by
  unfold LetIn
  decide +kernel

theorem meets_AcreSessions :
    tilled.acrePort = none ∧ (acreDevice peer).acrePort.isSome = true ∧ ({ attestationOk := false } : KeyAgreement).fromInitiator = true ∧
      ({ intact := false } : KeyAgreement).intact = false ∧ ({} : KeyAgreement).intact = true ∧
      (acreDevice peer).acre.requested.contains (0, ({} : KeyAgreement).endpoint) = false ∧
      (acreDevice peer).acre.outgoing = [] ∧ (acreDevice peer).acre.held = [] ∧ ({} : KeyAgreement).attestationOk = true ∧
      ({} : KeyAgreement).jobId.toNat = (acreDevice peer).num 0x500001 ∧
      leBytes 32 ({} : KeyAgreement).seasonKey.toNat = fit 32 ((acreDevice peer).oct 0x500012) ∧ 0 < (acreDevice peer).acre.sessions.length ∧
      ((acreDevice peer).sessionAt 0).sendEpoch < 2 ^ 32 - 1 ∧ ((acreDevice peer).sessionAt 0).resetLeft = 0 ∧
      ((acreDevice { peer with resetLeft := 3 }).sessionAt 0).resetLeft ≠ 0 ∧ MaySend (acreDevice { peer with resetLeft := 3 }) 0 ∧
      ((acreDevice peer).sessionAt 0).samples = [] ∧ LetIn (acreDevice peer) header 0 ∧ Canonical (acreDevice peer) := by
  unfold LetIn MaySend Canonical
  decide +kernel

/-! ### Seasons -/

/-- A share of one block whose anchor is as said, and a Growing device of a job in seasons that holds it. -/
def share (a : W32) : SeasonTensor :=
  { decl := { weight := 5, count := 32 }, anchor0 := List.replicate 32 a, residual0 := List.replicate 32 (0, 0), snapshot := List.replicate 32 0 }
def seasonJob : Job := { aJob with binary := { tensors := [{ tensorId := 5 }] } }
def inSeasons (x : SeasonTensor) (stage : Nat) (due : Bool) : State :=
  { (((growing.setNum 0x500001 9).setNum 0x500008 1000).setNum 0x503002 1).setNum 0x500007 1000 with
    job := some seasonJob, seasons := { growing.seasons with tensors := [x], winnowStage := stage, winnowDue := due, winnowSeason := 1 } }

theorem meets_WinnowPasses :
    growing.num 0x500001 = 0 ∧ tilled.ctl.cur ≠ .growing ∧ tilled.job = none ∧ (inSeasons (share 0x3F800000) 0 true).ctl.cur = .growing ∧
      (inSeasons (share 0x3F800000) 0 true).num 0x500001 ≠ 0 ∧ (inSeasons (share 0x3F800000) 0 true).ownTensors = [share 0x3F800000] ∧
      ((inSeasons (share 0x3F800000) 0 true).passBlocks (share 0x3F800000) false (inSeasons (share 0x3F800000) 0 true).fresh).isSome = true ∧
      (inSeasons (share 0x3F800000) 1 false).ownTensors.any (fun x => x.tau.isNone) = true ∧
      (inSeasons { share 0x3F800000 with tau := some 5 } 1 false).ownTensors.all (fun x => x.tau.isSome) = true ∧
      ((inSeasons { share 0x3F800000 with tau := some (2 ^ 30) } 1 false).packTensor { share 0x3F800000 with tau := some (2 ^ 30) }
        (inSeasons { share 0x3F800000 with tau := some (2 ^ 30) } 1 false).fresh).isSome = true ∧
      Canonical (inSeasons { share 0x7FC00000 with tau := some 0 } 1 false) ∧
      (inSeasons { share 0x7FC00000 with tau := some 0 } 1 false).formed = false ∧
      ((inSeasons { share 0x7FC00000 with tau := some 0 } 1 false).packTensor { share 0x7FC00000 with tau := some 0 }
        (inSeasons { share 0x7FC00000 with tau := some 0 } 1 false).fresh).isNone = true := by
  unfold Canonical
  decide +kernel

/-- The same in a team that stands in a wardens list. -/
def warden (l : List Byte) (rosters : List Roster) : State :=
  let s := (inSeasons (share 0x3F800000) 0 false).setNum 0x500002 3
  { s.setOct 0x50000D l with seasons := { s.seasons with rosters := rosters } }

theorem meets_RostersPublished :
    (warden [4, 0] []).wardenIndex = none ∧ (warden [3, 0] []).wardenIndex = some 0 ∧
      (7000 - (warden [3, 0] []).num 0x500006) / max ((warden [3, 0] []).num 0x500007) 1 ≠ 0 ∧
      (warden [3, 0] []).isLead = true ∧ (warden [3, 0] []).num 0x500001 ≠ 0 ∧ (warden [3, 0] []).num 0x503002 ≠ 0 ∧
      (warden [3, 0] []).isWarden = true ∧ 7 ∉ (warden [3, 0] []).seasons.published ∧ (warden [4, 0, 3, 0] []).wardenIndex = some 1 ∧
      (∀ r ∈ (warden [4, 0, 3, 0] []).seasons.rosters, r.season = 7 → 1 ≤ r.successorIndex) ∧
      (∃ r ∈ (warden [4, 0, 3, 0] [{ season := 7 }]).seasons.rosters, r.season = 7 ∧ r.successorIndex < 1) := by decide +kernel

/-- The same at its commit step, with a merge ready or not. -/
def committing (merged : Option (BitVec 128)) (ready : List (Nat × Nat × CommitMode)) : State :=
  let s := (((inSeasons (share 0x3F800000) 0 false).setNum 0x500004 6).setNum 0x500005 0).setNum 0x205001 3
  { s with seasons := { s.seasons with nextBoundary := 10, mergedRoster := merged, ready := ready } }

theorem meets_CommitModes :
    tilled.choosing = false ∧ (committing (some 77) [(0, 1, .merge)]).choosing = true ∧ (committing none []).choosing = true ∧
      (committing (some 77) [(0, 1, .merge)]).readyTile = some { mode := .merge, season := 1, rosterDigest := 77 } ∧
      (committing none []).readyTile = none ∧ (committing none []).formed = false ∧ (committing none []).joinAhead = false ∧
      ((committing none []).setNum 0x503002 0).num 0x500011 < ((committing none []).setNum 0x503002 0).num 0x50000A ∧
      Canonical (committing none []) ∧ (committing none []).num 0x503002 ≠ 0 ∧
      ((committing none []).setNum 0x500011 200).num 0x50000A ≤ ((committing none []).setNum 0x500011 200).num 0x500011 ∧
      ({ tilled.seasons with chosen := some {}, writeAt := some 7 } : Seasons).writeAt = some 7 ∧ tilled.seasons.writeAt = none := by
  unfold Canonical
  decide +kernel

theorem meets_MergeSum :
    tilled.mergeRoster = none ∧ (warden [3, 0] [{ season := 1 }]).mergeRoster = some { season := 1 } ∧
      ({ season := 1, entries := [{ baleCount := 1 }] } : Roster).entries.all (warden [3, 0] []).holdsSet = false ∧
      ({ season := 1 } : Roster).entries.all (warden [3, 0] []).holdsSet = true ∧ (warden [3, 0] []).seasons.winnowDue = false ∧
      (warden [3, 0] []).seasons.winnowStage ≠ 1 ∧ (warden [3, 0] []).isLead = true ∧ ({ season := 1 } : Roster).entries = [] ∧
      ({ season := 1 } : Roster).meanFactor = 0x3F800000 := by decide +kernel

/-! ### Numbers -/

theorem meets_FieldElements : (2 : Nat) ≤ 2 ∧ (255 : Nat) ≤ 255 ∧ (254 : Nat) ≠ 255 := by decide

theorem meets_BlockPacking :
    0 < 12 ∧ 31 < 32 ∧ (List.replicate 32 4095).length = 32 ∧ ∀ e ∈ List.replicate 32 4095, e < 2 ^ 12 := by decide

theorem meets_Rounding : (254 : Nat) < 255 ∧ 0 < 254 ∧ (254 : Nat) ≤ 254 ∧ (32 : Nat) ≤ 32 ∧ 32 < 33 := by decide

theorem meets_AccumulatorSums : (cellSum 127 127 0 [] 0).isSome = true ∧ cellSum 127 127 0 [((127, [2]), (127, [3]))] 0 = some 6 := by
  decide +kernel

theorem meets_MirrorAreaReads : tilled.ctl.cxlUp = true ∧ tilled.ctl.cxlConfigured = true := by decide

theorem meets_ChainLatency : [({ op := .mul } : Stage)] ≠ [] := by decide


/-! ### Ill-formed terms, one for each check of WellFormed -/

/-- A request that fails each of the checks on requests in turn. -/
def badReqs : List Req :=
  [{ ask 3 0x100201 [] with src := .mirror 4 }, { ask 3 0x100201 [] with length := 257 }, ask 3 0x100201 (List.replicate 257 0)]

theorem test_wf_requests :
    (badReqs.all fun r => !Instr.wf (.write r) && !Instr.wf (.begin_ r) && !Instr.wf (.commit r) && !Instr.wf (.rollBack r) &&
      !Instr.wf (.read (.entry r)) && !Instr.wf (.wake r)) = true ∧ Instr.wf (.write (ask 3 0x100201 [1])) = true := by
  decide +kernel

/-- A verb's request that names another entry is not that verb. -/
theorem test_wf_verbs_name_their_entry :
    ([Instr.eventAck, .exportCursorWrite, .wake, .fallow, .reset, .harvest, .form, .glean, .attest, .fwUpdate,
      .rollbackCommit].all fun c => !Instr.wf (c (ask 3 0x700001 []))) = true ∧ Instr.wf (.glean (ask 3 0x607001 [])) = true := by
  decide +kernel

/-- Every command of a plot takes a plot below 160 (R22). -/
theorem test_wf_plots :
    ([Instr.nop, .waitTileRelease, .waitTokenRelease, .waitCycleRelease, .sealWait, .halt, .waitTimeout, .headlandScanDone, .passOverflow,
      .spill, .furrowReady, .chainDone, .ledgerMark, fun p => .waitCycle p 0, fun p => .stepMark p .entry, fun p => .furrowPass p true,
      fun p => .sealArrive p false, fun p => .barrierArrive p 0, fun p => .waitTile p { loc := .crib 0 } false, fun p => .waitToken p 0 0,
      fun p => .loop p 1 0, fun p => .chainIssue p { stages := [{ op := .mul }] },
      fun p => .tineStart p 0 [], fun p => .regionRelease p 0, fun p => .tokenSignal p 0].all
        fun c => Instr.wf (c 159) && !Instr.wf (c 160)) = true := by
  decide +kernel

theorem test_wf_plot_operands :
    ([Instr.waitToken 0 4096 0, .waitToken 0 0 (2 ^ 18), .loop 0 0 0, .loop 0 (2 ^ 24 + 1) 0, .loop 0 1 4096, .tokenSignal 0 4096,
      .regionRelease 0 4096, .waitTile 0 { loc := .crib 1024 } false, .waitTile 0 { loc := .loam 4096 } false,
      .waitTile 0 { loc := .pool 16 0 } false, .waitTile 0 { loc := .buffer 4 0 } false, .tineStart 0 32 [], .tineStop 0 32, .tineNop 0 32,
      .tineLoad 0 32, .tineStore 0 32, .tineMark 0 32, .tineEnd 0 32, .tineRequestIssue 0 32, .tineDataReturn 0 32 .clean, .storeAck 0 32,
      .maximaRecord 0 { payload := [] }, .frameRecord 0 { payload := [] }, .chainIssue 0 {}, .chainIssue 0 { stages := List.replicate 9 { op := .mul } },
      .furrowIssue 0 { a := [], b := [], guard := 64 }, .fullWidthIssue 0 { op := .add { loc := .crib 0 } { loc := .crib 1 }, rows := 193 },
      .move 0 { src := { loc := .crib 1024 }, dst := .crib 0 }].all fun i => !i.wf) = true := by
  decide +kernel

theorem test_wf_ports_and_ranks :
    ([Instr.portTrainingDone 28 true true, .trainingRetry 28, .readyQuery 28 false, .notReadyReceived 28, .portDown 28, .slotPositionStart 28 0,
      .earlyAbort 65536 {}, .linkWaitExpiry (some 65536), .repairServe 28 0 0 0 0, .repairServe 0 65536 0 0 0,
      .harvestControlWord 65536 0 0 0, .harvestControlWord 0 0 3 0, .latestStopMessage 0 0 3 0, .drillComplete 2, .drillLineTimeout 2,
      .acrePortLinkChange 2 true false, .yokeSample 65536, .tierMoveDone 256 [] true, .startUpSelfTest false [176] [],
      .monitorTrip (.regulator 21), .monitorTrip (.pll 8), .patrolRead (.crib 160 0) .clean, .patrolRead (.crib 0 1024) .clean,
      .patrolRead (.loam 0 4096) .clean, .patrolRead (.pool 16 0) .clean].all fun i => !i.wf) = true ∧
      Instr.wf (.readyQuery 27 true) = true := by
  decide +kernel

/-! ### Worked examples and figures of the spec -/

/-- The check value of CRC-32C over the nine digits (R50's parameters). -/
theorem test_crc32c : crc32c (ascii "123456789") = 0xE3069283 := by decide +kernel

/-- The activation block of R58's example, FP32 to Field-8 under RNE. -/
theorem test_field8_block :
    let b := toField 8 .rne (([0x3FC00000, 0xBEC00000, 0x3DCCCCCD, 0x40400000, 0x3DA00000, 0x407FFFFF] ++ List.replicate 26 0).map
      fun v => (some (decodeFp fp32 v), 0))
    b.x = 0x80 ∧ b.e = [0x30, 0xF4, 0x03, 0x60, 0x02, 0x7F] ++ List.replicate 26 0 ∧
      b.counts = { zeros := 26, saturations := 1, nonfinite := 0 } := by
  decide +kernel

/-- The gradient element of R60's example: stochastic rounding to BF16 with two generator values, and RNE. -/
theorem test_bf16_stochastic :
    (convertFin bf16 74565 (-20) .sr 0x60000000).1 = 0x3D92 ∧ (convertFin bf16 74565 (-20) .sr 0xC0000000).1 = 0x3D91 ∧
      (convertFin bf16 74565 (-20) .rne 0).1 = 0x3D92 := by
  decide +kernel

/-- Products beyond the largest finite value (R60). -/
theorem test_overflow_encodings :
    (convertFin e4m3 1 9 .rne 0).1 = 0x7E ∧ (convertFin e5m2 (-1) 16 .rne 0).1 = 0xFC ∧ (convertOut e4m3 .nan .rne 0).1 = 0x7F := by
  decide +kernel

/-- R64's example: S = 16, clean_run 1,999 and then 2,000 of 2,000; the second clean seal makes S 17 and clean_run 0. -/
theorem test_loss_scale :
    let s0 := (((State.reset.setNum 0x302001 16).setNum 0x302002 2000).setNum 0x302004 100).setNum 0x302005 1999
    (s0.scaleSeal.num 0x302001, s0.scaleSeal.num 0x302005) = (17, 0) ∧
      (s0.scaleSkip.num 0x302001, s0.scaleSkip.num 0x302005) = (15, 0) := by
  decide +kernel

/-- Two blocks of 32 with the elements of the example of the frame (03_furrow_array.md). -/
def furrowPair (zeros : Nat) (x y : Nat) (l : List (Int × Int)) : FieldBlock × FieldBlock :=
  ((x, l.map (·.1) ++ List.replicate zeros 0), (y, l.map (·.2) ++ List.replicate zeros 0))

/-- One output element at G = 2: the sum is −20,254 (03_furrow_array.md, after R76). -/
theorem test_furrow_element :
    cellSum 130 127 2 [furrowPair 30 130 127 [(100, -50), (-7, 9)],
      furrowPair 27 127 125 [(45, 13), (-29, 21), (3, 12), (-5, -4), (7, -6)]] 0 = some (-20254) := by
  decide +kernel

/-- The overflow at G = 24 and its repeat at g = 16 (03_furrow_array.md, after R85). -/
theorem test_furrow_repeat :
    let big := furrowPair 0 60 60 (List.replicate 32 (32767, 32767))
    let l := List.replicate 17 big ++ [furrowPair 31 40 60 [(5, 32767)]]
    cellSum 60 60 24 l 0 = none ∧ cellSum 60 60 16 l 0 = some 38278260406102016 := by
  decide +kernel

/-- R106's example: −79,016 at F = −13. -/
theorem test_fwp_add :
    fwpAdd { rows := 1, cols := 1, vals := [[-20254]], rowFrame := [-5], colFrame := [-6] }
        { rows := 1, cols := 1, vals := [[1000]], rowFrame := [-7], colFrame := [-5] } =
      ({ rows := 1, cols := 1, vals := [[-79016]], rowFrame := [-7], colFrame := [-6] }, 0) := by
  decide +kernel

/-- The fast row sum of the example of 04_tilth_engine.md: 16,777,216. -/
theorem test_fast_sum :
    fastSum ([0x4B800000] ++ List.replicate 127 0 ++ [0x3F800000, 0x3F800000] ++ List.replicate 126 0) = 0x4B800000 := by
  decide +kernel

/-- The latencies of R149's example: chain 1 takes 24 cycles, chain 2 26 on A1 and 23 on B0. -/
theorem test_chain_latency :
    let one : ChainDesc := { stages := [.fma, .fma, .fma, .add, .tally 0 0].map fun o => { op := o } }
    let two : ChainDesc := { stages := [StageOp.fma, .exp2, .convert 0x03, .tally 0 0].map fun o => { op := o } }
    fmtOf 0x03 = .fp bf16 ∧ chainLatency false one = 24 ∧ chainLatency true one = 24 ∧ chainLatency true two = 26 ∧
      chainLatency false two = 23 := by
  decide +kernel

/-- The column LOAD of the example of 05_plot_execution.md: 75 requests a tile, block offsets 5, 21 … 245. -/
theorem test_tine_column :
    let d : TineDesc :=
      { op := 1, space := 1, ringFirst := 0, ringLen := 4, token := 0, tokenCount := 0, base := 190400, lines := 595
        counts := [16, 1, 1, 1], strides := [609280, 0, 0, 0], tensorId := 0, shard := 0, boBase := 5, boSteps := [16, 0, 0, 0], format := 0 }
    tileRequests d = 75 ∧ tineTiles d = 16 ∧ tineOffset d 1 = 21 ∧ tineOffset d 15 = 245 ∧ tineAddr d 15 = 190400 + 15 * 609280 ∧
      ringRegion d 5 = 1 := by
  decide +kernel

/-- R27's example: the pool of a 144-plot binary is slices 14, 15 and 144 to 157. -/
theorem test_pool_sites :
    let s := { State.reset with fuses := { State.reset.fuses with sites := [14, 15] ++ (List.range 14).map (· + 160) } }
    s.poolSites 144 = [14, 15] ++ (List.range 14).map (· + 144) ∧ (s.usedSites 144).length = 144 ∧ s.gradeNow = 2 := by
  decide +kernel

/-- The governor's windows after a cap of 2,400 W (15_power_boot_security.md): r is 53, 51, 50 and stays; a trip value gives 8. -/
theorem test_governor :
    governRule 64 0 2850 1 2400 = (53, 0) ∧ governRule 53 0 2471875 1000 2400 = (51, 0) ∧ governRule 51 0 2403125 1000 2400 = (50, 0) ∧
      governRule 50 0 2368750 1000 2400 = (50, 0) ∧ governRule 50 0 3301 1 2400 = (8, 0) := by
  decide +kernel

/-- The roster of the example of 11_acre_seasons.md: mean_factor is 0x3ECCCCCD, and the merged element 0x3B000000. -/
theorem test_merge :
    meanFactor [0, 0, 1] = 0x3ECCCCCD ∧
      fp32Mul (fp32FromExact ([((5 : Int), (-9 : Int)), (-3, -8), (7, -10)].foldl (fun g x => g + alignTo x.1 x.2 (-123) .rne 0) 0) (-123))
        0x3ECCCCCD = 0x3B000000 := by
  decide +kernel

/-- Special values: exp2(0) = 1, exp2(1) = 2, log2(8) = 3, rsqrt(4) = 0.5 (R112, R113). -/
theorem test_transcendental :
    fp32Exp2 0 = 0x3F800000 ∧ fp32Exp2 0x3F800000 = 0x40000000 ∧ fp32Log2 0x41000000 = 0x40400000 ∧ fp32Rsqrt 0x40800000 = 0x3F000000 := by
  decide +kernel

/-- GF(2^8): a byte times its inverse is 1 (R293). -/
theorem test_gf : ([1, 2, 83, 255].all fun a => Gf.mul a (Gf.inv a) == 1) = true := by decide +kernel

/-! ### Single steps -/

/-- A reset device ignores what needs a boot; power good starts the fuse read (R410). -/
theorem test_power_good :
    (match exec .powerGood State.reset with | .next t => t.ctl.powerGood && t.ctl.stage == .fuseRead | _ => false) = true := by
  decide +kernel

/-- A NOP moves the plot on by one bundle (R123). -/
theorem test_nop : (match exec (.nop 0) growing with | .next t => (t.plotAt 0).map (·.pc) | _ => none) = some 1 := by decide +kernel

/-- A loop of 3 rounds over one bundle comes back twice (R123). -/
theorem test_loop :
    nextBundle 5 [(5, 5, 3)] = (5, [(5, 5, 2)]) ∧ nextBundle 5 [(5, 5, 2)] = (5, [(5, 5, 1)]) ∧ nextBundle 5 [(5, 5, 1)] = (6, []) := by
  decide +kernel

/-- An Enumerate frame gives an address and adds one to the count (R384). -/
theorem test_enumerate :
    (match exec (.enumerate 7 4) tilled with | .next t => some (t.num 0x101001, t.num 0x101002) | _ => none) = some (5, 7) := by
  decide +kernel

/-- The host's write of the power cap acts at once outside a transaction (R374, R420); an unknown entry is refused. -/
theorem test_write_cap :
    (match exec (.write (ask 2 0x700001 (leBytes 2 2400))) tilled with | .next t => t.num 0x700001 | _ => 0) = 2400 ∧
      (match exec (.write (ask 2 0x7000FE [0])) tilled with | .next t => t.num 0x700001 | _ => 0) = tilled.num 0x700001 := by
  decide +kernel

/-! ### Witnesses of the clauses whose hypotheses need a state of their own -/

/-- A serving device on a drill line of the ranks said, which routes ranks 1 and 2 over port 0. -/
def onLine (l : List Byte) : State := ((port0 serving upPort).setOct 0x402001 [0, 0, 0x20, 0, 0x20, 0]).setOct 0x206101 l

theorem meets_DrillAndSwitchRecords_lines :
    Canonical (onLine [0, 0, 1, 0]) ∧ MayTake (onLine [0, 0, 1, 0]) ∧ (onLine [0, 0, 1, 0]).job = some srvJob ∧
      (onLine [0, 0, 1, 0]).chainNext = some 1 ∧ (onLine [0, 0, 1, 0]).routePort 1 = some 0 ∧
      (onLine [0, 0, 9, 0]).chainNext = some 9 ∧ (onLine [0, 0, 9, 0]).routePort 9 = none ∧
      (serving.setNum 0x206003 3).copyState 1 = 3 ∧ (serving.setNum 0x206003 1).copyState 1 = 1 ∧
      (serving.setNum 0x206003 4).copyState 1 = 4 ∧ (drilling { drill0 with copy := 1, queued := true }).queuedDrill 1 ≠ none ∧
      (serving.setNum 0x206003 4).queuedDrill 1 = none ∧
      ({ serving.setNum 0x206003 4 with job := some { srvJob with batches := [{ copy := 1 }] } } : State).copyHolders 1 ≠ 0 ∧
      (sown 100).serving = false ∧ (sown 100).ctl.cur = .sown ∧ (sown 100).runningDrill 0 = none ∧
      ({ serving with job := some { srvJob with binary := { srvJob.binary with singleField := true } } } : State).singleField = true ∧
      serving.singleField = false := by
  unfold Canonical MayTake
  decide +kernel

theorem meets_DrillChunksAndEnds_lines :
    Canonical (onLine [1, 0, 0, 0]) ∧ (onLine [1, 0, 0, 0]).runningDrill 1 = none ∧
      ((words16 ((onLine [1, 0, 0, 0]).oct 0x206101)).drop 1).contains (onLine [1, 0, 0, 0]).rank = true ∧
      (onLine [1, 0, 0, 0]).drillRefusal 1 = none ∧ (onLine [1, 0, 0, 0]).copyState 1 ≠ 4 ∧ (onLine [1, 0, 0, 0]).chainNext = none ∧
      (readManifest { copy := 1, chain := true, member := true } manifest (leBytes 4 (crc32c [1, 2, 3, 4, 5]).toNat) (2 ^ 64)).isSome = true ∧
      manifest.length = 64 ∧ (onLine [1, 0, 0, 0, 2, 0]).chainNext = some 2 ∧ (onLine [1, 0, 0, 0, 2, 0]).routePort 2 = some 0 ∧
      (drilling drill0).runningDrill 0 = some drill0 ∧ (drilling drill0).ringFull = false ∧
      (drilling drill0).chunkPoisoned drill0 { bytes := [1, 2, 3, 4, 5] } = false ∧
      chunkOk drill0 { bytes := [1, 2, 3, 4, 5] } = true ∧ chunkOk drill0 { bytes := [1, 2, 3, 4, 6] } = false := by
  unfold Canonical
  decide +kernel

theorem meets_PortLife_queries :
    ({} : Port).trained = false ∧ ((port0 tilled { state := .down }).num 0x401101) ≠ 1 ∧
      ({ port0 tilled { state := .down } with recovery := { gleanDomain := some 16 } } : State).recovery.gleanDomain = some 16 ∧
      aJob.attempt.arrived = false ∧ aJob.evalRunning = none ∧ aJob.binary.serving = false ∧
      Canonical (port0 growing { upPort with named := true }) := by
  unfold Canonical
  decide +kernel

theorem meets_HarvestEnds_repairs :
    ({ harvesting { phase := .saving } aJob with recovery := { repairs := [{ asked := 1 }] } } : State).repairing = true ∧
      (harvesting { phase := .saving, save := 1 } aJob).repairing = false ∧
      ((harvesting { phase := .saving, save := 2 } aJob).portAt ((harvesting { phase := .saving, save := 2 } aJob).num 0x207004)).up = false ∧
      ((port0 (harvesting { phase := .saving, save := 2 } aJob) upPort).portAt 0).up = true ∧
      (port0 ((harvesting { phase := .saving, save := 2 } aJob).setNum 0x207004 0) upPort).num 0x207004 = 0 ∧
      Canonical (port0 ((harvesting { phase := .saving, save := 2 } aJob).setNum 0x207004 0) upPort) := by
  unfold Canonical
  decide +kernel

/-- A device whose idle timer runs while a record waits. -/
def waitingRecord : State :=
  { tilled.setNum 0x100204 5 with hopper := [((tilled.num 0x201004 - 1) % 4096, posted tilled 2 {})] }

theorem meets_IdleTimer_record :
    takeable (SMap.get {} tilled.hopper ((tilled.num 0x201004 - 1) % 4096)) (tilled.num 0x201004) = false ∧
      takeable (SMap.get {} waitingRecord.hopper ((waitingRecord.num 0x201004 - 1) % 4096)) (waitingRecord.num 0x201004) = true ∧
      waitingRecord.ctl.cur = .tilled ∧ waitingRecord.num 0x100204 ≠ 0 := by
  decide +kernel

theorem meets_PatrolReads_stores :
    growing.job.isSome = true ∧ (growing.plotAt 0).isSome = true ∧ growing.linePoison 5 = false := by decide +kernel

/-- A device whose pattern set verifies. -/
def withPatterns : State := { tilled with flash := { patterns := some { imageType := 4 } } }

theorem meets_GleanerSweep_patterns :
    (Canonical withPatterns ∧ withPatterns.patternsOk = true ∧ withPatterns.ctl.cur = .tilled ∧
      VerbAsked withPatterns (ask 3 0x607001 [4, 0, 0, 0])) ∧
      leNat [(4 : Byte), 0, 0, 0] ||| gleanMask = gleanMask ∧ leNat [(0 : Byte), 0, 0, 0x80] ||| gleanMask ≠ gleanMask ∧
      (gleaningAt [4] true).recovery.gleanStop = true ∧ growing.ctl.cur ≠ .tilled := by
  refine ⟨⟨?_, ?_, ?_, verb_asked (by decide +kernel) (by decide +kernel)⟩, ?_⟩ <;> (try unfold Canonical) <;> decide +kernel

/-- A job whose tensor 5 stands on ranks 0 and 1, both primary, and a repair of its first tile. -/
def mirrored (tried : List Nat) : State :=
  let p (r : Nat) : Placement := { tensorId := 5, boCount := 1, rank := r, store := 1, primary := true }
  { member growing 2 0 with
    job := some { aJob with binary := { phaseMaps := { phases := [{ placementCount := 2, kind := 5 }], placements := [p 0, p 1] } } }
    recovery := { repairs := [{ tensorId := 5, asked := 1, tried := tried }] } }

theorem meets_ReplicaRepair_peers :
    ((mirrored []).repairPeers { tensorId := 5 }).find? (fun r => !has [] r) = some 1 ∧
      ((mirrored [1]).repairPeers { tensorId := 5 }).find? (fun r => !has [1] r) = none ∧
      (mirrored []).recovery.repairs.find? (fun y => y.asked != (mirrored []).rank) = some { tensorId := 5, asked := 1 } ∧
      holdsTile.goodSealed 5 0 0 {} = false ∧ Canonical (mirrored []) := by
  unfold Canonical
  decide +kernel

theorem meets_Attestation_fallow :
    Asked (inState tilled .fallow) (ask 3 0x901102 []) ∧ (inState tilled .fallow).ctl.closed = false ∧ (inState tilled .fallow).ctl.cur = .fallow ∧
      tilled.sec.attestNonce = none := by
  refine ⟨asked_mirror (by decide +kernel), ?_⟩
  decide +kernel

/-- A device that was isolated, at a commit step with a later roster, its late set's pass at a stage. -/
def lateSet (stage : Nat) (late : Bool) : State :=
  let s := (((inSeasons (share 0x3F800000) stage false).setNum 0x500004 6).setNum 0x500005 0).setNum 0x205001 3
  { s with seasons := { s.seasons with
      wasIsolated := true, winnowLate := late, nextBoundary := 10, rosters := [{ season := 4 }] } }

/-- The same at its commit step with a join due, its anchor fetched, and readiness as said. -/
def joining (ready : List (Nat × Nat × CommitMode)) : State :=
  { committing none ready with seasons := { (committing none ready).seasons with joinDue := true, fetched := some 4 } }

theorem meets_WinnowPasses_sets :
    (inSeasons (share 0x3F800000) 0 true).seasons.winnowDue = true ∧ (inSeasons (share 0x3F800000) 0 true).seasons.winnowStage = 0 ∧
      Canonical (inSeasons (share 0x3F800000) 0 true) ∧ (inSeasons (share 0x3F800000) 0 true).winnowPoisoned = false ∧
      (inSeasons (share 0x7FC00000) 0 true).passBlocks (share 0x7FC00000) false (inSeasons (share 0x7FC00000) 0 true).fresh = none ∧
      (inSeasons (share 0x7FC00000) 0 true).ownTensors = [share 0x7FC00000] ∧
      (lateSet 0 false).lateDue = true ∧ (lateSet 0 false).seasons.winnowDue = false ∧ (lateSet 0 false).winnowPoisoned = false ∧
      ((lateSet 0 false).passBlocks (share 0x3F800000) true (lateSet 0 false).fresh).isSome = true ∧ Canonical (lateSet 0 false) ∧
      (inSeasons (share 0x3F800000) 0 false).lateDue = false ∧ (lateSet 1 true).seasons.winnowLate = true := by
  unfold Canonical
  decide +kernel

theorem meets_MergeSum_ready :
    (warden [3, 0] [{ season := 1 }]).seasons.winnowDue = false ∧ (warden [3, 0] [{ season := 1 }]).seasons.winnowStage ≠ 1 ∧
      (warden [3, 0] [{ season := 1 }]).num 0x500001 ≠ 0 ∧ (warden [3, 0] [{ season := 1 }]).job = some seasonJob ∧
      (member (warden [3, 0] [{ season := 1 }]) 4 2).isLead = false ∧
      (member (warden [3, 0] [{ season := 1 }]) 4 2).routePort (member (warden [3, 0] [{ season := 1 }]) 4 2).leadRank = none ∧
      (warden [3, 0] [{ season := 1 }]).tensorsPoisoned ((warden [3, 0] [{ season := 1 }]).seasons.tensors.map (·.decl.merge)) = false := by
  decide +kernel

theorem meets_CommitModes_join :
    (joining [(0, 4, .join)]).joinAhead = true ∧ (joining [(0, 4, .join)]).seasons.fetched = some 4 ∧ (joining []).choosing = true ∧
      (∀ r ∈ (if (joining [(0, 4, .join)]).formed = true then List.range (joining [(0, 4, .join)]).teamSize
        else [(joining [(0, 4, .join)]).rank]), (r, 4, CommitMode.join) ∈ (joining [(0, 4, .join)]).seasons.ready) := by
  decide +kernel

end Sys2Proof.Tests
end

/-! Field formats: what a Field-w element decodes to (R35, R38) and where packed elements lie in their bytes (R37). A packed
block is the number whose digits in base 2^w are its elements, so element i is the digit of weight 2^(w·i). -/

namespace Sys2Proof.Proofs

open Sys2Proof Machine

/-! ### Field-w elements (R35) -/

theorem decodeField_of_ne_void {w x v : Nat} (hx : x ≠ 255) :
    decodeField w x v = .fin (ofPattern w v) ((x : Int) - 127 - ((w : Int) - 2)) := if_neg hx

@[simp] theorem decodeField_void (w v : Nat) : decodeField w 255 v = .nan := if_pos rfl

/-- Settles O58: below the void byte a Field element has its value, and at it no element is finite. -/
theorem fieldElements : Obligations.FieldElements := by
  intro w x v _ _
  constructor
  · exact decodeField_of_ne_void
  · rintro rfl
    rw [decodeField_void]
    rfl

/-! ### Reading packed elements (R37) -/

theorem bitsOf_element {w : Nat} (hw : 0 < w) (i v : Nat) :
    bitsOf (w * i + w - 1) (w * i) v = v / 2 ^ (w * i) % 2 ^ w := by
  have hwidth : w * i + w - 1 + 1 - w * i = w := by omega
  rw [bitsOf, hwidth]

theorem unpack_getElem? {w n i : Nat} (bs : List Byte) (hw : 0 < w) (hi : i < n) :
    (unpack w n bs)[i]? = some (leNat bs / 2 ^ (w * i) % 2 ^ w) := by
  rw [unpack, List.getElem?_map, List.getElem?_range hi, Option.map_some, bitsOf_element hw]

/-! ### Writing packed elements (R37) -/

/-- The number that `pack` writes: the low w bits of each element, as digits in base 2^w. -/
def packedNat (w : Nat) (es : List Nat) : Nat := es.foldr (fun e acc => e % 2 ^ w + 2 ^ w * acc) 0

theorem packedNat_cons (w e : Nat) (es : List Nat) :
    packedNat w (e :: es) = e % 2 ^ w + 2 ^ w * packedNat w es := rfl

theorem pack_eq_leBytes (w : Nat) (es : List Nat) : pack w es = leBytes ((es.length * w + 7) / 8) (packedNat w es) := rfl

theorem packedNat_cons_mod (w e : Nat) (es : List Nat) : packedNat w (e :: es) % 2 ^ w = e % 2 ^ w := by
  rw [packedNat_cons, Nat.add_mul_mod_self_left, Nat.mod_mod]

theorem packedNat_cons_div (w e : Nat) (es : List Nat) : packedNat w (e :: es) / 2 ^ w = packedNat w es := by
  have hdigit : e % 2 ^ w < 2 ^ w := Nat.mod_lt _ (Nat.two_pow_pos w)
  rw [packedNat_cons, Nat.add_mul_div_left _ _ (Nat.two_pow_pos w), Nat.div_eq_of_lt hdigit, Nat.zero_add]

theorem packedNat_lt (w : Nat) (es : List Nat) : packedNat w es < 2 ^ (es.length * w) := by
  induction es with
  | nil => exact Nat.two_pow_pos _
  | cons e es ih =>
    rw [List.length_cons, Nat.succ_mul, Nat.pow_add, ← Nat.div_lt_iff_lt_mul (Nat.two_pow_pos w), packedNat_cons_div]
    exact ih

/-- Digit i of the packed number is the low w bits of element i. -/
theorem packedNat_element {w i : Nat} {es : List Nat} (hi : i < es.length) :
    packedNat w es / 2 ^ (w * i) % 2 ^ w = es[i] % 2 ^ w := by
  induction es generalizing i with
  | nil => exact absurd hi (Nat.not_lt_zero i)
  | cons e es ih =>
    cases i with
    | zero => rw [Nat.mul_zero, Nat.pow_zero, Nat.div_one, packedNat_cons_mod, List.getElem_cons_zero]
    | succ i =>
      rw [Nat.mul_succ, Nat.add_comm, Nat.pow_add, ← Nat.div_div_eq_div_mul, packedNat_cons_div, List.getElem_cons_succ]
      exact ih (Nat.lt_of_succ_lt_succ hi)

@[simp] theorem pack_length (w : Nat) (es : List Nat) : (pack w es).length = (es.length * w + 7) / 8 :=
  Tests.leBytes_length _ _

/-- The bytes of `pack` are as many as hold the packed number, so it is read back whole. -/
theorem leNat_pack (w : Nat) (es : List Nat) : leNat (pack w es) = packedNat w es := by
  have hfits : packedNat w es < 256 ^ ((es.length * w + 7) / 8) := calc
    packedNat w es < 2 ^ (es.length * w) := packedNat_lt w es
    _ ≤ 2 ^ (8 * ((es.length * w + 7) / 8)) := Nat.pow_le_pow_right Nat.two_pos (by omega)
    _ = 256 ^ ((es.length * w + 7) / 8) := Nat.pow_mul 2 8 _
  rw [pack_eq_leBytes, Tests.leNat_leBytes, Nat.mod_eq_of_lt hfits]

/-- Settles O59: reading takes, and writing fills, the w bits from bit w·i on; 12 and 20 are no multiples of a byte. -/
theorem blockPacking : Obligations.BlockPacking := by
  refine ⟨?reads, ?writes, by decide, by decide⟩
  case reads => exact fun w i bs hw hi => unpack_getElem? bs hw hi
  case writes =>
    intro w i es _ hlen hes hi
    have hi' : i < es.length := hlen ▸ hi
    constructor
    · rw [pack_length, hlen]
      omega
    · rw [leNat_pack, packedNat_element hi', Nat.mod_eq_of_lt (hes _ (List.getElem_mem hi')), List.getElem?_eq_getElem hi']

end Sys2Proof.Proofs

/-! Time of day from the ring (R381): when a device takes the frame, and the time it keeps from the next PPS edge on. -/

namespace Sys2Proof.Proofs

open Sys2Proof Machine

/-! ### The frame and its window (R381) -/

/-- The window of R381 in cycles of 0.625 ns (R12). -/
theorem inWindow_iff (c : Nat) :
    (decide (cyclesOfMs 100 ≤ c) && decide (c ≤ cyclesOfMs 900)) = true ↔ 160000000 ≤ c ∧ c ≤ 1440000000 := by
  rw [Bool.and_eq_true, decide_eq_true_eq, decide_eq_true_eq]
  rfl

/-- With an open bypass the frame is passed on; it is taken when time_source is 0x01 and the window after the last edge is open. -/
theorem timeOfDay_of_bypassOpen {arrival : Cycle} {ns : Nat} {s : State} (hkeep : s.ctl.keepsTime = true)
    (hopen : s.ctl.bypassOpen = true) :
    timeOfDay arrival ns s =
      if s.num 0x503001 = 1 ∧ ∃ p, s.time.lastPps = some p ∧ 160000000 ≤ (arrival - p).toNat ∧ (arrival - p).toNat ≤ 1440000000 then
        { s.send (.timeOfDay ns) with time := { s.time with waitingTod := some ns } }
      else s.send (.timeOfDay ns) := by
  rw [timeOfDay, if_pos hopen]
  by_cases hsource : s.num 0x503001 = 1
  · cases hpps : s.time.lastPps with
    | none => simp [hkeep, hopen, hsource, hpps]
    | some p =>
      simp only [hkeep, hopen, hsource, hpps, State.send_ctl, State.send_num, State.send_time, Bool.and_self,
        beq_self_eq_true, true_and, if_true, Option.some.injEq, exists_eq_left']
      exact ite_congr (propext (inWindow_iff _)) (fun _ => rfl) fun _ => rfl
  · simp [hsource]

/-! ### The next edge (R381, R449) -/

theorem isSecond_iff (c : Nat) : isSecond c = true ↔ 1599984000 ≤ c ∧ c ≤ 1600016000 := by
  simp only [isSecond, Bool.and_eq_true, decide_eq_true_eq]
  rfl

/-- A pulse of a valid length whose edge falls a second after the last accepted edge is accepted. -/
theorem ppsEdge_eq_acceptEdge {stamp p : Cycle} {highNs : Nat} {s : State} (hkeep : s.ctl.keepsTime = true)
    (hpps : s.time.lastPps = some p) (hsecond : isSecond (stamp - p).toNat = true) (hlow : 1000 ≤ highNs)
    (hhigh : highNs ≤ 500000000) : ppsEdge stamp highNs s = (s.upTo stamp).acceptEdge stamp := by
  have hrunning : ¬(!s.ctl.keepsTime) = true := by simp [hkeep]
  have hpulse : ¬(decide (highNs < 1000) || decide (500000000 < highNs)) = true := by
    simp only [Bool.or_eq_true, decide_eq_true_eq]
    omega
  have hlast : (s.upTo stamp).time.lastPps = some p := hpps
  simp only [ppsEdge, if_neg hrunning, if_neg hpulse, hlast]
  exact if_pos hsecond

theorem timeAtEdge_of_waitingTod {s : State} {ns : Nat} (stamp : Cycle) (hsource : s.num 0x503001 = 1)
    (hwait : s.time.waitingTod = some ns) : s.timeAtEdge stamp = some ns := by
  simp [State.timeAtEdge, hsource, hwait]

/-- Of site time, time_state moves the instant of the loss alone. -/
theorem settleTime_time (s : State) : s.settleTime.time = { s.time with lostAt := s.settleTime.time.lostAt } := by
  unfold State.settleTime
  dsimp only
  repeat' split
  all_goals rfl

/-- An accepted edge for which a time was announced takes that time, and none is announced any more. -/
theorem acceptEdge_time {s : State} {stamp : Cycle} {ns : Nat} (h : s.timeAtEdge stamp = some ns) :
    (s.acceptEdge stamp).time.gnssAtPps = ns ∧ (s.acceptEdge stamp).time.todOk = true ∧
      (s.acceptEdge stamp).time.waitingTod = none := by
  rw [State.acceptEdge, settleTime_time, h]
  exact ⟨rfl, rfl, rfl⟩

/-- Settles O12: the window of R381 decides whether the frame waits; the edge that follows applies what waits. -/
theorem timeOfDayFrame : Obligations.TimeOfDayFrame := by
  refine ⟨?frame, ?edge⟩
  case frame =>
    intro arrival ns s hkeep hopen
    have hframe : exec (.timeOfDay arrival ns) s = .next (timeOfDay arrival ns s) := rfl
    rw [hframe, timeOfDay_of_bypassOpen hkeep hopen]
    constructor
    · intro p hsource hpps hlo hhi
      rw [if_pos ⟨hsource, p, hpps, hlo, hhi⟩]
      rfl
    · intro hout
      rw [if_neg]
      · rfl
      · rintro ⟨hsource, p, hpps, hlo, hhi⟩
        obtain hother | hnone | ⟨q, hq, hwindow⟩ := hout
        · exact hother hsource
        · exact Option.some_ne_none p (hpps.symm.trans hnone)
        · obtain rfl : p = q := Option.some.inj (hpps.symm.trans hq)
          omega
  case edge =>
    intro stamp p ns highNs s hkeep hsource hwait hpps hlo hhi hlow hhigh
    have haccept := ppsEdge_eq_acceptEdge hkeep hpps ((isSecond_iff _).2 ⟨hlo, hhi⟩) hlow hhigh
    have htime : (s.upTo stamp).timeAtEdge stamp = some ns := timeAtEdge_of_waitingTod stamp hsource hwait
    exact ⟨_, congrArg Host.Outcome.next haccept, acceptEdge_time htime⟩

end Sys2Proof.Proofs

/-! Requests on the ring (R375, R379, R380): a device answers a request once and keeps the answer. Whatever follows the answer
takes no message back and leaves the stored answers alone, so a request that comes again finds its answer and acts no more. -/

namespace Sys2Proof.Proofs

open Sys2Proof Machine

/-! ### What keeps the answers -/

/-- From one state to another the stored answers stay, and every message that has left has left. -/
structure KeepsAnswers (s t : State) : Prop where
  answered : t.ctl.answered = s.ctl.answered
  outbox : s.outbox ⊆ t.outbox

namespace KeepsAnswers

variable {s t u : State}

theorem refl (s : State) : KeepsAnswers s s := ⟨rfl, List.Subset.refl _⟩

/-- A change of anything but the stored answers and the outbox keeps the answers. Its uses write `by rfl`, which waits until the
goal has told the changed state. -/
theorem frame (h : KeepsAnswers s t) (hu : (u.ctl.answered, u.outbox) = (t.ctl.answered, t.outbox)) : KeepsAnswers s u := by
  obtain ⟨ha, ho⟩ := Prod.mk.inj hu
  exact ⟨ha.trans h.answered, ho ▸ h.outbox⟩

theorem ite {p : Prop} [Decidable p] (ht : KeepsAnswers s t) (hu : KeepsAnswers s u) : KeepsAnswers s (if p then t else u) := by
  split
  · exact ht
  · exact hu

theorem foldl {α : Type} {f : State → α → State} (hf : ∀ t a, KeepsAnswers s t → KeepsAnswers s (f t a)) {l : List α}
    (h : KeepsAnswers s t) : KeepsAnswers s (l.foldl f t) := by
  induction l generalizing t with
  | nil => exact h
  | cons a l ih => exact ih (hf t a h)

theorem setNum (h : KeepsAnswers s t) {k v : Nat} : KeepsAnswers s (t.setNum k v) := h.frame (by rfl)

theorem bump (h : KeepsAnswers s t) {k n : Nat} : KeepsAnswers s (t.bump k n) := h.setNum

theorem mapJob (h : KeepsAnswers s t) {f : Job → Job} : KeepsAnswers s (t.mapJob f) := h.frame (by rfl)

theorem mapFabric (h : KeepsAnswers s t) {f : Fabric → Fabric} : KeepsAnswers s (t.mapFabric f) := h.frame (by rfl)

theorem sendAll (h : KeepsAnswers s t) {ms : List OutMsg} : KeepsAnswers s (t.sendAll ms) :=
  ⟨h.answered, List.Subset.trans h.outbox (List.subset_append_left _ _)⟩

theorem send (h : KeepsAnswers s t) {m : OutMsg} : KeepsAnswers s (t.send m) := h.sendAll

theorem withSec (h : KeepsAnswers s t) {x : Security} : KeepsAnswers s { t with sec := x } := h.frame (by rfl)

/-! #### Events and the device state (R29, R404) -/

theorem notice (h : KeepsAnswers s t) : KeepsAnswers s t.notice := .ite h.send h

theorem deliver (h : KeepsAnswers s t) {v : Nat} : KeepsAnswers s (t.deliver v) := .ite h (.ite h.send (h.frame (by rfl)))

theorem signal (h : KeepsAnswers s t) {v : Nat} : KeepsAnswers s (t.signal v) := h.notice.deliver

theorem signalVec (h : KeepsAnswers s t) {v : Nat} : KeepsAnswers s (t.signalVec v) :=
  .ite (.ite (h.frame (by rfl)) (.frame h.signal (by rfl))) h.signal

theorem raise (h : KeepsAnswers s t) {v : Vec} : KeepsAnswers s (t.raise v) :=
  .ite h (.ite (.signalVec (h.frame (by rfl))) (h.frame (by rfl)))

theorem moveTo (h : KeepsAnswers s t) {cur tgt : DevState} : KeepsAnswers s (t.moveTo cur tgt) :=
  .ite h (.raise (h.frame (by rfl)))

theorem restIn (h : KeepsAnswers s t) {d : DevState} : KeepsAnswers s (t.restIn d) := h.moveTo

/-! #### Boot, resets and Fallow (R31, R369, R421, R425) -/

theorem resetCxl (h : KeepsAnswers s t) : KeepsAnswers s t.resetCxl := by
  unfold State.resetCxl
  dsimp only
  repeat' split
  all_goals exact h.frame (by rfl)

theorem cxlDown (h : KeepsAnswers s t) : KeepsAnswers s t.cxlDown := h.resetCxl.frame (by rfl)

theorem enterFallow (h : KeepsAnswers s t) : KeepsAnswers s t.enterFallow := by
  have hports : KeepsAnswers s t.stopPorts := h.frame (by rfl)
  exact .restIn (hports.cxlDown.frame (by rfl))

theorem enterFaulted (h : KeepsAnswers s t) {cause domain : Nat} {sig : BitVec 128} :
    KeepsAnswers s (t.enterFaulted cause domain sig) := by
  have hlog : KeepsAnswers s (t.logFault cause domain sig) := h.frame (by rfl)
  have hscrub : KeepsAnswers s (t.logFault cause domain sig).scrub := hlog.frame (by rfl)
  unfold State.enterFaulted
  refine .raise (.restIn (.frame (.sendAll (.frame (.ite (.cxlDown ?_) ?_) (by rfl))) (by rfl)))
  all_goals exact .frame (.ite hscrub hlog) (by rfl)

theorem beginBoot (h : KeepsAnswers s t) : KeepsAnswers s t.beginBoot :=
  have hboot : KeepsAnswers s ((t.mapCtl fun c => { c with stage := .ring, bootFault := false, flashBlocked := false }).moveTo
      .fallow .tilled) := .moveTo (h.frame (by rfl))
  .ite h.enterFaulted (.ite (hboot.frame (by rfl)) (hboot.frame (by rfl)))

theorem deviceReset (h : KeepsAnswers s t) : KeepsAnswers s t.deviceReset := .beginBoot (h.frame (by rfl))

theorem wakeUp (h : KeepsAnswers s t) : KeepsAnswers s t.wakeUp := .ite (.beginBoot (h.frame (by rfl))) h

/-! #### The formation of a team (R242, R243) -/

theorem settlePorts (h : KeepsAnswers s t) : KeepsAnswers s t.settlePorts :=
  h.foldl fun _ _ hu => .ite (hu.frame (by rfl)) hu

theorem settleTree (h : KeepsAnswers s t) : KeepsAnswers s t.settleTree := by
  unfold State.settleTree
  dsimp only
  repeat' split
  all_goals exact h.frame (by rfl)

theorem failForming (h : KeepsAnswers s t) : KeepsAnswers s t.failForming := .raise (h.frame (by rfl))

theorem formTeam (h : KeepsAnswers s t) {dMax : Nat} : KeepsAnswers s (t.formTeam dMax) := .raise (h.frame (by rfl))

theorem settleForming (h : KeepsAnswers s t) : KeepsAnswers s t.settleForming := by
  unfold State.settleForming
  refine .ite h (.ite h.failForming (.ite ?lead ?other))
  case lead => exact .ite h (.ite h.failForming (.ite h.formTeam h))
  case other =>
    split
    · exact h.formTeam
    · exact h

theorem sendIdentities (h : KeepsAnswers s t) : KeepsAnswers s t.sendIdentities := .ite h.sendAll h

theorem beginForming (h : KeepsAnswers s t) : KeepsAnswers s t.beginForming :=
  .sendIdentities (.settleForming (.settleTree (.settlePorts (.mapFabric
    h.setNum.setNum.setNum.setNum.setNum.setNum.setNum))))

/-! #### The Gleaner's sweep (R359, R360) -/

theorem mapHeadland (h : KeepsAnswers s t) {d : Nat} {f : Port → Port} : KeepsAnswers s (t.mapHeadland d f) :=
  h.foldl fun _ _ hu => hu.frame (by rfl)

theorem beginGlean (h : KeepsAnswers s t) {d : Nat} : KeepsAnswers s (t.beginGlean d) :=
  .frame h.mapHeadland (by rfl)

theorem endGlean (h : KeepsAnswers s t) : KeepsAnswers s t.endGlean :=
  .raise (.restIn (.setNum (.frame h.mapHeadland (by rfl))))

theorem nextGlean (h : KeepsAnswers s t) : KeepsAnswers s t.nextGlean := by
  unfold State.nextGlean
  split
  · exact .ite h.endGlean h.beginGlean
  · exact h.endGlean

theorem startSweep (h : KeepsAnswers s t) {v : Nat} : KeepsAnswers s (t.startSweep v) := by
  have hstart : KeepsAnswers s (State.restIn ((gleanSelected v).foldl (fun s d => s.setNum (0x607100 + d) 0)
      { t with host := { t.host with held := [] } }) .gleaning) :=
    .restIn (.foldl (fun _ _ hu => hu.frame (by rfl)) (h.frame (by rfl)))
  exact .ite (.nextGlean (hstart.frame (by rfl))) hstart.endGlean

/-! #### Records and the Ledger (R213, R217, R403) -/

theorem complete (h : KeepsAnswers s t) {ticket : W64} {c : Completion} : KeepsAnswers s (t.complete ticket c) :=
  .raise (h.frame (by rfl))

theorem completeOthers (h : KeepsAnswers s t) {status : Nat} {except : List W64} {undone : Bool} :
    KeepsAnswers s (t.completeOthers status except undone) :=
  .mapJob (h.foldl fun _ _ hu => hu.complete)

theorem settleLedger (h : KeepsAnswers s t) : KeepsAnswers s t.settleLedger :=
  .ite (.raise (h.frame (by rfl))) (h.frame (by rfl))

theorem ledgerGap (h : KeepsAnswers s t) : KeepsAnswers s t.ledgerGap.1 := by
  by_cases hgap : t.num 0x801003 + 2 ^ 20 ≤ t.num 0x801002
  · simp only [State.ledgerGap, if_pos hgap]
    exact h.setNum.bump
  · simp only [State.ledgerGap, if_neg hgap]
    exact h

/-- The function is unfolded before it is applied: unfolded at its arguments, the kernel would evaluate the ring sizes in unary. -/
theorem appendLedger (h : KeepsAnswers s t) {r : LedgerRecord} : KeepsAnswers s (t.appendLedger r) := by
  have hgap := h.ledgerGap
  generalize hf : State.appendLedger = f
  delta State.appendLedger at hf
  subst hf
  dsimp -zeta -iota -proj only
  generalize t.ledgerGap = g at hgap ⊢
  obtain ⟨u, gap⟩ := g
  exact .settleLedger (.setNum (hgap.frame (by rfl)))

/-! #### The undo (R146) -/

theorem dropTaps (h : KeepsAnswers s t) {a : Attempt} : KeepsAnswers s (t.dropTaps a) := .setNum (h.frame (by rfl))

theorem clearEvaluationTiles (h : KeepsAnswers s t) : KeepsAnswers s t.clearEvaluationTiles := h.frame (by rfl)

theorem undoFabric (h : KeepsAnswers s t) {u : List W32} : KeepsAnswers s (t.undoFabric u) := h.frame (by rfl)

theorem withStores (h : KeepsAnswers s t) {plots : List Plot} {pool : SMap Region} {records : Records} :
    KeepsAnswers s { t with plots := plots, pool := pool, records := records } := h.frame (by rfl)

theorem beginUndo (h : KeepsAnswers s t) {floor : Nat} : KeepsAnswers s (t.beginUndo floor) := by
  have hcount : ∀ f n, KeepsAnswers s (((t.mapJob f).bump 0x605006).bump 0x605007 n) := fun _ _ => h.mapJob.bump.bump
  exact .undoFabric (.ite (.clearEvaluationTiles (.withStores (hcount _ _))) (.withStores (hcount _ _)))

/-! #### The Harvest (R32, R346, R365, R368) -/

theorem withHarvest (h : KeepsAnswers s t) {x : Option HarvestRun} : KeepsAnswers s { t with harvest := x } := h.frame (by rfl)

theorem jobEnd (h : KeepsAnswers s t) : KeepsAnswers s t.jobEnd := .withHarvest (.raise h.appendLedger)

theorem afterStop (h : KeepsAnswers s t) : KeepsAnswers s t.afterStop := by
  unfold State.afterStop
  split
  · exact h
  · exact .ite h.jobEnd h.withHarvest

theorem stopJob (h : KeepsAnswers s t) : KeepsAnswers s t.stopJob := by
  unfold State.stopJob
  dsimp only
  refine .ite ?_ (.afterStop (.mapJob ?_))
  all_goals exact .mapJob (.completeOthers (.ite (.beginUndo h.dropTaps) h))

theorem tryStop (h : KeepsAnswers s t) : KeepsAnswers s t.tryStop := by
  unfold State.tryStop
  split
  · exact .ite h.stopJob h
  · exact h

theorem fixStop (h : KeepsAnswers s t) : KeepsAnswers s t.fixStop := by
  unfold State.fixStop
  split
  · exact .ite (.tryStop (.ite (.send h.withHarvest) h.withHarvest)) h
  · exact h

theorem endDrill (h : KeepsAnswers s t) {d : Drill} {status : Nat} : KeepsAnswers s (t.endDrill d status) := by
  unfold State.endDrill
  refine .ite ?_ (.complete ?_)
  all_goals refine .ite (.setNum ?_) ?_
  all_goals exact .ite (h.frame (by rfl)) (.foldl (fun _ _ hu => hu.frame (by rfl)) (.bump (h.frame (by rfl))))

theorem abandonDrills (h : KeepsAnswers s t) : KeepsAnswers s t.abandonDrills := h.foldl fun _ _ hu => hu.endDrill

theorem enterHarvest (h : KeepsAnswers s t) {deadline : Cycle} {save holdMs : Nat} :
    KeepsAnswers s (t.enterHarvest deadline save holdMs) := by
  unfold State.enterHarvest
  split
  · exact h.withHarvest
  · exact .abandonDrills (.moveTo h.withHarvest)

theorem askHarvest (h : KeepsAnswers s t) {deadline : Cycle} {save holdMs : Nat} :
    KeepsAnswers s (t.askHarvest deadline save holdMs) := .ite h (.ite h.enterHarvest.fixStop h.enterHarvest.send)

theorem takeHarvest (h : KeepsAnswers s t) {v : Nat} : KeepsAnswers s (t.takeHarvest v) := .ite (h.frame (by rfl)) h.askHarvest

end KeepsAnswers

/-! ### Answers that are stored (R380) -/

/-- The stored answer that a request repeats. -/
def storedAnswer (r : Req) (s : State) : Option Answered :=
  s.ctl.answered.find? fun a => a.src == r.src && a.seq == r.seq && a.crc == r.crc

/-- What is stored when a request is answered. -/
def answerTo (r : Req) (abort : Option W32) (data : List Byte) : Answered :=
  { src := r.src, seq := r.seq, crc := r.crc, response := data, abort := abort }

/-- The answer to a request of the ring master takes the place of the one stored for that source, counts, and leaves. -/
theorem respond_of_master {r : Req} (hr : r.src = .master) (s : State) (abort : Option W32) (data : List Byte) :
    s.respond r abort data =
      ((s.mapCtl fun c => { c with answered := (c.answered.filter fun a => a.src != r.src) ++ [answerTo r abort data] }).bump
        0x101003).send (.response r abort data) := by
  simp only [State.respond, answerTo, hr]

theorem storedAnswer_respond {r : Req} (hr : r.src = .master) (s : State) (abort : Option W32) (data : List Byte) :
    storedAnswer r (s.respond r abort data) = some (answerTo r abort data) := by
  have hothers : (s.ctl.answered.filter fun a => a.src != r.src).find?
      (fun a => a.src == r.src && a.seq == r.seq && a.crc == r.crc) = none := by
    rw [List.find?_eq_none]
    intro a ha
    have hsrc : a.src ≠ r.src := bne_iff_ne.1 (List.mem_filter.1 ha).2
    simp [hsrc]
  rw [storedAnswer, respond_of_master hr]
  simp [hothers, answerTo]

theorem response_mem_respond {r : Req} (hr : r.src = .master) (s : State) (abort : Option W32) (data : List Byte) :
    OutMsg.response r abort data ∈ (s.respond r abort data).outbox := by
  simp [respond_of_master hr]

theorem hasAnswer_of_mem {r : Req} (hr : r.src = .master) {abort : Option W32} {data : List Byte} {t : State}
    (h : OutMsg.response r abort data ∈ t.outbox) : HasAnswer r abort data t := by
  simpa only [HasAnswer, hr] using h

/-- What has left as the answer to a request is what is stored for it. -/
def AnswerStored (r : Req) (t : State) : Prop := ∃ a, storedAnswer r t = some a ∧ HasAnswer r a.abort a.response t

/-- After an answer, what keeps the answers leaves it both sent and stored. -/
theorem answerStored_of_respond {r : Req} (hr : r.src = .master) {s t : State} {abort : Option W32} {data : List Byte}
    (h : KeepsAnswers (s.respond r abort data) t) : AnswerStored r t := by
  refine ⟨answerTo r abort data, ?_, hasAnswer_of_mem hr (h.outbox (response_mem_respond hr s abort data))⟩
  rw [storedAnswer, h.answered]
  exact storedAnswer_respond hr s abort data

/-- The stored answer that a request repeats is the answer to that request. -/
theorem eq_answerTo_of_storedAnswer {r : Req} {s : State} {a : Answered} (h : storedAnswer r s = some a) :
    a = answerTo r a.abort a.response := by
  have hmatch := List.find?_some h
  simp only [Bool.and_eq_true, beq_iff_eq] at hmatch
  obtain ⟨⟨hsrc, hseq⟩, hcrc⟩ := hmatch
  rw [answerTo, ← hsrc, ← hseq, ← hcrc]

/-! ### How a request is received (R375, R379, R380, R389) -/

section

variable {r : Req} {s : State} {op : BitVec 4} {act : State → Except Abort (State × List Byte)} {after lost : State → State}

/-- A request that is executed is answered once, after which only its effect follows. -/
theorem execute_answers (hafter : ∀ t, KeepsAnswers t (after t)) :
    ∃ (u : State) (abort : Option W32) (data : List Byte),
      KeepsAnswers (u.respond r abort data) (s.execute r op act after lost) := by
  unfold State.execute
  dsimp only
  split
  · exact ⟨_, _, _, .refl _⟩
  · split
    · exact ⟨_, _, _, .refl _⟩
    · split
      · exact ⟨_, _, _, .refl _⟩
      · split
        · exact ⟨_, _, _, .refl _⟩
        · exact ⟨_, _, _, hafter _⟩

/-- A frame with another address than the device's goes on along the ring. -/
def passedOn (r : Req) (s : State) : State :=
  if r.dest = BitVec.ofNat 8 (s.num 0x101001) && BitVec.ofNat 8 (s.num 0x101001) ≠ 0 then s
  else s.send (.ringForward (requestBytes r))

/-- A request comes from the ring to this device, under its address or the broadcast address (R375, R376). -/
def Addressed (s : State) (r : Req) : Prop :=
  s.ctl.bypassOpen = true ∧ BitVec.ofNat 8 (s.num 0x101001) ≠ 0 ∧ (r.dest = BitVec.ofNat 8 (s.num 0x101001) ∨ r.dest = 0xFF)

theorem passedOn_frame : passedOn r s = { s with outbox := (passedOn r s).outbox } := by
  unfold passedOn
  split <;> rfl

theorem passedOn_ctl : (passedOn r s).ctl = s.ctl := by rw [passedOn_frame]

theorem passedOn_num (k : Nat) : (passedOn r s).num k = s.num k := by
  rw [passedOn_frame]
  rfl

/-- The answer to a request, and its passage along the ring, touch nothing but what answering may touch. -/
theorem onlyAnswers_respond (hr : r.src = .master) (abort : Option W32) (data : List Byte) :
    OnlyAnswers s ((passedOn r s).respond r abort data) := by
  rw [respond_of_master hr]
  have hctl : (passedOn r s).ctl = s.ctl := passedOn_ctl
  refine ⟨?_, (congrArg Ctl.cur hctl :), (congrArg Ctl.tgt hctl :), fun k hk => ?_⟩
  · rw [passedOn_frame]
    rfl
  · rw [State.send_num, State.num_bump_other _ _ hk.symm, State.mapCtl_num, passedOn_num]

/-- A request for this device is looked up among the stored answers, then judged by its epoch, then executed. -/
theorem receive_of_addressed (hr : r.src = .master) (h : Addressed s r) :
    s.receive r op act after lost =
      (storedAnswer r s).elim
        (if r.epoch = 0 || r.epoch ≠ BitVec.ofNat 8 (s.num 0x101002) then
          (passedOn r s).respond r (some Abort.epochStale.code) []
        else (passedOn r s).execute r op act after lost)
        fun a => (passedOn r s).respond r a.abort a.response := by
  obtain ⟨hopen, hown, hdest⟩ := h
  have hring : ¬(!s.ctl.bypassOpen) = true := by simp [hopen]
  have hhere : ¬(BitVec.ofNat 8 (s.num 0x101001) = 0 || (r.dest ≠ BitVec.ofNat 8 (s.num 0x101001) && r.dest ≠ 0xFF)) = true := by
    simp only [Bool.or_eq_true, Bool.and_eq_true, decide_eq_true_eq]
    rintro (hnone | ⟨hother, hsome⟩)
    · exact hown hnone
    · exact hdest.elim hother hsome
  have hstored : storedAnswer r (passedOn r s) = storedAnswer r s := by rw [storedAnswer, passedOn_ctl, storedAnswer]
  rw [← hstored, ← passedOn_num (r := r) (s := s) 0x101002]
  unfold State.receive
  split
  case h_1 n hmirror => exact nomatch hr.symm.trans hmirror
  case h_2 =>
    dsimp only
    rw [if_neg hring, if_neg hhere]
    split
    case h_1 a ha => rw [show storedAnswer r (passedOn r s) = some a from ha]; rfl
    case h_2 ha => rw [show storedAnswer r (passedOn r s) = none from ha]; rfl

/-- A repeated request is answered with what is stored, and nothing is executed (R380). -/
theorem receive_of_stored (hr : r.src = .master) (h : Addressed s r) {a : Answered} (ha : storedAnswer r s = some a) :
    s.receive r op act after lost = (passedOn r s).respond r a.abort a.response := by
  rw [receive_of_addressed hr h, ha, Option.elim_some]

/-- A request of the ring that the device has not answered yet is executed. -/
theorem receive_of_asked (hr : r.src = .master) (h : Asked s r) :
    s.receive r op act after lost = (passedOn r s).execute r op act after lost := by
  simp only [Asked, hr] at h
  obtain ⟨hopen, hown, hdest, hepoch, hpresent, hnew⟩ := h
  have hnone : storedAnswer r s = none := by simpa only [storedAnswer, hr] using hnew
  rw [receive_of_addressed hr ⟨hopen, hown, hdest⟩, hnone, Option.elim_none, if_neg]
  simpa [← hpresent] using hepoch

end

/-! ### The commands that carry a request -/

/-- A command is a request: received from the ring, with an effect after the answer that keeps the answers. -/
def IsRequest (r : Req) (c : Instr) : Prop :=
  ∃ op act after lost, (∀ t, KeepsAnswers t (after t)) ∧ ∀ s, exec c s = .next (s.receive r op act after lost)

theorem isRequest_of_verb {r : Req} {c : Instr} {accepted : DevState → Bool} {operandOk : Nat → Bool}
    {effect : Nat → State → State} (hc : ∀ s, exec c s = .next (s.takeVerb r accepted operandOk effect))
    (heffect : ∀ v t, KeepsAnswers t (effect v t)) : IsRequest r c :=
  ⟨3, _, effect (verbOperand r), id, heffect _, hc⟩

/-- A request whose whole effect comes before its answer. -/
theorem isRequest_of_receive {r : Req} {c : Instr} {op : BitVec 4} {act : State → Except Abort (State × List Byte)}
    {lost : State → State} (hc : ∀ s, exec c s = .next (s.receive r op act id lost)) : IsRequest r c :=
  ⟨op, act, id, lost, .refl, hc⟩

/-- The requests of R378, by their commands. -/
def requestCommands (r : Req) : List Instr :=
  [.read (.entry r), .write r, .begin_ r, .commit r, .rollBack r, .eventAck r, .exportCursorWrite r, .wake r, .fallow r,
    .reset r, .harvest r, .form r, .glean r, .attest r, .fwUpdate r, .rollbackCommit r]

theorem isRequest_fwUpdate (r : Req) : IsRequest r (.fwUpdate r) :=
  isRequest_of_verb (fun _ => rfl) fun _ t =>
    .ite (.refl t) (.ite (.setNum (.refl t)) (.ite (.withSec (.setNum (.refl t))) (.setNum (.refl t))))

theorem isRequest_rollbackCommit (r : Req) : IsRequest r (.rollbackCommit r) := by
  refine isRequest_of_verb (fun _ => rfl) fun _ t => ?_
  dsimp only
  split
  · exact .frame (.refl t) (by rfl)
  · exact .refl t

theorem isRequest_of_mem {r : Req} : ∀ c ∈ requestCommands r, IsRequest r c := by
  simp only [requestCommands, List.forall_mem_cons, List.not_mem_nil, false_imp_iff, implies_true, and_true]
  refine ⟨?_, ?_, ?_, ?_, ?_, ?_, ?_, ?wake, ?fallow, ?reset, ?harvest, ?form, ?glean, ?attest, isRequest_fwUpdate r,
    isRequest_rollbackCommit r⟩
  case wake => exact isRequest_of_verb (fun _ => rfl) fun _ t => .wakeUp (.refl t)
  case fallow => exact isRequest_of_verb (fun _ => rfl) fun _ t => .enterFallow (.refl t)
  case reset => exact isRequest_of_verb (fun _ => rfl) fun _ t => .ite (.refl t) (.deviceReset (.refl t))
  case harvest => exact isRequest_of_verb (fun _ => rfl) fun _ t => .takeHarvest (.refl t)
  case form => exact isRequest_of_verb (fun _ => rfl) fun _ t => .beginForming (.refl t)
  case glean => exact isRequest_of_verb (fun _ => rfl) fun _ t => .startSweep (.refl t)
  case attest => exact isRequest_of_verb (fun _ => rfl) fun _ t => .withSec (.refl t)
  all_goals exact isRequest_of_receive fun _ => rfl

/-- Settles O14: a request is answered once and its answer is stored; the same request again gets the stored answer alone. -/
theorem repeatedRequests : Obligations.RepeatedRequests := by
  intro r s hr
  refine ⟨?first, ?again⟩
  case first =>
    intro hasked c hc
    obtain ⟨op, act, after, lost, hafter, hexec⟩ := isRequest_of_mem c hc
    obtain ⟨u, abort, data, hkeeps⟩ := execute_answers (r := r) (s := passedOn r s) (op := op) (act := act) (lost := lost) hafter
    rw [hexec, receive_of_asked hr hasked]
    obtain ⟨a, hstored, hanswer⟩ := answerStored_of_respond hr hkeeps
    exact ⟨_, a, rfl, hstored, hanswer⟩
  case again =>
    intro a hopen hown hdest hstored c hc
    obtain ⟨op, act, after, lost, -, hexec⟩ := isRequest_of_mem c hc
    rw [hexec, receive_of_stored hr ⟨hopen, hown, hdest⟩ hstored]
    refine ⟨_, rfl, hasAnswer_of_mem hr (response_mem_respond hr _ _ _), onlyAnswers_respond hr _ _, ?_⟩
    rw [eq_answerTo_of_storedAnswer hstored]
    exact storedAnswer_respond hr _ _ _

end Sys2Proof.Proofs

/-! Verbs (R378, R389, R394), and the one that raises the rollback fuses (R432). A verb that its gate lets pass is answered first and
acts on the state that the answer leaves, from the ring and from a mirror slot alike, so what it changes is the answer's change and
its own effect. -/

namespace Sys2Proof.Proofs

open Sys2Proof Machine

/-! ### The answer to a request of any source (R378, R383) -/

theorem nth_eq_getD {α : Type} (d : α) (l : List α) (n : Nat) : nth d l n = l[n]?.getD d := by
  induction l generalizing n with
  | nil => rfl
  | cons a l ih => cases n with
    | zero => rfl
    | succ n => simpa [nth] using ih n

/-- What a mirror slot holds once its request is answered. -/
def answeredSlot (r : Req) (abort : Option W32) (data : List Byte) : MirrorSlot :=
  let answers := r.op = 1 && abort.isNone
  { op := BitVec.ofNat 8 r.op.toNat, index := r.index, sub := r.sub, offset := r.offset
    length := if answers then data.length else r.length, result := abort.getD 0
    data := if answers then data else r.data, go := false, done := true }

section

variable {r : Req} {s : State} (abort : Option W32) (data : List Byte)

theorem respond_of_mirror {n : Nat} (hr : r.src = .mirror n) :
    s.respond r abort data =
      s.mapCtl fun c => { c with mirror := modifyNth (fun _ => answeredSlot r abort data) c.mirror n } := by
  simp only [State.respond, answeredSlot, hr]

theorem hasAnswer_of_slot {n : Nat} (hr : r.src = .mirror n) {t : State}
    (h : nth {} t.ctl.mirror n = answeredSlot r abort data) : HasAnswer r abort data t := by
  simp only [HasAnswer, hr, h]
  refine ⟨rfl, rfl, rfl, fun hread hok => ?_⟩
  simp [answeredSlot, hread, hok]

/-- The state in which a request is executed: one of the ring has gone on along it where its address says so. -/
def reached (r : Req) (s : State) : State :=
  match r.src with
  | .master => passedOn r s
  | .mirror _ => s

theorem reached_of_master (hr : r.src = .master) : reached r s = passedOn r s := by simp only [reached, hr]

theorem reached_of_mirror {n : Nat} (hr : r.src = .mirror n) : reached r s = s := by simp only [reached, hr]

theorem reached_ctl : (reached r s).ctl = s.ctl := by
  cases hr : r.src with
  | master => rw [reached_of_master hr, passedOn_ctl]
  | mirror n => rw [reached_of_mirror hr]

theorem hasAnswer_respond (h : Asked s r) : HasAnswer r abort data ((reached r s).respond r abort data) := by
  cases hr : r.src with
  | master => exact hasAnswer_of_mem hr (response_mem_respond hr _ _ _)
  | mirror n =>
    simp only [Asked, hr] at h
    obtain ⟨hslot, -, -⟩ := h
    apply hasAnswer_of_slot abort data hr
    rw [respond_of_mirror abort data hr, State.mapCtl_ctl, reached_ctl, nth_eq_getD, getElem?_modifyNth_same,
      List.getElem?_eq_getElem hslot]
    rfl

theorem onlyAnswers_respond_reached : OnlyAnswers s ((reached r s).respond r abort data) := by
  cases hr : r.src with
  | master =>
    rw [reached_of_master hr]
    exact onlyAnswers_respond hr abort data
  | mirror n =>
    rw [reached_of_mirror hr, respond_of_mirror abort data hr]
    exact ⟨rfl, rfl, rfl, fun _ _ => rfl⟩

end

/-! ### The execution of a request (R389) -/

section

variable {r : Req} {s : State} {op : BitVec 4} {act : State → Except Abort (State × List Byte)} {after lost : State → State}

/-- A request that comes for the first time is executed. -/
theorem receive_eq_execute (h : Asked s r) : s.receive r op act after lost = (reached r s).execute r op act after lost := by
  cases hr : r.src with
  | master => rw [receive_of_asked hr h, reached_of_master hr]
  | mirror n =>
    rw [reached_of_mirror hr]
    simp only [Asked, hr] at h
    obtain ⟨-, hup, hconfigured⟩ := h
    simp only [State.receive, hr, hup, hconfigured, Bool.and_self, if_true]

theorem execute_of_error (hres : r.reserved = 0) (hgate : s.gate r = none) (hop : r.op = op) {a : Abort} (hact : act s = .error a) :
    s.execute r op act after lost = (lost s).respond r (some a.code) [] := by
  simp [State.execute, reservedRefused, hres, hgate, hop, hact]

theorem execute_of_ok (hres : r.reserved = 0) (hgate : s.gate r = none) (hop : r.op = op) {t : State} {data : List Byte}
    (hact : act s = .ok (t, data)) : s.execute r op act after lost = after (t.respond r none data) := by
  simp [State.execute, reservedRefused, hres, hgate, hop, hact]

end

/-! ### Verbs (R389, R394) -/

section

variable {r : Req} {s : State} {accepted : DevState → Bool} {operandOk : Nat → Bool} {effect : Nat → State → State}

/-- The gate judges a request by the always-on domain alone. -/
theorem gate_reached : (reached r s).gate r = s.gate r := by
  simp only [State.gate, reached_ctl]

theorem takeVerb_of_wrongState (h : VerbAsked s r) (hstate : accepted s.ctl.cur = false) :
    s.takeVerb r accepted operandOk effect = (reached r s).respond r (some Abort.wrongState.code) [] := by
  obtain ⟨hasked, hres, hgate, hop, hoffset, hlen⟩ := h
  rw [State.takeVerb, receive_eq_execute hasked, execute_of_error hres (gate_reached.trans hgate) hop, id]
  simp [hoffset, hlen, reached_ctl, hstate]

theorem takeVerb_of_accepted (h : VerbAsked s r) (hstate : accepted s.ctl.cur = true)
    (hoperand : operandOk (verbOperand r) = true) :
    s.takeVerb r accepted operandOk effect = effect (verbOperand r) ((reached r s).respond r none []) := by
  obtain ⟨hasked, hres, hgate, hop, hoffset, hlen⟩ := h
  rw [State.takeVerb, receive_eq_execute hasked, execute_of_ok hres (gate_reached.trans hgate) hop]
  simp [hoffset, hlen, reached_ctl, hstate, hoperand]

end

/-! ### The rollback fuses (R429, R432) -/

/-- The fuses raised to an image's rollback index. -/
def raiseRollback (i : FwImage) (f : Fuses) : Fuses := { f with fwRollback := max f.fwRollback i.rollbackIndex }

section

variable {f : Fuses} {i x : FwImage}

theorem raiseRollback_of_le (h : f.fwRollback ≤ i.rollbackIndex) : raiseRollback i f = { f with fwRollback := i.rollbackIndex } := by
  rw [raiseRollback, Nat.max_eq_right h]

theorem raiseRollback_of_ge (h : i.rollbackIndex ≤ f.fwRollback) : raiseRollback i f = f := by
  rw [raiseRollback, Nat.max_eq_left h]

theorem imageOk_of_index_lt (h : x.rollbackIndex < f.fwRollback) : imageOk f x = false := by
  simp [imageOk, Nat.not_le.2 h]

/-- An image of a lower index than the one committed no longer verifies. -/
theorem imageOk_raiseRollback (h : x.rollbackIndex < i.rollbackIndex) : imageOk (raiseRollback i f) x = false :=
  imageOk_of_index_lt (Nat.lt_of_lt_of_le h (Nat.le_max_right _ _))

end

section

variable {r : Req} {s : State}

theorem rollbackCommit_of_not_tilled (h : VerbAsked s r) (hcur : s.ctl.cur ≠ .tilled) :
    rollbackCommit r s = (reached r s).respond r (some Abort.wrongState.code) [] :=
  takeVerb_of_wrongState h (by simp [tilledOnly, hcur])

/-- In Tilled, rollback_commit raises the fuses to the index of the control firmware in force and does nothing but that and its answer. -/
theorem rollbackCommit_of_tilled {i : FwImage} (h : VerbAsked s r) (hcur : s.ctl.cur = .tilled)
    (hi : oneImage s.sec.images 1 = some i) :
    rollbackCommit r s = { (reached r s).respond r none [] with fuses := raiseRollback i s.fuses } := by
  obtain ⟨hframe, -⟩ := onlyAnswers_respond_reached (r := r) (s := s) none []
  have hsec : ((reached r s).respond r none []).sec = s.sec := by rw [hframe]
  have hfuses : ((reached r s).respond r none []).fuses = s.fuses := by rw [hframe]
  rw [rollbackCommit, takeVerb_of_accepted h (by simp [tilledOnly, hcur]) rfl]
  simp only [hsec, hi, hfuses, raiseRollback]

end

/-- Settles O10: in Tilled the fuses rise to the greater of fw_rollback and the index in force; elsewhere only an answer follows. -/
theorem rollbackCommit : Obligations.RollbackCommit := by
  intro r s h _
  have hasked : Asked s r := h.1
  have hexec : exec (.rollbackCommit r) s = .next (Machine.rollbackCommit r s) := rfl
  rw [hexec]
  refine ⟨?elsewhere, ?tilled⟩
  case elsewhere =>
    intro hcur
    rw [rollbackCommit_of_not_tilled h hcur]
    exact ⟨_, rfl, hasAnswer_respond _ _ hasked, onlyAnswers_respond_reached _ _⟩
  case tilled =>
    intro i hcur hi
    rw [rollbackCommit_of_tilled h hcur hi]
    obtain ⟨hframe, -⟩ := onlyAnswers_respond_reached (r := r) (s := s) none []
    exact ⟨_, rfl, hasAnswer_respond none [] hasked, raiseRollback_of_le, raiseRollback_of_ge, fun _ => imageOk_raiseRollback,
      congrArg (fun t : State => { t with fuses := raiseRollback i s.fuses }) hframe⟩

end Sys2Proof.Proofs

/-! What every command keeps: the fuses, the queue behind it, and the canonical form of the stored values and the memories. Each
operation of the model gets one lemma, in the order of the definitions; a command's is put together from those of its parts. -/

namespace Sys2Proof.Proofs

open Sys2Proof Machine

/-- From one state to another the fuses and the queue stay, and stored values and memories stay in canonical form. -/
structure Keeps (s t : State) : Prop where
  fuses : t.fuses = s.fuses
  pending : t.pending = s.pending
  canonical : Canonical s → Canonical t

namespace Keeps

variable {s t u : State}

theorem refl (s : State) : Keeps s s := ⟨rfl, rfl, id⟩

theorem trans (h : Keeps s t) (h' : Keeps t u) : Keeps s u :=
  ⟨h'.fuses.trans h.fuses, h'.pending.trans h.pending, fun hs => h'.canonical (h.canonical hs)⟩

/-- A change of anything but the fuses, the queue, the stored values and the memories. -/
theorem frame (h : Keeps s t) (hu : (u.fuses, u.pending, u.nums, u.octs, u.host) = (t.fuses, t.pending, t.nums, t.octs, t.host)) :
    Keeps s u := by
  simp only [Prod.mk.injEq] at hu
  obtain ⟨hf, hp, hn, ho, hh⟩ := hu
  exact ⟨hf.trans h.fuses, hp.trans h.pending, fun hs => State.canonical_of_eq (h.canonical hs) hn ho hh⟩

theorem ite {p : Prop} [Decidable p] (ht : Keeps s t) (hu : Keeps s u) : Keeps s (if p then t else u) := by
  split
  · exact ht
  · exact hu

theorem foldl {α : Type} {f : State → α → State} (hf : ∀ t a, Keeps s t → Keeps s (f t a)) {l : List α} (h : Keeps s t) :
    Keeps s (l.foldl f t) := by
  induction l generalizing t with
  | nil => exact h
  | cons a l ih => exact ih (hf t a h)

/-- A state that comes with a result. -/
theorem of_eq {α : Type} {x : State × α} {a : α} (h : Keeps s x.1) (e : x = (u, a)) : Keeps s u := by
  rw [e] at h
  exact h

/-! #### Stored values and parts of the state -/

theorem setNum (h : Keeps s t) {k v : Nat} : Keeps s (t.setNum k v) :=
  ⟨h.fuses, h.pending, fun hs => State.canonical_setNum (h.canonical hs) k v⟩

theorem setOct (h : Keeps s t) {k : Nat} {v : List Byte} : Keeps s (t.setOct k v) :=
  ⟨h.fuses, h.pending, fun hs => State.canonical_setOct (h.canonical hs) k v⟩

theorem bump (h : Keeps s t) {k n : Nat} : Keeps s (t.bump k n) := h.setNum

theorem clearJobEntries (h : Keeps s t) : Keeps s t.clearJobEntries :=
  ⟨h.fuses, h.pending, fun hs => State.canonical_clearJobEntries (h.canonical hs)⟩

theorem send (h : Keeps s t) {m : OutMsg} : Keeps s (t.send m) := h.frame rfl

theorem sendAll (h : Keeps s t) {ms : List OutMsg} : Keeps s (t.sendAll ms) := h.frame rfl

theorem useFree (h : Keeps s t) : Keeps s t.useFree := h.frame rfl

theorem upTo (h : Keeps s t) {c : Cycle} : Keeps s (t.upTo c) := h.frame rfl

theorem upToPlot (h : Keeps s t) {c : Cycle} : Keeps s (t.upToPlot c) := .ite h h.upTo

theorem tick (h : Keeps s t) : Keeps s t.tick := .ite (h.frame rfl) (h.frame rfl)

theorem mapJob (h : Keeps s t) {f : Job → Job} : Keeps s (t.mapJob f) := h.frame rfl

theorem mapAttempt (h : Keeps s t) {f : Attempt → Attempt} : Keeps s (t.mapAttempt f) := h.mapJob

theorem mapPlot (h : Keeps s t) {p : Nat} {f : Plot → Plot} : Keeps s (t.mapPlot p f) := h.frame rfl

theorem mapPlots (h : Keeps s t) {f : Plot → Plot} : Keeps s (t.mapPlots f) := h.frame rfl

theorem mapPort (h : Keeps s t) {n : Nat} {f : Port → Port} : Keeps s (t.mapPort n f) := h.frame rfl

theorem mapFabric (h : Keeps s t) {f : Fabric → Fabric} : Keeps s (t.mapFabric f) := h.frame rfl

theorem mapSeasons (h : Keeps s t) {f : Seasons → Seasons} : Keeps s (t.mapSeasons f) := h.frame rfl

theorem mapRecovery (h : Keeps s t) {f : Recovery → Recovery} : Keeps s (t.mapRecovery f) := h.frame rfl

theorem mapCtl (h : Keeps s t) {f : Ctl → Ctl} : Keeps s (t.mapCtl f) := h.frame rfl

theorem withPower (h : Keeps s t) {x : Power} : Keeps s { t with power := x } := h.frame rfl

theorem withTiers (h : Keeps s t) {x : Tiers} : Keeps s { t with tiers := x } := h.frame rfl

theorem withRecords (h : Keeps s t) {x : Records} : Keeps s { t with records := x } := h.frame rfl

theorem withHarvest (h : Keeps s t) {x : Option HarvestRun} : Keeps s { t with harvest := x } := h.frame rfl

theorem withAcre (h : Keeps s t) {x : Acre} : Keeps s { t with acre := x } := h.frame rfl

theorem withSec (h : Keeps s t) {x : Security} : Keeps s { t with sec := x } := h.frame rfl

theorem withTime (h : Keeps s t) {x : SiteTime} : Keeps s { t with time := x } := h.frame rfl

theorem withTxn (h : Keeps s t) {x : Option Txn} : Keeps s { t with txn := x } := h.frame rfl

theorem setRun (h : Keeps s t) {r : Nat} : Keeps s (t.setRun r) := h.withPower.setNum

theorem setRegion (h : Keeps s t) {p : Nat} {l : Loc} {r : Region} : Keeps s (t.setRegion p l r) := by
  cases l with
  | crib n | loam n | buffer i part => exact h.mapPlot
  | pool sl n => exact h.frame rfl

/-- A change of the memories that keeps each of them in canonical form. -/
theorem withHost (h : Keeps s t) {x : HostMemory}
    (hx : Canonical t → Memory.wf x.window = true ∧ Memory.wf x.tier = true ∧ Memory.wf x.holder = true ∧ Memory.wf x.held = true) :
    Keeps s { t with host := x } :=
  ⟨h.fuses, h.pending, fun hs => ⟨(h.canonical hs).1, (h.canonical hs).2.1, hx (h.canonical hs)⟩⟩

/-- A change of the CXL.mem window. -/
theorem withWindow (h : Keeps s t) {m : List Host.Cell} (hm : Memory.wf t.host.window = true → Memory.wf m = true) :
    Keeps s { t with host := { t.host with window := m } } := by
  refine h.withHost ?_
  rintro ⟨-, -, hwindow, hrest⟩
  exact ⟨hm hwindow, hrest⟩

/-! #### Events and the device state (R29, R404) -/

theorem notice (h : Keeps s t) : Keeps s t.notice := .ite h.send h

theorem deliver (h : Keeps s t) {v : Nat} : Keeps s (t.deliver v) := .ite h (.ite h.send h.mapCtl)

theorem signal (h : Keeps s t) {v : Nat} : Keeps s (t.signal v) := h.notice.deliver

theorem signalCompletion (h : Keeps s t) : Keeps s t.signalCompletion := .ite h.mapCtl h.signal.mapCtl

theorem signalVec (h : Keeps s t) {v : Nat} : Keeps s (t.signalVec v) := .ite h.signalCompletion h.signal

theorem raise (h : Keeps s t) {v : Vec} : Keeps s (t.raise v) := .ite h (.ite h.setNum.signalVec h.setNum.mapCtl)

theorem writeEventMask (h : Keeps s t) {m : Nat} : Keeps s (t.writeEventMask m) :=
  h.setNum.foldl fun _ _ hu => .ite hu.mapCtl.signalVec hu

theorem ackEvents (h : Keeps s t) {m : Nat} : Keeps s (t.ackEvents m) := h.setNum.mapCtl

theorem moveTo (h : Keeps s t) {cur tgt : DevState} : Keeps s (t.moveTo cur tgt) := .ite h h.mapCtl.raise

theorem restIn (h : Keeps s t) {d : DevState} : Keeps s (t.restIn d) := h.moveTo

theorem logFault (h : Keeps s t) {cause domain : Nat} {sig : BitVec 128} : Keeps s (t.logFault cause domain sig) := h.frame rfl

/-! #### The team (R242 to R250, R257) -/

theorem sendIdentities (h : Keeps s t) : Keeps s t.sendIdentities := .ite h.sendAll h

theorem resendIdentities (h : Keeps s t) {before : State} : Keeps s (t.resendIdentities before) := .ite h.sendAll h

theorem settleTree (h : Keeps s t) : Keeps s t.settleTree := by
  unfold State.settleTree
  refine .mapFabric (.ite h.setNum ?_)
  split
  · exact h.setNum
  · exact .ite h.setNum h

theorem setReach (h : Keeps s t) {dMax : Nat} : Keeps s (t.setReach dMax) := h.setNum.setNum

theorem formTeam (h : Keeps s t) {dMax : Nat} : Keeps s (t.formTeam dMax) := h.setNum.setReach.mapFabric.raise

theorem failForming (h : Keeps s t) : Keeps s t.failForming := h.setNum.raise

theorem settleForming (h : Keeps s t) : Keeps s t.settleForming := by
  refine .ite h (.ite h.failForming (.ite (.ite h (.ite h.failForming (.ite h.formTeam h))) ?_))
  split
  · exact h.formTeam
  · exact h

theorem settleSuccession (h : Keeps s t) : Keeps s t.settleSuccession := .ite h.setReach h

theorem settleTeam (h : Keeps s t) {before : State} : Keeps s (t.settleTeam before) :=
  .resendIdentities (.ite h.settleTree.settleForming (.ite h.settleTree.settleSuccession h))

theorem settlePort (h : Keeps s t) {n : Nat} : Keeps s (t.settlePort n) := .ite h.mapPort h

theorem settlePorts (h : Keeps s t) : Keeps s t.settlePorts := h.foldl fun _ _ hu => hu.settlePort

theorem beginForming (h : Keeps s t) : Keeps s t.beginForming :=
  h.setNum.setNum.setNum.setNum.setNum.setNum.setNum.mapFabric.settlePorts.settleTree.settleForming.sendIdentities

/-! #### Tiles in HBM (R139) -/

theorem setLine (h : Keeps s t) {line : Nat} {v : BitVec 36} : Keeps s (t.setLine line v) := h.withHost fun ht => ht.2.2

theorem poisonLine (h : Keeps s t) {line : Nat} : Keeps s (t.poisonLine line) := h.setLine

theorem writeHbmTile (h : Keeps s t) {addr : Nat} {x : Tile} : Keeps s (t.writeHbmTile addr x) :=
  .foldl (fun _ _ hu => hu.setLine) (h.withWindow (Memory.wf_writeBytes _ _))

/-! #### Attempts, faults and outcomes (R167, R187, R188) -/

theorem mapWhose (h : Keeps s t) {w : Whose} {f : Attempt → Attempt} : Keeps s (t.mapWhose w f) := h.mapJob

theorem takeAbort (h : Keeps s t) {b : W32} {n : Nat} {r : SealReport} : Keeps s (t.takeAbort b n r) := h.frame rfl

theorem sendAbort (h : Keeps s t) {w : Whose} {rises : Bool} : Keeps s (t.sendAbort w rises) :=
  .ite h (.ite h.mapWhose.send (.ite h.mapWhose h.mapWhose.takeAbort))

theorem meetFault (h : Keeps s t) {w : Whose} {kind plot bundle region : Nat} : Keeps s (t.meetFault w kind plot bundle region) :=
  .ite h.bump.mapWhose h.bump.mapWhose.sendAbort

theorem plotFault (h : Keeps s t) {p kind bundle region : Nat} : Keeps s (t.plotFault p kind bundle region) := h.meetFault

theorem deviceFault (h : Keeps s t) {kind : Nat} : Keeps s (t.deviceFault kind) := h.meetFault

theorem announce (h : Keeps s t) {o : SealOutcome} : Keeps s (t.announce o) := .ite h.mapJob.send h.mapJob

theorem fabricHold (h : Keeps s t) {status : W32} : Keeps s (t.fabricHold status) := .ite h (.ite h.announce h.mapJob)

theorem overflow (h : Keeps s t) {w : Whose} : Keeps s (t.overflow w) := h.mapWhose

theorem widthOverflow (h : Keeps s t) {w : Whose} {g : Nat} : Keeps s (t.widthOverflow w g) := h.mapWhose

theorem orFault (h : Keeps s t) {p bundle region : Nat} {o : ReadOutcome} : Keeps s (t.orFault p bundle region o).1 := by
  cases o with
  | ok x => exact h
  | _ => exact h.plotFault

theorem readOrFault (h : Keeps s t) {p bundle : Nat} {r : TileRef} : Keeps s (t.readOrFault p bundle r).1 := h.orFault

theorem checkAll (h : Keeps s t) {p bundle : Nat} {m : TagTemplate} {ts : List Tile} : Keeps s (t.checkAll p bundle m ts).1 := by
  induction ts generalizing t with
  | nil => exact h
  | cons x xs ih =>
    unfold State.checkAll
    split
    · next heq => exact h.orFault.of_eq heq
    · next heq =>
      have htail := ih (h.orFault.of_eq heq)
      split
      all_goals next hrest => exact htail.of_eq hrest

theorem readAll (h : Keeps s t) {p bundle : Nat} {rs : List TileRef} : Keeps s (t.readAll p bundle rs).1 := by
  induction rs generalizing t with
  | nil => exact h
  | cons r rs ih =>
    unfold State.readAll
    split
    · next heq => exact h.readOrFault.of_eq heq
    · next heq =>
      have htail := ih (h.readOrFault.of_eq heq)
      split
      all_goals next hrest => exact htail.of_eq hrest

/-! #### The Ledger and completion records (R213 to R217, R403) -/

theorem wf_ite {p : Prop} [Decidable p] {m n : List Host.Cell} (hm : Memory.wf m = true) (hn : Memory.wf n = true) :
    Memory.wf (if p then m else n) = true := by
  split
  · exact hm
  · exact hn

theorem wf_foldl {α : Type} {f : List Host.Cell → α → List Host.Cell} (hf : ∀ m a, Memory.wf m = true → Memory.wf (f m a) = true)
    {l : List α} {m : List Host.Cell} (hm : Memory.wf m = true) : Memory.wf (l.foldl f m) = true := by
  induction l generalizing m with
  | nil => exact hm
  | cons a l ih => exact ih (hf m a hm)

theorem wf_writeTables {m : List Host.Cell} (hm : Memory.wf m = true) (x : Tables) (d a : Nat) :
    Memory.wf (writeTables m x d a) = true := by
  unfold writeTables
  exact wf_foldl (fun _ _ => Memory.wf_writeBytes _ _) (wf_foldl (fun _ _ => Memory.wf_writeBytes _ _) (Memory.wf_zero _ _ (Memory.wf_zero _ _ hm)))

theorem withLedger (h : Keeps s t) {x : Records} {m : List Host.Cell} (hm : Memory.wf t.host.window = true → Memory.wf m = true) :
    Keeps s { t with records := x, host := { t.host with window := m } } := (h.withRecords (x := x)).withWindow hm

theorem settleLedger (h : Keeps s t) : Keeps s t.settleLedger := .ite h.withRecords.raise h.withRecords

theorem ledgerGap (h : Keeps s t) : Keeps s t.ledgerGap.1 := by
  by_cases hgap : t.num 0x801003 + 2 ^ 20 ≤ t.num 0x801002
  · simp only [State.ledgerGap, if_pos hgap]
    exact h.setNum.bump
  · simp only [State.ledgerGap, if_neg hgap]
    exact h

/-- The function is unfolded before it is applied: unfolded at its arguments, the kernel would evaluate the ring sizes in unary. -/
theorem appendLedger (h : Keeps s t) {r : LedgerRecord} : Keeps s (t.appendLedger r) := by
  have hgap := h.ledgerGap
  generalize hf : State.appendLedger = f
  delta State.appendLedger at hf
  subst hf
  dsimp -zeta -iota -proj only
  generalize t.ledgerGap = g at hgap ⊢
  obtain ⟨u, gap⟩ := g
  exact .settleLedger (.setNum (withLedger hgap fun hm => Memory.wf_writeBytes _ _ (wf_ite (wf_writeTables hm _ _ _) hm)))

theorem complete (h : Keeps s t) {ticket : W64} {c : Completion} : Keeps s (t.complete ticket c) := .raise (h.frame (by rfl))

theorem completeOthers (h : Keeps s t) {status : Nat} {except : List W64} {undone : Bool} :
    Keeps s (t.completeOthers status except undone) := .mapJob (h.foldl fun _ _ hu => hu.complete)

/-! #### The undo (R146) -/

theorem clearEvaluationTiles (h : Keeps s t) : Keeps s t.clearEvaluationTiles := h.frame rfl

theorem undoFabric (h : Keeps s t) {x : List W32} : Keeps s (t.undoFabric x) := h.frame rfl

theorem withStores (h : Keeps s t) {plots : List Plot} {pool : SMap Region} {records : Records} :
    Keeps s { t with plots := plots, pool := pool, records := records } := h.frame rfl

theorem beginUndo (h : Keeps s t) {floor : Nat} : Keeps s (t.beginUndo floor) :=
  .undoFabric (.ite (.clearEvaluationTiles (.withStores h.mapJob.bump.bump)) (.withStores h.mapJob.bump.bump))

theorem dropTaps (h : Keeps s t) {a : Attempt} : Keeps s (t.dropTaps a) := h.withRecords.setNum

theorem clearTokens (h : Keeps s t) : Keeps s t.clearTokens := h.frame rfl

/-! #### The control slot (R121 to R126, R252) -/

theorem beginWait (h : Keeps s t) {p : Nat} {w : WaitKind} : Keeps s (t.beginWait p w) := h.mapPlot

theorem releaseSeason (h : Keeps s t) {p : Nat} {l : Loc} : Keeps s (t.releaseSeason p l) := by
  unfold State.releaseSeason
  split
  · exact h.setRegion.mapPlot
  · exact h

theorem releaseTile (h : Keeps s t) {p : Nat} {x : TileRef} {season : Bool} : Keeps s (t.releaseTile p x season) :=
  .ite h.releaseSeason (.ite h.readOrFault.mapPlot h)

theorem nop {p : Nat} : Keeps s (Machine.nop p s) := .ite (refl s).mapPlot (refl s)

theorem waitTile {p : Nat} {x : TileRef} {season : Bool} : Keeps s (Machine.waitTile p x season s) :=
  .ite (refl s).beginWait.releaseTile (refl s)

theorem waitTileRelease {p : Nat} : Keeps s (Machine.waitTileRelease p s) := by
  refine .ite (refl s) ?_
  split
  · exact (refl s).releaseTile
  · exact refl s

theorem waitToken {p n count : Nat} : Keeps s (Machine.waitToken p n count s) :=
  .ite (.ite (refl s).beginWait.mapPlot (refl s).beginWait) (refl s)

theorem waitTokenRelease {p : Nat} : Keeps s (Machine.waitTokenRelease p s) := by
  refine .ite (refl s) ?_
  split
  · exact .ite (refl s).mapPlot (refl s)
  · exact refl s

theorem waitCycle {p : Nat} {d : BitVec 512} : Keeps s (Machine.waitCycle p d s) := by
  refine .ite ?_ (refl s)
  split
  · exact (refl s).mapPlot
  · dsimp only
    split
    · exact .ite (refl s).beginWait.mapPlot (refl s).beginWait
    · exact (refl s).beginWait

theorem waitCycleRelease {p : Nat} : Keeps s (Machine.waitCycleRelease p s) := by
  refine .ite (refl s) ?_
  split
  · split
    · exact (refl s).upTo.mapPlot
    · exact refl s
  · exact refl s

theorem loopStart {p count endOffset : Nat} : Keeps s (Machine.loopStart p count endOffset s) := by
  unfold Machine.loopStart
  split
  · exact refl s
  · exact .ite (refl s).mapPlot (refl s).mapPlot

theorem writeIntake (h : Keeps s t) : Keeps s t.writeIntake := by
  unfold State.writeIntake
  split
  · exact h
  · exact h.frame rfl

theorem stepMark {p : Nat} {k : MarkKind} : Keeps s (Machine.stepMark p k s) := by
  unfold Machine.stepMark
  split
  · exact refl s
  · cases k with
    | sealArrival => exact (refl s).mapPlot
    | entry => exact (refl s).mapPlot.mapPlot

theorem sealWait {p : Nat} : Keeps s (Machine.sealWait p s) := by
  unfold Machine.sealWait
  split
  · exact refl s
  · exact .ite (refl s).beginWait (refl s).mapPlot

theorem waitTimeout {p : Nat} : Keeps s (Machine.waitTimeout p s) := by
  refine .ite (refl s) ?_
  split
  · exact refl s
  · split
    · exact .ite (refl s) (refl s).upTo.mapPlot.plotFault
    · exact refl s

theorem signalToken (h : Keeps s t) {ahead : Bool} {n : Nat} : Keeps s (t.signalToken ahead n) :=
  .ite h (.ite (h.frame rfl) (h.frame rfl))

/-! #### Outputs (R116 to R118, R221, R299) -/

theorem tapTile (h : Keeps s t) {step : Nat} {x : Tile} : Keeps s (t.tapTile step x) :=
  .ite h (.ite h.setNum h.writeHbmTile.withRecords.setNum)

theorem noteSeason (h : Keeps s t) {step : Nat} {role : FieldRole} {x : Tile} {g : GlobalIndex} :
    Keeps s (t.noteSeason step role x g) := .ite h h.mapSeasons

theorem writeOutput (h : Keeps s t) {p : Nat} {l : Loc} {x : Tile} {role : FieldRole} {g : GlobalIndex} {slot : Option Nat} :
    Keeps s (t.writeOutput p l x role g slot) := by
  unfold State.writeOutput
  split
  · exact h
  · have hput : ∀ y : Tile, Keeps s (t.setRegion p l { tile := y, ready := true }) := fun _ => h.setRegion
    exact .noteSeason (.tapTile (.ite (.overflow (.ite (hput _).mapPlot (hput _))) (.ite (hput _).mapPlot (hput _))))

/-! #### The Furrow array (R65 to R97) -/

theorem setFurrow (h : Keeps s t) {p : Nat} {r : Option FurrowRun} : Keeps s (t.setFurrow p r) := h.mapPlot

theorem setScan (h : Keeps s t) {p : Nat} {r : Option FurrowRun} : Keeps s (t.setScan p r) := h.mapPlot

theorem furrowOperands (h : Keeps s t) {p : Nat} {d : FurrowDesc} : Keeps s (t.furrowOperands p d).1 := by
  unfold State.furrowOperands
  split
  · next ha => exact h.readAll.of_eq ha
  · next ha =>
    have hb := (h.readAll.of_eq ha).readAll (p := p) (bundle := d.bundle) (rs := d.b)
    split
    all_goals next heq => exact hb.of_eq heq

theorem releaseFurrow (h : Keeps s t) {p : Nat} : Keeps s (t.releaseFurrow p) := by
  unfold State.releaseFurrow
  split
  · exact h
  · split
    · exact .ite h h.setRegion.mapPlot
    · exact h

theorem furrowIssue {p : Nat} {d : FurrowDesc} : Keeps s (Machine.furrowIssue p d s) :=
  .ite (refl s).beginWait.setScan (refl s)

theorem takeMaxima (h : Keeps s t) {p : Nat} : Keeps s (t.takeMaxima p) := by
  unfold State.takeMaxima
  split
  · exact h
  · split
    · exact h
    · refine .ite h ?_
      dsimp only
      split
      all_goals next heq => exact (h.mapPlot.checkAll.of_eq heq).setScan

theorem sendMaxima (h : Keeps s t) {p : Nat} : Keeps s (t.sendMaxima p) := by
  unfold State.sendMaxima
  split
  · exact h
  · split
    · exact h
    · exact .ite h h.mapPlot

theorem settleScan (h : Keeps s t) {p : Nat} : Keeps s (t.settleScan p) := h.sendMaxima.takeMaxima.sendMaxima.releaseFurrow

theorem headlandScanDone {p : Nat} : Keeps s (Machine.headlandScanDone p s) := by
  refine .ite (refl s) ?_
  split
  · exact refl s
  · refine .ite (refl s) ?_
    dsimp only
    split
    · next heq => exact ((refl s).upToPlot.furrowOperands.of_eq heq).setScan.releaseFurrow
    · next heq =>
      have hread := (refl s).upToPlot.furrowOperands.of_eq heq
      exact .ite hread.setScan.settleScan hread.useFree.setScan.settleScan

theorem maximaRecord {p : Nat} {x : Tile} : Keeps s (Machine.maximaRecord p x s) := .ite (refl s) (refl s).mapPlot.settleScan

theorem suspectPlot (h : Keeps s t) {p : Nat} : Keeps s (t.suspectPlot p) := by
  unfold State.suspectPlot
  split
  · exact h.mapRecovery
  · exact h

theorem checkPass (h : Keeps s t) {p : Nat} {pl : Plot} {d : FurrowDesc} {ok : Bool} : Keeps s (t.checkPass p pl d ok) :=
  .ite h (.ite (.ite h.bump h) (.suspectPlot (.plotFault (.ite h.bump h))))

theorem furrowPass {p : Nat} {ok : Bool} : Keeps s (Machine.furrowPass p ok s) := by
  refine .ite (refl s) ?_
  split
  · exact refl s
  · split
    · exact refl s
    · refine .ite (refl s) ?_
      split
      · next heq => exact ((refl s).furrowOperands.of_eq heq).setFurrow
      · next heq =>
        have hread := (refl s).furrowOperands.of_eq heq
        split
        · exact hread
        · exact .checkPass (.setFurrow (.upToPlot (.ite hread hread.useFree)))

theorem passOverflow {p : Nat} : Keeps s (Machine.passOverflow p s) := by
  refine .ite (refl s) ?_
  split
  · exact refl s
  · split
    · exact refl s
    · refine .ite (refl s) ?_
      split
      · next heq => exact ((refl s).furrowOperands.of_eq heq).setFurrow
      · next heq =>
        have hread := (refl s).furrowOperands.of_eq heq
        exact .ite hread (.ite hread.setFurrow.plotFault.suspectPlot hread.setFurrow.bump.mapWhose)

theorem spillInto (h : Keeps s t) {p : Nat} {pl : Plot} {r : FurrowRun} {old : Option Tile} {x : FwpTile} :
    Keeps s (t.spillInto p pl r old x) := .ite h.setRegion h.setRegion.bump.overflow

theorem spill {p : Nat} : Keeps s (Machine.spill p s) := by
  refine .ite (refl s) ?_
  split
  · exact refl s
  · split
    · exact refl s
    · split
      · exact refl s
      · refine .ite ?_ (refl s).upToPlot.spillInto.setFurrow
        split
        · next heq => exact ((refl s).upToPlot.readOrFault.of_eq heq).setFurrow
        · next heq => exact ((refl s).upToPlot.readOrFault.of_eq heq).spillInto.setFurrow

theorem furrowReady {p : Nat} : Keeps s (Machine.furrowReady p s) := by
  refine .ite (refl s) ?_
  split
  · exact refl s
  · split
    · exact refl s
    · exact .ite (refl s) (refl s).writeOutput.setFurrow.releaseFurrow

/-! #### The full-width adder and the move slot (R105 to R111, R121) -/

theorem noteBlocks (h : Keeps s t) {w : Whose} {g : Nat} {l : List FwOutcome} : Keeps s (t.noteBlocks w g l) :=
  .ite (.widthOverflow (.ite h.overflow h)) (.ite h.overflow h)

theorem writeFwp (h : Keeps s t) {p : Nat} {pl : Plot} {d : FullWidthDesc} {v : FwpTile} {n : Nat} :
    Keeps s (t.writeFwp p pl d v n) := .writeOutput (.ite h h.bump.overflow)

theorem writeForm (h : Keeps s t) {p : Nat} {pl : Plot} {d : FullWidthDesc} {format : BitVec 8} {rows cols : Nat} {bs : List Byte} :
    Keeps s (t.writeForm p pl d format rows cols bs) := h.writeOutput

theorem deliverQ (h : Keeps s t) {w : Whose} {asQ : Bool} {q : Nat} : Keeps s (t.deliverQ w asQ q) := .ite h.mapWhose h

theorem runFullWidth (h : Keeps s t) {p : Nat} {pl : Plot} {d : FullWidthDesc} {ts records : List Tile} :
    Keeps s (t.runFullWidth p pl d ts records) := by
  unfold State.runFullWidth
  dsimp only
  split
  · exact h.writeFwp
  · exact h.mapPlot
  · exact h.noteBlocks.writeForm
  · exact .ite h.bump.plotFault h.writeFwp
  · exact h.writeForm
  · exact h.writeForm
  · exact h.writeFwp
  · exact h.deliverQ.writeForm

theorem runFreely (h : Keeps s t) {p : Nat} {pl : Plot} {d : FullWidthDesc} : Keeps s (t.runFreely p pl d) := by
  unfold State.runFreely
  dsimp only
  split
  · exact h.useFree.writeFwp
  · exact h.useFree.writeFwp
  · exact h.useFree.writeFwp
  · exact h.useFree.mapPlot
  · exact h.useFree.writeForm
  · exact h.useFree.writeForm
  · exact h.useFree.writeForm
  · exact h.useFree.deliverQ.writeForm

theorem startFullWidth (h : Keeps s t) {p : Nat} {d : FullWidthDesc} : Keeps s (t.startFullWidth p d) := by
  unfold State.startFullWidth
  split
  · next heq => exact h.readAll.of_eq heq
  · next heq =>
    have hread := h.readAll.of_eq heq
    split
    · exact hread
    · dsimp only
      split
      · next hcheck => exact hread.checkAll.of_eq hcheck
      · next hcheck => exact .ite (hread.checkAll.of_eq hcheck).runFullWidth (hread.checkAll.of_eq hcheck).runFreely

theorem fullWidthIssue {p : Nat} {d : FullWidthDesc} : Keeps s (Machine.fullWidthIssue p d s) := by
  unfold Machine.fullWidthIssue
  split
  · exact refl s
  · exact .ite (refl s).startFullWidth (refl s).beginWait

theorem releaseFullWidth (h : Keeps s t) {p : Nat} : Keeps s (t.releaseFullWidth p) := by
  unfold State.releaseFullWidth
  split
  · exact h
  · split
    · exact .ite h.mapPlot.startFullWidth h
    · exact h

theorem spillAndRelease {p : Nat} : Keeps s (Machine.spillAndRelease p s) := spill.releaseFullWidth

theorem frameRecord {p : Nat} {x : Tile} : Keeps s (Machine.frameRecord p x s) := .ite (refl s) (refl s).mapPlot.releaseFullWidth

theorem move {p : Nat} {d : MoveDesc} : Keeps s (Machine.move p d s) := by
  unfold Machine.move
  split
  · exact refl s
  · split
    · next heq => exact (refl s).readOrFault.of_eq heq
    · next heq => exact ((refl s).readOrFault.of_eq heq).setRegion

/-! #### Tilth chains (R98 to R103, R149) -/

theorem chainOperands (h : Keeps s t) {p : Nat} {d : ChainDesc} : Keeps s (t.chainOperands p d).1 := by
  unfold State.chainOperands
  split
  all_goals next heq => exact h.readAll.of_eq heq

theorem chainResult (h : Keeps s t) {pl : Plot} {d : ChainDesc} {o : ChainIn} : Keeps s (t.chainResult pl d o).1 := by
  unfold State.chainResult
  dsimp only
  split
  · exact h
  · exact h.useFree

theorem launchChain (h : Keeps s t) {p : Nat} {r : ChainRun} : Keeps s (t.launchChain p r) := .ite h.mapPlot.plotFault h.mapPlot

theorem chainIssue {p : Nat} {d : ChainDesc} : Keeps s (Machine.chainIssue p d s) := by
  unfold Machine.chainIssue
  split
  · exact refl s
  · split
    · next heq => exact (refl s).chainOperands.of_eq heq
    · next heq => exact ((refl s).chainOperands.of_eq heq).chainResult.noteBlocks.launchChain

theorem chainDone {p : Nat} : Keeps s (Machine.chainDone p s) := by
  refine .ite (refl s) ?_
  split
  · exact refl s
  · split
    · exact refl s
    · exact .ite (refl s).upToPlot.mapPlot (.ite (refl s).upToPlot.mapPlot.writeOutput.mapPlot.overflow
        (refl s).upToPlot.mapPlot.writeOutput.mapPlot)

/-! #### The Acre transport (R285 to R295) -/

theorem mapSession (h : Keeps s t) {i : Nat} {f : Session → Session} : Keeps s (t.mapSession i f) := h.withAcre

theorem sendAgreement (h : Keeps s t) {port team endpoint : Nat} {reply : Bool} {bytes : List Byte} :
    Keeps s (t.sendAgreement port team endpoint reply bytes) := h.send

theorem beginAgreement (h : Keeps s t) {team endpoint : Nat} : Keeps s (t.beginAgreement team endpoint) := by
  unfold State.beginAgreement
  split
  · exact h
  · exact .ite h h.useFree.withAcre.sendAgreement

theorem moveEpoch (h : Keeps s t) {i : Nat} : Keeps s (t.moveEpoch i) := .ite h.mapSession.beginAgreement h.mapSession

theorem sendAcre (h : Keeps s t) {i : Nat} {x : AcreHeader} {bytes : List Byte} : Keeps s (t.sendAcre i x bytes) := by
  unfold State.sendAcre
  dsimp only
  split
  · exact h
  · exact .ite h (.ite h.send.mapSession.moveEpoch h.send.mapSession)

theorem letIn (h : Keeps s t) {x : AcreHeader} : Keeps s (t.letIn x).1 := by
  unfold State.letIn
  split
  · exact h
  · split
    · exact h.bump
    · dsimp only
      split
      · exact h.bump
      · split
        · exact h
        · split
          · exact h.mapSession
          · split
            · exact h
            · exact h.bump

theorem sendChunk (h : Keeps s t) {i : Nat} {x : SentStripe} {j : Nat} : Keeps s (t.sendChunk i x j) := h.sendAcre

theorem paceChunk (h : Keeps s t) {i : Nat} {c : HeldChunk} : Keeps s (t.paceChunk i c) := by
  unfold State.paceChunk
  dsimp only
  split
  · exact h
  · exact .ite h.withAcre h.sendChunk.withAcre

theorem pace (h : Keeps s t) {i : Nat} : Keeps s (t.pace i) := .ite h (h.withAcre.foldl fun _ _ hu => hu.paceChunk)

theorem sendStripe (h : Keeps s t) {i : Nat} {x : SentStripe} : Keeps s (t.sendStripe i x) := h.withAcre.pace

theorem sendObject (h : Keeps s t) {i type : Nat} {id : W64} {bytes : List Byte} : Keeps s (t.sendObject i type id bytes) :=
  h.foldl fun _ _ hu => hu.sendStripe

theorem flush (h : Keeps s t) : Keeps s t.flush := by
  refine .ite h (.foldl (fun u o hu => ?_) h.withAcre)
  split
  · exact .ite hu.sendAcre hu.sendObject
  · exact hu.withAcre.beginAgreement

theorem sendTo (h : Keeps s t) {team endpoint type : Nat} {id : W64} {bytes : List Byte} :
    Keeps s (t.sendTo team endpoint type id bytes) := h.withAcre.flush

theorem sendToTeams (h : Keeps s t) {chooser type : Nat} {id : W64} {bytes : List Byte} :
    Keeps s (t.sendToTeams chooser type id bytes) := h.foldl fun _ _ hu => hu.sendTo

theorem askAnchor (h : Keeps s t) : Keeps s t.askAnchor := by
  unfold State.askAnchor
  split
  · exact h
  · exact h.mapSeasons.sendTo

theorem putStripe (h : Keeps s t) {x : AcreHeader} {y : Stripe} : Keeps s (t.putStripe x y) := h.withAcre

theorem takeChunk (h : Keeps s t) {i : Nat} {x : AcreHeader} {bytes : List Byte} : Keeps s (t.takeChunk i x bytes).1 := by
  unfold State.takeChunk
  dsimp only
  split
  · exact h.bump
  · split
    · exact h
    · split
      · exact .sendAcre (.ite h.putStripe h.putStripe.bump)
      · exact h.putStripe

theorem takeSample (h : Keeps s t) {i rtt : Nat} : Keeps s (t.takeSample i rtt) :=
  .pace (.ite h.useFree.useFree.mapSession.bump h.useFree.useFree.mapSession)

theorem stripeAck {x : AcreHeader} {sample : Nat} : Keeps s (Machine.stripeAck x sample s) := by
  unfold Machine.stripeAck
  split
  · next heq => exact (refl s).letIn.of_eq heq
  · next heq => exact ((refl s).letIn.of_eq heq).withAcre.takeSample

theorem stripeNack {x : AcreHeader} {missing : List Nat} : Keeps s (Machine.stripeNack x missing s) := by
  unfold Machine.stripeNack
  split
  · next heq => exact (refl s).letIn.of_eq heq
  · next heq =>
    have hin := (refl s).letIn.of_eq heq
    split
    · exact hin
    · exact hin.bump.foldl fun _ _ hu => hu.sendChunk

theorem nackTimer {team rank : Nat} {id : W64} {stripe : Nat} : Keeps s (Machine.nackTimer team rank id stripe s) := by
  unfold Machine.nackTimer
  split
  · exact refl s
  · refine .ite (refl s).putStripe.bump ?_
    dsimp only
    split
    · exact (refl s).putStripe.sendAcre
    · exact (refl s).putStripe

theorem probe {x : AcreHeader} : Keeps s (Machine.probe x s) := by
  unfold Machine.probe
  split
  · next heq => exact (refl s).letIn.of_eq heq
  · next heq => exact ((refl s).letIn.of_eq heq).sendAcre

theorem probeEcho {x : AcreHeader} {sample : Nat} : Keeps s (Machine.probeEcho x sample s) := by
  unfold Machine.probeEcho
  split
  · next heq => exact (refl s).letIn.of_eq heq
  · next heq => exact ((refl s).letIn.of_eq heq).takeSample

theorem pacingProbe {i : Nat} : Keeps s (Machine.pacingProbe i s) := .ite (refl s) (refl s).sendAcre

theorem openSession (h : Keeps s t) {x : Session} : Keeps s (t.openSession x) := h.withAcre.flush

theorem keyAgreement {k : KeyAgreement} : Keeps s (Machine.keyAgreement k s) :=
  .ite (refl s) (.ite (refl s).bump (.ite (refl s) (.ite (refl s).withAcre.bump
    (.ite (refl s).sendAgreement.openSession (refl s).openSession))))

theorem keyEpochChange {i : Nat} : Keeps s (Machine.keyEpochChange i s) := .ite (refl s).moveEpoch (refl s)

theorem oldKeyErase {i : Nat} : Keeps s (Machine.oldKeyErase i s) := (refl s).mapSession

theorem acrePortLinkChange {port : Nat} {up training : Bool} : Keeps s (Machine.acrePortLinkChange port up training s) :=
  .foldl (fun _ _ hu => hu.pace) (refl s).withAcre.setNum.flush

/-! #### Boot, resets and Fallow (R31, R368 to R370, R421 to R425) -/

/-- The memories that lie outside the device stay when its own are cleared. -/
theorem clearOwn (h : Keeps s t) {x : HostMemory} (hx : (x.window, x.tier, x.holder, x.held) = ([], t.host.tier, t.host.holder, [])) :
    Keeps s { t with host := x } := by
  simp only [Prod.mk.injEq] at hx
  obtain ⟨hwindow, htier, hholder, hheld⟩ := hx
  refine h.withHost ?_
  rintro ⟨-, -, -, ht, hh, -⟩
  rw [hwindow, htier, hholder, hheld]
  exact ⟨rfl, ht, hh, rfl⟩

theorem scrub (h : Keeps s t) : Keeps s t.scrub := (h.clearJobEntries.clearOwn rfl).frame rfl

theorem withHopper (h : Keeps s t) {x : SMap Slot} : Keeps s { t with hopper := x } := h.frame rfl

theorem scrubAll (h : Keeps s t) : Keeps s t.scrubAll := h.scrub.withHopper.setNum

theorem startPorts (h : Keeps s t) : Keeps s t.startPorts := h.frame rfl

theorem stopPorts (h : Keeps s t) : Keeps s t.stopPorts := h.frame rfl

theorem resetCxl (h : Keeps s t) : Keeps s t.resetCxl := by
  unfold State.resetCxl
  dsimp only
  split
  · split
    · exact h.mapCtl.withTxn
    · exact h.mapCtl
  · exact h.mapCtl

theorem cxlDown (h : Keeps s t) : Keeps s t.cxlDown := h.resetCxl.mapCtl

/-- What plots, pool and tokens held is lost. -/
theorem clearPlots (h : Keeps s t) {x : Fabric} :
    Keeps s { t with plots := [], pool := [], tokens := [], aheadTokens := [], fabric := x } := h.frame rfl

theorem enterFaulted (h : Keeps s t) {cause domain : Nat} {sig : BitVec 128} : Keeps s (t.enterFaulted cause domain sig) := by
  have hlog : Keeps s (t.logFault cause domain sig) := h.logFault
  unfold State.enterFaulted
  refine .raise (.restIn (.mapRecovery (.sendAll (.clearPlots (.ite (.cxlDown (.mapCtl ?_)) (.mapCtl ?_))))))
  all_goals exact .withHarvest (.ite hlog.scrub hlog)

theorem beginBoot (h : Keeps s t) : Keeps s t.beginBoot :=
  .ite h.enterFaulted (.ite h.mapCtl.moveTo.stopPorts h.mapCtl.moveTo.startPorts)

theorem deviceReset (h : Keeps s t) : Keeps s t.deviceReset := by
  refine .beginBoot ⟨h.fuses, h.pending, fun hs => ?_⟩
  obtain ⟨hnums, -, -, htier, hholder, -⟩ := h.canonical hs
  exact ⟨SMap.wf_filter dfltNum _ hnums, rfl, rfl, htier, hholder, rfl⟩

theorem powerOff (h : Keeps s t) : Keeps s t.powerOff := by
  refine ⟨h.fuses, h.pending, fun hs => ?_⟩
  obtain ⟨-, -, -, htier, hholder, -⟩ := h.canonical hs
  exact ⟨rfl, rfl, rfl, htier, hholder, rfl⟩

theorem stopBoot (h : Keeps s t) : Keeps s t.stopBoot :=
  .ite h.mapCtl.stopPorts.cxlDown.withSec.setNum.restIn.raise h.mapCtl.stopPorts.cxlDown.withSec.setNum.restIn

theorem enterFallow (h : Keeps s t) : Keeps s t.enterFallow := by
  have hclear : Keeps s { t.stopPorts.cxlDown with
      host := { t.stopPorts.cxlDown.host with window := [], held := [], binaries := [], lineMeta := [] } } :=
    h.stopPorts.cxlDown.clearOwn rfl
  exact .restIn (.mapCtl (hclear.frame (by rfl)))

theorem takeFirmware (h : Keeps s t) {slot : Nat} {images : List FwImage} : Keeps s (t.takeFirmware slot images) := by
  have hforce : ∀ (x : Security) (y : Recovery), Keeps s { t with cycle := 0, sec := x, recovery := y } := fun _ _ => h.frame rfl
  exact .ite (hforce _ _).setNum.setNum.setOct.setOct.setNum.setNum.mapCtl.raise
    (hforce _ _).setNum.setNum.setOct.setOct.setNum.setNum.mapCtl

theorem powerGood : Keeps s (Machine.powerGood s) := .ite (refl s) (refl s).mapCtl

theorem powerGoodDeasserted : Keeps s (Machine.powerGoodDeasserted s) := .ite (refl s).powerOff (refl s)

theorem resetInAsserted : Keeps s (Machine.resetInAsserted s) := .ite (refl s) (.ite (refl s).mapCtl (refl s).mapCtl.deviceReset)

theorem resetInReleased : Keeps s (Machine.resetInReleased s) := .ite (refl s) (.ite (refl s).mapCtl (refl s).mapCtl.deviceReset)

theorem watchdogExpiry : Keeps s (Machine.watchdogExpiry s) := .ite (refl s) (refl s).logFault.deviceReset

theorem cxlConventionalReset {linkDown : Bool} : Keeps s (Machine.cxlConventionalReset linkDown s) :=
  .ite (refl s).resetCxl.mapCtl (refl s).resetCxl

theorem endFwWrite (h : Keeps s t) {ok : Bool} : Keeps s (t.endFwWrite ok) := by
  unfold State.endFwWrite
  split
  · exact h
  · exact .setNum (h.frame (by rfl))

theorem flashOwnChange {level : Bool} : Keeps s (Machine.flashOwnChange level s) := .ite (refl s).mapCtl.endFwWrite (refl s).mapCtl

theorem monitorTrip {m : Monitor} : Keeps s (Machine.monitorTrip m s) :=
  .ite (refl s) (.ite (refl s) (.ite (.ite (refl s).mapCtl (refl s)) (refl s).enterFaulted))

theorem openBypass (h : Keeps s t) : Keeps s t.openBypass := .ite h h.mapCtl.send

theorem fuseReadDone : Keeps s (Machine.fuseReadDone s) :=
  .ite (.ite (refl s).openBypass.mapCtl (refl s).openBypass.mapCtl.startPorts) (refl s)

theorem firmwareVerify : Keeps s (Machine.firmwareVerify s) := by
  refine .ite (.ite (refl s).stopBoot ?_) (refl s)
  split
  · exact (refl s).stopBoot
  · exact (refl s).takeFirmware

theorem cxlConfigReady : Keeps s (Machine.cxlConfigReady s) := .ite (refl s).mapCtl (.ite (refl s).mapCtl (refl s))

theorem hbmTrainingDone : Keeps s (Machine.hbmTrainingDone s) := .ite (refl s).scrubAll.mapCtl (refl s)

theorem selfTestFindings (h : Keeps s t) {second : Bool} {failing : List Nat} {mends : List SpareAssign} :
    Keeps s (t.selfTestFindings second failing mends) := .ite h.mapRecovery h.mapRecovery.raise

theorem startUpSelfTest {second : Bool} {failing : List Nat} {mends : List SpareAssign} :
    Keeps s (Machine.startUpSelfTest second failing mends s) :=
  .ite (.ite (refl s).selfTestFindings.mapCtl.setNum.setNum.setNum (refl s).selfTestFindings.mapCtl) (refl s)

theorem bootComplete : Keeps s (Machine.bootComplete s) :=
  .ite (.ite (refl s).mapCtl.restIn.sendIdentities.raise (refl s).mapCtl.restIn.sendIdentities) (refl s)

theorem bypassChange {opens : Bool} : Keeps s (Machine.bypassChange opens s) :=
  .ite (.ite (refl s) (refl s).openBypass) (refl s).mapCtl

theorem joinNoticeResend : Keeps s (Machine.joinNoticeResend s) := .ite (refl s).send (refl s)

/-! #### Routes and slot epochs (R161, R240, R249, R263) -/

theorem queueBest (h : Keeps s t) {port : Nat} {f : BeFrame} : Keeps s (t.queueBest port f) := h.mapPort

theorem routeBest (h : Keeps s t) {f : BeFrame} : Keeps s (t.routeBest f) := by
  unfold State.routeBest
  split
  · exact h.queueBest
  · exact h.bump

theorem sendBest (h : Keeps s t) {dest : Nat} {c : BestEffort} : Keeps s (t.sendBest dest c) := h.routeBest

theorem toParent (h : Keeps s t) {m : ArrivalMsg} : Keeps s (t.toParent m) := .ite h.send h

theorem settlePlan (h : Keeps s t) : Keeps s t.settlePlan := h.frame rfl

theorem beginEpoch (h : Keeps s t) : Keeps s t.beginEpoch := h.frame rfl

/-! #### Lost lines and repair (R349 to R355) -/

theorem askRepair (h : Keeps s t) {x : Repair} : Keeps s (t.askRepair x) := by
  unfold State.askRepair
  dsimp only
  split
  · exact h.mapRecovery.sendBest
  · exact h.mapRecovery.fabricHold

theorem listRepair (h : Keeps s t) {addr : Nat} {tag : Tag} : Keeps s (t.listRepair addr tag) := .ite h.mapRecovery.askRepair h

theorem lostLine (h : Keeps s t) {line : Nat} : Keeps s (t.lostLine line) := by
  refine .ite h ?_
  dsimp only
  split
  · exact h.poisonLine.bump.listRepair
  · exact h.poisonLine.bump

/-! #### Tensors laid out by the seed drill (R325, R326) -/

theorem countInto (h : Keeps s t) {x : TensorEntry} {n : Counts} : Keeps s (t.countInto x n) := .ite h h.withRecords

theorem writePlaced (h : Keeps s t) {p : Placement} {i : Nat} {x : Tile} : Keeps s (t.writePlaced p i x).1 := by
  unfold State.writePlaced
  dsimp only
  split
  all_goals dsimp only
  · exact h.writeHbmTile
  · exact h.setRegion
  · exact h.setRegion
  · exact h.setRegion
  · exact h

/-- A fold whose accumulator carries a state. -/
theorem foldlFst {α β : Type} {f : State × β → α → State × β} (hf : ∀ x a, Keeps s x.1 → Keeps s (f x a).1) {l : List α}
    {x : State × β} (h : Keeps s x.1) : Keeps s (l.foldl f x).1 := by
  induction l generalizing x with
  | nil => exact h
  | cons a l ih => exact ih (hf x a h)

theorem layTensor (h : Keeps s t) {e : TensorEntry} {l : LayoutDesc} {x : TensorSource} {step : Nat} {odd : Bool} :
    Keeps s (t.layTensor e l x step odd).1 := by
  unfold State.layTensor
  split
  · exact h
  · refine foldlFst (fun acc p hacc => foldlFst (fun acc i hacc => ?_) hacc) h
    dsimp only
    split
    · exact hacc
    · exact hacc.writePlaced

theorem layTile (h : Keeps s t) {x : Tile} {odd : Bool} : Keeps s (t.layTile x odd).1 := by
  refine foldlFst (fun acc p hacc => ?_) h
  dsimp only
  split
  · exact hacc.writePlaced
  · exact hacc

/-! #### Tines (R131 to R146) -/

theorem mapTine (h : Keeps s t) {p n : Nat} {f : Tine → Tine} : Keeps s (t.mapTine p n f) := h.mapPlot

theorem tineStart {p n : Nat} {descs : List (BitVec 512)} : Keeps s (Machine.tineStart p n descs s) := .ite (refl s).mapTine (refl s)

theorem returnCredit (h : Keeps s t) {p : Nat} : Keeps s (t.returnCredit p) := h.mapPlot

theorem returnStale (h : Keeps s t) {p n : Nat} : Keeps s (t.returnStale p n) := h.mapTine.returnCredit

theorem tineStop {p n : Nat} : Keeps s (Machine.tineStop p n s) := .ite (refl s).mapTine (refl s)

theorem regionRelease {p region : Nat} : Keeps s (Machine.regionRelease p region s) := .ite (refl s).setRegion (refl s)

theorem tineNop {p n : Nat} : Keeps s (Machine.tineNop p n s) := .ite (refl s).mapTine (refl s)

theorem startTransfer (h : Keeps s t) {p n op : Nat} : Keeps s (t.startTransfer p n op) := by
  unfold State.startTransfer
  split
  · exact .ite h.mapTine h.mapTine
  · exact h

theorem tineMark {p n : Nat} : Keeps s (Machine.tineMark p n s) := by
  unfold Machine.tineMark
  split
  · exact .ite (refl s) (.ite (refl s).mapTine (refl s).mapTine)
  · exact refl s

theorem tineEnd {p n : Nat} : Keeps s (Machine.tineEnd p n s) := .ite (refl s).mapTine (refl s)

theorem tineRequestIssue {p n : Nat} : Keeps s (Machine.tineRequestIssue p n s) := by
  refine .ite (refl s) ?_
  split
  · exact refl s
  · dsimp only
    split
    · exact refl s
    · exact .ite (refl s) (.ite (refl s).mapTine.meetFault (refl s).mapTine.mapPlot)

theorem correctedLine (h : Keeps s t) {line : Nat} : Keeps s (t.correctedLine line) :=
  .ite h.bump.mapRecovery.mapRecovery.setNum h.bump.mapRecovery

theorem countEcc (h : Keeps s t) {hbm : Bool} {line : Nat} {e : EccResult} : Keeps s (t.countEcc hbm line e) := by
  cases e with
  | clean => exact h
  | corrected => exact .ite h.correctedLine h.bump
  | miscorrected => exact .ite h.correctedLine.bump h.bump
  | uncorrectable => exact .ite h.lostLine h.bump

theorem landTile (h : Keeps s t) {p : Nat} {w : Whose} {d : TineDesc} {n : Nat} {bad lost : Bool} :
    Keeps s (t.landTile p w d n bad lost) := by
  unfold State.landTile
  split
  exact .setRegion (.ite h.meetFault h)

theorem tineDataReturn {p n : Nat} {e : EccResult} : Keeps s (Machine.tineDataReturn p n e s) := by
  unfold Machine.tineDataReturn
  split
  · exact refl s
  · refine .ite (refl s).returnStale ?_
    split
    · exact refl s
    · have hcount : ∀ f hbm line, Keeps s (((s.mapTine p n f).returnCredit p).countEcc hbm line e) :=
        fun _ _ _ => (refl s).mapTine.returnCredit.countEcc
      refine .ite (refl s) (.ite (refl s).mapTine.returnCredit (.ite (.mapTine ?_) ?_))
      all_goals exact .ite (hcount _ _ _).landTile (hcount _ _ _).setRegion

theorem startTiers (h : Keeps s t) {ahead : Bool} : Keeps s (t.startTiers ahead) := h.frame rfl

theorem countToken (h : Keeps s t) {ahead : Bool} {n : Nat} : Keeps s (t.countToken ahead n) := h.signalToken.startTiers

theorem tokenSignal {p n : Nat} : Keeps s (Machine.tokenSignal p n s) := .ite (refl s).countToken (refl s)

theorem storeTile (h : Keeps s t) {p : Nat} {w : Whose} {d : TineDesc} {n : Nat} : Keeps s (t.storeTile p w d n) := by
  refine .ite (.writeHbmTile (.ite h.meetFault h)) (.ite h.mapPlot ?_)
  split
  · exact h.setRegion
  · exact h

theorem storeAck {p n : Nat} : Keeps s (Machine.storeAck p n s) := by
  unfold Machine.storeAck
  split
  · exact refl s
  · refine .ite (refl s).returnStale ?_
    split
    · exact refl s
    · have hdone : ∀ f, Keeps s ((s.mapTine p n f).returnCredit p) := fun _ => (refl s).mapTine.returnCredit
      refine .ite (refl s) (.ite (hdone _) (.ite (.mapTine ?_) ?_))
      all_goals exact .ite (hdone _).storeTile.countToken (hdone _)

theorem hbmTimeout : Keeps s (Machine.hbmTimeout s) := .ite (refl s).enterFaulted (refl s)

/-! #### Drills and tier moves (R324 to R343) -/

theorem mapDrill (h : Keeps s t) {c : Nat} {f : Drill → Drill} : Keeps s (t.mapDrill c f) := h.withTiers

theorem invalidate (h : Keeps s t) {addr : Nat} : Keeps s (t.invalidate addr) := h.withWindow (Memory.wf_writeByte _ _)

theorem endDrill (h : Keeps s t) {d : Drill} {status : Nat} : Keeps s (t.endDrill d status) := by
  unfold State.endDrill
  refine .ite ?_ (.complete ?_)
  all_goals refine .ite (.setNum ?_) ?_
  all_goals exact .ite h.withTiers (.foldl (fun _ _ hu => hu.invalidate) h.withTiers.bump)

theorem abandonDrills (h : Keeps s t) : Keeps s t.abandonDrills := h.foldl fun _ _ hu => hu.endDrill

theorem passDrill (h : Keeps s t) {d : Drill} {c : BestEffort} : Keeps s (t.passDrill d c).1 := by
  unfold State.passDrill
  split
  · exact h
  · split
    · exact h
    · split
      · exact h.sendBest
      · exact h

theorem startDrill (h : Keeps s t) {d : Drill} {header crcs : List Byte} {limit : Nat} :
    Keeps s (t.startDrill d header crcs limit) := by
  have hcopy : Keeps s (if t.serving then t.setNum (copyKey d.copy) 1 else t) := .ite h.setNum h
  unfold State.startDrill
  dsimp only
  split
  · exact hcopy.withTiers.endDrill
  · exact .ite hcopy.withTiers.passDrill hcopy.withTiers.passDrill.endDrill

theorem beginDrill (h : Keeps s t) {d : Drill} {inTier : Bool} {addr : Nat} : Keeps s (t.beginDrill d inTier addr) := h.startDrill

theorem settleCopy (h : Keeps s t) {c : Nat} : Keeps s (t.settleCopy c) := by
  refine .ite ?_ h.setNum
  split
  · exact h.setNum.withTiers.beginDrill
  · exact h.setNum.setNum

theorem settleCopies (h : Keeps s t) : Keeps s t.settleCopies := .ite h.settleCopy.settleCopy h

theorem takeDrill (h : Keeps s t) {ticket tag : W64} {body : Nat} : Keeps s (t.takeDrill ticket tag body) := by
  unfold State.takeDrill
  dsimp only
  split
  · exact h.complete
  · exact .ite h.withTiers h.beginDrill

theorem takeSwitch (h : Keeps s t) {ticket : W64} {target : Nat} : Keeps s (t.takeSwitch ticket target) :=
  .ite h.complete (.ite h.complete (.ite h.setNum.setNum.setNum.bump.settleCopies.complete h.complete))

theorem layStream (h : Keeps s t) {ts : List Tile} {odd : Bool} {x : State × List Nat} (hx : t.layStream ts odd = some x) :
    Keeps s x.1 := by
  unfold State.layStream at hx
  split at hx
  · obtain rfl := Option.some.inj hx
    refine foldlFst (fun _ _ hacc => ?_) ?_
    · exact hacc.layTile
    · exact h
  · exact nomatch hx

theorem drillTensor (h : Keeps s t) {e : TensorEntry} {bs : List Byte} {whole odd : Bool} {x : State × List Nat × Counts}
    (hx : t.drillTensor e bs whole odd = .ok (some x)) : Keeps s x.1 := by
  unfold State.drillTensor at hx
  split at hx
  · exact nomatch hx
  · dsimp only at hx
    split at hx
    · split at hx
      · exact nomatch hx
      · split at hx
        · next heq =>
          obtain rfl := Option.some.inj (Except.ok.inj hx)
          exact h.layStream heq
        · exact nomatch hx
    · split at hx
      · exact nomatch hx
      · split at hx
        · exact nomatch hx
        · exact nomatch hx
        · obtain rfl := Option.some.inj (Except.ok.inj hx)
          exact h.layTensor.countInto

theorem drillOn (h : Keeps s t) {fuel : Nat} {d : Drill} : Keeps s (State.drillOn fuel t d).1 := by
  induction fuel generalizing t d with
  | zero => exact h
  | succ fuel ih =>
    unfold State.drillOn
    dsimp only
    split
    · exact h
    · split
      · exact h
      · split
        · exact h
        · exact h
        · next heq => exact ih (h.drillTensor heq)

theorem putDrill (h : Keeps s t) {d : Drill} : Keeps s (t.putDrill d) := h.mapDrill

theorem joinLine (h : Keeps s t) {copy : Nat} {manifest : List Byte} : Keeps s (t.joinLine copy manifest) := .ite h.startDrill h

theorem drillChunk {c : DrillChunk} : Keeps s (Machine.drillChunk c s) := by
  unfold Machine.drillChunk
  split
  · exact (refl s).joinLine
  · exact refl s
  · exact refl s
  · refine .ite (refl s) (.ite (refl s).bump.endDrill (.ite (refl s).bump.endDrill (.ite (refl s).bump.bump.passDrill.endDrill ?_)))
    split
    · next heq => exact ((refl s).bump.bump.passDrill.putDrill.drillOn.of_eq heq).endDrill
    · next heq => exact ((refl s).bump.bump.passDrill.putDrill.drillOn.of_eq heq).putDrill

theorem drillComplete {copy : Nat} : Keeps s (Machine.drillComplete copy s) := by
  unfold Machine.drillComplete
  split
  · exact refl s
  · exact .ite (refl s) (.ite (refl s).endDrill (refl s).endDrill)

theorem drillLineTimeout {copy : Nat} : Keeps s (Machine.drillLineTimeout copy s) := by
  unfold Machine.drillLineTimeout
  split
  · exact .ite (refl s).endDrill (refl s)
  · exact refl s

theorem fillRegion (h : Keeps s t) {start : Nat} {bs : List Byte} : Keeps s (t.fillRegion start bs).1 :=
  .foldl (fun _ _ hu => hu.writeHbmTile) (h.withWindow (Memory.wf_writeBytes _ _))

theorem writeTier (h : Keeps s t) {m : List Host.Cell} (hm : Memory.wf t.host.tier = true → Memory.wf m = true) :
    Keeps s { t with host := { t.host with tier := m } } := by
  refine h.withHost ?_
  rintro ⟨-, -, hwindow, htier, hrest⟩
  exact ⟨hwindow, hm htier, hrest⟩

theorem moveTier (h : Keeps s t) {b : TierBinding} {content : List Byte} : Keeps s (t.moveTier b content).1 := by
  unfold State.moveTier
  split
  · exact h
  · split
    · exact h.bump.fillRegion
    · exact h.bump.fillRegion
    · exact (h.writeTier (Memory.wf_writeBytes _ _)).bump
    · exact h.bump.foldl fun _ _ hu => hu.sendBest

theorem tierMoveDone {region : Nat} {content : List Byte} {ok : Bool} : Keeps s (Machine.tierMoveDone region content ok s) := by
  unfold Machine.tierMoveDone
  dsimp only
  split
  · exact refl s
  · have hmove : ∀ x b, Keeps s (State.moveTier { s with tiers := x } b content).1 := fun _ _ => (refl s).withTiers.moveTier
    exact .ite (hmove _ _) (.countToken (.ite (hmove _ _) (hmove _ _).deviceFault))

theorem tierTimeout : Keeps s (Machine.tierTimeout s) := .ite (refl s).enterFaulted (refl s)

/-! #### The Harvest (R32, R364 to R369) -/

theorem writeSave (h : Keeps s t) {save : Nat} {complete : Bool} : Keeps s (t.writeSave save complete) :=
  .ite (h.writeTier fun hm => Memory.wf_writeBytes _ _ (Memory.wf_writeBytes _ _ hm)) h.sendAll

theorem jobEnd (h : Keeps s t) : Keeps s t.jobEnd := h.appendLedger.raise.withHarvest

theorem afterStop (h : Keeps s t) : Keeps s t.afterStop := by
  unfold State.afterStop
  split
  · exact h
  · exact .ite h.jobEnd h.withHarvest

theorem stopJob (h : Keeps s t) : Keeps s t.stopJob := by
  unfold State.stopJob
  dsimp only
  refine .ite ?_ (.afterStop (.mapJob ?_))
  all_goals exact .mapJob (.completeOthers (.ite h.dropTaps.beginUndo h))

theorem tryStop (h : Keeps s t) : Keeps s t.tryStop := by
  unfold State.tryStop
  split
  · exact .ite h.stopJob h
  · exact h

theorem fixStop (h : Keeps s t) : Keeps s t.fixStop := by
  unfold State.fixStop
  split
  · exact .ite (.tryStop (.ite h.withHarvest.send h.withHarvest)) h
  · exact h

theorem enterHarvest (h : Keeps s t) {deadline : Cycle} {save hold : Nat} : Keeps s (t.enterHarvest deadline save hold) := by
  unfold State.enterHarvest
  split
  · exact h.withHarvest
  · exact h.withHarvest.moveTo.abandonDrills

theorem askHarvest (h : Keeps s t) {deadline : Cycle} {save hold : Nat} : Keeps s (t.askHarvest deadline save hold) :=
  .ite h (.ite h.enterHarvest.fixStop h.enterHarvest.send)

theorem takeHarvest (h : Keeps s t) {v : Nat} : Keeps s (t.takeHarvest v) := .ite h.mapRecovery h.askHarvest

theorem haltHarvest (h : Keeps s t) : Keeps s t.haltHarvest := h.mapJob.takeHarvest

theorem settleHalt (h : Keeps s t) {n : Nat} : Keeps s (t.settleHalt n) := by
  unfold State.settleHalt
  split
  · exact .ite h.haltHarvest h
  · exact h

theorem halt {p : Nat} : Keeps s (Machine.halt p s) := by
  unfold Machine.halt
  split
  · exact refl s
  · dsimp only
    split
    · exact (refl s).mapPlot.haltHarvest
    · exact (refl s).mapPlot.mapJob

theorem harvestControlWord {deadline : Cycle} {save hold : Nat} : Keeps s (Machine.harvestControlWord deadline save hold s) :=
  .ite (refl s).askHarvest (refl s)

theorem latestStopMessage {c deadline : Cycle} {save hold : Nat} : Keeps s (Machine.latestStopMessage c deadline save hold s) := by
  refine .ite (refl s) ?_
  dsimp only
  have hpass : Keeps s (if (s.enterHarvest deadline save hold).fabric.children.isEmpty = true then s.enterHarvest deadline save hold
      else (s.enterHarvest deadline save hold).send (.latestStop c deadline save hold)) :=
    .ite (refl s).enterHarvest (refl s).enterHarvest.send
  split
  · exact .ite hpass.withHarvest.tryStop hpass
  · exact hpass

theorem cutRepairs (h : Keeps s t) : Keeps s t.cutRepairs := h.mapRecovery

theorem latestStop : Keeps s (Machine.latestStop s) := by
  unfold Machine.latestStop
  split
  · split
    · exact .ite (refl s) (refl s).upTo.cutRepairs.stopJob
    · exact (refl s).upTo.cutRepairs
    · exact refl s
  · exact refl s

theorem saveDone : Keeps s (Machine.saveDone s) := by
  unfold Machine.saveDone
  split
  · exact .ite (refl s).writeSave.jobEnd (refl s)
  · exact refl s

theorem saveCutoff : Keeps s (Machine.saveCutoff s) := by
  unfold Machine.saveCutoff
  split
  · exact .ite (.jobEnd (.ite (refl s).upTo.withHarvest.writeSave (refl s).upTo.withHarvest)) (refl s)
  · exact refl s

theorem writeHeld (h : Keeps s t) {m : List Host.Cell} (hm : Memory.wf t.host.held = true → Memory.wf m = true) :
    Keeps s { t with host := { t.host with held := m } } := by
  refine h.withHost ?_
  rintro ⟨-, -, hwindow, htier, hholder, hheld⟩
  exact ⟨hwindow, htier, hholder, hm hheld⟩

theorem saveFrameReceive {port offset : Nat} {bytes : List Byte} : Keeps s (Machine.saveFrameReceive port offset bytes s) :=
  .ite ((refl s).writeHeld (Memory.wf_writeBytes _ _)).send (refl s)

theorem ledgerHoldExpiry : Keeps s (Machine.ledgerHoldExpiry s) := by
  unfold Machine.ledgerHoldExpiry
  split
  · exact .ite (refl s).withHarvest (refl s)
  · exact refl s

theorem scrubDone : Keeps s (Machine.scrubDone s) := by
  unfold Machine.scrubDone
  split
  · exact .ite (refl s).scrub.withHarvest.restIn (refl s)
  · exact refl s

theorem functionLevelReset : Keeps s (Machine.functionLevelReset s) := .ite (refl s).takeHarvest.resetCxl (refl s)

/-! #### Loads (R155 to R166, R367) -/

theorem setNumSome (h : Keeps s t) {k : Nat} {v : Option Nat} : Keeps s (v.elim t (t.setNum k ·)) := by
  cases v with
  | none => exact h
  | some v => exact h.setNum

theorem setNumerics (h : Keeps s t) {n : Numerics} : Keeps s (t.setNumerics n) :=
  h.setNum.setNum.setNumSome.setNumSome.setNumSome.setNumSome

/-- The parts of the state that a load gives anew. -/
theorem withJob (h : Keeps s t) {job : Option Job} {plots : List Plot} {pool : SMap Region} {tokens ahead : SMap Nat}
    {records : Records} {tiers : Tiers} {seasons : Seasons} :
    Keeps s { t with job := job, plots := plots, pool := pool, tokens := tokens, aheadTokens := ahead, records := records
                     tiers := tiers, seasons := seasons } := h.frame rfl

theorem acceptLoad (h : Keeps s t) {b : Binary} : Keeps s (t.acceptLoad b) := by
  unfold State.acceptLoad
  refine .setNum (.withPower (t := State.setRun _ 64) (.setRun (.ite (.setNum ?_) ?_)))
  all_goals refine .ite ?_ (.setNum ?_)
  all_goals exact .setOct (.setOct (.setOct (.setOct (.setNum (.setNum (.setOct (.setNum (.setNum (.setNumerics
    (.mapFabric h.withJob))))))))))

theorem laySeasonTile (h : Keeps s t) {x : Tile} : Keeps s (t.laySeasonTile x) := h.frame rfl

theorem layInitial (h : Keeps s t) {l : List (W32 × List Byte)} (hu : t.layInitial l = some u) : Keeps s u := by
  induction l generalizing t with
  | nil =>
    obtain rfl := Option.some.inj hu
    exact h
  | cons a l ih =>
    obtain ⟨id, bs⟩ := a
    unfold State.layInitial at hu
    split at hu
    · split at hu
      · split at hu
        · exact ih h.countInto hu
        · exact nomatch hu
      · split at hu
        · next heq => exact ih (h.drillTensor heq) hu
        · exact nomatch hu
    · exact nomatch hu

theorem resume (h : Keeps s t) {b : Binary} {stream : List Host.Cell} {a : Nat} (hu : t.resume b stream a = .ok u) : Keeps s u := by
  unfold State.resume at hu
  dsimp only at hu
  split at hu
  · exact nomatch hu
  · split at hu
    · exact nomatch hu
    · split at hu
      · exact nomatch hu
      · obtain rfl := Except.ok.inj hu
        have hlaid : ∀ ts : List Tile, Keeps s (ts.foldl (fun s t =>
            if s.isSeasonTensor t.tag.tensorId then s.laySeasonTile t else (s.layTile t (decide (bitsOf 191 128 (leNat (Memory.readBytes stream a 128)) % 2 = 1) && !b.singleField)).1) t) :=
          fun _ => h.foldl fun _ _ hu => .ite hu.laySeasonTile hu.layTile
        exact .ite (hlaid _).setNum.setNum.setNum.setNum.setNum.setNum
          (hlaid _).setNum.setNum.setNum.setNum.setNum.setNum.setNum.mapSeasons

theorem loadContents (h : Keeps s t) {b : Binary} {source offset : Nat} (hu : t.loadContents b source offset = .ok u) :
    Keeps s u := by
  unfold State.loadContents at hu
  dsimp only at hu
  split at hu
  · exact h.acceptLoad.resume hu
  · exact h.acceptLoad.resume hu
  · cases hl : (t.acceptLoad b).layInitial b.initialData with
    | none => rw [hl] at hu; exact nomatch hu
    | some v =>
      rw [hl] at hu
      obtain rfl := Except.ok.inj hu
      exact h.acceptLoad.layInitial hl

theorem refuseLoad (h : Keeps s t) {ticket : W64} {code : Nat} : Keeps s (t.refuseLoad ticket code) := h.setNum.complete

theorem takeLoad (h : Keeps s t) {ticket : W64} {body : Nat} : Keeps s (t.takeLoad ticket body) := by
  have hheld : Keeps s { t with host := { t.host with held := [] } } := h.writeHeld fun _ => rfl
  unfold State.takeLoad
  dsimp only
  split
  · exact hheld.refuseLoad
  · split
    · exact hheld.refuseLoad
    · split
      · exact hheld.refuseLoad
      · next heq => exact (hheld.loadContents heq).setNum.restIn.complete

/-! #### Records of the Hopper table (R33, R34, R398 to R403) -/

theorem hostLines (h : Keeps s t) {addr bytes : Nat} : Keeps s (t.hostLines addr bytes) := h.foldl fun _ _ hu => hu.setLine

theorem replaySeason (h : Keeps s t) {r : Roster} {bales : List Bale} : Keeps s (t.replaySeason r bales) := h.frame rfl

theorem writeHolder (h : Keeps s t) {m : List Host.Cell} (hm : Memory.wf t.host.holder = true → Memory.wf m = true) :
    Keeps s { t with host := { t.host with holder := m } } := by
  refine h.withHost ?_
  rintro ⟨-, -, hwindow, htier, hholder, hheld⟩
  exact ⟨hwindow, htier, hm hholder, hheld⟩

theorem writeBinary (h : Keeps s t) {m : List Host.Cell} {x : SMap Binary} (hm : Memory.wf t.host.window = true → Memory.wf m = true) :
    Keeps s { t with host := { t.host with window := m, binaries := x } } := by
  refine h.withHost ?_
  rintro ⟨-, -, hwindow, hrest⟩
  exact ⟨hm hwindow, hrest⟩

theorem hostWrite (h : Keeps s t) {w : HostWrite} : Keeps s (t.hostWrite w) := by
  cases w with
  | tier a bs => exact h.writeTier (Memory.wf_writeBytes _ _)
  | holder a bs => exact h.writeHolder (Memory.wf_writeBytes _ _)
  | slot i v => exact .ite h.withHopper h
  | window a bs => exact .ite (h.withWindow (Memory.wf_writeBytes _ _)).hostLines h
  | binary a bs rest => exact .ite (h.writeBinary (Memory.wf_writeBytes _ _)).hostLines h
  | tapSeason off roster ok bales => exact .ite (h.withWindow (Memory.wf_writeBytes _ _)).hostLines.replaySeason h

theorem hostWrites (h : Keeps s t) {ws : List HostWrite} : Keeps s (t.hostWrites ws) := h.foldl fun _ _ hu => hu.hostWrite

theorem assignStep (h : Keeps s t) {x : Intake} : Keeps s (t.assignStep x) := by
  unfold State.assignStep
  split
  · exact h
  · exact .ite h.complete h.mapJob.bump.writeIntake

theorem admitBatch (h : Keeps s t) {x : Intake} : Keeps s (t.admitBatch x) := h.mapJob.bump.settleCopies.writeIntake

theorem admitEvaluation (h : Keeps s t) {x : Intake} : Keeps s (t.admitEvaluation x) := by
  unfold State.admitEvaluation
  split
  · exact h
  · exact .ite h.complete h.mapJob

theorem takeStart (h : Keeps s t) {ticket : W64} {keysAgree : Bool} : Keeps s (t.takeStart ticket keysAgree) := by
  unfold State.takeStart
  split
  · exact h.complete
  · exact .ite h.setNum.complete (.ite h.setNum.complete
      h.mapJob.mapPlots.withRecords.mapSeasons.beginEpoch.restIn.complete)

theorem actOn (h : Keeps s t) {kind : Nat} {ticket tag : W64} {body : Nat} {keysAgree : Bool} :
    Keeps s (t.actOn kind ticket tag body keysAgree) := by
  unfold State.actOn
  split
  · exact h.takeLoad
  · exact h.takeStart
  · exact h.assignStep
  · exact h.admitBatch
  · exact h.admitEvaluation
  · exact h.takeDrill
  · exact h.takeSwitch

theorem takeRecord (h : Keeps s t) {v : Slot} {loadSeen keysAgree : Bool} : Keeps s (t.takeRecord v loadSeen keysAgree) := by
  unfold State.takeRecord
  dsimp only
  split
  · exact .complete (.ite h.withHopper.setNum.setNum h.withHopper.setNum)
  · exact h.withHopper.setNum.actOn

theorem sweepOn (h : Keeps s t) {fuel : Nat} {loadSeen keysAgree : Bool} : Keeps s (State.sweepOn fuel loadSeen keysAgree t) := by
  induction fuel generalizing t loadSeen with
  | zero => exact h
  | succ fuel ih => exact .ite (ih h.takeRecord) h

theorem sweep (h : Keeps s t) {keysAgree : Bool} : Keeps s (t.sweep keysAgree) := .ite h.sweepOn h

theorem takeDirect (h : Keeps s t) {kind : Nat} {r : RecordIn} {keysAgree : Bool} : Keeps s (t.takeDirect kind r keysAgree) :=
  .ite h (.ite h.withHopper h.takeRecord)

theorem idleTimeout : Keeps s (Machine.idleTimeout s) := .ite (refl s) (.ite (refl s).sweepOn (refl s).enterFallow)

theorem sweepIntervalExpiry {w : List HostWrite} {keysAgree : Bool} : Keeps s (Machine.sweepIntervalExpiry w keysAgree s) :=
  .ite (refl s).hostWrites (refl s).hostWrites.sweep

theorem startRecord {r : RecordIn} {keysAgree : Bool} : Keeps s (Machine.startRecord r keysAgree s) :=
  .ite (refl s).takeDirect.sweep (refl s).takeDirect

/-! #### Seasons at the seal (R298, R309 to R319) -/

theorem sealBoundary (h : Keeps s t) {n : Nat} : Keeps s (t.sealBoundary n) := .ite (.ite h.mapSeasons.askAnchor h.mapSeasons) h

theorem pruneBales (h : Keeps s t) : Keeps s t.pruneBales := h.mapSeasons

theorem endCommit (h : Keeps s t) : Keeps s t.endCommit := h.mapSeasons.raise

theorem setCommitted (h : Keeps s t) {n : Nat} : Keeps s (t.setCommitted n) := h.setNum

theorem flipSeason (h : Keeps s t) {x : SeasonTile} : Keeps s (t.flipSeason x) := h.mapSeasons.setCommitted.setNum.setNum

theorem commitState (h : Keeps s t) {x : SeasonTile} : Keeps s (t.commitState x) := by
  unfold State.commitState
  split
  · exact h.bump.mapSeasons.setNum
  · exact h.flipSeason
  · exact h.flipSeason.mapSeasons

theorem commitRecord (h : Keeps s t) {n : Nat} {x : SeasonTile} : Keeps s (t.commitRecord n x) := .ite h h.mapSeasons.appendLedger

theorem sealSeason (h : Keeps s t) {n : Nat} : Keeps s (t.sealSeason n) := by
  unfold State.sealSeason
  split
  · exact h.commitState
  · exact h

theorem checkFork (h : Keeps s t) {r : Roster} : Keeps s (t.checkFork r) :=
  .ite h (.ite (.ite h.mapSeasons h.mapSeasons.mapSeasons.setNum.askAnchor)
    (.ite h.mapSeasons h.mapSeasons.bump.mapSeasons.setNum.askAnchor))

theorem afterSeason (h : Keeps s t) {n : Nat} {x : Option SeasonTile} : Keeps s (t.afterSeason n x) := by
  cases x with
  | none => exact h.sealBoundary
  | some x =>
    exact .sealBoundary (.ite h.commitRecord.pruneBales.endCommit
      (h.commitRecord.pruneBales.endCommit.foldl fun _ _ hu => hu.checkFork))

/-! #### Barriers and arrivals (R186 to R188, R249 to R253) -/

theorem notePhase (h : Keeps s t) {b : W32} {c : Cycle} : Keeps s (t.notePhase b c) := by
  unfold State.notePhase
  split
  · exact h.withPower
  · exact h

theorem noteAnchor (h : Keeps s t) {b : W32} {c : Cycle} : Keeps s (t.noteAnchor b c) := h.notePhase.mapFabric

theorem noteRelease (h : Keeps s t) {b stepLo : W32} {attempt : BitVec 4} {c : Cycle} : Keeps s (t.noteRelease b stepLo attempt c) :=
  h.noteAnchor.mapFabric

theorem decideBarrier (h : Keeps s t) {c : Collect} {w : Whose} : Keeps s (t.decideBarrier c w) :=
  .ite h.mapFabric.announce (.ite h.mapFabric.noteRelease.send h.mapFabric.noteRelease)

theorem mismatch (h : Keeps s t) : Keeps s t.mismatch := h.deviceFault

theorem putCollect (h : Keeps s t) {c : Collect} : Keeps s (t.putCollect c) := h.mapFabric

theorem countArrival (h : Keeps s t) {m : ArrivalMsg} {w : Whose} : Keeps s (t.countArrival m w) := by
  have hnote : ∀ c, Keeps s ((if m.barrier = sealBarrier then
      t.mapFabric fun f => { f with saveTime := max f.saveTime m.saveTime } else t).putCollect c) :=
    fun _ => .putCollect (.ite h.mapFabric h)
  exact .ite h.mismatch (.ite (hnote _).decideBarrier (hnote _))

theorem takeUndoReport (h : Keeps s t) {m : ArrivalMsg} : Keeps s (t.takeUndoReport m) := by
  unfold State.takeUndoReport
  split
  · exact h
  · exact .ite h (.ite h.mapFabric.fabricHold (.ite (.ite h.mapFabric.mapJob.send h.mapFabric.mapJob) h.putCollect))

theorem leadTake (h : Keeps s t) {m : ArrivalMsg} : Keeps s (t.leadTake m) := by
  refine .ite h.takeUndoReport (.ite h (.ite h.mismatch ?_))
  split
  · exact .ite h h.mismatch
  · exact .ite h (.ite h.mismatch h.countArrival)

theorem putSubtree (h : Keeps s t) {x : Subtree} : Keeps s (t.putSubtree x) := h.mapFabric

theorem joinTree (h : Keeps s t) {child : Option Nat} {m : ArrivalMsg} : Keeps s (t.joinTree child m) :=
  .ite h.toParent (.ite h.putSubtree.toParent (.ite h.putSubtree.toParent h.putSubtree))

theorem arrive (h : Keeps s t) {m : ArrivalMsg} : Keeps s (t.arrive m) := .ite h.leadTake h.joinTree

theorem barrierArrive {p : Nat} {b : W32} : Keeps s (Machine.barrierArrive p b s) := by
  unfold Machine.barrierArrive
  split
  · exact refl s
  · exact .ite (refl s) (.ite (refl s).mapFabric.arrive (refl s).mapFabric)

theorem setTables (h : Keeps s t) {w : Whose} {x : Tables} : Keeps s (t.setTables w x) := by
  cases w with
  | batch n => exact h.mapJob
  | _ => exact h.withRecords

theorem flushPlot (h : Keeps s t) {p : Nat} {w : Whose} : Keeps s (t.flushPlot p w) := by
  unfold State.flushPlot
  split
  · exact h
  · exact h.setTables.bump.mapPlot

theorem checkPairs (h : Keeps s t) {w : Whose} : Keeps s (t.checkPairs w) := h.foldl fun _ _ hu => hu.meetFault

theorem deviceArrives (h : Keeps s t) {w : Whose} {b : W32} : Keeps s (t.deviceArrives w b) := by
  have hmark : ∀ f, Keeps s ((if b = sealBarrier then t.checkPairs w else t).mapWhose w f) := fun _ => .mapWhose (.ite h.checkPairs h)
  exact .ite (hmark _) (hmark _).arrive

theorem gateArrive (h : Keeps s t) {p : Nat} {pl : Plot} : Keeps s (t.gateArrive p pl) :=
  .ite h (.ite h.mapPlot.deviceArrives h.mapPlot)

theorem batchArrive (h : Keeps s t) {p : Nat} {pl : Plot} : Keeps s (t.batchArrive p pl) := by
  unfold State.batchArrive
  split
  · exact h
  · exact .ite h.flushPlot.mapPlot.deviceArrives h.flushPlot.mapPlot

theorem stepArrive (h : Keeps s t) {p : Nat} {pl : Plot} : Keeps s (t.stepArrive p pl) :=
  .ite h (.ite h.flushPlot.mapPlot.deviceArrives h.flushPlot.mapPlot)

theorem sealArrive {p : Nat} {gate : Bool} : Keeps s (Machine.sealArrive p gate s) := by
  unfold Machine.sealArrive
  split
  · exact refl s
  · exact .ite (refl s).gateArrive (.ite (refl s).batchArrive (refl s).stepArrive)

theorem earlyAbort {rank : Nat} {r : SealReport} : Keeps s (Machine.earlyAbort rank r s) := by
  refine .ite (refl s).send (.ite (refl s) ?_)
  split
  · exact .ite (refl s) (refl s).takeAbort
  · exact refl s

theorem earlyAbortWindowExpiry : Keeps s (Machine.earlyAbortWindowExpiry s) := by
  unfold Machine.earlyAbortWindowExpiry
  split
  · exact refl s
  · dsimp only
    split
    · exact (refl s).upTo.decideBarrier
    · exact (refl s).upTo.mapFabric

theorem barrierArrivalMessage {port : Nat} {m : ArrivalMsg} : Keeps s (Machine.barrierArrivalMessage port m s) :=
  .ite (refl s) (.ite (refl s).leadTake (refl s).joinTree)

theorem timeOutBarrier (h : Keeps s t) {c : Collect} : Keeps s (t.timeOutBarrier c) := by
  unfold State.timeOutBarrier
  dsimp only
  split
  · exact h.upTo.bump.bump
  · exact h.upTo.bump.bump.decideBarrier

theorem barrierTimeout {b : W32} : Keeps s (Machine.barrierTimeout b s) := by
  refine .ite (refl s) ?_
  split
  · exact (refl s).timeOutBarrier
  · exact refl s

/-! #### Seal releases and rollbacks (R64, R188 to R191, R201, R203, R336) -/

theorem scaleSeal (h : Keeps s t) : Keeps s t.scaleSeal := .ite (.ite h.setNum.setNum h.setNum) h.setNum

theorem scaleSkip (h : Keeps s t) : Keeps s t.scaleSkip := .ite h.setNum.setNum h.setNum.bump

theorem takeOutcome (h : Keeps s t) {o : SealOutcome} : Keeps s (t.takeOutcome o) := h.mapJob.mapFabric

theorem noteSignature (h : Keeps s t) {g : Signature} : Keeps s (t.noteSignature g) := .ite h h.setOct

theorem withPlots (h : Keeps s t) {x : List Plot} : Keeps s { t with plots := x } := h.frame rfl

theorem shiftWork (h : Keeps s t) : Keeps s t.shiftWork := h.frame rfl

theorem moveField (h : Keeps s t) {n : Nat} {q : W32} : Keeps s (t.moveField n q) := h.setNum.setNum.scaleSeal.setNum.setNum

theorem completeHead (h : Keeps s t) {status n ledger : Nat} {a : Attempt} : Keeps s (t.completeHead status n ledger a) := by
  unfold State.completeHead
  split
  · exact h
  · exact h.mapJob.complete

theorem takeAhead (h : Keeps s t) : Keeps s t.takeAhead := .ite h.mapJob.mapAttempt.sendAbort h.mapJob.mapAttempt

theorem beginEvaluations (h : Keeps s t) : Keeps s t.beginEvaluations := by
  unfold State.beginEvaluations
  split
  · exact h
  · exact h.dropTaps.beginUndo.mapJob

theorem sealStep (h : Keeps s t) {o : SealOutcome} : Keeps s (t.sealStep o) := by
  unfold State.sealStep
  refine .ite (.stopJob ?_) (.sweep (.writeIntake (.beginEvaluations ?_)))
  all_goals exact .settleHalt (.noteAnchor (.settlePlan (.takeAhead (.shiftWork (.withRecords (.mapJob (.completeHead (.afterSeason
    (.appendLedger (.sealSeason (.moveField h.takeOutcome)))))))))))

theorem nextEvaluation (h : Keeps s t) : Keeps s t.nextEvaluation :=
  h.clearTokens.mapPlots.mapFabric.mapJob.settlePlan.writeIntake

theorem endEvaluation (h : Keeps s t) {o : SealOutcome} : Keeps s (t.endEvaluation o) := by
  unfold State.endEvaluation
  split
  · exact h
  · exact .sweep (.settleHalt (.noteAnchor (.nextEvaluation (.withRecords (.complete (.appendLedger h.takeOutcome))))))

theorem endBatch (h : Keeps s t) {o : SealOutcome} : Keeps s (t.endBatch o) := by
  unfold State.endBatch
  split
  · exact h.takeOutcome
  · exact h.takeOutcome.complete.mapJob.mapFabric.settlePlan.noteAnchor.withPlots.settleCopies.writeIntake.settleHalt.sweep.tryStop

theorem sealRelease (h : Keeps s t) : Keeps s (Machine.sealRelease t) := by
  unfold Machine.sealRelease
  split
  · exact h
  · exact .ite h.upTo.endBatch (.ite h.upTo.endEvaluation h.upTo.sealStep)

theorem gateRelease (h : Keeps s t) : Keeps s (Machine.gateRelease t) := by
  unfold Machine.gateRelease
  split
  · exact h
  · exact h.upTo.takeOutcome.mapAttempt.noteAnchor.withPlots.mapPlots.sweep

theorem skipStep (h : Keeps s t) {o : SealOutcome} {n : Nat} {a : Attempt} : Keeps s (t.skipStep o n a) :=
  h.bump.scaleSkip.appendLedger.completeHead.mapJob

theorem nextAttempts (h : Keeps s t) {o : SealOutcome} {f : Attempt → Attempt} {floor : Nat} : Keeps s (t.nextAttempts o f floor) :=
  h.mapJob

theorem hold (h : Keeps s t) {o : SealOutcome} {n : Nat} {a : Attempt} {ahead : Bool} : Keeps s (t.hold o n a ahead) := by
  unfold State.hold
  refine .raise (.settleCopies (.mapJob ?_))
  split
  · exact .completeOthers (.complete (.appendLedger (.logFault (.ite h.setNum.bump h.setNum))))
  · exact .completeOthers (.appendLedger (.logFault (.ite h.setNum.bump h.setNum)))

theorem applyRollback (h : Keeps s t) {o : SealOutcome} {n : Nat} {a : Attempt} : Keeps s (t.applyRollback o n a) := by
  unfold State.applyRollback
  split
  · exact h.skipStep
  · exact h.bump.nextAttempts
  · exact h.bump.bump.nextAttempts
  · exact h
  · exact h

theorem applyHold (h : Keeps s t) {o : SealOutcome} {n : Nat} {a : Attempt} : Keeps s (t.applyHold o n a) := by
  have hhold : ∀ b f, Keeps s (((if t.undoes o then t.beginUndo (t.floorOf o) else t).hold o n a b).mapPlots f) :=
    fun _ _ => .mapPlots (.hold (.ite h.beginUndo h))
  exact .ite (hhold _ _).mapJob (hhold _ _)

theorem rollbackRelease (h : Keeps s t) : Keeps s (Machine.rollbackRelease t) := by
  unfold Machine.rollbackRelease
  split
  · exact h
  · refine .ite (.sweep (.tryStop ?_)) (.tryStop ?_)
    all_goals refine .ite (.applyHold ?_) (.ite (.beginUndo (.applyRollback ?_)) (.applyRollback ?_))
    all_goals exact .ite h.upTo.takeOutcome.noteSignature.dropTaps h.upTo.takeOutcome.noteSignature

theorem tryReport (h : Keeps s t) : Keeps s t.tryReport := by
  unfold State.tryReport
  split
  · exact h
  · exact .ite h (.ite h.mapJob.afterStop (.ite h.mapJob (.ite h.mapJob.arrive h)))

theorem undoComplete : Keeps s (Machine.undoComplete s) := by
  unfold Machine.undoComplete
  split
  · exact refl s
  · refine .ite (refl s) (.tryReport (.ite (.fabricHold ?_) ?_))
    all_goals exact .mapJob (.bump (.ite (refl s).mapPlots.clearTokens (refl s).mapPlots))

theorem restart : Keeps s (Machine.restart s) := by
  unfold Machine.restart
  split
  · exact refl s
  · split
    · exact refl s
    · exact .ite (refl s) (.ite (refl s).upTo.mapJob.mapPlots.writeIntake.beginEpoch.noteAnchor
        (refl s).upTo.mapJob.mapPlots.writeIntake.beginEpoch.noteAnchor.sweep)

theorem receiveOutcome (h : Keeps s t) {o : SealOutcome} : Keeps s (t.receiveOutcome o) :=
  .ite h (.ite h.mapJob (.ite h.mapJob.sealRelease (.ite h.mapJob.gateRelease h.mapJob.rollbackRelease)))

theorem adoptOutcome (h : Keeps s t) {o : SealOutcome} : Keeps s (t.adoptOutcome o) := .ite h h.mapFabric.announce

theorem releaseMessage {m : ReleaseMsg} : Keeps s (Machine.releaseMessage m s) := by
  have hpass : Keeps s (if s.fabric.children.isEmpty then s else s.send (.release m)) := .ite (refl s) (refl s).send
  refine .ite (refl s) (.ite ?_ ?_)
  · cases m with
    | outcome o => exact (refl s).adoptOutcome
    | barrier b step attempt c => exact refl s
  · cases m with
    | outcome o => exact hpass.receiveOutcome
    | barrier b step attempt c => exact .ite hpass.mapJob (.ite hpass.noteRelease hpass)

/-! #### Patrol, repair and the Gleaner (R347 to R362) -/

theorem patrolRegion (h : Keeps s t) {p : Nat} {l : Loc} {suspect : Bool} {e : EccResult} :
    Keeps s (t.patrolRegion p l suspect e) := by
  cases e with
  | clean => exact h
  | uncorrectable => exact .ite h.bump.setRegion.suspectPlot h.bump.setRegion
  | corrected | miscorrected => exact h.bump

theorem patrolRead {store : PatrolStore} {e : EccResult} : Keeps s (Machine.patrolRead store e s) := by
  refine .ite (refl s) ?_
  cases store with
  | hbmLine l => exact (refl s).countEcc
  | crib p r | loam p r | pool k r => exact .ite (refl s).patrolRegion (refl s)
  | buffer p i w =>
    refine .ite (refl s) ?_
    cases e with
    | clean => exact refl s
    | uncorrectable => exact (refl s).bump.mapPlot.suspectPlot
    | corrected | miscorrected => exact (refl s).bump
  | program p =>
    dsimp only
    split
    · exact .suspectPlot (.ite (refl s).bump.plotFault (refl s).bump)
    · exact refl s
    · exact (refl s).bump
    · exact refl s
  | transport => exact (refl s).countEcc
  | faultLog i => exact .ite (refl s).countEcc.mapCtl (refl s).countEcc
  | control =>
    cases e with
    | clean => exact refl s
    | uncorrectable => exact (refl s).bump.enterFaulted
    | corrected | miscorrected => exact (refl s).bump

theorem repairServe (h : Keeps s t) {source : Nat} {id shard : W32} {bo : BitVec 40} :
    Keeps s (Machine.repairServe source id shard bo t) := by
  unfold Machine.repairServe
  split
  · exact h.bump.sendBest
  · exact h.sendBest

theorem repairReply (h : Keeps s t) {id shard : W32} {bo : BitVec 40} {x : Option Tile} :
    Keeps s (Machine.repairReply id shard bo x t) := by
  unfold Machine.repairReply
  split
  · exact h
  · split
    · exact h.mapRecovery.writeHbmTile.bump.tryReport
    · exact h.askRepair

theorem repairPeerTimeout : Keeps s (Machine.repairPeerTimeout s) := by
  unfold Machine.repairPeerTimeout
  split
  · exact (refl s).askRepair
  · exact refl s

theorem mapHeadland (h : Keeps s t) {d : Nat} {f : Port → Port} : Keeps s (t.mapHeadland d f) := h.foldl fun _ _ hu => hu.mapPort

theorem downForTest (h : Keeps s t) {d : Nat} : Keeps s (t.downForTest d) := h.mapHeadland.bump

theorem beginGlean (h : Keeps s t) {d : Nat} : Keeps s (t.beginGlean d) := h.downForTest.mapRecovery

theorem endGlean (h : Keeps s t) : Keeps s t.endGlean := h.mapHeadland.mapRecovery.setNum.restIn.raise

theorem nextGlean (h : Keeps s t) : Keeps s t.nextGlean := by
  unfold State.nextGlean
  split
  · exact .ite h.endGlean h.beginGlean
  · exact h.endGlean

theorem withFlash (h : Keeps s t) {x : Flash} : Keeps s { t with flash := x } := h.frame rfl

theorem noteGlean (h : Keeps s t) {d : Nat} {r : GleanResult} : Keeps s (t.noteGlean d r) := by
  unfold State.noteGlean
  exact h.mapRecovery.setNum.setNum.withFlash

theorem gleanDomainDone {r : GleanResult} : Keeps s (Machine.gleanDomainDone r s) := by
  unfold Machine.gleanDomainDone
  split
  · exact refl s
  · exact .ite (refl s) (refl s).noteGlean.mapHeadland.mapRecovery.nextGlean

theorem gleanSegment : Keeps s (Machine.gleanSegment s) := .ite (refl s).endGlean (refl s)

/-! #### Ports, time and the succession (R242 to R261) -/

theorem portGone (h : Keeps s t) {p : Port} : Keeps s (t.portGone p) := .ite h.deviceFault h

theorem toDown (h : Keeps s t) {n : Nat} : Keeps s (t.toDown n) := h.mapPort.bump.portGone

theorem portTrainingDone {n : Nat} {ok ready : Bool} : Keeps s (Machine.portTrainingDone n ok ready s) :=
  .ite (refl s) (.ite (refl s).toDown (.ite (refl s).mapPort.send (refl s).mapPort.send))

theorem trainingRetry {n : Nat} : Keeps s (Machine.trainingRetry n s) := .ite (refl s).mapPort (refl s)

theorem readyQuery {n : Nat} {arrives : Bool} : Keeps s (Machine.readyQuery n arrives s) :=
  .ite (.ite (refl s) (.ite (refl s).send (refl s).send)) (.ite (refl s).send (refl s))

theorem notReadyReceived {n : Nat} : Keeps s (Machine.notReadyReceived n s) :=
  .ite (refl s) (.portGone (.ite (refl s).mapPort.setNum (refl s).mapPort))

theorem portDown {n : Nat} : Keeps s (Machine.portDown n s) := .ite (refl s).toDown (refl s)

theorem learnMaps (h : Keeps s t) {n : Nat} {i : Identity} : Keeps s (t.learnMaps n i) := .ite h.mapFabric h

theorem withCycle (h : Keeps s t) {c : Cycle} : Keeps s { t with cycle := c } := h.frame rfl

theorem stepCount (h : Keeps s t) {offset : Int} : Keeps s (t.stepCount offset) := h.withCycle.setNum

theorem slew (h : Keeps s t) {offset : Int} : Keeps s (t.slew offset) := .ite h (.ite h.mapFabric (h.frame rfl))

theorem keepTime (h : Keeps s t) {offset : Int} : Keeps s (t.keepTime offset) := by
  unfold State.keepTime
  refine .ite h.mapFabric.stepCount.setNum.mapFabric (.tryReport (.slew (.ite (.setNum ?_) ?_)))
  all_goals refine .ite (.deviceFault ?_) ?_
  all_goals exact .ite h.mapFabric.setNum h.mapFabric

theorem checkOffset (h : Keeps s t) {n : Nat} {offset : Int} : Keeps s (t.checkOffset n offset) := .ite h.setNum.keepTime h

theorem identityExchange {n : Nat} {i : Identity} : Keeps s (Machine.identityExchange n i s) := by
  refine .ite (refl s) (.tryReport (.ite ?_ (.portGone ?_)))
  all_goals exact .settleTeam (.ite (refl s).mapPort.setNum.learnMaps.settlePort
    (refl s).mapPort.setNum.learnMaps.settlePort.checkOffset)

theorem formTimeout : Keeps s (Machine.formTimeout s) := .ite (refl s).failForming.sendIdentities (refl s)

theorem timeWord {n : Nat} {x : TimeStamps} : Keeps s (Machine.timeWord n x s) :=
  .ite (refl s) (.ite (refl s).setNum (.ite (refl s).setNum.setNum.stepCount.setNum.settleTeam (refl s).setNum.setNum.keepTime))

theorem resendArrivals (h : Keeps s t) : Keeps s t.resendArrivals :=
  .sendAll (.sendAll (h.mapFabric.foldl fun _ _ hu => hu.toParent))

theorem followLead (h : Keeps s t) {n : Nat} {x : Heartbeat} : Keeps s (t.followLead n x) :=
  h.setNum.setNum.setNum.mapFabric.settleTree.resendArrivals.sendIdentities

theorem heartbeatReceive {n : Nat} {x : Heartbeat} : Keeps s (Machine.heartbeatReceive n x s) := by
  have hlead : Keeps s (if s.newLead x then s.followLead n x else s) := .ite (refl s).followLead (refl s)
  exact .ite (refl s) (.ite (refl s) (.ite hlead hlead.mapFabric.sendAll.send))

theorem leadSilence : Keeps s (Machine.leadSilence s) := .ite (refl s).upTo.mapFabric (refl s)

theorem renewOutcomes (h : Keeps s t) : Keeps s t.renewOutcomes := h.mapJob.sendAll

theorem leadTakeover : Keeps s (Machine.leadTakeover s) := by
  unfold Machine.leadTakeover
  split
  · exact refl s
  · exact .ite (refl s) (.foldl (fun _ _ hu => hu.takeAbort) (.foldl (fun _ _ hu => hu.leadTake)
      (refl s).upTo.setNum.setNum.mapFabric.settleTree.renewOutcomes.sendIdentities))

theorem linkWaitExpiry {lost : Option Nat} : Keeps s (Machine.linkWaitExpiry lost s) := by
  cases lost with
  | none => exact .ite (refl s).mapFabric.tryReport (refl s)
  | some r => exact .ite (refl s) (.ite (refl s).setNum (refl s).fabricHold)

/-! #### Slots, frames and bouts (R229 to R240) -/

theorem sendFrame (h : Keeps s t) {port : Nat} {f : SlotFrame} : Keeps s (t.sendFrame port f) := by
  unfold State.sendFrame
  exact h.mapPort.send

theorem sendPiece (h : Keeps s t) {e : SlotEntry} {slot : Nat} {late : Bool} (hu : t.sendPiece e slot late = some u) : Keeps s u := by
  unfold State.sendPiece at hu
  dsimp only at hu
  split at hu
  · split at hu
    · obtain rfl := Option.some.inj hu
      exact h.mapFabric.mapFabric.sendFrame
    · exact nomatch hu
  · split at hu
    · obtain rfl := Option.some.inj hu
      exact h.mapPlot.mapFabric.sendFrame
    · exact nomatch hu

theorem retransmit (h : Keeps s t) {port slot : Nat} (hu : t.retransmit port slot = some u) : Keeps s u := by
  unfold State.retransmit at hu
  split at hu
  · exact nomatch hu
  · dsimp only at hu
    split at hu
    all_goals obtain rfl := Option.some.inj hu
    · exact h.mapPort.bump.send
    · exact h.mapPort.bump.send
    · exact h.mapPort

theorem sendLate (h : Keeps s t) {port slot : Nat} (hu : t.sendLate port slot = some u) : Keeps s u := by
  obtain ⟨e, -, he⟩ := List.exists_of_findSome?_eq_some hu
  obtain ⟨v, hv, rfl⟩ := Option.map_eq_some_iff.1 he
  exact (h.sendPiece hv).bump

theorem sendBestEffort (h : Keeps s t) {port : Nat} : Keeps s (t.sendBestEffort port) := by
  unfold State.sendBestEffort
  dsimp only
  split
  · exact h
  · exact .ite h h.mapPort.send

theorem slotPositionStart {port slot : Nat} : Keeps s (Machine.slotPositionStart port slot s) := by
  have hup : Keeps s (s.upTo (slotStart slot)) := (refl s).upTo
  refine .ite hup ?_
  split
  · refine .ite ?_ hup
    cases hpiece : (s.upTo (slotStart slot)).sendPiece _ slot false with
    | none => exact hup
    | some u => exact hup.sendPiece hpiece
  · split
    · next heq => exact hup.retransmit heq
    · refine .ite hup ?_
      split
      · next heq =>
        split at heq
        · exact hup.sendLate heq
        · exact nomatch heq
      · exact hup.sendBestEffort

theorem controlWords (h : Keeps s t) {n bout : Nat} : Keeps s (t.controlWords n bout) := by
  unfold State.controlWords
  refine .ite (.send ?_) ?_
  all_goals exact .ite h.send.send.mapPort.send h.send.send.mapPort

theorem boutStart : Keeps s (Machine.boutStart s) := (refl s).upTo.foldl fun _ _ hu => hu.controlWords

theorem ackWord {n : Nat} {w : AckWord} : Keeps s (Machine.ackWord n w s) :=
  .ite (refl s) (.ite (refl s).mapPort.toDown (refl s).mapPort)

theorem takeSequence (h : Keeps s t) {n : Nat} {q : BitVec 24} {ok : Bool} : Keeps s (t.takeSequence n q ok).1 := by
  unfold State.takeSequence
  dsimp only
  split
  · split
    · exact h.mapPort
    · exact h.mapPort
  · split
    · exact h.mapPort
    · exact h

theorem landFrame (h : Keeps s t) {e : SlotEntry} {region : Nat} {x : Tile} {bad : Bool} : Keeps s (t.landFrame e region x bad) := by
  unfold State.landFrame
  exact .setRegion (.ite h.meetFault h)

theorem assemblyOf (h : Keeps s t) {e : SlotEntry} {g : Tag} : Keeps s (t.assemblyOf e g).2 := by
  unfold State.assemblyOf
  split
  · exact h
  · dsimp only
    exact h.mapFabric.setRegion

theorem takePiece (h : Keeps s t) {e : SlotEntry} {f : SlotFrame} {bad : Bool} : Keeps s (t.takePiece e f bad) :=
  .ite h.assemblyOf.mapFabric.landFrame h.assemblyOf.mapFabric

theorem takePacked (h : Keeps s t) {e : SlotEntry} {f : SlotFrame} {bad : Bool} : Keeps s (t.takePacked e f bad) :=
  h.foldl fun _ _ hu => hu.mapFabric.landFrame

theorem slotFault (h : Keeps s t) {e : Option SlotEntry} {g : Tag} : Keeps s (t.slotFault e g) := by
  cases e with
  | none => exact h.meetFault
  | some e => exact .ite h.meetFault.setRegion h.meetFault

theorem acceptFrame (h : Keeps s t) {e : SlotEntry} {f : SlotFrame} : Keeps s (t.acceptFrame e f) := by
  have hcheck : ∀ (b : Bool) w plot region g, Keeps s ((if b then t.meetFault w 2 plot 0xFFFF region else t).mapFabric g) :=
    fun _ _ _ _ _ => .mapFabric (.ite h.meetFault h)
  exact .ite (hcheck _ _ _ _ _).mapFabric (.ite (hcheck _ _ _ _ _).takePacked (hcheck _ _ _ _ _).takePiece)

theorem slotFrameReceive {n : Nat} {f : SlotFrame} : Keeps s (Machine.slotFrameReceive n f s) := by
  refine .ite (refl s) ?_
  split
  next heq =>
    have htaken := (refl s).bump.takeSequence.of_eq heq
    refine .ite htaken ?_
    dsimp only
    split
    · exact htaken.acceptFrame
    · exact htaken.slotFault

/-! #### Winnow, rosters and commits (R298 to R319) -/

theorem mapTensors (h : Keeps s t) {f : SeasonTensor → SeasonTensor} : Keeps s (t.mapTensors f) := h.mapSeasons

theorem storeBale (h : Keeps s t) {b : Bale} : Keeps s (t.storeBale b) := .ite h h.mapSeasons

theorem spreadBale (h : Keeps s t) {b : Bale} : Keeps s (t.spreadBale b) := h.storeBale.foldl fun _ _ hu => hu.sendBest

theorem healLines (h : Keeps s t) {ids : List W32} : Keeps s (t.healLines ids) := h.foldl fun _ _ hu => hu.setLine

theorem failWinnow (h : Keeps s t) {own : Bool} : Keeps s (t.failWinnow own) :=
  .ite (h.mapSeasons.bump.foldl fun _ _ hu => hu.sendBest) h.mapSeasons

theorem noteCounts (h : Keeps s t) {k : KeyCounts} : Keeps s (t.noteCounts k) := .ite h h.mapSeasons

theorem shareCounts (h : Keeps s t) {id : W32} {part : Nat} {counts : SMap Nat} : Keeps s (t.shareCounts id part counts) :=
  h.noteCounts.foldl fun _ _ hu => hu.sendBest

theorem settleTau (h : Keeps s t) {x : SeasonTensor} : Keeps s (t.settleTau x) := by
  unfold State.settleTau
  dsimp only
  split
  · exact h
  · split
    · exact h
    · split
      · exact h.shareCounts
      · exact h.shareCounts.mapTensors

theorem settleTaus (h : Keeps s t) : Keeps s t.settleTaus := .ite (h.foldl fun _ _ hu => hu.settleTau) h

theorem passOne (h : Keeps s t) {late : Bool} : Keeps s (t.passOne late) :=
  .ite h.useFree.mapSeasons.failWinnow (.settleTaus (h.useFree.mapSeasons.mapTensors.foldl fun _ _ hu => hu.shareCounts))

theorem winnowPassOne : Keeps s (Machine.winnowPassOne s) :=
  .ite (refl s) (.ite (refl s).passOne (.ite (refl s).passOne (refl s)))

theorem offerBale (h : Keeps s t) {b : Bale} : Keeps s (t.offerBale b) := h.spreadBale.sendToTeams

theorem endLate (h : Keeps s t) : Keeps s t.endLate := .ite h.bump.mapSeasons.setNum.askAnchor h

theorem passTwo (h : Keeps s t) : Keeps s t.passTwo := by
  unfold State.passTwo
  exact .ite h.useFree.failWinnow (.endLate (.foldl (fun _ _ hu => hu.offerBale) h.useFree.mapTensors.healLines.mapSeasons))

theorem winnowPassTwo : Keeps s (Machine.winnowPassTwo s) := .ite (refl s).passTwo (refl s)

theorem baleChunk {x : AcreHeader} {bytes : List Byte} : Keeps s (Machine.baleChunk x bytes s) := by
  unfold Machine.baleChunk
  split
  · next heq => exact (refl s).letIn.of_eq heq
  · next heq =>
    split
    · next hchunk => exact ((refl s).letIn.of_eq heq).takeChunk.of_eq hchunk
    · next hchunk =>
      have hin := ((refl s).letIn.of_eq heq).takeChunk.of_eq hchunk
      split
      · exact hin
      · exact .ite hin.spreadBale hin

theorem askBales (h : Keeps s t) {r : Roster} : Keeps s (t.askBales r) := .ite (h.foldl fun _ _ hu => hu.send) h

theorem takeRoster (h : Keeps s t) {r : Roster} : Keeps s (t.takeRoster r) := .ite h h.mapSeasons.checkFork.askBales

theorem spreadRoster (h : Keeps s t) {r : Roster} : Keeps s (t.spreadRoster r) := h.takeRoster.foldl fun _ _ hu => hu.sendBest

theorem rosterChunk {x : AcreHeader} {bytes : List Byte} {ok : Bool} : Keeps s (Machine.rosterChunk x bytes ok s) := by
  unfold Machine.rosterChunk
  split
  · next heq => exact (refl s).letIn.of_eq heq
  · next heq =>
    split
    · next hchunk => exact ((refl s).letIn.of_eq heq).takeChunk.of_eq hchunk
    · next hchunk =>
      have hin := ((refl s).letIn.of_eq heq).takeChunk.of_eq hchunk
      split
      · exact hin
      · exact .ite hin.spreadRoster hin.bump

theorem publish (h : Keeps s t) {season index : Nat} : Keeps s (t.publish season index) := by
  unfold State.publish
  exact h.mapSeasons.spreadRoster.sendToTeams

theorem seasonDeadline {now : Nat} : Keeps s (Machine.seasonDeadline now s) := by
  unfold Machine.seasonDeadline
  dsimp only
  split
  · exact refl s
  · exact .ite (refl s).publish (refl s)

theorem successorPublish {now : Nat} : Keeps s (Machine.successorPublish now s) := by
  unfold Machine.successorPublish
  split
  · exact refl s
  · exact .ite (refl s).publish (refl s)

theorem noteReady (h : Keeps s t) {rank season : Nat} {mode : CommitMode} : Keeps s (t.noteReady rank season mode) := h.mapSeasons

theorem reportReady (h : Keeps s t) {season : Nat} {mode : CommitMode} : Keeps s (t.reportReady season mode) :=
  .ite h.noteReady h.sendBest

theorem mergeSumWritten : Keeps s (Machine.mergeSumWritten s) := by
  unfold Machine.mergeSumWritten
  split
  · exact refl s
  · exact .ite (refl s) (refl s).mapTensors.healLines.mapSeasons.reportReady

theorem fixMode (h : Keeps s t) {x : SeasonTile} : Keeps s (t.fixMode x) := h.mapSeasons.foldl fun _ _ hu => hu.sendBest

theorem commitModeChoice : Keeps s (Machine.commitModeChoice s) := by
  refine .ite ?_ (refl s)
  cases s.readyTile with
  | none => exact refl s
  | some x => exact (refl s).fixMode

theorem rosterWaitExpiry {now : Nat} : Keeps s (Machine.rosterWaitExpiry now s) := by
  refine .ite (refl s) ?_
  split
  · exact (refl s).fixMode
  · exact .ite (refl s).fixMode (refl s).setNum

theorem hearMode (h : Keeps s t) {x : SeasonTile} {c : Cycle} : Keeps s (t.hearMode x c) := .ite h h.mapSeasons

theorem seasonTileWrite : Keeps s (Machine.seasonTileWrite s) := by
  unfold Machine.seasonTileWrite
  split
  · exact (refl s).upTo.mapSeasons
  · exact refl s

theorem layReply (h : Keeps s t) {season : Nat} {bs : List Byte} : Keeps s (t.layReply season bs) :=
  .ite h h.mapSeasons.healLines.reportReady

theorem anchorChunk {x : AcreHeader} {bytes : List Byte} {season : Nat} : Keeps s (Machine.anchorChunk x bytes season s) := by
  unfold Machine.anchorChunk
  split
  · next heq => exact (refl s).letIn.of_eq heq
  · next heq =>
    refine .ite ((refl s).letIn.of_eq heq) ?_
    split
    · next hchunk => exact ((refl s).letIn.of_eq heq).takeChunk.of_eq hchunk
    · next hchunk =>
      have hin := ((refl s).letIn.of_eq heq).takeChunk.of_eq hchunk
      split
      · exact hin.layReply
      · exact hin

theorem fetchRequest {x : AcreHeader} : Keeps s (Machine.fetchRequest x s) := by
  unfold Machine.fetchRequest
  split
  · next heq => exact (refl s).letIn.of_eq heq
  · next heq => exact ((refl s).letIn.of_eq heq).useFree.foldl fun _ _ hu => hu.sendObject

theorem hearCounts (h : Keeps s t) {k : KeyCounts} : Keeps s (t.hearCounts k) := .ite (.ite h.failWinnow h) h.noteCounts.settleTaus

/-! #### Best-effort frames (R240, R263) -/

theorem takeTierTile (h : Keeps s t) {region offset : Nat} {x : Tile} : Keeps s (t.takeTierTile region offset x) := by
  unfold State.takeTierTile
  split
  · exact h.writeHbmTile
  · exact h

theorem deliverBest (h : Keeps s t) {port : Nat} {f : BeFrame} : Keeps s (t.deliverBest port f) := by
  unfold State.deliverBest
  split
  · exact h.takeTierTile
  · exact h.repairServe
  · exact h.repairReply
  · exact h.trans drillChunk
  · exact h.hearCounts
  · exact .ite h.noteReady h
  · exact h.hearMode
  · exact h.trans saveFrameReceive
  · exact h.storeBale
  · exact h.takeRoster

theorem passBest (h : Keeps s t) {n : Nat} {f : BeFrame} : Keeps s (t.passBest n f) := .ite h.mapPort.deliverBest h.mapPort.routeBest

theorem passOn (h : Keeps s t) {n : Nat} {fs : List BeFrame} : Keeps s (t.passOn n fs) :=
  h.mapPort.foldl fun _ _ hu => hu.passBest

theorem bestEffortFrame {n : Nat} {x : LinkHead} {f : BeFrame} : Keeps s (Machine.bestEffortFrame n x f s) := by
  refine .ite (refl s) ?_
  split
  · next heq => exact (refl s).bump.takeSequence.of_eq heq
  · next heq =>
    have htaken := (refl s).bump.takeSequence.of_eq heq
    exact .ite htaken.mapPort htaken.passOn

/-! #### The yoke meter and the governor (R416, R417) -/

theorem yokeSample {watts : Nat} : Keeps s (Machine.yokeSample watts s) := .ite (refl s) (refl s).withPower

theorem settlePhase (h : Keeps s t) : Keeps s t.settlePhase := h.withPower

theorem governorWindow : Keeps s (Machine.governorWindow s) := by
  refine .ite (refl s) (.withPower (t := State.setRun _ _) (.setRun (.setNum (.setNum (.ite (.bump ?_) ?_)))))
  all_goals exact .ite (refl s).upTo.settlePhase.bump (refl s).upTo.settlePhase

/-! #### The dictionary's writes and requests (R378 to R394, R404) -/

theorem commitMap (h : Keeps s t) {m : RepairMap} : Keeps s (t.commitMap m) := .ite h.setOct.withFlash h.setOct.withFlash

theorem setPortCtrl (h : Keeps s t) {n v : Nat} : Keeps s (t.setPortCtrl n v) := h.mapPort

theorem setAcreMode (h : Keeps s t) {n before v : Nat} : Keeps s (t.setAcreMode n before v) := .ite h h.withAcre.setNum

theorem applyEntry (h : Keeps s t) {key : Nat} {v : EntryValue} : Keeps s (t.applyEntry key v) := by
  cases v with
  | octets b =>
    refine .ite ?_ h.setOct
    cases readRepairMap b with
    | none => exact h
    | some m => exact h.commitMap
  | num n =>
    exact .ite h.ackEvents (.ite h.writeEventMask (.ite (.ite h.setNum.setReach h.setNum) (.ite h.setNum.settleLedger
      (.ite h.setNum.setPortCtrl (.ite h.setNum.setAcreMode h.setNum)))))

theorem applyAll (h : Keeps s t) {w : List (Nat × EntryValue)} : Keeps s (t.applyAll w) := by
  have happly : Keeps s (w.foldl (fun s e => s.applyEntry e.1 e.2) t) := h.foldl fun _ _ hu => hu.applyEntry
  exact .ite happly.settlePorts.sendIdentities happly

theorem respond (h : Keeps s t) {r : Req} {abort : Option W32} {data : List Byte} : Keeps s (t.respond r abort data) := by
  unfold State.respond
  split
  · exact h.mapCtl.bump.send
  · exact h.mapCtl

section

variable {r : Req} {op : BitVec 4} {act : State → Except Abort (State × List Byte)} {after lost : State → State}

/-- What a request does before its answer, after it, and where it is refused, keeps what every command keeps. -/
structure Act (act : State → Except Abort (State × List Byte)) (after lost : State → State) : Prop where
  act : ∀ {s t u d}, Keeps s t → act t = .ok (u, d) → Keeps s u
  after : ∀ {s t}, Keeps s t → Keeps s (after t)
  lost : ∀ {s t}, Keeps s t → Keeps s (lost t)

theorem execute (hact : Act act after lost) (h : Keeps s t) : Keeps s (t.execute r op act after lost) := by
  unfold State.execute
  refine .ite h.respond ?_
  split
  · exact h.respond
  · refine .ite h.respond ?_
    split
    · exact (hact.lost h).respond
    · next heq => exact hact.after (hact.act h heq).respond

theorem receive (hact : Act act after lost) : Keeps s (s.receive r op act after lost) := by
  unfold State.receive
  split
  · exact .ite (execute hact (refl s)) (refl s)
  · have hpass : ∀ (p : Prop) [Decidable p] m, Keeps s (if p then s else s.send m) := fun _ _ _ => .ite (refl s) (refl s).send
    refine .ite (refl s) (.ite (hpass _ _) ?_)
    split
    · exact (hpass _ _).respond
    · exact .ite (hpass _ _).respond (execute hact (hpass _ _))

end

/-- A request whose whole effect comes before its answer. -/
theorem Act.ofAct {act : State → Except Abort (State × List Byte)}
    (h : ∀ {s t u d}, Keeps s t → act t = .ok (u, d) → Keeps s u) : Act act id id := ⟨h, id, id⟩

theorem readEntry {r : Req} {d : List Byte} (h : Keeps s t) (hu : Machine.readEntry r t = .ok (u, d)) : Keeps s u := by
  unfold Machine.readEntry at hu
  split at hu
  · exact nomatch hu
  · dsimp only at hu
    split at hu
    · exact nomatch hu
    · split at hu
      · split at hu
        · exact nomatch hu
        · obtain ⟨rfl, -⟩ := Prod.mk.inj (Except.ok.inj hu)
          exact h
      · split at hu
        · exact nomatch hu
        · obtain ⟨rfl, -⟩ := Prod.mk.inj (Except.ok.inj hu)
          exact .ite h.useFree h

theorem readRequest {x : ReadTarget} : Keeps s (Machine.readRequest x s) := by
  cases x with
  | entry r => exact receive (.ofAct readEntry)
  | bar0 offset => exact .ite (refl s).send (refl s)

theorem writeEntry {r : Req} {d : List Byte} (h : Keeps s t) (hu : Machine.writeEntry r t = .ok (u, d)) : Keeps s u := by
  unfold Machine.writeEntry at hu
  split at hu
  · exact nomatch hu
  · dsimp only at hu
    split at hu
    · exact nomatch hu
    · split at hu
      · exact nomatch hu
      · split at hu
        · exact nomatch hu
        · split at hu
          · exact nomatch hu
          · split at hu
            · exact nomatch hu
            · split at hu
              · exact nomatch hu
              · split at hu
                · obtain ⟨rfl, -⟩ := Prod.mk.inj (Except.ok.inj hu)
                  exact h.applyAll
                · split at hu
                  · obtain ⟨rfl, -⟩ := Prod.mk.inj (Except.ok.inj hu)
                    exact h.withTxn
                  · exact nomatch hu

theorem writeRequest {r : Req} : Keeps s (Machine.writeRequest r s) := receive (.ofAct writeEntry)

theorem beginTxn {r : Req} : Keeps s (Machine.beginTxn r s) := by
  refine receive (.ofAct fun h hu => ?_)
  split at hu
  · exact nomatch hu
  · obtain ⟨rfl, -⟩ := Prod.mk.inj (Except.ok.inj hu)
    exact h.withTxn

theorem commitEntry {r : Req} {d : List Byte} (h : Keeps s t) (hu : Machine.commitEntry r t = .ok (u, d)) : Keeps s u := by
  unfold Machine.commitEntry at hu
  split at hu
  · exact nomatch hu
  · split at hu
    · exact nomatch hu
    · split at hu
      · obtain ⟨rfl, -⟩ := Prod.mk.inj (Except.ok.inj hu)
        exact h.withTxn.applyAll
      · exact nomatch hu

theorem commitTxn {r : Req} : Keeps s (Machine.commitTxn r s) := receive ⟨commitEntry, id, fun h => .ite h.withTxn h⟩

theorem rollBack {r : Req} : Keeps s (Machine.rollBack r s) := by
  refine receive (.ofAct fun h hu => ?_)
  split at hu
  · exact nomatch hu
  · split at hu
    · obtain ⟨rfl, -⟩ := Prod.mk.inj (Except.ok.inj hu)
      exact h.withTxn
    · exact nomatch hu

theorem ringFramePass {f : RingFrame} : Keeps s (Machine.ringFramePass f s) :=
  .ite (refl s) (.ite (refl s).send (.ite (refl s) (refl s).bump))

theorem enumerate {epoch count : BitVec 8} : Keeps s (Machine.enumerate epoch count s) :=
  .ite (refl s) (.ite (refl s).send (refl s).setNum.setNum.send)

theorem settleVector (h : Keeps s t) {rising : Bool} {v : Nat} : Keeps s (t.settleVector rising v) :=
  .ite h.send.mapCtl (.ite h.mapCtl h)

theorem msixEnable {w : MsixWrite} : Keeps s (Machine.msixEnable w s) :=
  .ite (refl s) ((refl s).mapCtl.foldl fun _ _ hu => hu.settleVector)

theorem completionHoldoffExpiry : Keeps s (Machine.completionHoldoffExpiry s) := .ite (refl s).mapCtl.signalCompletion (refl s).mapCtl

/-! #### Site time (R296, R381, R449, R450) -/

theorem settleTime (h : Keeps s t) : Keeps s t.settleTime := .ite h.withTime.setNum (.ite h.withTime.setNum h)

theorem acceptEdge (h : Keeps s t) {stamp : Cycle} : Keeps s (t.acceptEdge stamp) := h.withTime.settleTime

theorem strayEdge (h : Keeps s t) {stamp : Cycle} : Keeps s (t.strayEdge stamp) := .ite h.acceptEdge h.withTime.settleTime

theorem ppsEdge {stamp : Cycle} {highNs : Nat} : Keeps s (Machine.ppsEdge stamp highNs s) := by
  refine .ite (refl s) (.ite (refl s).upTo ?_)
  split
  · exact (refl s).upTo.acceptEdge
  · exact .ite (refl s).upTo.acceptEdge (refl s).upTo.strayEdge

theorem ppsLost : Keeps s (Machine.ppsLost s) := .ite (refl s).withTime.settleTime (refl s)

theorem timeOfDay {arrival : Cycle} {ns : Nat} : Keeps s (Machine.timeOfDay arrival ns s) := by
  have hpass : Keeps s (if s.ctl.bypassOpen then s.send (.timeOfDay ns) else s) := .ite (refl s).send (refl s)
  refine .ite ?_ hpass
  split
  · exact .ite hpass.withTime hpass
  · exact hpass

theorem ptpMessage {m : PtpMessage} : Keeps s (Machine.ptpMessage m s) := .ite (refl s).withTime (refl s)

theorem managementLinkChange {up : Bool} : Keeps s (Machine.managementLinkChange up s) :=
  .ite (refl s).withTime.withTime.settleTime (refl s).withTime

theorem holdoverExpiry : Keeps s (Machine.holdoverExpiry s) := by
  refine .ite (.setNum (.withTime (t := s.time.lostAt.elim _ _) ?_)) (refl s)
  cases s.time.lostAt with
  | none => exact refl s
  | some c => exact (refl s).upTo

/-! #### Verbs (R31, R394) -/

theorem takeVerb {r : Req} {accepted : DevState → Bool} {operandOk : Nat → Bool} {effect : Nat → State → State}
    (heffect : ∀ {s t v}, Keeps s t → Keeps s (effect v t)) : Keeps s (s.takeVerb r accepted operandOk effect) := by
  refine receive ⟨fun h hu => ?_, heffect, id⟩
  split at hu
  · exact nomatch hu
  · split at hu
    · exact nomatch hu
    · split at hu
      · exact nomatch hu
      · split at hu
        · exact nomatch hu
        · obtain ⟨rfl, -⟩ := Prod.mk.inj (Except.ok.inj hu)
          exact h

theorem wakeUp (h : Keeps s t) : Keeps s t.wakeUp := .ite h.mapCtl.beginBoot h

theorem startSweep (h : Keeps s t) {v : Nat} : Keeps s (t.startSweep v) := by
  have hstart : Keeps s (((gleanSelected v).foldl (fun (s : State) d => s.setNum (0x607100 + d) 0)
      { t with host := { t.host with held := [] } }).restIn .gleaning) :=
    .restIn (.foldl (fun _ _ hu => hu.setNum) (h.writeHeld fun _ => rfl))
  exact .ite hstart.mapRecovery.nextGlean hstart.endGlean

theorem attestReportReady : Keeps s (Machine.attestReportReady s) := .ite (refl s) (refl s).setOct.bump.withSec

theorem fwUpdate {r : Req} : Keeps s (Machine.fwUpdate r s) :=
  takeVerb fun h => .ite h (.ite h.setNum (.ite h.setNum.withSec h.setNum))

end Keeps

/-- The state in which a command leaves a device; every command completes. -/
def stateAfter (c : Instr) (s : State) : State :=
  match exec c s with
  | .next t => t
  | _ => s

theorem stateAfter_of_next {c : Instr} {s t : State} (h : exec c s = .next t) : stateAfter c s = t := by
  rw [stateAfter, h]

namespace Keeps

variable {s t u : State}

theorem form {r : Req} : Keeps s (Machine.form r s) :=
  takeVerb (effect := fun _ s => s.beginForming) fun h => h.beginForming

theorem harvest {r : Req} : Keeps s (Machine.harvest r s) :=
  takeVerb (effect := fun v s => s.takeHarvest v) fun h => h.takeHarvest

theorem glean {r : Req} : Keeps s (Machine.glean r s) := takeVerb (effect := fun v s => s.startSweep v) fun h => h.startSweep

theorem attest {r : Req} : Keeps s (Machine.attest r s) := by
  unfold Machine.attest
  exact takeVerb fun h => h.withSec

/-- Every command but rollback_commit keeps what this family states of every command. -/
theorem command {c : Instr} (hc : ∀ r, c ≠ .rollbackCommit r) : Keeps s (stateAfter c s) := by
  cases c with
  | powerGood => exact powerGood
  | powerGoodDeasserted => exact powerGoodDeasserted
  | resetInReleased => exact resetInReleased
  | cxlConventionalReset => exact cxlConventionalReset
  | functionLevelReset => exact functionLevelReset
  | flashOwnChange => exact flashOwnChange
  | monitorTrip => exact monitorTrip
  | watchdogExpiry => exact watchdogExpiry
  | ppsEdge => exact ppsEdge
  | ptpMessage => exact ptpMessage
  | fuseReadDone => exact fuseReadDone
  | firmwareVerify => exact firmwareVerify
  | cxlConfigReady => exact cxlConfigReady
  | hbmTrainingDone => exact hbmTrainingDone
  | startUpSelfTest => exact startUpSelfTest
  | bootComplete => exact bootComplete
  | ringFramePass => exact ringFramePass
  | bypassChange => exact bypassChange
  | joinNoticeResend => exact joinNoticeResend
  | enumerate => exact enumerate
  | timeOfDay => exact timeOfDay
  | read => exact readRequest
  | write => exact writeRequest
  | begin_ => exact beginTxn
  | commit => exact commitTxn
  | rollBack => exact rollBack
  | txnTimeout => exact (refl s).withTxn
  | eventAck => exact receive (.ofAct writeEntry)
  | exportCursorWrite => exact receive (.ofAct writeEntry)
  | msixEnable => exact msixEnable
  | completionHoldoffExpiry => exact completionHoldoffExpiry
  | wake => exact takeVerb .wakeUp
  | fallow => exact takeVerb .enterFallow
  | reset => exact takeVerb fun h => .ite h h.deviceReset
  | harvest => exact harvest
  | form => exact form
  | glean => exact glean
  | attest => exact attest
  | attestReportReady => exact attestReportReady
  | fwUpdate => exact fwUpdate
  | fwUpdateDone => exact (refl s).endFwWrite
  | rollbackCommit => exact (hc _ rfl).elim
  | idleTimeout => exact idleTimeout
  | sweepIntervalExpiry => exact sweepIntervalExpiry
  | load => exact (refl s).hostWrites.takeDirect
  | start => exact startRecord
  | step => exact (refl s).takeDirect
  | batch => exact (refl s).takeDirect
  | evaluation => exact (refl s).takeDirect
  | drill => exact (refl s).hostWrites.takeDirect
  | switch => exact (refl s).takeDirect
  | nop => exact nop
  | waitTile => exact waitTile
  | waitTileRelease => exact waitTileRelease
  | waitToken => exact waitToken
  | waitTokenRelease => exact waitTokenRelease
  | waitCycle => exact waitCycle
  | waitCycleRelease => exact waitCycleRelease
  | loop => exact loopStart
  | stepMark => exact stepMark
  | sealWait => exact sealWait
  | halt => exact halt
  | waitTimeout => exact waitTimeout
  | furrowIssue => exact furrowIssue
  | headlandScanDone => exact headlandScanDone
  | maximaRecord => exact maximaRecord
  | furrowPass => exact furrowPass
  | passOverflow => exact passOverflow
  | spill => exact spillAndRelease
  | furrowReady => exact furrowReady
  | chainIssue => exact chainIssue
  | chainDone => exact chainDone
  | fullWidthIssue => exact fullWidthIssue
  | frameRecord => exact frameRecord
  | move => exact move
  | tineStart => exact tineStart
  | tineStop => exact tineStop
  | regionRelease => exact regionRelease
  | tineNop => exact tineNop
  | tineLoad => exact (refl s).startTransfer
  | tineStore => exact (refl s).startTransfer
  | tineMark => exact tineMark
  | tineEnd => exact tineEnd
  | tineRequestIssue => exact tineRequestIssue
  | tineDataReturn => exact tineDataReturn
  | storeAck => exact storeAck
  | tokenSignal => exact tokenSignal
  | tierMoveDone => exact tierMoveDone.tryReport
  | tierTimeout => exact tierTimeout
  | barrierArrive => exact barrierArrive
  | sealArrive => exact sealArrive
  | ledgerMark => exact refl s
  | earlyAbort => exact earlyAbort
  | earlyAbortWindowExpiry => exact earlyAbortWindowExpiry
  | barrierArrivalMessage => exact barrierArrivalMessage
  | barrierTimeout => exact barrierTimeout
  | releaseMessage => exact releaseMessage
  | sealRelease => exact (refl s).sealRelease
  | gateRelease => exact (refl s).gateRelease
  | rollbackRelease => exact (refl s).rollbackRelease
  | undoComplete => exact undoComplete
  | hbmTimeout => exact hbmTimeout
  | restart => exact restart
  | portTrainingDone => exact portTrainingDone
  | trainingRetry => exact trainingRetry
  | readyQuery => exact readyQuery
  | notReadyReceived => exact notReadyReceived
  | portDown => exact portDown
  | identityExchange => exact identityExchange
  | formTimeout => exact formTimeout
  | boutStart => exact boutStart
  | slotPositionStart => exact slotPositionStart
  | slotFrameReceive => exact .ite slotFrameReceive.passOn slotFrameReceive
  | ackWord => exact ackWord
  | bestEffortFrame => exact bestEffortFrame
  | timeWord => exact timeWord
  | heartbeatReceive => exact heartbeatReceive
  | leadSilence => exact leadSilence
  | leadTakeover => exact leadTakeover
  | linkWaitExpiry => exact linkWaitExpiry
  | baleChunk => exact baleChunk
  | stripeAck => exact stripeAck
  | stripeNack => exact stripeNack
  | nackTimer => exact nackTimer
  | rosterChunk => exact rosterChunk
  | anchorChunk => exact anchorChunk
  | fetchRequest => exact fetchRequest
  | keyAgreement => exact keyAgreement
  | probe => exact probe
  | probeEcho => exact probeEcho
  | pacingProbe => exact pacingProbe
  | keyEpochChange => exact keyEpochChange
  | oldKeyErase => exact oldKeyErase
  | winnowPassOne => exact winnowPassOne
  | winnowPassTwo => exact winnowPassTwo
  | seasonDeadline => exact seasonDeadline
  | successorPublish => exact successorPublish
  | rosterWaitExpiry => exact rosterWaitExpiry
  | commitModeChoice => exact commitModeChoice
  | seasonTileWrite => exact seasonTileWrite
  | holdoverExpiry => exact holdoverExpiry
  | patrolRead => exact patrolRead
  | repairServe => exact (refl s).repairServe
  | repairReply => exact (refl s).repairReply
  | gleanSegment => exact gleanSegment
  | gleanDomainDone => exact gleanDomainDone
  | harvestControlWord => exact harvestControlWord
  | latestStopMessage => exact latestStopMessage
  | latestStop => exact latestStop
  | saveDone => exact saveDone
  | saveCutoff => exact saveCutoff
  | saveFrameReceive => exact saveFrameReceive
  | ledgerHoldExpiry => exact ledgerHoldExpiry
  | scrubDone => exact scrubDone
  | yokeSample => exact yokeSample
  | governorWindow => exact governorWindow
  | drillChunk => exact drillChunk
  | drillComplete => exact drillComplete
  | drillLineTimeout => exact drillLineTimeout
  | resetInAsserted => exact resetInAsserted
  | ppsLost => exact ppsLost
  | managementLinkChange => exact managementLinkChange
  | acrePortLinkChange => exact acrePortLinkChange
  | mergeSumWritten => exact mergeSumWritten
  | repairPeerTimeout => exact repairPeerTimeout

theorem of_exec {c : Instr} (hc : ∀ r, c ≠ .rollbackCommit r) (h : exec c s = .next t) : Keeps s t :=
  stateAfter_of_next h ▸ command hc

end Keeps

/-! #### rollback_commit, the one command that writes the fuses -/

section

variable {s t : State} {r : Req}

theorem eq_or_after_ite {p : Prop} [Decidable p] {f : State → State} {a b a' b' : State} (ha : a' = a ∨ a' = f a) (hb : b' = b ∨ b' = f b) :
    (if p then a' else b') = (if p then a else b) ∨ (if p then a' else b') = f (if p then a else b) := by
  split
  · exact ha
  · exact hb

/-- What comes after the answer acts on what the same request without it leaves, where the request gets that far. -/
theorem receive_eq_or_after (op : BitVec 4) (act : State → Except Abort (State × List Byte)) (after lost : State → State) :
    s.receive r op act after lost = s.receive r op act id lost ∨
      s.receive r op act after lost = after (s.receive r op act id lost) := by
  have hexecute : ∀ t : State, t.execute r op act after lost = t.execute r op act id lost ∨
      t.execute r op act after lost = after (t.execute r op act id lost) := by
    intro t
    unfold State.execute
    refine eq_or_after_ite (.inl rfl) ?_
    split
    · exact .inl rfl
    · refine eq_or_after_ite (.inl rfl) ?_
      split
      · exact .inl rfl
      · exact .inr rfl
  unfold State.receive
  split
  · exact eq_or_after_ite (hexecute s) (.inl rfl)
  · refine eq_or_after_ite (.inl rfl) (eq_or_after_ite (.inl rfl) ?_)
    split
    · exact .inl rfl
    · exact eq_or_after_ite (.inl rfl) (hexecute _)

/-- rollback_commit raises fw_rollback of a state that keeps the rest, or leaves such a state. -/
theorem rollbackCommit_keeps (r : Req) (s : State) :
    ∃ u, Keeps s u ∧ ∃ n, u.fuses.fwRollback ≤ n ∧
      Machine.rollbackCommit r s = { u with fuses := { u.fuses with fwRollback := n } } := by
  let u := s.takeVerb r tilledOnly anyOperand fun _ s => s
  have hu : Keeps s u := .takeVerb fun h => h
  refine ⟨u, hu, ?_⟩
  rcases receive_eq_or_after (s := s) (r := r) 3 _ _ id with h | h
  · exact ⟨_, Nat.le_refl _, h⟩
  · unfold Machine.rollbackCommit State.takeVerb
    rw [h]
    dsimp only
    split
    · exact ⟨_, Nat.le_max_left _ _, rfl⟩
    · exact ⟨_, Nat.le_refl _, rfl⟩

end

/-! #### One step (R432) -/

/-- What one command leaves: what `Keeps` says, but for a rise of fw_rollback. -/
structure KeepsButRollback (s t : State) : Prop where
  fuses : { t.fuses with fwRollback := s.fuses.fwRollback } = s.fuses
  fwRollback : s.fuses.fwRollback ≤ t.fuses.fwRollback
  pending : t.pending = s.pending
  canonical : Canonical s → Canonical t

theorem Keeps.butRollback {s t : State} (h : Keeps s t) : KeepsButRollback s t :=
  ⟨by rw [h.fuses], Nat.le_of_eq (by rw [h.fuses]), h.pending, h.canonical⟩

theorem keepsButRollback_of_exec {c : Instr} {s t : State} (h : exec c s = .next t) : KeepsButRollback s t := by
  by_cases hc : ∃ r, c = .rollbackCommit r
  · obtain ⟨r, rfl⟩ := hc
    obtain ⟨u, hu, n, hn, hr⟩ := rollbackCommit_keeps r s
    have ht : { u with fuses := { u.fuses with fwRollback := n } } = t := hr.symm.trans (stateAfter_of_next h)
    subst ht
    exact ⟨by rw [← hu.fuses], hu.fuses ▸ hn, hu.pending, hu.canonical⟩
  · exact (Keeps.of_exec (fun r hr => hc ⟨r, hr⟩) h).butRollback

/-- A step changes the queue and what its command does; an idle step changes nothing here. -/
theorem keepsButRollback_of_step {s t : State} (h : step s = .next t) :
    ∃ rest, KeepsButRollback { s with pending := rest } t := by
  unfold step at h
  split at h
  · next hs =>
    obtain rfl := Host.Outcome.next.inj h
    exact ⟨s.pending, (Keeps.refl s).tick.butRollback⟩
  · exact ⟨_, keepsButRollback_of_exec h⟩

/-- Settles O3: every command is put together from operations that keep the fuses and the queue; rollback_commit alone raises one. -/
theorem fusesAndQueueStay : Obligations.FusesAndQueueStay := by
  refine ⟨fun f s t hs h => ?_, fun c s t h => ⟨(keepsButRollback_of_exec h).pending, fun hc => (Keeps.of_exec hc h).fuses⟩⟩
  obtain ⟨rest, hst⟩ := keepsButRollback_of_step h
  obtain ⟨hf, hle⟩ := hs
  refine ⟨?_, Nat.le_trans hle hst.fwRollback⟩
  rw [← hf]
  exact congrArg (fun g : Fuses => { g with fwRollback := f.fwRollback }) hst.fuses

/-- Settles O4: every operation of the model stores in the canonical form. -/
theorem stepKeepsCanonicalForm : Obligations.StepKeepsCanonicalForm := by
  intro s t hs h
  obtain ⟨_, hst⟩ := keepsButRollback_of_step h
  exact hst.canonical hs

/-- Settles O1. -/
theorem stepRunsFront : Obligations.StepRunsFront := by
  refine ⟨fun c rest s hs => by rw [step, hs], fun s hs => ⟨fun hw => ?_, fun hw => ?_⟩⟩
  · simp only [step, hs, State.tick, hw, Bool.false_eq_true, if_false]
  · simp only [step, hs, State.tick, hw, if_true]

/-- Settles O2: `exec` answers every command with a next state. -/
theorem everyCommandCompletes : Obligations.EveryCommandCompletes := by
  intro c s
  cases c <;> exact ⟨_, rfl⟩

/-- Settles O5: nothing is stored in the reset state, so every entry reads as its default. -/
theorem resetState : Obligations.ResetState :=
  ⟨⟨rfl, rfl, rfl, rfl, rfl, rfl⟩, rfl, rfl, by decide, fun _ => rfl, fun _ => rfl, rfl, rfl, rfl, rfl⟩

end Sys2Proof.Proofs

/-! Pins, resets, the boot, firmware, site time and the ring (R369 to R379, R410 to R454). -/

namespace Sys2Proof.Proofs

open Sys2Proof Machine

/-! ### What an event and a change of the device state leave in each field (R30, R404) -/

section

variable (s : State)

@[simp] theorem raise_fuses (v : Vec) : (s.raise v).fuses = s.fuses := by rw [State.raise_frame]
@[simp] theorem raise_flash (v : Vec) : (s.raise v).flash = s.flash := by rw [State.raise_frame]
@[simp] theorem raise_sec (v : Vec) : (s.raise v).sec = s.sec := by rw [State.raise_frame]
@[simp] theorem raise_time (v : Vec) : (s.raise v).time = s.time := by rw [State.raise_frame]
@[simp] theorem raise_cycle (v : Vec) : (s.raise v).cycle = s.cycle := by rw [State.raise_frame]
@[simp] theorem raise_octs (v : Vec) : (s.raise v).octs = s.octs := by rw [State.raise_frame]
@[simp] theorem raise_txn (v : Vec) : (s.raise v).txn = s.txn := by rw [State.raise_frame]
@[simp] theorem raise_hopper (v : Vec) : (s.raise v).hopper = s.hopper := by rw [State.raise_frame]
@[simp] theorem raise_host (v : Vec) : (s.raise v).host = s.host := by rw [State.raise_frame]
@[simp] theorem raise_job (v : Vec) : (s.raise v).job = s.job := by rw [State.raise_frame]
@[simp] theorem raise_records (v : Vec) : (s.raise v).records = s.records := by rw [State.raise_frame]
@[simp] theorem raise_plots (v : Vec) : (s.raise v).plots = s.plots := by rw [State.raise_frame]
@[simp] theorem raise_pool (v : Vec) : (s.raise v).pool = s.pool := by rw [State.raise_frame]
@[simp] theorem raise_tokens (v : Vec) : (s.raise v).tokens = s.tokens := by rw [State.raise_frame]
@[simp] theorem raise_aheadTokens (v : Vec) : (s.raise v).aheadTokens = s.aheadTokens := by rw [State.raise_frame]
@[simp] theorem raise_fabric (v : Vec) : (s.raise v).fabric = s.fabric := by rw [State.raise_frame]
@[simp] theorem raise_seasons (v : Vec) : (s.raise v).seasons = s.seasons := by rw [State.raise_frame]
@[simp] theorem raise_acre (v : Vec) : (s.raise v).acre = s.acre := by rw [State.raise_frame]
@[simp] theorem raise_tiers (v : Vec) : (s.raise v).tiers = s.tiers := by rw [State.raise_frame]
@[simp] theorem raise_recovery (v : Vec) : (s.raise v).recovery = s.recovery := by rw [State.raise_frame]
@[simp] theorem raise_harvest (v : Vec) : (s.raise v).harvest = s.harvest := by rw [State.raise_frame]
@[simp] theorem raise_power (v : Vec) : (s.raise v).power = s.power := by rw [State.raise_frame]
@[simp] theorem raise_freeCount (v : Vec) : (s.raise v).freeCount = s.freeCount := by rw [State.raise_frame]
@[simp] theorem raise_pending (v : Vec) : (s.raise v).pending = s.pending := by rw [State.raise_frame]

@[simp] theorem raise_ctl_powerGood (v : Vec) : (s.raise v).ctl.powerGood = s.ctl.powerGood := by rw [State.raise_ctl]
@[simp] theorem raise_ctl_resetLow (v : Vec) : (s.raise v).ctl.resetLow = s.ctl.resetLow := by rw [State.raise_ctl]
@[simp] theorem raise_ctl_flashOwn (v : Vec) : (s.raise v).ctl.flashOwn = s.ctl.flashOwn := by rw [State.raise_ctl]
@[simp] theorem raise_ctl_flashBlocked (v : Vec) : (s.raise v).ctl.flashBlocked = s.ctl.flashBlocked := by rw [State.raise_ctl]
@[simp] theorem raise_ctl_bypassOpen (v : Vec) : (s.raise v).ctl.bypassOpen = s.ctl.bypassOpen := by rw [State.raise_ctl]
@[simp] theorem raise_ctl_cur (v : Vec) : (s.raise v).ctl.cur = s.ctl.cur := by rw [State.raise_ctl]
@[simp] theorem raise_ctl_tgt (v : Vec) : (s.raise v).ctl.tgt = s.ctl.tgt := by rw [State.raise_ctl]
@[simp] theorem raise_ctl_stage (v : Vec) : (s.raise v).ctl.stage = s.ctl.stage := by rw [State.raise_ctl]
@[simp] theorem raise_ctl_bootFault (v : Vec) : (s.raise v).ctl.bootFault = s.ctl.bootFault := by rw [State.raise_ctl]
@[simp] theorem raise_ctl_tripOnBoot (v : Vec) : (s.raise v).ctl.tripOnBoot = s.ctl.tripOnBoot := by rw [State.raise_ctl]
@[simp] theorem raise_ctl_cxlFaultOff (v : Vec) : (s.raise v).ctl.cxlFaultOff = s.ctl.cxlFaultOff := by rw [State.raise_ctl]
@[simp] theorem raise_ctl_wakeRunning (v : Vec) : (s.raise v).ctl.wakeRunning = s.ctl.wakeRunning := by rw [State.raise_ctl]
@[simp] theorem raise_ctl_reachedTilled (v : Vec) : (s.raise v).ctl.reachedTilled = s.ctl.reachedTilled := by rw [State.raise_ctl]
@[simp] theorem raise_ctl_answered (v : Vec) : (s.raise v).ctl.answered = s.ctl.answered := by rw [State.raise_ctl]
@[simp] theorem raise_ctl_faultLog (v : Vec) : (s.raise v).ctl.faultLog = s.ctl.faultLog := by rw [State.raise_ctl]
@[simp] theorem raise_ctl_cxlUp (v : Vec) : (s.raise v).ctl.cxlUp = s.ctl.cxlUp := by rw [State.raise_ctl]
@[simp] theorem raise_ctl_cxlConfigured (v : Vec) : (s.raise v).ctl.cxlConfigured = s.ctl.cxlConfigured := by rw [State.raise_ctl]
@[simp] theorem raise_ctl_memoryActive (v : Vec) : (s.raise v).ctl.memoryActive = s.ctl.memoryActive := by rw [State.raise_ctl]
@[simp] theorem raise_ctl_mirror (v : Vec) : (s.raise v).ctl.mirror = s.ctl.mirror := by rw [State.raise_ctl]
@[simp] theorem raise_ctl_msixEnable (v : Vec) : (s.raise v).ctl.msixEnable = s.ctl.msixEnable := by rw [State.raise_ctl]
@[simp] theorem raise_ctl_msixFunctionMask (v : Vec) : (s.raise v).ctl.msixFunctionMask = s.ctl.msixFunctionMask := by rw [State.raise_ctl]
@[simp] theorem raise_ctl_msixVectorMask (v : Vec) : (s.raise v).ctl.msixVectorMask = s.ctl.msixVectorMask := by rw [State.raise_ctl]

@[simp] theorem moveTo_fuses (cur tgt : DevState) : (s.moveTo cur tgt).fuses = s.fuses := by rw [State.moveTo_frame]
@[simp] theorem moveTo_flash (cur tgt : DevState) : (s.moveTo cur tgt).flash = s.flash := by rw [State.moveTo_frame]
@[simp] theorem moveTo_sec (cur tgt : DevState) : (s.moveTo cur tgt).sec = s.sec := by rw [State.moveTo_frame]
@[simp] theorem moveTo_time (cur tgt : DevState) : (s.moveTo cur tgt).time = s.time := by rw [State.moveTo_frame]
@[simp] theorem moveTo_cycle (cur tgt : DevState) : (s.moveTo cur tgt).cycle = s.cycle := by rw [State.moveTo_frame]
@[simp] theorem moveTo_octs (cur tgt : DevState) : (s.moveTo cur tgt).octs = s.octs := by rw [State.moveTo_frame]
@[simp] theorem moveTo_txn (cur tgt : DevState) : (s.moveTo cur tgt).txn = s.txn := by rw [State.moveTo_frame]
@[simp] theorem moveTo_hopper (cur tgt : DevState) : (s.moveTo cur tgt).hopper = s.hopper := by rw [State.moveTo_frame]
@[simp] theorem moveTo_host (cur tgt : DevState) : (s.moveTo cur tgt).host = s.host := by rw [State.moveTo_frame]
@[simp] theorem moveTo_job (cur tgt : DevState) : (s.moveTo cur tgt).job = s.job := by rw [State.moveTo_frame]
@[simp] theorem moveTo_records (cur tgt : DevState) : (s.moveTo cur tgt).records = s.records := by rw [State.moveTo_frame]
@[simp] theorem moveTo_plots (cur tgt : DevState) : (s.moveTo cur tgt).plots = s.plots := by rw [State.moveTo_frame]
@[simp] theorem moveTo_pool (cur tgt : DevState) : (s.moveTo cur tgt).pool = s.pool := by rw [State.moveTo_frame]
@[simp] theorem moveTo_tokens (cur tgt : DevState) : (s.moveTo cur tgt).tokens = s.tokens := by rw [State.moveTo_frame]
@[simp] theorem moveTo_aheadTokens (cur tgt : DevState) : (s.moveTo cur tgt).aheadTokens = s.aheadTokens := by rw [State.moveTo_frame]
@[simp] theorem moveTo_fabric (cur tgt : DevState) : (s.moveTo cur tgt).fabric = s.fabric := by rw [State.moveTo_frame]
@[simp] theorem moveTo_seasons (cur tgt : DevState) : (s.moveTo cur tgt).seasons = s.seasons := by rw [State.moveTo_frame]
@[simp] theorem moveTo_acre (cur tgt : DevState) : (s.moveTo cur tgt).acre = s.acre := by rw [State.moveTo_frame]
@[simp] theorem moveTo_tiers (cur tgt : DevState) : (s.moveTo cur tgt).tiers = s.tiers := by rw [State.moveTo_frame]
@[simp] theorem moveTo_recovery (cur tgt : DevState) : (s.moveTo cur tgt).recovery = s.recovery := by rw [State.moveTo_frame]
@[simp] theorem moveTo_harvest (cur tgt : DevState) : (s.moveTo cur tgt).harvest = s.harvest := by rw [State.moveTo_frame]
@[simp] theorem moveTo_power (cur tgt : DevState) : (s.moveTo cur tgt).power = s.power := by rw [State.moveTo_frame]
@[simp] theorem moveTo_freeCount (cur tgt : DevState) : (s.moveTo cur tgt).freeCount = s.freeCount := by rw [State.moveTo_frame]
@[simp] theorem moveTo_pending (cur tgt : DevState) : (s.moveTo cur tgt).pending = s.pending := by rw [State.moveTo_frame]

/-- A change of the device state touches the always-on domain in that state and in what its event touches. -/
theorem moveTo_ctl (cur tgt : DevState) :
    (s.moveTo cur tgt).ctl = { s.ctl with
      cur := cur, tgt := tgt, msixPending := (s.moveTo cur tgt).ctl.msixPending
      holdoffRunning := (s.moveTo cur tgt).ctl.holdoffRunning, holdoffPending := (s.moveTo cur tgt).ctl.holdoffPending
      maskedRise := (s.moveTo cur tgt).ctl.maskedRise } := by
  by_cases h : s.ctl.cur = cur ∧ s.ctl.tgt = tgt
  · obtain ⟨rfl, rfl⟩ := h
    simp only [State.moveTo, decide_true, Bool.and_self, if_true]
  · have hmove : s.moveTo cur tgt = (s.mapCtl fun c => { c with cur := cur, tgt := tgt }).raise .state := by
      simp only [State.moveTo, Bool.and_eq_true, decide_eq_true_eq, h, if_false]
    rw [hmove, State.raise_ctl]
    rfl

@[simp] theorem moveTo_ctl_powerGood (cur tgt : DevState) : (s.moveTo cur tgt).ctl.powerGood = s.ctl.powerGood := by rw [moveTo_ctl]
@[simp] theorem moveTo_ctl_resetLow (cur tgt : DevState) : (s.moveTo cur tgt).ctl.resetLow = s.ctl.resetLow := by rw [moveTo_ctl]
@[simp] theorem moveTo_ctl_flashOwn (cur tgt : DevState) : (s.moveTo cur tgt).ctl.flashOwn = s.ctl.flashOwn := by rw [moveTo_ctl]
@[simp] theorem moveTo_ctl_flashBlocked (cur tgt : DevState) : (s.moveTo cur tgt).ctl.flashBlocked = s.ctl.flashBlocked := by rw [moveTo_ctl]
@[simp] theorem moveTo_ctl_bypassOpen (cur tgt : DevState) : (s.moveTo cur tgt).ctl.bypassOpen = s.ctl.bypassOpen := by rw [moveTo_ctl]
@[simp] theorem moveTo_ctl_stage (cur tgt : DevState) : (s.moveTo cur tgt).ctl.stage = s.ctl.stage := by rw [moveTo_ctl]
@[simp] theorem moveTo_ctl_bootFault (cur tgt : DevState) : (s.moveTo cur tgt).ctl.bootFault = s.ctl.bootFault := by rw [moveTo_ctl]
@[simp] theorem moveTo_ctl_tripOnBoot (cur tgt : DevState) : (s.moveTo cur tgt).ctl.tripOnBoot = s.ctl.tripOnBoot := by rw [moveTo_ctl]
@[simp] theorem moveTo_ctl_cxlFaultOff (cur tgt : DevState) : (s.moveTo cur tgt).ctl.cxlFaultOff = s.ctl.cxlFaultOff := by rw [moveTo_ctl]
@[simp] theorem moveTo_ctl_wakeRunning (cur tgt : DevState) : (s.moveTo cur tgt).ctl.wakeRunning = s.ctl.wakeRunning := by rw [moveTo_ctl]
@[simp] theorem moveTo_ctl_reachedTilled (cur tgt : DevState) : (s.moveTo cur tgt).ctl.reachedTilled = s.ctl.reachedTilled := by rw [moveTo_ctl]
@[simp] theorem moveTo_ctl_answered (cur tgt : DevState) : (s.moveTo cur tgt).ctl.answered = s.ctl.answered := by rw [moveTo_ctl]
@[simp] theorem moveTo_ctl_faultLog (cur tgt : DevState) : (s.moveTo cur tgt).ctl.faultLog = s.ctl.faultLog := by rw [moveTo_ctl]
@[simp] theorem moveTo_ctl_cxlUp (cur tgt : DevState) : (s.moveTo cur tgt).ctl.cxlUp = s.ctl.cxlUp := by rw [moveTo_ctl]
@[simp] theorem moveTo_ctl_cxlConfigured (cur tgt : DevState) : (s.moveTo cur tgt).ctl.cxlConfigured = s.ctl.cxlConfigured := by rw [moveTo_ctl]
@[simp] theorem moveTo_ctl_memoryActive (cur tgt : DevState) : (s.moveTo cur tgt).ctl.memoryActive = s.ctl.memoryActive := by rw [moveTo_ctl]
@[simp] theorem moveTo_ctl_mirror (cur tgt : DevState) : (s.moveTo cur tgt).ctl.mirror = s.ctl.mirror := by rw [moveTo_ctl]
@[simp] theorem moveTo_ctl_msixEnable (cur tgt : DevState) : (s.moveTo cur tgt).ctl.msixEnable = s.ctl.msixEnable := by rw [moveTo_ctl]
@[simp] theorem moveTo_ctl_msixFunctionMask (cur tgt : DevState) : (s.moveTo cur tgt).ctl.msixFunctionMask = s.ctl.msixFunctionMask := by rw [moveTo_ctl]
@[simp] theorem moveTo_ctl_msixVectorMask (cur tgt : DevState) : (s.moveTo cur tgt).ctl.msixVectorMask = s.ctl.msixVectorMask := by rw [moveTo_ctl]

@[simp] theorem restIn_eq_moveTo (d : DevState) : s.restIn d = s.moveTo d d := rfl

end

/-! ### Resets (R369, R370, R410, R452) -/

section

variable {s : State}

theorem get_dropKeys {α : Type} (d : α) (p : Nat → Bool) (m : SMap α) (k : Nat) :
    SMap.get d (dropKeys p m) k = if p k then d else SMap.get d m k := by
  unfold dropKeys
  induction m with
  | nil => simp [SMap.get]
  | cons e m ih =>
    obtain ⟨j, a⟩ := e
    by_cases hj : j = k
    · subst hj
      by_cases hp : p j = true <;> simp [SMap.get, hp, ih]
    · by_cases hp : p j = true <;> simp [SMap.get, hp, hj, ih]

/-- The state that a device reset keeps, before its boot begins (R370). -/
def resetKept (s : State) : State :=
  { ctl := { powerGood := s.ctl.powerGood, resetLow := s.ctl.resetLow, flashOwn := s.ctl.flashOwn, bypassOpen := s.ctl.bypassOpen
             cur := s.ctl.cur, tgt := s.ctl.tgt, stage := s.ctl.stage, tripOnBoot := s.ctl.tripOnBoot
             answered := s.ctl.answered, faultLog := s.ctl.faultLog }
    fuses := s.fuses, flash := s.flash
    nums := dropKeys (fun k => !isKeptEntry k) s.nums
    host := { tier := s.host.tier, holder := s.host.holder }
    recovery := { suspectSites := s.recovery.suspectSites, suspectStacks := s.recovery.suspectStacks
                  proposals := s.recovery.proposals }
    freeCount := s.freeCount, outbox := s.outbox, pending := s.pending }

/-- A boot begun without a waiting trip: the ring row, in Fallow on the way to Tilled. -/
def bootBegun (s : State) : State :=
  (s.mapCtl fun c => { c with stage := .ring, bootFault := false, flashBlocked := false }).moveTo .fallow .tilled

theorem beginBoot_of_no_trip (h : s.ctl.tripOnBoot = false) :
    s.beginBoot = if s.ctl.resetLow then (bootBegun s).stopPorts else (bootBegun s).startPorts := by
  have hlow : (bootBegun s).ctl.resetLow = s.ctl.resetLow := moveTo_ctl_resetLow _ _ _
  rw [← hlow, State.beginBoot, if_neg (by simp [h])]
  rfl

theorem deviceReset_eq (h : s.ctl.tripOnBoot = false) :
    s.deviceReset =
      if s.ctl.resetLow then (bootBegun (resetKept s)).stopPorts else (bootBegun (resetKept s)).startPorts :=
  beginBoot_of_no_trip (s := resetKept s) h

/-- What `ports` a device reset leaves is all that the ball decides. -/
theorem deviceReset_ports (h : s.ctl.tripOnBoot = false) :
    ∃ ports, s.deviceReset = { bootBegun (resetKept s) with fabric := { ({} : Fabric) with ports := ports } } := by
  have hfabric : (bootBegun (resetKept s)).fabric = {} := moveTo_fabric _ _ _
  rw [deviceReset_eq h, ← hfabric]
  split
  · exact ⟨_, rfl⟩
  · exact ⟨_, rfl⟩

theorem num_bootBegun_resetKept {k : Nat} (hk : k ≠ eventCause) :
    (bootBegun (resetKept s)).num k = if isKeptEntry k then s.num k else dfltNum k := by
  have hmove : (bootBegun (resetKept s)).num k = (resetKept s).num k := State.num_moveTo_other _ _ _ (Ne.symm hk)
  rw [hmove]
  have hdrop := get_dropKeys (dfltNum k) (fun k => !isKeptEntry k) s.nums k
  unfold State.num
  rw [show (resetKept s).nums = dropKeys (fun k => !isKeptEntry k) s.nums from rfl, hdrop]
  cases isKeptEntry k <;> rfl

/-- The commands of a device reset, as a reset of the state with the pin's new level or with the watchdog's record. -/
theorem resetInAsserted_of_high (hlow : s.ctl.resetLow = false) (hcur : s.ctl.cur ≠ .faulted) (hoff : s.ctl.stage ≠ .off)
    (hfuse : s.ctl.stage ≠ .fuseRead) : resetInAsserted s = (s.mapCtl fun c => { c with resetLow := true }).deviceReset := by
  simp [resetInAsserted, hlow, hcur, hoff, hfuse]

theorem resetInReleased_of_low (hlow : s.ctl.resetLow = true) (hoff : s.ctl.stage ≠ .off) (hfuse : s.ctl.stage ≠ .fuseRead) :
    resetInReleased s = (s.mapCtl fun c => { c with resetLow := false }).deviceReset := by
  simp [resetInReleased, hlow, hoff, hfuse]

theorem watchdogExpiry_of_not_fallow (hcur : s.ctl.cur ≠ .fallow) : watchdogExpiry s = (s.logFault 7 0 0).deviceReset := by
  simp [watchdogExpiry, hcur]

/-- What a device reset keeps and loses (R370). -/
structure ResetKeeps (s t : State) : Prop where
  fuses : t.fuses = s.fuses
  flash : t.flash = s.flash
  faultLog : t.ctl.faultLog = s.ctl.faultLog
  suspectSites : t.recovery.suspectSites = s.recovery.suspectSites
  suspectStacks : t.recovery.suspectStacks = s.recovery.suspectStacks
  nums : ∀ k, k ≠ eventCause → t.num k = if isKeptEntry k then s.num k else dfltNum k
  lost : t.job = none ∧ t.hopper = [] ∧ t.plots = [] ∧ t.txn = none ∧ t.acre = {}
  host : t.host = { tier := s.host.tier, holder := s.host.holder }
  state : t.ctl.cur = .fallow ∧ t.ctl.tgt = .tilled ∧ t.ctl.stage = .ring
  pin : t.ctl.resetLow = s.ctl.resetLow

theorem deviceReset_keeps (h : s.ctl.tripOnBoot = false) : ResetKeeps s s.deviceReset := by
  obtain ⟨ports, hreset⟩ := deviceReset_ports h
  rw [hreset]
  constructor
  case nums => exact fun k hk => num_bootBegun_resetKept hk
  case lost => simp [bootBegun, resetKept]
  case state => simp [bootBegun, resetKept]
  all_goals simp [bootBegun, resetKept]

theorem powerGoodPin : Claims.PowerGoodPin := by
  refine ⟨fun s h => ?_, fun s h => ?_⟩
  · have hexec : exec .powerGood s = .next (powerGood s) := rfl
    simp only [hexec, powerGood, h, Bool.false_eq_true, if_false, State.mapCtl]
  · have hexec : exec .powerGoodDeasserted s = .next (powerGoodDeasserted s) := rfl
    simp only [hexec, powerGoodDeasserted, h, if_true, State.powerOff]

theorem deviceResetKeeps : Claims.DeviceResetKeeps := by
  intro c s t hc hoff hfuse htrip ht
  rcases hc with ⟨rfl, hlow, hcur⟩ | ⟨rfl, hlow⟩ | ⟨rfl, hcur⟩
  · obtain rfl : resetInAsserted s = t := Host.Outcome.next.inj ht
    rw [resetInAsserted_of_high hlow hcur hoff hfuse]
    obtain ⟨hf, hfl, hlog, hsites, hstacks, hnums, ⟨hjob, hhopper, hplots, htxn, hacre⟩, hhost, ⟨hc, ht, -⟩, -⟩ :=
      deviceReset_keeps (s := s.mapCtl fun c => { c with resetLow := true }) htrip
    exact ⟨hf, hfl, fun _ => hlog, nofun, hsites, hstacks, hnums, hjob, hhopper, hplots, htxn, hacre, hhost, hc, ht⟩
  · obtain rfl : resetInReleased s = t := Host.Outcome.next.inj ht
    rw [resetInReleased_of_low hlow hoff hfuse]
    obtain ⟨hf, hfl, hlog, hsites, hstacks, hnums, ⟨hjob, hhopper, hplots, htxn, hacre⟩, hhost, ⟨hc, ht, -⟩, -⟩ :=
      deviceReset_keeps (s := s.mapCtl fun c => { c with resetLow := false }) htrip
    exact ⟨hf, hfl, fun _ => hlog, nofun, hsites, hstacks, hnums, hjob, hhopper, hplots, htxn, hacre, hhost, hc, ht⟩
  · obtain rfl : watchdogExpiry s = t := Host.Outcome.next.inj ht
    rw [watchdogExpiry_of_not_fallow hcur]
    obtain ⟨hf, hfl, hlog, hsites, hstacks, hnums, ⟨hjob, hhopper, hplots, htxn, hacre⟩, hhost, ⟨hc, ht, -⟩, -⟩ :=
      deviceReset_keeps (s := s.logFault 7 0 0) htrip
    exact ⟨hf, hfl, nofun, fun _ => by rw [hlog]; rfl, hsites, hstacks, hnums, hjob, hhopper, hplots, htxn, hacre, hhost, hc, ht⟩

theorem deviceReset_ports_off (h : s.ctl.tripOnBoot = false) (hlow : s.ctl.resetLow = true) :
    s.deviceReset.fabric.ports.all (fun p => p.state == .off) = true := by
  rw [deviceReset_eq h, hlow, if_pos rfl]
  rfl

theorem deviceResetBoots : Claims.DeviceResetBoots := by
  refine ⟨fun s hlow hcur hoff hfuse htrip => ?_, fun s hlow hoff hfuse htrip => ?_, fun s hcur hoff htrip => ?_, fun s hcur => ?_⟩
  · obtain ⟨hc, -, hstage⟩ := (deviceReset_keeps (s := s.mapCtl fun c => { c with resetLow := true }) htrip).state
    refine ⟨_, rfl, ?_⟩
    rw [resetInAsserted_of_high hlow hcur hoff hfuse]
    exact ⟨(deviceReset_keeps (s := s.mapCtl fun c => { c with resetLow := true }) htrip).pin, hstage, hc,
      deviceReset_ports_off htrip rfl⟩
  · obtain ⟨hc, -, hstage⟩ := (deviceReset_keeps (s := s.mapCtl fun c => { c with resetLow := false }) htrip).state
    refine ⟨_, rfl, ?_⟩
    rw [resetInReleased_of_low hlow hoff hfuse]
    exact ⟨(deviceReset_keeps (s := s.mapCtl fun c => { c with resetLow := false }) htrip).pin, hstage, hc⟩
  · have hkeeps := deviceReset_keeps (s := s.logFault 7 0 0) htrip
    obtain ⟨hc, -, hstage⟩ := hkeeps.state
    refine ⟨_, rfl, ?_⟩
    rw [watchdogExpiry_of_not_fallow hcur]
    exact ⟨hstage, hc, by rw [hkeeps.faultLog]; rfl⟩
  · have hexec : exec .watchdogExpiry s = .next (watchdogExpiry s) := rfl
    simp only [hexec, watchdogExpiry, hcur, beq_self_eq_true, if_true]

/-- The reset of the CXL port touches the port's state, the mirror window and a transaction of a mirror slot. -/
theorem resetCxl_eq (s : State) :
    s.resetCxl = { s with
      ctl := { s.ctl with cxlConfigured := false, mirror := [{}, {}, {}, {}], msixEnable := false, msixFunctionMask := false
                          msixVectorMask := 0, msixPending := 0 }
      txn := s.txn.filter fun x => x.owner == .master } := by
  unfold State.resetCxl
  cases htxn : s.txn with
  | none => simp [State.mapCtl, htxn]
  | some x => cases howner : x.owner <;> simp [State.mapCtl, htxn, howner, Option.filter]

theorem conventionalResetSparesTheJob : Claims.ConventionalResetSparesTheJob := by
  intro linkDown s
  have hexec : exec (.cxlConventionalReset linkDown) s = .next (cxlConventionalReset linkDown s) := rfl
  refine ⟨_, hexec, ?_⟩
  unfold cxlConventionalReset
  rw [resetCxl_eq]
  cases linkDown <;> exact ⟨rfl, rfl, rfl⟩

end

/-- Settles O6: a device reset is a boot begun on what R370 keeps. -/
theorem resets : Obligations.Resets :=
  ⟨powerGoodPin, deviceResetKeeps, deviceResetBoots, conventionalResetSparesTheJob⟩

/-! ### Protective shutdown (R31, R371, R425, R452, R454) -/

section

variable {s : State} {cause domain : Nat} {sig : BitVec 128}

@[simp] theorem scrub_ctl : s.scrub.ctl = s.ctl := rfl

@[simp] theorem resetCxl_ctl_faultLog : s.resetCxl.ctl.faultLog = s.ctl.faultLog := by rw [resetCxl_eq]

@[simp] theorem cxlDown_ctl_faultLog : s.cxlDown.ctl.faultLog = s.ctl.faultLog := resetCxl_ctl_faultLog

@[simp] theorem resetCxl_fuses : s.resetCxl.fuses = s.fuses := by rw [resetCxl_eq]

@[simp] theorem resetCxl_flash : s.resetCxl.flash = s.flash := by rw [resetCxl_eq]

@[simp] theorem cxlDown_flash : s.cxlDown.flash = s.flash := resetCxl_flash

theorem enterFaulted_state : (s.enterFaulted cause domain sig).ctl.cur = .faulted ∧ (s.enterFaulted cause domain sig).ctl.tgt = .faulted := by
  simp [State.enterFaulted]

theorem enterFaulted_loses : (s.enterFaulted cause domain sig).plots = [] ∧ (s.enterFaulted cause domain sig).pool = [] ∧
    (s.enterFaulted cause domain sig).tokens = [] ∧ (s.enterFaulted cause domain sig).harvest = none := by
  refine ⟨?_, ?_, ?_, ?_⟩
  case refine_4 =>
    simp only [State.enterFaulted, raise_harvest, restIn_eq_moveTo, moveTo_harvest, State.mapRecovery_harvest, State.sendAll_harvest]
    split
    · rw [State.cxlDown, resetCxl_eq]
      rfl
    · rfl
  all_goals simp [State.enterFaulted]

/-- The fault log's newest record after the entry into Faulted. -/
theorem enterFaulted_faultLog :
    (s.enterFaulted cause domain sig).ctl.faultLog.head?.map (fun r => (r.cause, r.domain, r.state)) = some (cause, domain, s.ctl.cur) := by
  simp only [State.enterFaulted, raise_ctl_faultLog, restIn_eq_moveTo, moveTo_ctl_faultLog, State.mapRecovery_ctl, State.sendAll_ctl]
  split <;> split <;> simp [State.logFault]

theorem enterFaulted_flash : (s.enterFaulted cause domain sig).flash = s.flash := by
  simp only [State.enterFaulted, raise_flash, restIn_eq_moveTo, moveTo_flash, State.mapRecovery_flash, State.sendAll_flash]
  split <;> split <;> simp [State.logFault, State.scrub, State.clearJobEntries]

theorem enterFaulted_raises (h : Canonical s) : ((s.enterFaulted cause domain sig).num eventCause).testBit 5 = true := by
  have hlog : Keeps s (s.logFault cause domain sig) := (Keeps.refl s).logFault
  unfold State.enterFaulted
  refine State.raise_sets (Keeps.canonical (s := s)
    (.restIn (.mapRecovery (.sendAll (.clearPlots (.ite (.cxlDown (.mapCtl ?_)) (.mapCtl ?_)))))) h) .fault
  all_goals exact .withHarvest (.ite hlog.scrub hlog)

end

/-- A device that sleeps in Fallow. -/
def asleep : State := { ctl := { powerGood := true, stage := .asleep, cur := .fallow, tgt := .fallow } }

/-- A PLL beyond the eight of R414 counts as one of domain 0, as the crystal's failure does: the next boot trips. -/
theorem monitorTrip_pll_eight : exec (.monitorTrip (.pll 8)) asleep = .next { asleep with ctl := { asleep.ctl with tripOnBoot := true } } := rfl

/-- Refutes O7: the trip of a PLL number above 7 in Fallow without a boot is not without effect, it trips the next boot. -/
theorem not_protectiveShutdown : ¬ Obligations.ProtectiveShutdown := by
  intro h
  obtain ⟨⟨-, -, hother⟩, -⟩ := h
  have hsame := (hother (.pll 8) asleep rfl rfl (by decide)).symm.trans monitorTrip_pll_eight
  have htrip := congrArg (fun t : State => t.ctl.tripOnBoot) (Host.Outcome.next.inj hsame)
  exact absurd htrip (by decide)

/-! ### The boot (R421 to R424, R429) -/

section

variable {s : State}

/-- An event leaves the causes that stand as they are. -/
theorem raise_keeps_cause (h : Canonical s) (v : Vec) {i : Nat} (hi : (s.num eventCause).testBit i = true) :
    ((s.raise v).num eventCause).testBit i = true := by
  rw [State.num, State.raise_nums]
  split
  · exact hi
  · rw [SMap.get_set_same (dfltNum eventCause) eventCause _ h.1, Nat.testBit_or]
    exact Bool.or_eq_true_iff.2 (.inl hi)

theorem openBypass_ctl : s.openBypass.ctl = { s.ctl with bypassOpen := true } := by
  unfold State.openBypass
  split
  · next h => rw [← h]
  · rfl

theorem openBypass_outbox (h : s.ctl.bypassOpen = false) : s.openBypass.outbox = s.outbox ++ [.joinNotice] := by
  simp [State.openBypass, h]

@[simp] theorem openBypass_num (k : Nat) : s.openBypass.num k = s.num k := by
  unfold State.openBypass
  split <;> rfl

theorem portAt_startPorts {n : Nat} (hn : n < 28) :
    (s.startPorts.portAt n).state = if s.num (0x401101 + n) = 1 then .off else .training := by
  have hkey : 0x401100 + n + 1 = 0x401101 + n := by omega
  have hn' : s.portDisabled n = decide (s.num (0x401101 + n) = 1) := by rw [State.portDisabled, hkey]; rfl
  have hport : s.startPorts.portAt n = { state := if s.portDisabled n then PortState.off else .training } := by
    rw [State.portAt, nth_eq_getD, State.startPorts, List.getElem?_map, List.getElem?_range hn]
    rfl
  rw [hport, hn']
  by_cases h : s.num (0x401101 + n) = 1 <;> simp [h]

/-- The fuse read ends: the bypass is open, the ring row is complete, and ports start unless RESET_IN# is low. -/
theorem bootRow_fuseRead (h : s.ctl.stage = .fuseRead) :
    ∃ t, exec .fuseReadDone s = .next t ∧ t.ctl.stage = .ring ∧ t.ctl.bypassOpen = true ∧
      (s.ctl.bypassOpen = false → t.outbox = s.outbox ++ [.joinNotice]) ∧
      (s.ctl.resetLow = false → ∀ n < 28, s.num (0x401101 + n) ≠ 1 → (t.portAt n).state = .training) := by
  let u := s.openBypass.mapCtl fun c => { c with stage := .ring }
  have hlow : u.ctl.resetLow = s.ctl.resetLow := by simp only [u, State.mapCtl_ctl, openBypass_ctl]
  have hopen : u.ctl.bypassOpen = true := by simp only [u, State.mapCtl_ctl, openBypass_ctl]
  have hbox : s.ctl.bypassOpen = false → u.outbox = s.outbox ++ [.joinNotice] := openBypass_outbox
  have hdone : fuseReadDone s = if u.ctl.resetLow then u else u.startPorts := by simp only [fuseReadDone, h, u]; rfl
  refine ⟨fuseReadDone s, rfl, ?_⟩
  rw [hdone, hlow]
  cases hs : s.ctl.resetLow with
  | true => exact ⟨rfl, hopen, hbox, nofun⟩
  | false =>
    refine ⟨rfl, hopen, hbox, fun _ n hn hkey => ?_⟩
    have hnum : u.num (0x401101 + n) = s.num (0x401101 + n) := openBypass_num _
    rw [if_neg (by simp), portAt_startPorts hn, hnum, if_neg hkey]

theorem bootRow_hbm (hs : Canonical s) (h : s.ctl.stage = .cxl) (hboot : s.ctl.booting = true) :
    ∃ t, exec .hbmTrainingDone s = .next t ∧ t.ctl.stage = .hbm ∧ t.hopper = [] ∧ t.num 0x201004 = 1 ∧ t.job = none ∧
      t.host.window = [] := by
  have hdone : hbmTrainingDone s = s.scrubAll.mapCtl fun c => { c with stage := .hbm } := by simp [hbmTrainingDone, h, hboot]
  have hscrub : Canonical { s.scrub with hopper := [] } := (Keeps.refl s).scrub.canonical hs
  have hticket : s.scrubAll.num 0x201004 = 1 := State.num_setNum_same hscrub _ _
  exact ⟨_, rfl, by rw [hdone]; exact ⟨rfl, rfl, hticket, rfl, rfl⟩⟩

/-- The findings of a self-test touch the recovery and what an event touches. -/
theorem selfTestFindings_ctl_stage (second : Bool) (failing : List Nat) (mends : List SpareAssign) :
    (s.selfTestFindings second failing mends).ctl.stage = s.ctl.stage := by
  unfold State.selfTestFindings
  dsimp only
  split <;> simp

theorem bootRow_selfTestOne (failing : List Nat) (mends : List SpareAssign) (h : s.ctl.stage = .hbm) (hboot : s.ctl.booting = true) :
    ∃ t, exec (.startUpSelfTest false failing mends) s = .next t ∧ t.ctl.stage = .selfTestOne := by
  have hdone : startUpSelfTest false failing mends s =
      (s.selfTestFindings false failing mends).mapCtl fun c => { c with stage := .selfTestOne } := by
    simp [startUpSelfTest, h, hboot]
  exact ⟨_, rfl, by rw [hdone]; rfl⟩

theorem bootRow_selfTestTwo (failing : List Nat) (mends : List SpareAssign) (hs : Canonical s) (h : s.ctl.stage = .selfTestOne)
    (hboot : s.ctl.booting = true) :
    ∃ t, exec (.startUpSelfTest true failing mends) s = .next t ∧ t.ctl.stage = .selfTestTwo ∧
      t.num 0x100007 = gradeOf t.lifecycle t.sitesOut t.stacksOut t.slicesOut := by
  let u := (s.selfTestFindings true failing mends).mapCtl fun c => { c with stage := .selfTestTwo }
  have hu : Canonical u := (Keeps.refl s).selfTestFindings.mapCtl.canonical hs
  let t₁ := u.setNum 0x100007 u.gradeNow
  let t₂ := t₁.setNum 0x604004 (t₁.minFreeSpares false)
  have hdone : startUpSelfTest true failing mends s = t₂.setNum 0x604005 (u.minFreeSpares true) := by
    simp only [startUpSelfTest, h, hboot]; rfl
  refine ⟨_, rfl, ?_⟩
  rw [hdone]
  refine ⟨rfl, ?_⟩
  rw [State.num_setNum_other _ _ (by decide), State.num_setNum_other _ _ (by decide), State.num_setNum_same hu]
  rfl

@[simp] theorem sendIdentities_ctl : s.sendIdentities.ctl = s.ctl := by
  unfold State.sendIdentities
  split <;> rfl

@[simp] theorem sendIdentities_num (k : Nat) : s.sendIdentities.num k = s.num k := by
  unfold State.sendIdentities
  split <;> rfl

theorem bootRow_done (hs : Canonical s) (h : s.ctl.stage = .selfTestTwo) (hboot : s.ctl.booting = true) :
    ∃ t, exec .bootComplete s = .next t ∧ t.ctl.cur = .tilled ∧ t.ctl.tgt = .tilled ∧ t.ctl.memoryActive = true ∧
      (t.num eventCause).testBit 1 = true := by
  let u := s.mapCtl fun c => { c with stage := .done, memoryActive := true, wakeRunning := false, reachedTilled := true }
  have hu : Canonical u := (Keeps.refl s).mapCtl.canonical hs
  have hcur : u.ctl.cur = .fallow := by
    simp only [Ctl.booting, Bool.and_eq_true, beq_iff_eq] at hboot
    exact hboot.1.1
  have hraised : ((u.restIn .tilled).num eventCause).testBit 1 = true :=
    State.moveTo_raises hu (by simp [hcur])
  have hdone : bootComplete s = if s.ctl.wakeRunning then ((u.restIn .tilled).sendIdentities).raise .verbDone
      else (u.restIn .tilled).sendIdentities := by
    simp only [bootComplete, h, hboot]; rfl
  have hsent : Canonical (u.restIn .tilled).sendIdentities := (Keeps.refl s).mapCtl.restIn.sendIdentities.canonical hs
  refine ⟨_, rfl, ?_⟩
  rw [hdone]
  cases s.ctl.wakeRunning with
  | false =>
    rw [if_neg (by simp), sendIdentities_num]
    exact ⟨by simp, by simp, by simp [u], hraised⟩
  | true =>
    rw [if_pos rfl]
    exact ⟨by simp, by simp, by simp [u], raise_keeps_cause hsent _ (by rwa [sendIdentities_num])⟩

theorem bootRows : Claims.BootRows := by
  refine ⟨fun s h => bootRow_fuseRead h, fun s h hboot => ?_, fun s hs h hboot => bootRow_hbm hs h hboot,
    fun failing mends s h hboot => bootRow_selfTestOne failing mends h hboot,
    fun failing mends s hs h hboot => bootRow_selfTestTwo failing mends hs h hboot, fun s hs h hboot => bootRow_done hs h hboot⟩
  have hexec : exec .cxlConfigReady s = .next (cxlConfigReady s) := rfl
  simp [hexec, cxlConfigReady, h, hboot, State.mapCtl]

/-! #### The firmware row -/

/-- The state in which a boot has stopped, before a Wake that ran it is answered. -/
def bootStopped (s : State) : State :=
  (({ ((s.mapCtl fun c => { c with stage := .stopped, wakeRunning := false }).stopPorts.cxlDown) with sec := {} } : State).setNum
    0x100005 0).restIn .fallow

theorem stopBoot_eq : s.stopBoot = if s.ctl.wakeRunning then (bootStopped s).raise .verbDone else bootStopped s := rfl

@[simp] theorem stopPorts_ctl : s.stopPorts.ctl = s.ctl := rfl

theorem bootStopped_ctl : (bootStopped s).ctl.stage = .stopped ∧ (bootStopped s).ctl.cur = .fallow ∧ (bootStopped s).ctl.tgt = .fallow ∧
    (bootStopped s).ctl.cxlUp = false := by
  simp [bootStopped, State.cxlDown, resetCxl_eq]

theorem stopBoot_stops (hs : Canonical s) :
    s.stopBoot.ctl.stage = .stopped ∧ s.stopBoot.ctl.cur = .fallow ∧ s.stopBoot.ctl.tgt = .fallow ∧ s.stopBoot.num 0x100005 = 0 ∧
      s.stopBoot.ctl.cxlUp = false ∧ s.stopBoot.ctl.faultLow = true ∧ s.stopBoot.fabric.ports.all (fun p => p.state == .off) = true := by
  obtain ⟨hstage, hcur, htgt, hup⟩ := bootStopped_ctl (s := s)
  have hnum : (bootStopped s).num 0x100005 = 0 := by
    rw [bootStopped, restIn_eq_moveTo, State.num_moveTo_other _ _ _ (by decide)]
    exact State.num_setNum_same ((Keeps.refl s).mapCtl.stopPorts.cxlDown.withSec.canonical hs) _ _
  have hports : (bootStopped s).fabric.ports.all (fun p => p.state == .off) = true := by
    simp only [bootStopped, restIn_eq_moveTo, moveTo_fabric, State.setNum_fabric, State.cxlDown, resetCxl_eq]
    rfl
  rw [stopBoot_eq]
  split
  · refine ⟨by simpa using hstage, by simpa using hcur, by simpa using htgt, ?_, by simpa using hup, ?_, by simpa using hports⟩
    · rw [State.num_raise_other _ _ (by decide), hnum]
    · simp [Ctl.faultLow, hstage]
  · exact ⟨hstage, hcur, htgt, hnum, hup, by simp [Ctl.faultLow, hstage], hports⟩

theorem takeFirmware_takes (slot : Nat) (images : List FwImage) :
    (s.takeFirmware slot images).ctl.stage = .firmware ∧ (s.takeFirmware slot images).cycle = 0 ∧
      (s.takeFirmware slot images).sec = { slotInForce := slot, images := images, identityReady := true } := by
  unfold State.takeFirmware
  dsimp only
  split
  · simp
  · exact ⟨rfl, rfl, rfl⟩

theorem firmwareRow : Claims.FirmwareRow := by
  refine ⟨fun s hs hstage hlow hboot hnone => ?_, fun s a b hstage hlow hboot hown hblocked ha hb => ?_⟩
  · have hdone : firmwareVerify s = s.stopBoot := by
      simp only [firmwareVerify, hstage, hlow, hboot, beq_self_eq_true, Bool.not_false, Bool.and_self, if_true]
      rcases hnone with hown | hblocked | ⟨ha, hb⟩
      · simp [hown]
      · simp [hblocked]
      · simp [ha, hb, pickSlot]
    exact ⟨_, rfl, by rw [hdone]; exact stopBoot_stops hs⟩
  · have hdone : firmwareVerify s =
        if versionOf a < versionOf b then s.takeFirmware 1 b else s.takeFirmware 0 a := by
      simp only [firmwareVerify, hstage, hlow, hboot, hown, hblocked, ha, hb, pickSlot, beq_self_eq_true, Bool.not_false, Bool.and_self,
        if_true, Bool.or_self, Bool.false_eq_true, if_false]
      split
      · next h => split at h <;> cases h
      · next h => split at h <;> cases h <;> simp [*]
    refine ⟨_, rfl, ?_⟩
    rw [hdone]
    split
    · obtain ⟨hst, hcycle, hsec⟩ := takeFirmware_takes (s := s) 1 b
      rw [hsec]
      exact ⟨hst, hcycle, rfl, rfl, rfl⟩
    · obtain ⟨hst, hcycle, hsec⟩ := takeFirmware_takes (s := s) 0 a
      rw [hsec]
      exact ⟨hst, hcycle, rfl, rfl, rfl⟩

end

/-- Settles O8. -/
theorem boot : Obligations.Boot := ⟨bootRows, firmwareRow⟩

/-! ### What the answer to a request leaves (R224, R380, R383) -/

/-- The state after a request has its answer, and before it acts. -/
def answeredTo (r : Req) (abort : Option W32) (data : List Byte) (s : State) : State := (reached r s).respond r abort data

section

variable {r : Req} {s t u : State} {abort : Option W32} {data : List Byte}

theorem answeredTo_frame : answeredTo r abort data s =
    { s with ctl := (answeredTo r abort data s).ctl, outbox := (answeredTo r abort data s).outbox
             nums := (answeredTo r abort data s).nums, freeCount := (answeredTo r abort data s).freeCount } :=
  (onlyAnswers_respond_reached abort data).1

theorem onlyAnswers_answeredTo : OnlyAnswers s (answeredTo r abort data s) := onlyAnswers_respond_reached abort data

theorem hasAnswer_answeredTo (h : Asked s r) : HasAnswer r abort data (answeredTo r abort data s) := hasAnswer_respond abort data h

@[simp] theorem answeredTo_cur : (answeredTo r abort data s).ctl.cur = s.ctl.cur := onlyAnswers_answeredTo.2.1
@[simp] theorem answeredTo_tgt : (answeredTo r abort data s).ctl.tgt = s.ctl.tgt := onlyAnswers_answeredTo.2.2.1
@[simp] theorem answeredTo_fuses : (answeredTo r abort data s).fuses = s.fuses := by rw [answeredTo_frame]
@[simp] theorem answeredTo_flash : (answeredTo r abort data s).flash = s.flash := by rw [answeredTo_frame]
@[simp] theorem answeredTo_sec : (answeredTo r abort data s).sec = s.sec := by rw [answeredTo_frame]
@[simp] theorem answeredTo_octs : (answeredTo r abort data s).octs = s.octs := by rw [answeredTo_frame]
@[simp] theorem answeredTo_oct (k : Nat) : (answeredTo r abort data s).oct k = s.oct k := by rw [answeredTo_frame]; rfl
@[simp] theorem answeredTo_txn : (answeredTo r abort data s).txn = s.txn := by rw [answeredTo_frame]
@[simp] theorem answeredTo_host : (answeredTo r abort data s).host = s.host := by rw [answeredTo_frame]
@[simp] theorem answeredTo_job : (answeredTo r abort data s).job = s.job := by rw [answeredTo_frame]
@[simp] theorem answeredTo_fabric : (answeredTo r abort data s).fabric = s.fabric := by rw [answeredTo_frame]
@[simp] theorem answeredTo_cycle : (answeredTo r abort data s).cycle = s.cycle := by rw [answeredTo_frame]
@[simp] theorem answeredTo_recovery : (answeredTo r abort data s).recovery = s.recovery := by rw [answeredTo_frame]
@[simp] theorem answeredTo_harvest : (answeredTo r abort data s).harvest = s.harvest := by rw [answeredTo_frame]
@[simp] theorem answeredTo_hopper : (answeredTo r abort data s).hopper = s.hopper := by rw [answeredTo_frame]
@[simp] theorem answeredTo_records : (answeredTo r abort data s).records = s.records := by rw [answeredTo_frame]

theorem num_answeredTo {k : Nat} (hk : k ≠ 0x101003) : (answeredTo r abort data s).num k = s.num k := by
  obtain ⟨-, -, -, hnum⟩ := onlyAnswers_answeredTo (r := r) (s := s) (abort := abort) (data := data)
  exact hnum k hk

/-- The answer changes the always-on domain in its stored answers and its mirror slots. -/
theorem answeredTo_ctl : (answeredTo r abort data s).ctl =
    { s.ctl with answered := (answeredTo r abort data s).ctl.answered, mirror := (answeredTo r abort data s).ctl.mirror } := by
  unfold answeredTo
  cases hr : r.src with
  | master =>
    rw [respond_of_master hr, reached_of_master hr]
    have hctl : (passedOn r s).ctl = s.ctl := passedOn_ctl
    simp [hctl]
  | mirror n =>
    rw [respond_of_mirror _ _ hr, reached_of_mirror hr]
    rfl

/-- An answer stays while mirror slots stay and nothing that left the device is taken back. -/
theorem hasAnswer_of_eq (h : HasAnswer r abort data t) (hmirror : u.ctl.mirror = t.ctl.mirror) (hbox : t.outbox ⊆ u.outbox) :
    HasAnswer r abort data u := by
  unfold HasAnswer at h ⊢
  cases hr : r.src with
  | master => rw [hr] at h; exact hbox h
  | mirror n => rw [hr] at h; rw [hmirror]; exact h

theorem keeps_reached : Keeps s (reached r s) := by
  unfold reached
  split
  · exact .ite (.refl s) (Keeps.refl s).send
  · exact .refl s

theorem keeps_answeredTo : Keeps s (answeredTo r abort data s) := keeps_reached.respond

theorem canonical_answeredTo (h : Canonical s) : Canonical (answeredTo r abort data s) := keeps_answeredTo.canonical h

end

/-! ### Firmware updates and FLASH_OWN (R429, R431, R432, R454) -/

section

variable {r : Req} {s : State}

/-- In a state that its verb may be asked in, the verb acts on the answered state. -/
theorem takeVerb_eq (h : VerbAsked s r) {accepted : DevState → Bool} {operandOk : Nat → Bool} {effect : Nat → State → State}
    (hstate : accepted s.ctl.cur = true) (hoperand : operandOk (leNat r.data) = true) :
    s.takeVerb r accepted operandOk effect = effect (leNat r.data) (answeredTo r none [] s) :=
  takeVerb_of_accepted h hstate hoperand

theorem imageSetAt_answeredTo {abort : Option W32} {data : List Byte} (a : Nat) :
    (answeredTo r abort data s).imageSetAt a = s.imageSetAt a := by
  rw [State.imageSetAt, answeredTo_host, ← State.imageSetAt]

/-- What an update that a Tilled device takes does after its answer. -/
def takeUpdate (v : Nat) (s : State) : State :=
  if s.sec.fwWriting.isSome then s
  else if s.ctl.flashOwn then s.setNum 0x903002 0x00670005
  else
    let images := (s.imageSetAt v).getD []
    let status := fwStatus s.fuses images
    let s := s.setNum 0x903002 status
    if status = 0x00670001 then { s with sec := { s.sec with fwWriting := some images } } else s

theorem fwUpdate_of_tilled (h : VerbAsked s r) (hcur : s.ctl.cur = .tilled) :
    fwUpdate r s = takeUpdate (leNat r.data) (answeredTo r none [] s) :=
  takeVerb_eq (effect := takeUpdate) h (by rw [hcur]; rfl) rfl

theorem takeUpdate_of_busy (v : Nat) (h : s.sec.fwWriting.isSome = true) : takeUpdate v s = s := by rw [takeUpdate, if_pos h]

theorem takeUpdate_of_flashOwn (v : Nat) (h : s.sec.fwWriting = none) (hown : s.ctl.flashOwn = true) :
    takeUpdate v s = s.setNum 0x903002 0x00670005 := by
  rw [takeUpdate, if_neg (by simp [h]), if_pos hown]

/-- An update where none is in progress and FLASH_OWN is low: the set's status stands, and one that verifies is in progress. -/
theorem takeUpdate_of_idle (v : Nat) (hs : Canonical s) (h : s.sec.fwWriting = none) (hown : s.ctl.flashOwn = false)
    {images : List FwImage} (himages : (s.imageSetAt v).getD [] = images) :
    (takeUpdate v s).num 0x903002 = fwStatus s.fuses images ∧
      (takeUpdate v s).sec.fwWriting = (if fwStatus s.fuses images = 0x00670001 then some images else none) ∧
      takeUpdate v s = { s with nums := (takeUpdate v s).nums, sec := (takeUpdate v s).sec } := by
  have hnum := State.num_setNum_same hs 0x903002 (fwStatus s.fuses images)
  rw [takeUpdate, if_neg (by simp [h]), if_neg (by simp [hown]), himages]
  dsimp only
  generalize fwStatus s.fuses images = status at hnum ⊢
  by_cases hok : status = 0x00670001
  · rw [if_pos hok, if_pos hok]
    exact ⟨hnum, rfl, rfl⟩
  · rw [if_neg hok, if_neg hok]
    exact ⟨hnum, h, rfl⟩

theorem answeredTo_flashOwn {abort : Option W32} {data : List Byte} : (answeredTo r abort data s).ctl.flashOwn = s.ctl.flashOwn := by
  rw [answeredTo_ctl]

/-- The update of a Tilled device without another update, FLASH_OWN low: the set's status stands, and a set that verifies is in progress. -/
theorem fwUpdate_takes (hs : Canonical s) (h : VerbAsked s r) (hcur : s.ctl.cur = .tilled) (hidle : s.sec.fwWriting = none)
    (hown : s.ctl.flashOwn = false) :
    let images := (s.imageSetAt (leNat r.data)).getD []
    ∃ t, exec (.fwUpdate r) s = .next t ∧ HasAnswer r none [] t ∧ t.num 0x903002 = fwStatus s.fuses images ∧
      t.sec.fwWriting = (if fwStatus s.fuses images = 0x00670001 then some images else none) ∧
      t = { s with ctl := t.ctl, outbox := t.outbox, nums := t.nums, freeCount := t.freeCount, sec := t.sec } := by
  intro images
  obtain ⟨hnum, hwriting, hframe⟩ := takeUpdate_of_idle (leNat r.data) (canonical_answeredTo (r := r) (abort := none) (data := []) hs)
    (by simpa using hidle) (by rwa [answeredTo_flashOwn]) (by rw [imageSetAt_answeredTo])
  rw [answeredTo_fuses] at hnum hwriting
  have hexec : exec (.fwUpdate r) s = .next (fwUpdate r s) := rfl
  rw [hexec, fwUpdate_of_tilled h hcur]
  have hanswer : HasAnswer r none [] (takeUpdate (leNat r.data) (answeredTo r none [] s)) := by
    refine hasAnswer_of_eq (hasAnswer_answeredTo h.1) ?_ ?_
    · rw [hframe]
    · rw [hframe]; exact List.Subset.refl _
  refine ⟨_, rfl, hanswer, hnum, hwriting, ?_⟩
  rw [hframe, answeredTo_frame]

theorem firmwareUpdate_verb (hs : Canonical s) (h : VerbAsked s r) :
    (s.ctl.cur = .tilled → s.sec.fwWriting = none → s.ctl.flashOwn = true →
      ∃ t, exec (.fwUpdate r) s = .next t ∧ HasAnswer r none [] t ∧ t.num 0x903002 = 0x00670005 ∧ t.sec = s.sec ∧
        t.flash = s.flash) ∧
    (s.ctl.cur = .tilled → s.sec.fwWriting.isSome = true →
      ∃ t, exec (.fwUpdate r) s = .next t ∧ HasAnswer r none [] t ∧ OnlyAnswers s t) ∧
    (s.ctl.cur ≠ .tilled → ∃ t, exec (.fwUpdate r) s = .next t ∧ HasAnswer r (some 0x00640002) [] t ∧ OnlyAnswers s t) := by
  have hexec : exec (.fwUpdate r) s = .next (fwUpdate r s) := rfl
  refine ⟨fun hcur hidle hown => ?_, fun hcur hbusy => ?_, fun hcur => ?_⟩
  · rw [hexec, fwUpdate_of_tilled h hcur, takeUpdate_of_flashOwn _ (by simpa using hidle) (by rwa [answeredTo_flashOwn])]
    exact ⟨_, rfl, hasAnswer_answeredTo h.1, State.num_setNum_same (canonical_answeredTo hs) _ _, answeredTo_sec, answeredTo_flash⟩
  · rw [hexec, fwUpdate_of_tilled h hcur, takeUpdate_of_busy _ (by simpa using hbusy)]
    exact ⟨_, rfl, hasAnswer_answeredTo h.1, onlyAnswers_answeredTo⟩
  · have hrefused : fwUpdate r s = answeredTo r (some Abort.wrongState.code) [] s :=
      takeVerb_of_wrongState h (by simp [tilledOnly, hcur])
    rw [hexec, hrefused]
    exact ⟨_, rfl, hasAnswer_answeredTo h.1, onlyAnswers_answeredTo⟩

theorem putImages_slot {images : List FwImage} (hne : images ≠ []) (hslot : ∀ i ∈ images, i.imageType ≠ 4) (ok : Bool) (f : Flash)
    (inForce : Nat) :
    putImages inForce images ok f =
      if inForce = 0 then { f with slotB := if ok then images else [] } else { f with slotA := if ok then images else [] } := by
  have hfilter : images.filter (fun i => !isPattern i) = images := by
    rw [List.filter_eq_self]
    intro i hi
    simp [isPattern, hslot i hi]
  have hfind : images.find? isPattern = none := by
    rw [List.find?_eq_none]
    intro i hi
    simp [isPattern, hslot i hi]
  simp [putImages, hfilter, hfind, hne]

theorem putImages_pattern {i : FwImage} (hi : i.imageType = 4) (k : Nat) (ok : Bool) (f : Flash) :
    putImages k [i] ok f = { f with patterns := if ok then some i else none } := by
  simp [putImages, isPattern, hi]

/-- The end of a firmware write. -/
theorem endFwWrite_of_writing (hs : Canonical s) {images : List FwImage} (h : s.sec.fwWriting = some images) (ok : Bool) :
    (s.endFwWrite ok).num 0x903002 = (if ok then 0 else 0x00670005) ∧ (∀ k, k ≠ 0x903002 → (s.endFwWrite ok).num k = s.num k) ∧
      s.endFwWrite ok = { s with
        flash := putImages s.sec.slotInForce images ok s.flash
        sec := { s.sec with fwWriting := none }, nums := (s.endFwWrite ok).nums } := by
  simp only [State.endFwWrite, h]
  exact ⟨State.num_setNum_same (s := { s with flash := _, sec := _ }) hs _ _, fun k hk => State.num_setNum_other _ _ hk.symm, rfl⟩

theorem endFwWrite_of_idle (h : s.sec.fwWriting = none) (ok : Bool) : s.endFwWrite ok = s := by
  simp only [State.endFwWrite, h]

theorem firmwareUpdate : Claims.FirmwareUpdate := by
  refine ⟨fun r s hs h _ => ⟨fwUpdate_takes hs h, firmwareUpdate_verb hs h⟩, fun ok images s hs h => ?_, fun ok s h => ?_,
    fun ok images f => ⟨fun hne hslot => ⟨?_, ?_⟩, fun i k hi => putImages_pattern hi k ok f⟩⟩
  · obtain ⟨hnum, -, hframe⟩ := endFwWrite_of_writing hs h (ok && !s.ctl.flashOwn)
    refine ⟨_, rfl, ?_, hframe⟩
    rw [show fwUpdateDone ok s = s.endFwWrite (ok && !s.ctl.flashOwn) from rfl, hnum]
    simp
  · exact congrArg Host.Outcome.next (endFwWrite_of_idle h (ok && !s.ctl.flashOwn))
  · exact putImages_slot hne hslot ok f 0
  · exact putImages_slot hne hslot ok f 1

theorem flashOwnPin : Claims.FlashOwnPin := by
  refine ⟨fun level s h => ?_, fun images s hs h => ?_⟩
  · have hexec : exec (.flashOwnChange level) s = .next (flashOwnChange level s) := rfl
    rw [hexec]
    rcases h with rfl | h
    · rfl
    · cases level with
      | false => rfl
      | true => exact congrArg Host.Outcome.next (endFwWrite_of_idle (s := s.mapCtl fun c => { c with flashOwn := true }) h false)
  · obtain ⟨hnum, hother, hframe⟩ := endFwWrite_of_writing (s := s.mapCtl fun c => { c with flashOwn := true }) hs h false
    exact ⟨_, rfl, hnum, hother, hframe⟩

/-! ### Attestation (R436) -/

theorem signedReport_answeredTo {abort : Option W32} {data : List Byte} (nonce : List Byte) :
    (answeredTo r abort data s).signedReport nonce = s.signedReport nonce := by
  have hreport : (answeredTo r abort data s).reportBytes nonce = s.reportBytes nonce := by
    simp only [State.reportBytes, State.profileEntry, State.rank, answeredTo_job, answeredTo_cur, answeredTo_fuses, answeredTo_oct,
      num_answeredTo (show (0x100005 : Nat) ≠ 0x101003 by decide), num_answeredTo (show (0x500001 : Nat) ≠ 0x101003 by decide),
      num_answeredTo (show (0x400003 : Nat) ≠ 0x101003 by decide)]
  simp only [State.signedReport, State.sign, State.identitySeed, hreport, answeredTo_fuses]

theorem attest_of_powered (h : VerbAsked s r) (hcur : s.ctl.cur ≠ .fallow) :
    attest r s = { answeredTo r none [] s with
      sec := { s.sec with attestNonce := some (fit 32 (s.oct 0x901101)), attestSnapshot := s.signedReport (fit 32 (s.oct 0x901101)) } } := by
  rw [attest, takeVerb_eq h (by simpa using hcur) rfl]
  simp only [answeredTo_sec, answeredTo_oct, signedReport_answeredTo]

/-- In Fallow the gate answers a request of the attestation entries with wrong-state. -/
theorem gate_attest_of_fallow (hkey : requestKey r = 0x901102) (hclosed : s.ctl.closed = false) (hcur : s.ctl.cur = .fallow) :
    s.gate r = some .wrongState := by
  have hindex : r.index = 0x9011 := by
    have := r.index.isLt
    have := r.sub.isLt
    have hnat : r.index.toNat = 0x9011 := by unfold requestKey at hkey; omega
    exact BitVec.eq_of_toNat_eq hnat
  simp [State.gate, hkey, hclosed, hcur, hindex]

theorem field_skip {a l : List Byte} {n m k : Nat} (ha : a.length = n) (h : n ≤ m) : field (a ++ l) m k = field l (m - n) k := by
  rw [field, field, List.drop_append, List.drop_of_length_le (by omega), ha, List.nil_append]

theorem field_leBytes_skip {l : List Byte} {n v m k : Nat} (h : n ≤ m) : field (leBytes n v ++ l) m k = field l (m - n) k :=
  field_skip (Tests.leBytes_length n v) h

theorem field_leBytes {l : List Byte} {n v : Nat} : field (leBytes n v ++ l) 0 n = v % 256 ^ n := by
  rw [field, List.drop_zero, List.take_left' (Tests.leBytes_length n v), Tests.leNat_leBytes]

theorem fit_length (n : Nat) (l : List Byte) : (fit n l).length = n := by simp [fit]

theorem field_fit_skip {a l : List Byte} {n m k : Nat} (h : n ≤ m) : field (fit n a ++ l) m k = field l (m - n) k :=
  field_skip (fit_length n a) h

theorem field_pair_skip {x y : Byte} {l : List Byte} {m k : Nat} (h : 2 ≤ m) : field ([x, y] ++ l) m k = field l (m - 2) k :=
  field_skip rfl h

/-- The layout of the report (R436). -/
theorem reportBytes_fields (nonce : List Byte) :
    (s.reportBytes nonce).length = 256 ∧
    field (s.reportBytes nonce) 0 4 = 0x54535441 ∧ field (s.reportBytes nonce) 4 1 = 1 ∧
    field (s.reportBytes nonce) 5 1 = s.ctl.cur.code ∧ field (s.reportBytes nonce) 6 2 = s.rank % 65536 ∧
    field (s.reportBytes nonce) 36 4 = (s.job.elim 0 fun j => j.binary.deviceCount) % 2 ^ 32 ∧
    field (s.reportBytes nonce) 40 8 = s.num 0x500001 % 2 ^ 64 ∧
    field (s.reportBytes nonce) 160 32 = (s.job.elim 0 fun j => j.binary.digest.toNat) ∧
    (s.reportBytes nonce).drop 192 = fit 32 (s.oct 0x900007) ++ fit 32 nonce := by
  have hcode : s.ctl.cur.code < 256 := by cases s.ctl.cur <;> decide
  have hdigest : (s.job.elim 0 fun j => j.binary.digest.toNat) < 2 ^ 256 := by
    cases s.job with
    | none => decide
    | some j => exact j.binary.digest.isLt
  have hcount : (s.job.map (·.binary)).elim 0 (·.deviceCount) = s.job.elim 0 fun j => j.binary.deviceCount := by cases s.job <;> rfl
  have hjob : (s.job.map (·.binary)).elim 0 (·.digest.toNat) = s.job.elim 0 fun j => j.binary.digest.toNat := by cases s.job <;> rfl
  unfold State.reportBytes
  dsimp only
  rw [hcount, hjob]
  generalize (s.job.elim 0 fun j => j.binary.digest.toNat) = digest at hdigest ⊢
  simp only [List.append_assoc]
  refine ⟨by simp [Tests.leBytes_length, fit_length], field_leBytes.trans (by decide), ?_, ?_, ?_, ?_, ?_, ?_, ?_⟩
  · rw [field_leBytes_skip (by decide)]
    rfl
  · rw [field_leBytes_skip (by decide)]
    simp [field, leNat, Nat.mod_eq_of_lt hcode]
  · rw [field_leBytes_skip (by decide), field_pair_skip (by decide)]
    exact field_leBytes
  · simp only [field_leBytes_skip, field_pair_skip, field_fit_skip, Nat.reduceLeDiff, Nat.reduceSub]
    exact field_leBytes
  · simp only [field_leBytes_skip, field_pair_skip, field_fit_skip, Nat.reduceLeDiff, Nat.reduceSub]
    exact field_leBytes
  · simp only [field_leBytes_skip, field_pair_skip, field_fit_skip, Nat.reduceLeDiff, Nat.reduceSub]
    exact field_leBytes.trans (Nat.mod_eq_of_lt hdigest)
  · simp [List.drop_append, List.drop_of_length_le, Tests.leBytes_length, fit_length]

theorem attestation : Claims.Attestation := by
  refine ⟨fun r s h _ hcur => ?_, fun r s hasked hres hkey hclosed hcur => ?_, fun nonce s hs h => ?_, fun s h => ?_,
    fun nonce s => ⟨rfl, reportBytes_fields nonce⟩⟩
  · have hexec : exec (.attest r) s = .next (attest r s) := rfl
    rw [hexec, attest_of_powered h hcur]
    refine ⟨_, rfl, hasAnswer_answeredTo h.1, rfl, ?_⟩
    rw [answeredTo_frame]
  · have hexec : exec (.attest r) s = .next (attest r s) := rfl
    have hgate : (reached r s).gate r = some .wrongState := gate_reached.trans (gate_attest_of_fallow hkey hclosed hcur)
    have hrefused : attest r s = answeredTo r (some Abort.wrongState.code) [] s := by
      rw [attest, State.takeVerb, receive_eq_execute hasked, answeredTo]
      simp [State.execute, reservedRefused, hres, hgate]
    rw [hexec, hrefused]
    exact ⟨_, rfl, hasAnswer_answeredTo hasked, onlyAnswers_answeredTo⟩
  · have hready : attestReportReady s =
        { (s.setOct 0x901103 s.sec.attestSnapshot).bump 0x901104 with sec := { s.sec with attestNonce := none, attestSnapshot := [] } } := by
      rw [attestReportReady, if_neg (by simp [h])]
      rfl
    refine ⟨_, rfl, ?_⟩
    rw [hready]
    refine ⟨State.oct_setOct_same hs _ _, ?_, rfl⟩
    exact State.num_bump_same (State.canonical_setOct hs _ _) _ _
  · have hexec : exec .attestReportReady s = .next (attestReportReady s) := rfl
    rw [hexec, attestReportReady, if_pos (by simp [h])]

end

/-- Settles O9. -/
theorem firmwareAndAttestation : Obligations.FirmwareAndAttestation := ⟨firmwareUpdate, flashOwnPin, attestation⟩

/-! ### Site time (R296, R449, R450, R454) -/

section

variable {s : State} {stamp : Cycle} {highNs : Nat}

theorem acceptEdge_accepts : (s.acceptEdge stamp).time.lastPps = some stamp ∧ (s.acceptEdge stamp).time.ppsOk = true ∧
    (s.acceptEdge stamp).time.ignored = [] := by
  rw [State.acceptEdge, settleTime_time]
  exact ⟨rfl, rfl, rfl⟩

theorem ppsEdge_of_pulse (hkeep : s.ctl.keepsTime = true) (hlow : 1000 ≤ highNs) (hhigh : highNs ≤ 500000000) :
    ppsEdge stamp highNs s = match s.time.lastPps with
      | none => (s.upTo stamp).acceptEdge stamp
      | some p => if isSecond (stamp - p).toNat then (s.upTo stamp).acceptEdge stamp else (s.upTo stamp).strayEdge stamp := by
  have hpulse : ¬(decide (highNs < 1000) || decide (500000000 < highNs)) = true := by
    simp only [Bool.or_eq_true, decide_eq_true_eq]
    omega
  rw [ppsEdge, if_neg (by simp [hkeep])]
  exact if_neg hpulse

theorem ppsEdge_of_stray {p : Cycle} (hkeep : s.ctl.keepsTime = true) (hlow : 1000 ≤ highNs) (hhigh : highNs ≤ 500000000)
    (hlast : s.time.lastPps = some p) (hout : (stamp - p).toNat < 1599984000 ∨ 1600016000 < (stamp - p).toNat) :
    ppsEdge stamp highNs s = (s.upTo stamp).strayEdge stamp := by
  have hnot : ¬isSecond (stamp - p).toNat = true := by
    rw [isSecond_iff]
    omega
  rw [ppsEdge_of_pulse hkeep hlow hhigh, hlast]
  exact if_neg hnot

theorem strayEdge_of_agree {a b : Cycle} {l : List Cycle} (h : s.time.ignored = b :: a :: l)
    (hb : isSecond (stamp - b).toNat = true) (ha : isSecond (b - a).toNat = true) : s.strayEdge stamp = s.acceptEdge stamp := by
  have hagree : (isSecond (cyclesSince stamp b) && isSecond (cyclesSince b a)) = true := Bool.and_eq_true_iff.2 ⟨hb, ha⟩
  simp only [State.strayEdge, h]
  exact if_pos hagree

theorem strayEdge_of_few (h : s.time.ignored.length < 2) :
    (s.strayEdge stamp).time.lastPps = s.time.lastPps ∧ (s.strayEdge stamp).time.ppsOk = false := by
  have hlost : s.strayEdge stamp =
      ({ s with time := { s.time with ignored := (stamp :: s.time.ignored).take 2, ppsOk := false } } : State).settleTime := by
    unfold State.strayEdge
    split
    · next heq =>
      rw [heq] at h
      simp only [List.length_cons] at h
      omega
    · rfl
  rw [hlost, settleTime_time]
  exact ⟨rfl, rfl⟩

theorem ppsEdges : Claims.PpsEdges := by
  intro stamp highNs s hkeep
  refine ⟨fun hlow hhigh => ⟨fun hok => ?_, fun p a b l hlast hout hl hb ha => ?_, fun p hlast hout hfew => ?_⟩, fun hpulse => ?_⟩
  · have hedge : ppsEdge stamp highNs s = (s.upTo stamp).acceptEdge stamp := by
      rw [ppsEdge_of_pulse hkeep hlow hhigh]
      rcases hok with hnone | ⟨p, hlast, hsecond⟩
      · rw [hnone]
      · rw [hlast]
        exact if_pos ((isSecond_iff _).2 hsecond)
    exact ⟨_, rfl, by rw [hedge]; exact acceptEdge_accepts⟩
  · refine ⟨_, rfl, ?_⟩
    rw [ppsEdge_of_stray hkeep hlow hhigh hlast hout, strayEdge_of_agree (s := s.upTo stamp) hl hb ha]
    exact ⟨acceptEdge_accepts.1, acceptEdge_accepts.2.1⟩
  · refine ⟨_, rfl, ?_⟩
    rw [ppsEdge_of_stray hkeep hlow hhigh hlast hout, (strayEdge_of_few (s := s.upTo stamp) hfew).1]
    exact ⟨hlast, (strayEdge_of_few (s := s.upTo stamp) hfew).2⟩
  · refine ⟨_, rfl, ?_⟩
    rw [ppsEdge, if_neg (by simp [hkeep])]
    dsimp only
    rw [if_pos (by simpa using hpulse)]
    rfl

/-- Locked time whose source is lost is in holdover. -/
theorem settleTime_of_loss (hs : Canonical s) (hlocked : s.num 0x503002 = 1) (hlost : (s.time.ppsOk && s.time.todOk) = false) :
    s.settleTime.num 0x503002 = 2 ∧ s.settleTime.time = { s.time with lostAt := some s.cycle } := by
  have hsettle : s.settleTime = ({ s with time := { s.time with lostAt := some s.cycle } } : State).setNum 0x503002 2 := by
    simp [State.settleTime, hlost, hlocked]
  rw [hsettle]
  exact ⟨State.num_setNum_same (s := { s with time := _ }) hs _ _, rfl⟩

theorem ppsLost_of_locked (hs : Canonical s) (hkeep : s.ctl.keepsTime = true) (hlocked : s.num 0x503002 = 1) :
    (ppsLost s).num 0x503002 = 2 ∧ (ppsLost s).time.lostAt = some s.cycle ∧ (ppsLost s).time.ppsOk = false := by
  obtain ⟨hnum, htime⟩ := settleTime_of_loss (s := { s with time := { s.time with ppsOk := false } }) hs hlocked rfl
  rw [ppsLost, if_pos hkeep]
  exact ⟨hnum, by rw [htime], by rw [htime]⟩

theorem managementLinkDown_of_locked (hs : Canonical s) (hkeep : s.ctl.keepsTime = true) (hsource : s.num 0x503001 = 2)
    (hlocked : s.num 0x503002 = 1) :
    (managementLinkChange false s).num 0x503002 = 2 ∧ (managementLinkChange false s).time.mgmtUp = false := by
  obtain ⟨hnum, htime⟩ := settleTime_of_loss
    (s := { s with time := { s.time with mgmtUp := false, todOk := false, ptpSeconds := none } }) hs hlocked (Bool.and_false _)
  have hdown : (!false && State.num { s with time := { s.time with mgmtUp := false } } 0x503001 == 2 && s.ctl.keepsTime) = true := by
    simp only [Bool.not_false, Bool.true_and, Bool.and_eq_true, beq_iff_eq]
    exact ⟨hsource, hkeep⟩
  rw [managementLinkChange, if_pos hdown]
  exact ⟨hnum, by rw [htime]⟩

/-- The state at the end of a holdover: the count has come to the limit. -/
def holdoverEnd (s : State) : State :=
  s.time.lostAt.elim s fun c => s.upTo (c + BitVec.ofNat 64 (s.num 0x503004 * secondCycles))

theorem holdoverEnd_frame : holdoverEnd s = { s with cycle := (holdoverEnd s).cycle } := by
  unfold holdoverEnd
  cases s.time.lostAt <;> rfl

theorem holdoverExpiry_of_holdover (hs : Canonical s) (h : s.num 0x503002 = 2) :
    (holdoverExpiry s).num 0x503002 = 0 ∧ ∀ k, k ≠ 0x503002 → (holdoverExpiry s).num k = s.num k := by
  have hexpiry : holdoverExpiry s =
      ({ holdoverEnd s with time := { (holdoverEnd s).time with todOk := false, lostAt := none } } : State).setNum 0x503002 0 := by
    rw [holdoverExpiry, if_pos h]
    rfl
  rw [hexpiry, holdoverEnd_frame]
  exact ⟨State.num_setNum_same (s := { s with cycle := _, time := _ }) hs _ _, fun k hk => State.num_setNum_other _ _ hk.symm⟩

theorem lossOfTime : Claims.LossOfTime :=
  ⟨fun _ hs hkeep hlocked => ⟨_, rfl, ppsLost_of_locked hs hkeep hlocked⟩,
    fun _ hs hkeep hsource hlocked => ⟨_, rfl, managementLinkDown_of_locked hs hkeep hsource hlocked⟩,
    fun _ => rfl, fun _ hs hholdover => ⟨_, rfl, holdoverExpiry_of_holdover hs hholdover⟩⟩

theorem ptpMessages : Claims.PtpMessages := by
  intro m s hkeep hsource hup hkind hdomain htransport hmaster
  have hexec : exec (.ptpMessage m) s = .next (ptpMessage m s) := rfl
  rw [hexec, ptpMessage, if_pos (by simp [hkeep, hsource, hup, hkind, hdomain, htransport, hmaster])]

end

/-- Settles O11. -/
theorem siteTime : Obligations.SiteTime := ⟨ppsEdges, lossOfTime, ptpMessages⟩

/-! ### Ring frames, the bypass and the join notice (R375 to R379, R424) -/

theorem ringFrames : Claims.RingFrames := by
  refine ⟨fun f s hopen hother => ?_, fun f s hs hopen hown hdest hcrc => ?_, fun epoch count s hs hopen hepoch hcount => ?_,
    fun count s hopen => ?_, fun f epoch count s hclosed => ⟨?_, ?_⟩⟩
  · have hexec : exec (.ringFramePass f) s = .next (ringFramePass f s) := rfl
    have hpass : (BitVec.ofNat 8 (s.num 0x101001) = 0 || f.dest ≠ BitVec.ofNat 8 (s.num 0x101001)) = true := by simpa using hother
    rw [hexec, ringFramePass]
    rw [if_neg (by simp [hopen]), if_pos hpass]
    rfl
  · have hhere : ¬(BitVec.ofNat 8 (s.num 0x101001) = 0 || f.dest ≠ BitVec.ofNat 8 (s.num 0x101001)) = true := by
      simpa [hdest] using hown
    have hcount : ringFramePass f s = s.bump 0x101004 := by
      rw [ringFramePass]
      rw [if_neg (by simp [hopen]), if_neg hhere, if_neg (by simp [hcrc])]
    refine ⟨_, rfl, ?_⟩
    rw [hcount]
    exact ⟨rfl, State.num_bump_same hs _ _, fun k hk => State.num_bump_other _ _ hk.symm⟩
  · have hnext : enumerate epoch count s =
        ((s.setNum 0x101001 (count.toNat + 1)).setNum 0x101002 epoch.toNat).send (.enumerate epoch (count + 1)) := by
      rw [enumerate, if_neg (by simp [hopen]), if_neg (by simp only [Bool.or_eq_true, decide_eq_true_eq, hepoch, false_or]; omega)]
    refine ⟨_, rfl, ?_⟩
    rw [hnext]
    refine ⟨?_, State.num_setNum_same (State.canonical_setNum hs _ _) _ _, rfl, fun k hk hk' => ?_⟩
    · rw [State.send_num, State.num_setNum_other _ _ (by decide), State.num_setNum_same hs]
    · rw [State.send_num, State.num_setNum_other _ _ hk'.symm, State.num_setNum_other _ _ hk.symm]
  · have hexec : exec (.enumerate 0 count) s = .next (enumerate 0 count s) := rfl
    rw [hexec, enumerate, if_neg (by simp [hopen]), if_pos (by simp)]
    rfl
  · have hexec : exec (.ringFramePass f) s = .next (ringFramePass f s) := rfl
    rw [hexec, ringFramePass]
    rw [if_pos (by simp [hclosed])]
  · have hexec : exec (.enumerate epoch count) s = .next (enumerate epoch count s) := rfl
    rw [hexec, enumerate, if_pos (by simp [hclosed])]

theorem bypassAndJoinNotice : Claims.BypassAndJoinNotice := by
  refine ⟨fun s hclosed hoff hfuse => ?_, fun s => rfl, fun s hopen hnone => ?_⟩
  · have hexec : exec (.bypassChange true) s = .next (bypassChange true s) := rfl
    rw [hexec, bypassChange, if_pos rfl, if_neg (by simp [hoff, hfuse]), State.openBypass, if_neg (by simp [hclosed])]
    rfl
  · have hexec : exec .joinNoticeResend s = .next (joinNoticeResend s) := rfl
    rw [hexec, joinNoticeResend, if_pos (by simp [hopen, hnone])]
    rfl

/-- Settles O13. -/
theorem ring : Obligations.Ring := ⟨ringFrames, bypassAndJoinNotice⟩

end Sys2Proof.Proofs

/-! The dictionary's requests (R217, R375 to R404): the gate, reads, writes, transactions, events, and the verbs that move the device
state. What a request does before its answer is a function of the state that it reaches. -/

namespace Sys2Proof.Proofs

open Sys2Proof Machine

/-! ### The gate (R389) -/

section

variable {r : Req} {s : State}

theorem requestKey_eq_iff {n : Nat} (index : BitVec 16) (sub : BitVec 8) (hn : n = index.toNat * 256 + sub.toNat) :
    requestKey r = n ↔ r.index = index ∧ r.sub = sub := by
  have := r.sub.isLt
  have := sub.isLt
  rw [hn, requestKey, ← BitVec.toNat_inj, ← BitVec.toNat_inj]
  omega

theorem gate_of_booting (hcur : s.ctl.cur = .fallow) (hreached : s.ctl.reachedTilled = false) (hstage : s.ctl.stage ≠ .stopped) :
    s.gate r = if r.op = 1 ∧ (r.index = 0x1000 ∨ r.index = 0x1001 ∧ r.sub = 0) then none else some .booting := by
  have hkey := requestKey_eq_iff (r := r) (n := 0x100100) 0x1001 0 rfl
  simp [State.gate, Ctl.closed, hcur, hreached, hstage, hkey]

theorem gate_of_fallow (hcur : s.ctl.cur = .fallow) (hreached : s.ctl.reachedTilled = true) (hstage : s.ctl.stage ≠ .stopped) :
    s.gate r =
      if r.op = 1 ∧ (r.index = 0x1000 ∨ r.index = 0x1001 ∨ r.index = 0x1010 ∨ r.index = 0x6000 ∧ r.sub = 1) ∨
        r.op = 3 ∧ (r.index = 0x1002 ∧ (r.sub = 1 ∨ r.sub = 3) ∨ r.index = 0x2070 ∧ r.sub = 1) then none
      else some .wrongState := by
  have hlog := requestKey_eq_iff (r := r) (n := 0x600001) 0x6000 1 rfl
  have hwake := requestKey_eq_iff (r := r) (n := 0x100201) 0x1002 1 rfl
  have hreset := requestKey_eq_iff (r := r) (n := 0x100203) 0x1002 3 rfl
  have hharvest := requestKey_eq_iff (r := r) (n := 0x207001) 0x2070 1 rfl
  simp only [State.gate, Ctl.closed, hcur, hreached, hlog, hwake, hreset, hharvest]
  by_cases hread : r.op = 1#4
  · simp [hread, hstage, or_assoc]
  · by_cases hverb : r.op = 3#4
    · simp [hverb, hstage, and_or_left, or_assoc]
    · simp [hread, hverb, hstage]

theorem gate_of_awake (hcur : s.ctl.cur ≠ .fallow) (hfault : s.ctl.bootFault = false) : s.gate r = none := by
  simp [State.gate, Ctl.closed, hcur, hfault]

variable {op : BitVec 4} {act : State → Except Abort (State × List Byte)} {after lost : State → State}

/-- A request that the gate turns away is answered with its abort code, and nothing else happens. -/
theorem receive_of_gate (h : Asked s r) (hres : r.reserved = 0) {a : Abort} (hgate : s.gate r = some a) :
    s.receive r op act after lost = answeredTo r (some a.code) [] s := by
  have hgate' : (reached r s).gate r = some a := gate_reached.trans hgate
  rw [receive_eq_execute h]
  simp [State.execute, reservedRefused, hres, hgate', answeredTo]

/-- Settles O15. -/
theorem gateOfRequests : Obligations.GateOfRequests := by
  refine fun r s => ⟨gate_of_booting, gate_of_fallow, gate_of_awake, fun a hgate hres hasked c hc => ?_⟩
  have hexec : exec c s = .next (answeredTo r (some a.code) [] s) := by
    simp only [List.mem_cons, List.not_mem_nil, or_false] at hc
    rcases hc with rfl | rfl | rfl | rfl | rfl
    all_goals exact congrArg Host.Outcome.next (receive_of_gate hasked hres hgate)
  exact ⟨_, hexec, hasAnswer_answeredTo hasked, fun _ => onlyAnswers_answeredTo⟩

end

/-! ### Requests that are executed (R378, R389) -/

section

variable {r : Req} {s : State} {op : BitVec 4} {act : State → Except Abort (State × List Byte)} {after lost : State → State}

theorem reached_frame : reached r s = { s with outbox := (reached r s).outbox } := by
  unfold reached
  split
  · rw [passedOn_frame]
  · rfl

@[simp] theorem reached_num (k : Nat) : (reached r s).num k = s.num k := by rw [reached_frame]; rfl
@[simp] theorem reached_oct (k : Nat) : (reached r s).oct k = s.oct k := by rw [reached_frame]; rfl
@[simp] theorem reached_txn : (reached r s).txn = s.txn := by rw [reached_frame]
@[simp] theorem reached_time : (reached r s).time = s.time := by rw [reached_frame]
@[simp] theorem reached_cycle : (reached r s).cycle = s.cycle := by rw [reached_frame]
@[simp] theorem reached_fuses : (reached r s).fuses = s.fuses := by rw [reached_frame]
@[simp] theorem reached_flash : (reached r s).flash = s.flash := by rw [reached_frame]
@[simp] theorem reached_sec : (reached r s).sec = s.sec := by rw [reached_frame]
@[simp] theorem reached_recovery : (reached r s).recovery = s.recovery := by rw [reached_frame]
@[simp] theorem reached_fabric : (reached r s).fabric = s.fabric := by rw [reached_frame]
@[simp] theorem reached_job : (reached r s).job = s.job := by rw [reached_frame]
@[simp] theorem reached_freeCount : (reached r s).freeCount = s.freeCount := by rw [reached_frame]
@[simp] theorem reached_ctl' : (reached r s).ctl = s.ctl := reached_ctl

theorem canonical_reached (h : Canonical s) : Canonical (reached r s) := keeps_reached.canonical h

/-- A request that its gate lets pass, in the form that its command takes (R378, R389). -/
structure Executed (s : State) (r : Req) (op : BitVec 4) : Prop where
  asked : Asked s r
  reserved : r.reserved = 0
  gate : s.gate r = none
  op : r.op = op

theorem Executed.receive_of_ok (h : Executed s r op) {t : State} {data : List Byte} (hact : act (reached r s) = .ok (t, data)) :
    s.receive r op act after lost = after (t.respond r none data) := by
  rw [receive_eq_execute h.asked, execute_of_ok h.reserved (gate_reached.trans h.gate) h.op hact]

theorem Executed.receive_of_error (h : Executed s r op) {a : Abort} (hact : act (reached r s) = .error a) :
    s.receive r op act after lost = (lost (reached r s)).respond r (some a.code) [] := by
  rw [receive_eq_execute h.asked, execute_of_error h.reserved (gate_reached.trans h.gate) h.op hact]

/-- A request that is refused and loses nothing is answered, and that is all. -/
theorem Executed.refused (h : Executed s r op) {a : Abort} (hact : act (reached r s) = .error a) :
    s.receive r op act id id = answeredTo r (some a.code) [] s := h.receive_of_error hact

end

/-! ### Reads (R382, R385, R387) -/

section

variable {r : Req} {s : State}

theorem readNum_reached (key : Nat) : (reached r s).readNum key = s.readNum key := by
  rw [reached_frame]
  rfl

theorem measured_reached (key : Nat) : (reached r s).measured key = s.measured key := by
  rw [reached_frame]
  rfl

theorem readOct_reached (key : Nat) : (reached r s).readOct key = s.readOct key := by
  rw [reached_frame]
  rfl

theorem findEntry_of_entryOf {e : Entry} (h : entryOf (requestKey r) = some e) : findEntry r = .ok e := by
  rw [findEntry, h]

theorem readEntry_number {e : Entry} (he : entryOf (requestKey r) = some e) (hwo : e.access ≠ .wo) (hverb : e.type ≠ .verb)
    (hnum : ∀ n, e.type ≠ .octets n) (hoff : r.offset = 0) :
    readEntry r s = .ok (if s.measured (requestKey r) then s.useFree else s, leBytes e.type.size (s.readNum (requestKey r))) := by
  rw [readEntry, findEntry_of_entryOf he]
  dsimp only
  rw [if_neg (by simp [hwo, hverb])]
  split
  · next n h => exact absurd h (hnum n)
  · rw [if_neg (by simp [hoff])]

theorem readEntry_octets {e : Entry} {n : Nat} (he : entryOf (requestKey r) = some e) (hwo : e.access ≠ .wo) (ht : e.type = .octets n)
    (hoff : r.offset.toNat ≤ (s.readOct (requestKey r)).length) :
    readEntry r s = .ok (s, ((s.readOct (requestKey r)).drop r.offset.toNat).take (segmentLength r)) := by
  rw [readEntry, findEntry_of_entryOf he]
  dsimp only
  rw [if_neg (by simp [hwo, ht]), ht]
  dsimp only
  rw [if_neg (by omega)]

theorem readEntry_refused {e : Entry} (he : entryOf (requestKey r) = some e) (h : e.access = .wo ∨ e.type = .verb) :
    readEntry r s = .error .access := by
  rw [readEntry, findEntry_of_entryOf he]
  dsimp only
  rw [if_pos (by simpa using h)]

theorem respond_useFree (abort : Option W32) (data : List Byte) : s.useFree.respond r abort data = (s.respond r abort data).useFree := by
  unfold State.respond
  split <;> rfl

theorem readAnswers : Claims.ReadAnswers := by
  intro r e s hasked hres hgate hop he
  have h : Executed s r 1 := ⟨hasked, hres, hgate, hop⟩
  have hexec : exec (.read (.entry r)) s = .next (s.receive r 1 (readEntry r) id id) := rfl
  refine ⟨fun hwo hverb hnum hoff => ?_, fun n hwo ht hoff hlen => ?_, fun hno => ?_⟩
  · have hread := h.receive_of_ok (after := id) (lost := id) (readEntry_number (s := reached r s) he hwo hverb hnum hoff)
    rw [measured_reached, readNum_reached] at hread
    rw [hexec, hread]
    refine ⟨_, rfl, ?_⟩
    split
    · rw [respond_useFree]
      obtain ⟨hframe, hcur, htgt, hnums⟩ := onlyAnswers_answeredTo (r := r) (s := s) (abort := none)
        (data := leBytes e.type.size (s.readNum (requestKey r)))
      refine ⟨hasAnswer_of_eq (hasAnswer_answeredTo hasked) rfl (List.Subset.refl _), ?_, hcur, htgt, hnums⟩
      exact congrArg State.useFree hframe
    · exact ⟨hasAnswer_answeredTo hasked, onlyAnswers_answeredTo⟩
  · have hread := h.receive_of_ok (after := id) (lost := id) (readEntry_octets (s := reached r s) he hwo ht (by rwa [readOct_reached]))
    rw [readOct_reached, segmentLength, if_neg hlen] at hread
    rw [hexec, hread]
    exact ⟨_, rfl, hasAnswer_answeredTo hasked, onlyAnswers_answeredTo⟩
  · rw [hexec, h.refused (readEntry_refused he hno)]
    exact ⟨_, rfl, hasAnswer_answeredTo hasked, onlyAnswers_answeredTo⟩

theorem mirrorAreaReads : Claims.MirrorAreaReads := by
  intro s hup hconfigured p hp
  have hread : exec (.read (.bar0 p.1)) s = .next (s.send (.bar0 p.1 (s.bar0 p.1))) := by
    have hexec : exec (.read (.bar0 p.1)) s = .next (readRequest (.bar0 p.1) s) := rfl
    rw [hexec, readRequest, if_pos (by simp [hup, hconfigured])]
  rw [hread]
  simp only [List.mem_cons, List.not_mem_nil, or_false] at hp
  rcases hp with rfl | rfl | rfl | rfl | rfl | rfl <;> rfl

end

/-- Settles O16. -/
theorem reads : Obligations.Reads := ⟨readAnswers, mirrorAreaReads⟩

/-! ### What a written number entry changes (R386, R392, R404) -/

section

variable {s : State} {key n : Nat}

/-- What every step of a fold leaves, the fold leaves. -/
theorem foldl_leaves {α β : Type} {f : State → α → State} (g : State → β) (hf : ∀ t a, g (f t a) = g t) (l : List α) (t : State) :
    g (l.foldl f t) = g t := by
  induction l generalizing t with
  | nil => rfl
  | cons a l ih => exact (ih (f t a)).trans (hf t a)

theorem num_of_nums {t u : State} (h : t.nums = u.nums) (k : Nat) : t.num k = u.num k := by rw [State.num, State.num, h]

@[simp] theorem signalVec_nums (v : Nat) : (s.signalVec v).nums = s.nums := by rw [State.signalVec_frame]

theorem writeEventMask_nums (m : Nat) : (s.writeEventMask m).nums = (s.setNum 0x102003 m).nums := by
  refine foldl_leaves State.nums (fun t v => ?_) _ _
  split
  · rw [signalVec_nums]
    rfl
  · rfl

theorem settleLedger_num {k : Nat} (hk : k ≠ eventCause) : s.settleLedger.num k = s.num k := by
  unfold State.settleLedger
  dsimp only
  split
  · exact State.num_raise_other _ _ hk.symm
  · rfl

theorem setPortCtrl_nums (i v : Nat) : (s.setPortCtrl i v).nums = s.nums := rfl

theorem setAcreMode_num {i before v k : Nat} (hk : k ≠ 0x501101 + i) : (s.setAcreMode i before v).num k = s.num k := by
  unfold State.setAcreMode
  split
  · rfl
  · exact State.num_setNum_other _ _ hk.symm

/-- A number entry reads back as it is kept, whatever hangs on it. -/
theorem num_applyEntry_same (hs : Canonical s) (hack : key ≠ 0x102002) : (s.applyEntry key (.num n)).num key = keptNum key n := by
  have hset : (s.setNum key (keptNum key n)).num key = keptNum key n := State.num_setNum_same hs _ _
  simp only [State.applyEntry, if_neg hack]
  by_cases hmask : key = 0x102003
  · subst hmask
    rw [if_pos rfl, num_of_nums (writeEventMask_nums n), State.num_setNum_same hs]
    rfl
  · rw [if_neg hmask]
    by_cases hmargin : key = 0x40000A
    · subst hmargin
      rw [if_pos rfl]
      split
      · rw [State.setReach, State.num_setNum_other _ _ (by decide), State.num_setNum_other _ _ (by decide), hset]
      · exact hset
    · rw [if_neg hmargin]
      by_cases hledger : (decide (key = 0x801003) || decide (key = 0x801007)) = true
      · rw [if_pos hledger, settleLedger_num, hset]
        rintro rfl
        exact absurd hledger (by decide)
      · rw [if_neg hledger]
        split
        · rw [num_of_nums (setPortCtrl_nums _ _), hset]
        · split
          · next hacre => rw [setAcreMode_num (by omega), hset]
          · exact hset

theorem settlePorts_nums : s.settlePorts.nums = s.nums := by
  refine foldl_leaves State.nums (fun t i => ?_) _ _
  unfold State.settlePort
  dsimp only
  split <;> rfl

theorem applyAll_num (key k : Nat) (v : EntryValue) : (s.applyAll [(key, v)]).num k = (s.applyEntry key v).num k := by
  unfold State.applyAll
  dsimp only
  split
  · rw [sendIdentities_num, num_of_nums settlePorts_nums]
    rfl
  · rfl

/-- What a request's answer and its end need of a state: its mirror slots, and the open transaction. -/
def slotsAndTxn (s : State) : List MirrorSlot × Option Txn := (s.ctl.mirror, s.txn)

theorem slotsAndTxn_signalVec (v : Nat) : slotsAndTxn (s.signalVec v) = slotsAndTxn s := by
  unfold slotsAndTxn
  rw [State.signalVec_ctl, State.signalVec_frame]

theorem slotsAndTxn_raise (v : Vec) : slotsAndTxn (s.raise v) = slotsAndTxn s := by simp [slotsAndTxn]

theorem slotsAndTxn_writeEventMask (m : Nat) : slotsAndTxn (s.writeEventMask m) = slotsAndTxn s := by
  refine foldl_leaves slotsAndTxn (fun t v => ?_) _ _
  split
  · rw [slotsAndTxn_signalVec]
    rfl
  · rfl

theorem slotsAndTxn_settleLedger : slotsAndTxn s.settleLedger = slotsAndTxn s := by
  unfold State.settleLedger
  dsimp only
  split
  · rw [slotsAndTxn_raise]
    rfl
  · rfl

theorem slotsAndTxn_setAcreMode (i before v : Nat) : slotsAndTxn (s.setAcreMode i before v) = slotsAndTxn s := by
  unfold State.setAcreMode
  split <;> rfl

theorem slotsAndTxn_sendIdentities : slotsAndTxn s.sendIdentities = slotsAndTxn s := by
  unfold State.sendIdentities
  split <;> rfl

theorem slotsAndTxn_settlePorts : slotsAndTxn s.settlePorts = slotsAndTxn s := by
  refine foldl_leaves slotsAndTxn (fun t i => ?_) _ _
  unfold State.settlePort
  dsimp only
  split <;> rfl

theorem slotsAndTxn_applyEntry : slotsAndTxn (s.applyEntry key (.num n)) = slotsAndTxn s := by
  have hset : slotsAndTxn (s.setNum key (keptNum key n)) = slotsAndTxn s := rfl
  simp only [State.applyEntry]
  split
  · rfl
  · split
    · exact slotsAndTxn_writeEventMask n
    · split
      · split <;> rfl
      · split
        · exact slotsAndTxn_settleLedger.trans hset
        · split
          · rfl
          · split
            · exact (slotsAndTxn_setAcreMode _ _ _).trans hset
            · rfl

theorem slotsAndTxn_applyAll : slotsAndTxn (s.applyAll [(key, .num n)]) = slotsAndTxn s := by
  unfold State.applyAll
  dsimp only
  split
  · exact (slotsAndTxn_sendIdentities.trans slotsAndTxn_settlePorts).trans slotsAndTxn_applyEntry
  · exact slotsAndTxn_applyEntry

variable {r : Req} {abort : Option W32} {data : List Byte} {t : State}

/-- A request is answered in any state with the mirror slots of the one it came to. -/
theorem hasAnswer_respond_of_slots (h : Asked s r) (ht : t.ctl.mirror = s.ctl.mirror) : HasAnswer r abort data (t.respond r abort data) := by
  cases hr : r.src with
  | master => exact hasAnswer_of_mem hr (response_mem_respond hr _ _ _)
  | mirror i =>
    simp only [Asked, hr] at h
    obtain ⟨hslot, -, -⟩ := h
    apply hasAnswer_of_slot abort data hr
    rw [respond_of_mirror abort data hr, State.mapCtl_ctl, ht, nth_eq_getD, getElem?_modifyNth_same, List.getElem?_eq_getElem hslot]
    rfl

theorem respond_num {k : Nat} (hk : k ≠ 0x101003) : (t.respond r abort data).num k = t.num k := by
  cases hr : r.src with
  | master => rw [respond_of_master hr, State.send_num, State.num_bump_other _ _ hk.symm, State.mapCtl_num]
  | mirror i => rw [respond_of_mirror abort data hr, State.mapCtl_num]

@[simp] theorem respond_txn : (t.respond r abort data).txn = t.txn := by
  unfold State.respond
  split <;> rfl

end

/-! ### Writes (R384 to R388, R390) -/

section

variable {s : State} {r : Req} {e : Entry}

/-- A write of a number entry, in the form that its type takes. -/
structure NumberWritten (r : Req) (e : Entry) : Prop where
  entry : entryOf (requestKey r) = some e
  notVerb : e.type ≠ .verb
  number : ∀ n, e.type ≠ .octets n

theorem checkValue_reached (key : Nat) (v : EntryValue) : (reached r s).checkValue key v = s.checkValue key v := by
  rw [reached_frame]
  rfl

theorem checkValue_eq_none {key n : Nat} (he : entryOf key = some e) (hw : s.writable e = true) (hr : e.inRange n = true)
    (ho : s.numberOk key n = true) : s.checkValue key (.num n) = none := by
  simp [State.checkValue, he, hw, hr, ho]

theorem writtenValue_number {staged : Option (List Byte)} {staging : Bool} (hnum : ∀ n, e.type ≠ .octets n) (hoff : r.offset = 0)
    (hlen : r.data.length = e.type.size) : writtenValue e r staged staging = .ok (.num (leNat r.data)) := by
  unfold writtenValue
  split
  · next n h => exact absurd h (hnum n)
  · rw [if_neg (by simp [hoff]), if_neg (by simp [hlen])]

theorem writeEntry_of_readonly (h : NumberWritten r e) (hacc : e.access = .ro ∨ e.access = .fuse) : writeEntry r s = .error .access := by
  rw [writeEntry, findEntry_of_entryOf h.entry]
  dsimp only
  rw [if_pos (by simpa [h.notVerb] using hacc)]

theorem writeEntry_of_busy (h : NumberWritten r e) {tx : Txn} (hro : e.access ≠ .ro) (hfuse : e.access ≠ .fuse) (htx : s.txn = some tx)
    (howner : tx.owner ≠ r.src) : writeEntry r s = .error .txnBusy := by
  rw [writeEntry, findEntry_of_entryOf h.entry]
  dsimp only
  rw [if_neg (by simp [hro, hfuse, h.notVerb]), if_pos (by simpa [htx] using howner)]

theorem writeEntry_of_required (h : NumberWritten r e) (hacc : e.access = .rwt) (htx : s.txn = none) :
    writeEntry r s = .error .txnRequired := by
  rw [writeEntry, findEntry_of_entryOf h.entry]
  dsimp only
  rw [if_neg (by simp [hacc, h.notVerb]), if_neg (by simp [htx]), if_pos (by simp [hacc, htx])]

/-- Outside a transaction a value that passes the checks is applied. -/
theorem writeEntry_of_checked (h : NumberWritten r e) (hacc : e.access = .rw ∨ e.access = .wo) (htx : s.txn = none) (hoff : r.offset = 0)
    (hlen : r.data.length = e.type.size) (hok : s.checkValue (requestKey r) (.num (leNat r.data)) = none) :
    writeEntry r s = .ok (s.applyAll [(requestKey r, .num (leNat r.data))], []) := by
  rw [writeEntry, findEntry_of_entryOf h.entry]
  dsimp only
  rw [if_neg (by rcases hacc with hacc | hacc <;> simp [hacc, h.notVerb]), if_neg (by simp [htx]),
    if_neg (by rcases hacc with hacc | hacc <;> simp [hacc]), writtenValue_number h.number hoff hlen]
  dsimp only
  rw [if_neg (by simp [nonceBad]), hok]
  simp [htx]

theorem writeEntry_of_unchecked (h : NumberWritten r e) (hacc : e.access = .rw ∨ e.access = .wo) (htx : s.txn = none) (hoff : r.offset = 0)
    (hlen : r.data.length = e.type.size) {a : Abort} (hbad : s.checkValue (requestKey r) (.num (leNat r.data)) = some a) :
    writeEntry r s = .error a := by
  rw [writeEntry, findEntry_of_entryOf h.entry]
  dsimp only
  rw [if_neg (by rcases hacc with hacc | hacc <;> simp [hacc, h.notVerb]), if_neg (by simp [htx]),
    if_neg (by rcases hacc with hacc | hacc <;> simp [hacc]), writtenValue_number h.number hoff hlen]
  dsimp only
  rw [if_neg (by simp [nonceBad]), hbad]

theorem requestKey_ne_of_access {k : Nat} {x : Entry} (he : entryOf (requestKey r) = some e) (hx : entryOf k = some x)
    (hacc : e.access ≠ x.access) : requestKey r ≠ k := by
  rintro hk
  rw [hk, hx] at he
  exact hacc (congrArg Entry.access (Option.some.inj he)).symm

/-- A write that is applied: answered, the transaction as it was, and the entry as it is kept. -/
theorem write_applied (hs : Canonical s) (hx : Executed s r 2) (h : NumberWritten r e) (hacc : e.access = .rw ∨ e.access = .wo)
    (htx : s.txn = none) (hoff : r.offset = 0) (hlen : r.data.length = e.type.size)
    (hok : s.checkValue (requestKey r) (.num (leNat r.data)) = none) :
    let t := s.receive r 2 (writeEntry r) id id
    HasAnswer r none [] t ∧ t.txn = none ∧
      (∀ k, k ≠ 0x101003 → t.num k = ((reached r s).applyEntry (requestKey r) (.num (leNat r.data))).num k) ∧
      Canonical (reached r s) := by
  intro t
  have hact := writeEntry_of_checked (s := reached r s) h hacc (by simpa using htx) hoff hlen (by rwa [checkValue_reached])
  have ht : t = ((reached r s).applyAll [(requestKey r, .num (leNat r.data))]).respond r none [] := hx.receive_of_ok hact
  obtain ⟨hslots, htxn⟩ := Prod.mk.inj (slotsAndTxn_applyAll (s := reached r s) (key := requestKey r) (n := leNat r.data))
  rw [ht]
  refine ⟨hasAnswer_respond_of_slots hx.asked (by rw [hslots, reached_ctl']), ?_, fun k hk => ?_, canonical_reached hs⟩
  · rw [respond_txn, htxn, reached_txn, htx]
  · rw [respond_num hk, applyAll_num]

/-- Settles O17. -/
theorem writeOutcomes : Obligations.WriteOutcomes := by
  intro r e s hs hasked hres hgate hop he hverb hnum
  have hx : Executed s r 2 := ⟨hasked, hres, hgate, hop⟩
  have h : NumberWritten r e := ⟨he, hverb, hnum⟩
  have hexec : exec (.write r) s = .next (s.receive r 2 (writeEntry r) id id) := rfl
  refine ⟨fun hacc htx hoff hlen hw hr ho => ?_, fun hacc => ?_, fun hacc htx => ?_, fun tx hro hfuse htx howner => ?_⟩
  · obtain ⟨hanswer, htxn, hnums, hreached⟩ :=
      write_applied hs hx h (.inl hacc) htx hoff hlen (checkValue_eq_none he hw hr ho)
    have hack : requestKey r ≠ 0x102002 := requestKey_ne_of_access he rfl (by simp [hacc])
    have hcount : requestKey r ≠ 0x101003 := requestKey_ne_of_access he rfl (by simp [hacc])
    exact ⟨_, hexec, hanswer, htxn, by rw [hnums _ hcount, num_applyEntry_same hreached hack, keptNum]⟩
  · rw [hexec, hx.refused (writeEntry_of_readonly h hacc)]
    exact ⟨_, rfl, hasAnswer_answeredTo hasked, onlyAnswers_answeredTo⟩
  · rw [hexec, hx.refused (writeEntry_of_required (s := reached r s) h hacc (by simpa using htx))]
    exact ⟨_, rfl, hasAnswer_answeredTo hasked, onlyAnswers_answeredTo⟩
  · rw [hexec, hx.refused (writeEntry_of_busy (s := reached r s) h hro hfuse (by simpa using htx) howner)]
    exact ⟨_, rfl, hasAnswer_answeredTo hasked, onlyAnswers_answeredTo⟩

end

/-! ### Transactions (R390 to R393) -/

section

variable {s : State} {r : Req} {e : Entry}

/-- The open transaction set on the state that a request reaches, and the answer. -/
theorem onlyAnswers_withTxn (x : Option Txn) (abort : Option W32) (data : List Byte) :
    OnlyAnswers { s with txn := x } (State.respond { reached r s with txn := x } r abort data) := by
  have hreached : reached r ({ s with txn := x } : State) = { reached r s with txn := x } := by
    unfold reached
    split
    · exact (apply_ite (fun t : State => ({ t with txn := x } : State)) _ s (s.send (.ringForward (requestBytes r)))).symm
    · rfl
  rw [← hreached]
  exact onlyAnswers_respond_reached abort data

theorem hasAnswer_withTxn (h : Asked s r) (x : Option Txn) (abort : Option W32) (data : List Byte) :
    HasAnswer r abort data (State.respond { reached r s with txn := x } r abort data) :=
  hasAnswer_respond_of_slots h (by rw [reached_ctl'])

theorem begin_opens (hx : Executed s r 4) (htx : s.txn = none) :
    beginTxn r s = State.respond { reached r s with txn := some { owner := r.src } } r none [] :=
  hx.receive_of_ok (by rw [reached_txn, htx]; rfl)

theorem stageWrite_of_empty {tx : Txn} (key : Nat) {v : EntryValue} (hempty : tx.staged = []) (hsize : valueBytes key v ≤ 256) :
    stageWrite tx key v = some { tx with staged := [(key, v)] } := by
  have hbytes : ¬262144 < 0 + valueBytes key v := by omega
  simp [stageWrite, hempty]
  omega

theorem writeEntry_of_staged (h : NumberWritten r e) (hacc : e.access = .rw ∨ e.access = .rwt) {tx : Txn} (htx : s.txn = some tx)
    (howner : tx.owner = r.src) (hempty : tx.staged = []) (hoff : r.offset = 0) (hlen : r.data.length = e.type.size)
    (hsize : r.data.length ≤ 256) (hok : s.checkValue (requestKey r) (.num (leNat r.data)) = none) :
    writeEntry r s = .ok ({ s with txn := some { tx with staged := [(requestKey r, .num (leNat r.data))] } }, []) := by
  have hbytes : valueBytes (requestKey r) (.num (leNat r.data)) ≤ 256 := by
    simp only [valueBytes, h.entry, Option.elim_some, ← hlen]
    exact hsize
  rw [writeEntry, findEntry_of_entryOf h.entry]
  dsimp only
  rw [if_neg (by rcases hacc with hacc | hacc <;> simp [hacc, h.notVerb]), if_neg (by simp [htx, howner]),
    if_neg (by rcases hacc with hacc | hacc <;> simp [hacc, htx]), writtenValue_number h.number hoff hlen]
  dsimp only
  rw [if_neg (by simp [nonceBad]), hok]
  have hstaging : ¬(!(s.txn.isSome && e.access != .wo)) = true := by rcases hacc with hacc | hacc <;> simp [hacc, htx]
  dsimp only
  rw [if_neg hstaging, htx, Option.bind_some, stageWrite_of_empty _ hempty hbytes]

theorem crossCheck_reached (w : List (Nat × EntryValue)) : (reached r s).crossCheck w = s.crossCheck w := by
  rw [reached_frame]
  rfl

theorem commitEntry_of_checked {key n : Nat} (htx : s.txn = some { owner := r.src, staged := [(key, .num n)] })
    (hvalue : s.checkValue key (.num n) = none) (hcross : s.crossCheck [(key, .num n)] = none) :
    commitEntry r s = .ok (State.applyAll { s with txn := none } [(key, .num n)], []) := by
  simp [commitEntry, htx, hvalue, hcross]

theorem commitEntry_of_refused {tx : Txn} {a : Abort} (htx : s.txn = some tx) (howner : tx.owner = r.src)
    (hvalues : (tx.staged.findSome? fun x => s.checkValue x.1 x.2) = none) (hcross : s.crossCheck tx.staged = some a) :
    commitEntry r s = .error a := by
  simp only [commitEntry, htx, howner, ne_eq, not_true_eq_false, if_false, hvalues, hcross]
  rfl

theorem commit_applied (hs : Canonical s) (hx : Executed s r 5) {key n : Nat}
    (htx : s.txn = some { owner := r.src, staged := [(key, .num n)] }) (hack : key ≠ 0x102002) (hcount : key ≠ 0x101003)
    (hvalue : s.checkValue key (.num n) = none) (hcross : s.crossCheck [(key, .num n)] = none) :
    let t := commitTxn r s
    HasAnswer r none [] t ∧ t.txn = none ∧ t.num key = keptNum key n := by
  intro t
  have hact := commitEntry_of_checked (s := reached r s) (r := r) (by rwa [reached_txn]) (by rwa [checkValue_reached])
    (by rwa [crossCheck_reached])
  have ht : t = (State.applyAll { reached r s with txn := none } [(key, .num n)]).respond r none [] := hx.receive_of_ok hact
  have hu : Canonical { reached r s with txn := none } := canonical_reached (r := r) hs
  obtain ⟨hslots, htxn⟩ := Prod.mk.inj (slotsAndTxn_applyAll (s := { reached r s with txn := none }) (key := key) (n := n))
  rw [ht]
  refine ⟨hasAnswer_respond_of_slots hx.asked (by rw [hslots]; exact congrArg Ctl.mirror reached_ctl), ?_, ?_⟩
  · rw [respond_txn, htxn]
  · rw [respond_num hcount, applyAll_num, num_applyEntry_same hu hack]

theorem commit_refused (hx : Executed s r 5) {tx : Txn} {a : Abort} (htx : s.txn = some tx) (howner : tx.owner = r.src)
    (hvalues : (tx.staged.findSome? fun x => s.checkValue x.1 x.2) = none) (hcross : s.crossCheck tx.staged = some a) :
    commitTxn r s = State.respond { reached r s with txn := none } r (some a.code) [] := by
  have hact : commitEntry r (reached r s) = .error a :=
    commitEntry_of_refused (by rwa [reached_txn]) howner (by simpa only [checkValue_reached] using hvalues) (by rwa [crossCheck_reached])
  have hlost : commitLost r (reached r s) = { reached r s with txn := none } := by simp [commitLost, htx, howner]
  rw [commitTxn, hx.receive_of_error hact, hlost]

theorem rollBack_discards (hx : Executed s r 6) {tx : Txn} (htx : s.txn = some tx) (howner : tx.owner = r.src) :
    rollBack r s = State.respond { reached r s with txn := none } r none [] :=
  hx.receive_of_ok (by simp only [reached_txn, htx, howner, if_true])

end

/-- Settles O18. -/
theorem transactions : Obligations.Transactions := by
  refine ⟨fun r s hasked hres hgate hop htx => ?_, fun r e tx s hasked hres hgate hop he hacc hverb hnum htx howner hempty hoff hlen hsize hw hr ho => ?_,
    fun r key n s hs hasked hres hgate hop htx hack hcount hvalue hcross => ?_,
    fun r tx a s hasked hres hgate hop htx howner hvalues hcross => ?_, fun r tx s hasked hres hgate hop htx howner => ?_, fun s => rfl⟩
  · refine ⟨_, rfl, ?_⟩
    rw [begin_opens ⟨hasked, hres, hgate, hop⟩ htx]
    have htxn : (State.respond { reached r s with txn := some { owner := r.src } } r none []).txn = some { owner := r.src } := respond_txn
    rw [htxn]
    exact ⟨hasAnswer_withTxn hasked _ _ _, rfl, onlyAnswers_withTxn _ _ _⟩
  · have hok : (reached r s).checkValue (requestKey r) (.num (leNat r.data)) = none := by
      rw [checkValue_reached, checkValue_eq_none he hw hr ho]
    have hact := writeEntry_of_staged (s := reached r s) ⟨he, hverb, hnum⟩ hacc (by rwa [reached_txn]) howner hempty hoff hlen hsize hok
    have hwrite : writeRequest r s = _ :=
      Executed.receive_of_ok (after := id) (lost := id) (⟨hasked, hres, hgate, hop⟩ : Executed s r 2) hact
    refine ⟨_, rfl, ?_⟩
    rw [hwrite, id, respond_txn]
    exact ⟨hasAnswer_withTxn hasked _ _ _, rfl, onlyAnswers_withTxn _ _ _⟩
  · obtain ⟨hanswer, htxn, hnum⟩ := commit_applied hs ⟨hasked, hres, hgate, hop⟩ htx hack hcount hvalue hcross
    exact ⟨_, rfl, hanswer, htxn, by rw [hnum, keptNum]⟩
  · refine ⟨_, rfl, ?_⟩
    rw [commit_refused ⟨hasked, hres, hgate, hop⟩ htx howner hvalues hcross]
    exact ⟨hasAnswer_withTxn hasked _ _ _, respond_txn, onlyAnswers_withTxn _ _ _⟩
  · refine ⟨_, rfl, ?_⟩
    rw [rollBack_discards ⟨hasked, hres, hgate, hop⟩ htx howner]
    exact ⟨hasAnswer_withTxn hasked _ _ _, respond_txn, onlyAnswers_withTxn _ _ _⟩

/-! ### Acknowledgements and the export cursor (R217, R404) -/

section

variable {s : State} {r : Req}

/-- The entry of event_ack (R386). -/
def ackEntry : Entry := { type := .u 4, access := .wo, hi := some 0xFF }

/-- The entry of export_cursor (R386). -/
def cursorEntry : Entry := { type := .u 8, access := .rw, job := true }

theorem entryOf_ack : entryOf 0x102002 = some ackEntry := rfl

theorem entryOf_cursor : entryOf 0x801003 = some cursorEntry := rfl

theorem checkValue_ack (n : Nat) : s.checkValue 0x102002 (.num n) = if n < 256 then none else some .outOfRange := by
  have hwritable : s.writable ackEntry = true := rfl
  have hrange : ackEntry.inRange n = decide (n < 256) := by
    have hbounds : ackEntry.inRange n = (decide ((0 : Int) ≤ n) && decide ((n : Int) ≤ 255)) := rfl
    rw [hbounds, ← Bool.decide_and, decide_eq_decide]
    omega
  have hok : s.numberOk 0x102002 n = true := rfl
  simp only [State.checkValue, entryOf_ack, hwritable, hrange, hok]
  simp

theorem checkValue_cursor {n : Nat} (hn : n < 2 ^ 64) :
    s.checkValue 0x801003 (.num n) = if s.num 0x801003 ≤ n ∧ n ≤ s.num 0x801002 then none else some .outOfRange := by
  have hwritable : s.writable cursorEntry = true := rfl
  have hrange : cursorEntry.inRange n = true := by
    have hbounds : cursorEntry.inRange n = (decide ((0 : Int) ≤ n) && decide ((n : Int) ≤ 18446744073709551615)) := rfl
    rw [hbounds, ← Bool.decide_and, decide_eq_true_eq]
    omega
  have hok : s.numberOk 0x801003 n = (decide (s.num 0x801003 ≤ n) && decide (n ≤ s.num 0x801002)) := rfl
  simp only [State.checkValue, entryOf_cursor, hwritable, hrange, hok]
  simp

theorem leNat_lt (l : List Byte) : leNat l < 256 ^ l.length := by
  induction l with
  | nil => simp [leNat]
  | cons b l ih =>
    have := b.isLt
    rw [leNat, List.length_cons, Nat.pow_succ]
    omega

/-- The causes that an acknowledgement leaves. -/
theorem ackEvents_num (hs : Canonical s) (m : Nat) :
    (s.ackEvents m).num 0x102001 = s.num 0x102001 &&& ((2 ^ 32 - 1) ^^^ m) ∧
      ∀ k, k ≠ 0x102001 → (s.ackEvents m).num k = s.num k :=
  ⟨State.num_setNum_same hs _ _, fun _ hk => State.num_setNum_other _ _ hk.symm⟩

theorem testBit_ack (old m : Nat) {v : Nat} (hv : v < 32) :
    (old &&& ((2 ^ 32 - 1) ^^^ m)).testBit v = (old.testBit v && !m.testBit v) := by
  rw [Nat.testBit_and, Nat.testBit_xor, Nat.testBit_two_pow_sub_one, decide_eq_true hv, Bool.true_xor]

theorem acknowledgements : Claims.Acknowledgements := by
  intro r s hs hasked hres hgate hop htx hoff
  have hx : Executed s r 2 := ⟨hasked, hres, hgate, hop⟩
  refine ⟨fun hkey hlen hlow => ?_, fun hkey hlen hhigh => ?_, fun hkey hlen hlo hhi => ?_, fun hkey hlen hout => ?_⟩
  · have h : NumberWritten r ackEntry := ⟨hkey ▸ entryOf_ack, nofun, nofun⟩
    obtain ⟨hanswer, -, hnums, hreached⟩ := write_applied hs hx h (.inr rfl) htx hoff hlen (by rw [hkey, checkValue_ack, if_pos hlow])
    obtain ⟨hcause, hother⟩ := ackEvents_num hreached (leNat r.data)
    rw [hkey] at hnums
    refine ⟨_, rfl, hanswer, fun v hv => ?_, fun k hk hk' => ?_⟩
    · rw [eventAck, hnums _ (by decide)]
      exact (congrArg (fun n => n.testBit v) hcause).trans (by rw [testBit_ack _ _ hv, reached_num])
    · rw [eventAck, hnums _ hk']
      exact (hother k hk).trans (reached_num k)
  · have h : NumberWritten r ackEntry := ⟨hkey ▸ entryOf_ack, nofun, nofun⟩
    have hact := writeEntry_of_unchecked (s := reached r s) h (.inr rfl) (by simpa using htx) hoff hlen (a := .outOfRange)
      (by rw [hkey, checkValue_ack, if_neg (by omega)])
    have hexec : exec (.eventAck r) s = .next (eventAck r s) := rfl
    rw [hexec, eventAck, hx.refused hact]
    exact ⟨_, rfl, hasAnswer_answeredTo hasked, onlyAnswers_answeredTo⟩
  · have h : NumberWritten r cursorEntry := ⟨hkey ▸ entryOf_cursor, nofun, nofun⟩
    have hbound : leNat r.data < 2 ^ 64 := by have := leNat_lt r.data; rw [hlen] at this; exact this
    obtain ⟨hanswer, -, hnums, hreached⟩ :=
      write_applied hs hx h (.inl rfl) htx hoff hlen (by rw [hkey, checkValue_cursor hbound, if_pos ⟨hlo, hhi⟩])
    rw [hkey] at hnums
    refine ⟨_, rfl, hanswer, ?_⟩
    rw [exportCursorWrite, hnums _ (by decide), num_applyEntry_same hreached (by decide)]
    rfl
  · have h : NumberWritten r cursorEntry := ⟨hkey ▸ entryOf_cursor, nofun, nofun⟩
    have hbound : leNat r.data < 2 ^ 64 := by have := leNat_lt r.data; rw [hlen] at this; exact this
    have hact := writeEntry_of_unchecked (s := reached r s) h (.inl rfl) (by simpa using htx) hoff hlen (a := .outOfRange)
      (by rw [hkey, checkValue_cursor hbound, if_neg (by rw [reached_num, reached_num]; omega)])
    have hexec : exec (.exportCursorWrite r) s = .next (exportCursorWrite r s) := rfl
    rw [hexec, exportCursorWrite, hx.refused hact]
    exact ⟨_, rfl, hasAnswer_answeredTo hasked, onlyAnswers_answeredTo⟩

end

/-! ### MSI-X (R404) -/

section

variable {s : State}

/-- The bits of a byte with one set or cleared. -/
theorem getLsbD_setBit8 (b : BitVec 8) {v i : Nat} (hi : i < 8) (on : Bool) :
    (setBit8 b v on).getLsbD i = if i = v then on else b.getLsbD i := by
  have hbit : (BitVec.ofNat 8 (2 ^ v)).getLsbD i = decide (v = i) := by
    rw [BitVec.getLsbD_ofNat, Nat.testBit_two_pow, decide_eq_true hi, Bool.true_and]
  unfold setBit8
  cases on with
  | true =>
    rw [if_pos rfl, BitVec.getLsbD_or, hbit]
    by_cases h : i = v
    · simp [h]
    · simp [h, Ne.symm h]
  | false =>
    rw [if_neg (by simp), BitVec.getLsbD_and, BitVec.getLsbD_not, hbit, decide_eq_true hi, Bool.true_and]
    by_cases h : i = v
    · simp [h]
    · simp [h, Ne.symm h]

/-- What stays of MSI-X and of a vector while other vectors are settled. -/
structure LeavesVector (v : Nat) (t u : State) : Prop where
  control : (u.ctl.msixEnable, u.ctl.msixFunctionMask, u.ctl.msixVectorMask) = (t.ctl.msixEnable, t.ctl.msixFunctionMask, t.ctl.msixVectorMask)
  nums : u.nums = t.nums
  pending : u.ctl.msixPending.getLsbD v = t.ctl.msixPending.getLsbD v
  outbox : t.outbox ⊆ u.outbox

theorem settleVector_leaves {rising : Bool} {v w : Nat} (hv : v < 8) (hne : v ≠ w) : LeavesVector v s (s.settleVector rising w) := by
  have hbit : ∀ on, (setBit8 s.ctl.msixPending w on).getLsbD v = s.ctl.msixPending.getLsbD v := fun on => by
    rw [getLsbD_setBit8 _ hv, if_neg hne]
  unfold State.settleVector
  dsimp only
  split
  · exact ⟨rfl, rfl, hbit false, List.subset_append_left _ _⟩
  · split
    · exact ⟨rfl, rfl, hbit true, List.Subset.refl _⟩
    · exact ⟨rfl, rfl, rfl, List.Subset.refl _⟩

/-- A vector that is due: pending, or newly enabled with its cause standing unmasked. -/
def vectorDue (s : State) (rising : Bool) (v : Nat) : Bool :=
  (rising && (s.num eventCause).testBit v && (s.num 0x102003).testBit v && !s.ctl.msixVectorMask.getLsbD v) ||
    s.ctl.msixPending.getLsbD v

theorem LeavesVector.due {t u : State} {rising : Bool} {v : Nat} (h : LeavesVector v t u) :
    vectorDue u rising v = vectorDue t rising v ∧ u.ctl.vectorOpen v = t.ctl.vectorOpen v := by
  obtain ⟨hcontrol, hnums, hpending, -⟩ := h
  simp only [Prod.mk.injEq] at hcontrol
  obtain ⟨henable, hfunction, hmask⟩ := hcontrol
  rw [vectorDue, vectorDue, hmask, hpending, num_of_nums hnums, num_of_nums hnums, Ctl.vectorOpen, Ctl.vectorOpen, henable, hfunction, hmask]
  exact ⟨rfl, rfl⟩

theorem settleVector_sends {rising : Bool} {v : Nat} (hv : v < 8) (hdue : vectorDue s rising v = true) (hopen : s.ctl.vectorOpen v = true) :
    .msix v ∈ (s.settleVector rising v).outbox ∧ (s.settleVector rising v).ctl.msixPending.getLsbD v = false := by
  have hsends : s.settleVector rising v = (s.send (.msix v)).mapCtl fun c => { c with msixPending := setBit8 c.msixPending v false } :=
    if_pos (Bool.and_eq_true_iff.2 ⟨hdue, hopen⟩)
  have hcleared : (setBit8 s.ctl.msixPending v false).getLsbD v = false := by rw [getLsbD_setBit8 _ hv, if_pos rfl]
  rw [hsends]
  exact ⟨List.mem_append_right _ (List.mem_singleton.2 rfl), hcleared⟩

theorem foldl_settleVector_leaves {rising : Bool} {v : Nat} (hv : v < 8) {l : List Nat} (hl : v ∉ l) {t : State} (h : LeavesVector v s t) :
    LeavesVector v s (l.foldl (fun s w => s.settleVector rising w) t) := by
  induction l generalizing t with
  | nil => exact h
  | cons w l ih =>
    simp only [List.mem_cons, not_or] at hl
    obtain ⟨hne, hl⟩ := hl
    obtain ⟨hcontrol, hnums, hpending, hbox⟩ := settleVector_leaves (s := t) (rising := rising) hv hne
    exact ih hl ⟨hcontrol.trans h.control, hnums.trans h.nums, hpending.trans h.pending, fun _ hm => hbox (h.outbox hm)⟩

/-- Settling distinct vectors in order sends the message of each open one that is due. -/
theorem foldl_settleVector_sends {rising : Bool} {v : Nat} (hv : v < 8) {l : List Nat} (hnodup : l.Nodup) (hl : v ∈ l)
    (hdue : vectorDue s rising v = true) (hopen : s.ctl.vectorOpen v = true) :
    .msix v ∈ (l.foldl (fun s w => s.settleVector rising w) s).outbox ∧
      (l.foldl (fun s w => s.settleVector rising w) s).ctl.msixPending.getLsbD v = false := by
  induction l generalizing s with
  | nil => exact absurd hl List.not_mem_nil
  | cons w l ih =>
    obtain ⟨hw, hnodup⟩ := List.nodup_cons.1 hnodup
    by_cases hvw : v = w
    · subst hvw
      obtain ⟨hsent, hcleared⟩ := settleVector_sends hv hdue hopen
      have hrest := foldl_settleVector_leaves (rising := rising) hv hw (t := s.settleVector rising v) ⟨rfl, rfl, rfl, List.Subset.refl _⟩
      exact ⟨hrest.outbox hsent, hrest.pending.trans hcleared⟩
    · obtain ⟨hdue', hopen'⟩ := (settleVector_leaves (s := s) (rising := rising) hv hvw).due (rising := rising)
      exact ih hnodup ((List.mem_cons.1 hl).resolve_left hvw) (hdue'.trans hdue) (hopen'.trans hopen)

theorem foldl_settleVector_control {rising : Bool} (l : List Nat) :
    let t := l.foldl (fun s w => s.settleVector rising w) s
    (t.ctl.msixEnable, t.ctl.msixFunctionMask, t.ctl.msixVectorMask) = (s.ctl.msixEnable, s.ctl.msixFunctionMask, s.ctl.msixVectorMask) := by
  refine foldl_leaves (fun t : State => (t.ctl.msixEnable, t.ctl.msixFunctionMask, t.ctl.msixVectorMask)) (fun t w => ?_) l s
  unfold State.settleVector
  dsimp only
  split
  · rfl
  · split <;> rfl

theorem signalCompletion_of_open (hrunning : s.ctl.holdoffRunning = false) (hup : s.ctl.cxlUp = true) (hconfigured : s.ctl.cxlConfigured = true)
    (hopen : s.ctl.vectorOpen 0 = true) :
    .msix 0 ∈ s.signalCompletion.outbox ∧ s.signalCompletion.ctl.holdoffPending = false ∧
      s.signalCompletion.ctl.holdoffRunning = (s.num 0x102004 != 0) := by
  have hctl : s.notice.ctl = s.ctl := by
    unfold State.notice
    split <;> rfl
  have hdeliver : s.signal 0 = s.notice.send (.msix 0) := by
    simp [State.signal, State.deliver, hctl, hup, hconfigured, hopen]
  rw [State.signalCompletion, if_neg (by simp [hrunning]), hdeliver]
  exact ⟨List.mem_append_right _ (List.mem_singleton.2 rfl), rfl, rfl⟩

theorem msixDelivery : Claims.MsixDelivery := by
  refine ⟨fun w s hup hconfigured => ?_, fun s hnone => ?_, fun s hpending hcause hmask hup hconfigured hopen => ?_⟩
  · let u := s.mapCtl fun c => { c with msixEnable := w.enable, msixFunctionMask := w.functionMask, msixVectorMask := w.vectorMask }
    let rising := w.enable && !s.ctl.msixEnable
    have hwrite : msixEnable w s = (List.range 8).foldl (fun s v => s.settleVector rising v) u := by
      rw [msixEnable, if_neg (by simp [hup, hconfigured])]
    have hcontrol := foldl_settleVector_control (s := u) (rising := rising) (List.range 8)
    simp only [Prod.mk.injEq] at hcontrol
    obtain ⟨henable, hfunction, hmask⟩ := hcontrol
    refine ⟨_, rfl, ?_⟩
    rw [hwrite]
    refine ⟨henable, hfunction, hmask, fun v hv hon hfree hclear hcond => ?_⟩
    refine foldl_settleVector_sends hv List.nodup_range (List.mem_range.2 hv) ?_ ?_
    · have hdue : vectorDue u rising v = ((w.enable && !s.ctl.msixEnable) && (s.num 0x102001).testBit v && (s.num 0x102003).testBit v &&
          !w.vectorMask.getLsbD v || s.ctl.msixPending.getLsbD v) := rfl
      rw [hdue, hon, hclear]
      rcases hcond with hpending | ⟨hoff, hcause, hlet⟩
      · rw [hpending, Bool.or_true]
      · rw [hoff, hcause, hlet]
        rfl
    · have hopen : u.ctl.vectorOpen v = (w.enable && !w.functionMask && !w.vectorMask.getLsbD v) := rfl
      rw [hopen, hon, hfree, hclear]
      rfl
  · have hexec : exec .completionHoldoffExpiry s = .next (completionHoldoffExpiry s) := rfl
    rw [hexec, completionHoldoffExpiry]
    simp only [hnone, Bool.false_and, Bool.false_eq_true, if_false, State.mapCtl]
  · have hheld : (s.ctl.holdoffPending && (s.num eventCause).testBit 0 && (s.num 0x102003).testBit 0) = true := by
      simp only [hpending, Bool.true_and, Bool.and_eq_true]
      exact ⟨hcause, hmask⟩
    refine ⟨_, rfl, ?_⟩
    rw [completionHoldoffExpiry, if_pos hheld]
    exact signalCompletion_of_open (s := s.mapCtl fun c => { c with holdoffRunning := false, holdoffPending := false }) rfl hup hconfigured hopen

end

/-- Settles O19. -/
theorem events : Obligations.Events := ⟨acknowledgements, msixDelivery⟩

/-! ### The verbs that move the device state, and the idle timer (R31, R32, R394) -/

section

variable {s t u : State} {r : Req} {abort : Option W32} {data : List Byte}

/-- An answer stays where no message is taken back and the mirror slots stay. -/
theorem hasAnswer_keep (h : HasAnswer r abort data t) (hkeeps : KeepsAnswers t u) (hmirror : u.ctl.mirror = t.ctl.mirror) :
    HasAnswer r abort data u := hasAnswer_of_eq h hmirror hkeeps.outbox

/-- On the ring an answer stays where no message is taken back. -/
theorem hasAnswer_keep_of_master (h : HasAnswer r abort data t) (hkeeps : KeepsAnswers t u) (hr : r.src = .master) :
    HasAnswer r abort data u := by
  simp only [HasAnswer, hr] at h ⊢
  exact hkeeps.outbox h

theorem beginBoot_boots (h : s.ctl.tripOnBoot = false) :
    s.beginBoot.ctl.cur = .fallow ∧ s.beginBoot.ctl.tgt = .tilled ∧ s.beginBoot.ctl.stage = .ring ∧
      s.beginBoot.ctl.wakeRunning = s.ctl.wakeRunning ∧ s.beginBoot.ctl.mirror = s.ctl.mirror := by
  have hctl : s.beginBoot.ctl = (bootBegun s).ctl := by
    rw [beginBoot_of_no_trip h]
    split <;> rfl
  rw [hctl, bootBegun]
  simp

theorem wakeUp_of_asleep (hcur : s.ctl.cur = .fallow) (hstage : s.ctl.stage = .asleep) :
    s.wakeUp = (s.mapCtl fun c => { c with wakeRunning := true }).beginBoot := by
  simp [State.wakeUp, hcur, hstage]

theorem wakeUp_of_awake (hcur : s.ctl.cur ≠ .fallow) : s.wakeUp = s := by simp [State.wakeUp, hcur]

theorem enterFallow_off : s.enterFallow.ctl.cur = .fallow ∧ s.enterFallow.ctl.tgt = .fallow ∧ s.enterFallow.ctl.cxlUp = false ∧
    s.enterFallow.host.window = [] ∧ s.enterFallow.fabric.ports.all (fun p => p.state == .off) = true := by
  refine ⟨?_, ?_, ?_, ?_, ?_⟩
  case refine_5 =>
    simp only [State.enterFallow, restIn_eq_moveTo, moveTo_fabric, State.mapCtl_fabric, State.cxlDown, resetCxl_eq]
    rfl
  all_goals simp [State.enterFallow, State.cxlDown, resetCxl_eq]

theorem wake_eq (h : VerbAsked s r) : wake r s = (answeredTo r none [] s).wakeUp :=
  takeVerb_eq (effect := fun _ s => s.wakeUp) h rfl rfl

theorem fallow_of_tilled (h : VerbAsked s r) (hcur : s.ctl.cur = .tilled) : fallow r s = (answeredTo r none [] s).enterFallow :=
  takeVerb_eq (effect := fun _ s => s.enterFallow) h (by rw [hcur]; rfl) rfl

theorem resetVerb_eq (h : VerbAsked s r) :
    resetVerb r s = if s.ctl.cur == .fallow then answeredTo r none [] s else (answeredTo r none [] s).deviceReset := by
  have htake : resetVerb r s =
      if (answeredTo r none [] s).ctl.cur == .fallow then answeredTo r none [] s else (answeredTo r none [] s).deviceReset :=
    takeVerb_eq (effect := fun _ s => if s.ctl.cur == .fallow then s else s.deviceReset) h rfl rfl
  rw [htake, answeredTo_cur]

theorem wake_boots (h : VerbAsked s r) (hcur : s.ctl.cur = .fallow) (hstage : s.ctl.stage = .asleep) (htrip : s.ctl.tripOnBoot = false) :
    HasAnswer r none [] (wake r s) ∧ (wake r s).ctl.cur = .fallow ∧ (wake r s).ctl.tgt = .tilled ∧ (wake r s).ctl.stage = .ring ∧
      (wake r s).ctl.wakeRunning = true := by
  let u := (answeredTo r none [] s).mapCtl fun c => { c with wakeRunning := true }
  have hu : u.ctl.tripOnBoot = false := by
    rw [State.mapCtl_ctl, answeredTo_ctl]
    exact htrip
  obtain ⟨hc, ht, hst, hwoken, hmirror⟩ := beginBoot_boots hu
  have hwake : wake r s = u.beginBoot :=
    (wake_eq h).trans (wakeUp_of_asleep (by rw [answeredTo_cur, hcur]) (by rw [answeredTo_ctl]; exact hstage))
  have hanswer : HasAnswer r none [] u := hasAnswer_answeredTo h.1
  rw [hwake]
  exact ⟨hasAnswer_keep hanswer (.beginBoot (.refl u)) hmirror, hc, ht, hst, hwoken⟩

theorem stateVerbs_hold : Claims.StateVerbs := by
  intro r s h
  refine ⟨fun _ hcur hstage htrip => ⟨_, rfl, wake_boots h hcur hstage htrip⟩, fun _ hcur => ?_, fun _ hcur => ?_, fun _ hcur => ?_,
    fun _ hcur htrip => ?_, fun _ hcur => ?_⟩
  · have hexec : exec (.wake r) s = .next (wake r s) := rfl
    rw [hexec, wake_eq h, wakeUp_of_awake (by rwa [answeredTo_cur])]
    exact ⟨_, rfl, hasAnswer_answeredTo h.1, onlyAnswers_answeredTo⟩
  · have hexec : exec (.fallow r) s = .next (fallow r s) := rfl
    rw [hexec, fallow_of_tilled h hcur]
    obtain ⟨hc, ht, hup, hwindow, hports⟩ := enterFallow_off (s := answeredTo r none [] s)
    exact ⟨_, rfl, hasAnswer_keep_of_master (hasAnswer_answeredTo h.1) (.enterFallow (.refl _)), hc, ht, hup, hwindow, hports⟩
  · have hexec : exec (.fallow r) s = .next (fallow r s) := rfl
    have hrefused : fallow r s = answeredTo r (some Abort.wrongState.code) [] s := takeVerb_of_wrongState h (by simp [tilledOnly, hcur])
    rw [hexec, hrefused]
    exact ⟨_, rfl, hasAnswer_answeredTo h.1, onlyAnswers_answeredTo⟩
  · have hexec : exec (.reset r) s = .next (resetVerb r s) := rfl
    have hkeeps := deviceReset_keeps (s := answeredTo r none [] s) (by rw [answeredTo_ctl]; exact htrip)
    obtain ⟨hjob, -⟩ := hkeeps.lost
    obtain ⟨hc, ht, hst⟩ := hkeeps.state
    have hlog : (answeredTo r none [] s).ctl.faultLog = s.ctl.faultLog := by rw [answeredTo_ctl]
    rw [hexec, resetVerb_eq h, if_neg (by simpa using hcur)]
    exact ⟨_, rfl, hasAnswer_keep_of_master (hasAnswer_answeredTo h.1) (.deviceReset (.refl _)), hc, ht, hst, hjob, hkeeps.faultLog.trans hlog⟩
  · have hexec : exec (.reset r) s = .next (resetVerb r s) := rfl
    rw [hexec, resetVerb_eq h, if_pos (by simpa using hcur)]
    exact ⟨_, rfl, hasAnswer_answeredTo h.1, onlyAnswers_answeredTo⟩

/-- A Tilled device takes no record that would have to wait in the table. -/
theorem staysBehind_of_tilled (hcur : s.ctl.cur = .tilled) (v : Slot) (loadSeen : Bool) : s.staysBehind v loadSeen = false := by
  have hwaits : s.recordWaits v.kind.toNat = true → v.kind.toNat = 3 ∨ v.kind.toNat = 4 := by
    unfold State.recordWaits
    cases s.job <;> simp
    omega
  by_cases hkind : v.kind.toNat = 3 ∨ v.kind.toNat = 4
  · have hrefused : s.kindAccepted v.kind.toNat loadSeen = false := by
      rcases hkind with hkind | hkind <;> simp [State.kindAccepted, hkind, hcur]
    have hjudged : (s.judge v.kind.toNat v.body.toNat (v.reserved != 0) loadSeen).isNone = false := by
      rw [State.judge, hrefused]
      rcases hkind with hkind | hkind <;> simp [hkind]
    rw [State.staysBehind, hjudged, Bool.false_and]
  · have hno : s.recordWaits v.kind.toNat = false := Bool.eq_false_iff.2 fun h => hkind (hwaits h)
    rw [State.staysBehind, hno, Bool.and_false]

theorem idleTimer : Claims.IdleTimer := by
  refine ⟨fun s hcur hon hnone => ?_, fun s hcur hon hsome => ?_, fun s hoff => ?_⟩
  · have hturn : idleTimeout s = s.enterFallow := by
      rw [idleTimeout, if_neg (by simp [hcur, hon]), hnone, if_neg (by simp)]
    obtain ⟨hc, ht, hup, -⟩ := enterFallow_off (s := s)
    exact ⟨_, rfl, by rw [hturn]; exact ⟨hc, ht, hup⟩⟩
  · have hexec : exec .idleTimeout s = .next (idleTimeout s) := rfl
    have htake : idleTimeout s = s.sweepOn 1 false true := by
      rw [idleTimeout, if_neg (by simp [hcur, hon]), hsome, if_pos rfl]
    have hstays := staysBehind_of_tilled hcur (SMap.get {} s.hopper ((s.num 0x201004 - 1) % 4096)) false
    rw [hexec, htake, State.sweepOn]
    simp only [hsome, hstays, Bool.not_false, Bool.and_self, if_true, State.sweepOn]
  · have hexec : exec .idleTimeout s = .next (idleTimeout s) := rfl
    rw [hexec, idleTimeout, if_pos (by simpa using hoff)]

end

/-- Settles O20. -/
theorem stateVerbs : Obligations.StateVerbs := ⟨stateVerbs_hold, idleTimer⟩

end Sys2Proof.Proofs

/-! Rounding and the sums of a pass, the decision over the reports of an attempt, and the power governor. -/

namespace Sys2Proof.Proofs

open Sys2Proof Machine

/-! ### Rounding (R47) -/

/-- A number above its floor by less than the modulus: what `roundShift` calls `rem` is the remainder. -/
theorem sub_div_mul_toNat (m : Int) {d : Nat} : (m - m / (d : Int) * (d : Int)).toNat = (m % (d : Int)).toNat := by
  rw [Int.emod_def, Int.mul_comm]

theorem two_pow_split {n : Nat} (h : 0 < n) : 2 ^ n = 2 * 2 ^ (n - 1) := by
  rw [Nat.mul_comm, Nat.two_pow_pred_mul_two h]

/-- The random number that stochastic rounding compares with is below 2^32 as it is. -/
theorem fraction_lt {rem n : Nat} (h : rem < 2 ^ n) :
    (if n ≤ 32 then rem * 2 ^ (32 - n) else rem / 2 ^ (n - 32)) < 2 ^ 32 := by
  split
  · next hn =>
    calc rem * 2 ^ (32 - n) < 2 ^ n * 2 ^ (32 - n) := Nat.mul_lt_mul_of_pos_right h (Nat.two_pow_pos _)
      _ = 2 ^ 32 := by rw [← Nat.pow_add, Nat.add_sub_cancel' hn]
  · next hn =>
    rw [Nat.div_lt_iff_lt_mul (Nat.two_pow_pos _), ← Nat.pow_add, Nat.add_sub_cancel' (by omega)]
    exact h

theorem roundShift_sr {n : Nat} (m : Int) (r : Nat) (hn : 0 < n) (hle : n ≤ 254) :
    roundShift m n .sr r =
      if r < (if n ≤ 32 then (m % (2 ^ n : Nat)).toNat * 2 ^ (32 - n) else (m % (2 ^ n : Nat)).toNat / 2 ^ (n - 32))
      then m / (2 ^ n : Nat) + 1 else m / (2 ^ n : Nat) := by
  have hpos : (0 : Int) < (2 ^ n : Nat) := Int.natCast_pos.mpr (Nat.two_pow_pos n)
  have hlt : (m % (2 ^ n : Nat)).toNat < 2 ^ n := by have := Int.emod_lt_of_pos m hpos; omega
  rw [roundShift, if_neg (by omega), if_neg (by omega)]
  simp only [sub_div_mul_toNat, Nat.mod_eq_of_lt (fraction_lt hlt), decide_eq_true_eq]

theorem roundShift_rne {n : Nat} (m : Int) (r : Nat) (hn : 0 < n) (hle : n ≤ 254) :
    roundShift m n .rne r =
      if 2 ^ (n - 1) < (m % (2 ^ n : Nat)).toNat ∨ (m % (2 ^ n : Nat)).toNat = 2 ^ (n - 1) ∧ m / (2 ^ n : Nat) % 2 ≠ 0
      then m / (2 ^ n : Nat) + 1 else m / (2 ^ n : Nat) := by
  rw [roundShift, if_neg (by omega), if_neg (by omega)]
  simp only [sub_div_mul_toNat, Bool.or_eq_true, Bool.and_eq_true, decide_eq_true_eq, beq_iff_eq, bne_iff_ne]

/-- Nearest even is at most half a unit away, and even at half a unit. -/
theorem roundShift_rne_near {n : Nat} (m : Int) (r : Nat) (hn : 0 < n) (hle : n ≤ 254) :
    2 * (roundShift m n .rne r * (2 ^ n : Nat) - m).natAbs ≤ 2 ^ n ∧
      (2 * (roundShift m n .rne r * (2 ^ n : Nat) - m).natAbs = 2 ^ n → roundShift m n .rne r % 2 = 0) := by
  have hpos : (0 : Int) < (2 ^ n : Nat) := Int.natCast_pos.mpr (Nat.two_pow_pos n)
  have hlow := Int.emod_nonneg m (Int.ne_of_gt hpos)
  have hhigh := Int.emod_lt_of_pos m hpos
  have hsum := Int.mul_ediv_add_emod m (2 ^ n : Nat)
  have hsplit := two_pow_split hn
  rw [roundShift_rne m r hn hle]
  generalize m / (2 ^ n : Nat) = fl at *
  generalize m % (2 ^ n : Nat) = rem at *
  generalize 2 ^ (n - 1) = half at *
  generalize 2 ^ n = unit at *
  have hcomm : fl * (unit : Int) = unit * fl := Int.mul_comm _ _
  split
  · next hup =>
    rw [Int.add_mul, hcomm]
    omega
  · next hup =>
    rw [hcomm]
    omega

/-- Settles O60: the two modes of `roundShift` in terms of quotient and remainder. -/
theorem rounding : Obligations.Rounding := by
  intro m n r mode
  refine ⟨fun h => by simp [roundShift, h], fun h => ?_, fun hn hle => ?_⟩
  · rw [roundShift, if_neg (by omega), if_pos h]
  · obtain ⟨hnear, heven⟩ := roundShift_rne_near m r hn hle
    refine ⟨hnear, heven, fun h => ?_, fun h => ?_⟩ <;> rw [roundShift_sr m r hn hle, sub_div_mul_toNat]
    · rw [if_pos h]
    · rw [if_neg (Nat.not_le.mpr h)]

/-! ### The sums of a pass (R76, R85) -/

/-- The range of an accumulator. -/
def Fits64 (v : Int) : Prop := -2 ^ 63 ≤ v ∧ v < 2 ^ 63

theorem in64_iff (v : Int) : in64 v = true ↔ Fits64 v := by
  simp [in64, Fits64]

/-- Every term and every partial sum from `acc` on is in range. -/
def AllFit (terms : List Int) (acc : Int) : Prop := (∀ q ∈ terms, Fits64 q) ∧ ∀ n, Fits64 (acc + (terms.take n).sum)

/-- What the accumulator starts with counts among its partial sums. -/
theorem AllFit.cons_iff {q : Int} {terms : List Int} {acc : Int} :
    AllFit (q :: terms) acc ↔ Fits64 acc ∧ Fits64 q ∧ AllFit terms (acc + q) := by
  constructor
  · rintro ⟨hq, hsum⟩
    refine ⟨by simpa using hsum 0, hq q (by simp), fun x hx => hq x (by simp [hx]), fun n => ?_⟩
    simpa [Int.add_assoc] using hsum (n + 1)
  · rintro ⟨hacc, hq, hterms, hsum⟩
    refine ⟨by simpa using ⟨hq, hterms⟩, fun n => ?_⟩
    cases n with
    | zero => simpa using hacc
    | succ n => simpa [Int.add_assoc] using hsum n

theorem AllFit.nil_iff {acc : Int} : AllFit [] acc ↔ Fits64 acc := by
  simp [AllFit]

theorem AllFit.head {terms : List Int} {acc : Int} (h : AllFit terms acc) : Fits64 acc := by simpa using h.2 0

theorem AllFit.append_iff {xs ys : List Int} {acc : Int} :
    AllFit (xs ++ ys) acc ↔ AllFit xs acc ∧ AllFit ys (acc + xs.sum) := by
  induction xs generalizing acc with
  | nil => simpa [AllFit.nil_iff] using AllFit.head
  | cons q xs ih => simp [AllFit.cons_iff, ih, Int.add_assoc, and_assoc]

theorem alignProduct_eq (p s : Int) :
    alignProduct p s = if 0 ≤ s then p * 2 ^ s.toNat else roundShift p (-s).toNat .rne 0 := by
  rw [alignProduct, Int.natCast_pow]
  rfl

/-- The products of one block pair, moved onto the frame. -/
def blockTerms (shift : Int) (l : List (Int × Int)) : List Int := l.map fun q => alignProduct (q.1 * q.2) shift

/-- A sum that exists exactly when all terms and partial sums fit, and is then the exact sum. -/
def SumsExactly (o : Option Int) (terms : List Int) (acc : Int) : Prop :=
  (∀ v, o = some v → v = acc + terms.sum) ∧ (o.isSome = true ↔ AllFit terms acc)

theorem blockSum_sumsExactly (shift : Int) (l : List (Int × Int)) {acc : Int} (hacc : Fits64 acc) :
    SumsExactly (blockSum shift l acc) (blockTerms shift l) acc := by
  induction l generalizing acc with
  | nil => exact ⟨by simp [blockSum, blockTerms], by simp [blockSum, blockTerms, AllFit.nil_iff, hacc]⟩
  | cons e l ih =>
    obtain ⟨a, b⟩ := e
    unfold blockSum
    by_cases hfit : in64 (alignProduct (a * b) shift) = true ∧ in64 (acc + alignProduct (a * b) shift) = true
    · obtain ⟨hq, hnext⟩ := hfit
      obtain ⟨hval, hsome⟩ := ih ((in64_iff _).mp hnext)
      rw [if_pos (by simp [hq, hnext])]
      refine ⟨fun v hv => ?_, ?_⟩
      · simpa [blockTerms, Int.add_assoc] using hval v hv
      · rw [hsome]
        simp [blockTerms, AllFit.cons_iff, hacc, (in64_iff _).mp hq]
    · rw [if_neg (by simpa using hfit)]
      refine ⟨by simp, ?_⟩
      suffices h : ¬ AllFit (blockTerms shift ((a, b) :: l)) acc by simpa using h
      intro h
      obtain ⟨-, hq, hrest⟩ := AllFit.cons_iff.mp h
      exact hfit ⟨(in64_iff _).mpr hq, (in64_iff _).mpr hrest.head⟩

theorem SumsExactly.bind {o : Option Int} {f : Int → Option Int} {xs ys : List Int} {acc : Int} (ho : SumsExactly o xs acc)
    (hf : ∀ v, o = some v → SumsExactly (f v) ys v) : SumsExactly (o.bind f) (xs ++ ys) acc := by
  obtain ⟨hval, hsome⟩ := ho
  cases ho : o with
  | none =>
    refine ⟨by simp, ?_⟩
    have : ¬ AllFit xs acc := by simpa [ho] using hsome
    simp [AllFit.append_iff, this]
  | some v =>
    obtain ⟨hval', hsome'⟩ := hf v ho
    have hv := hval v ho
    have hall : AllFit xs acc := hsome.mp (by simp [ho])
    refine ⟨fun w hw => ?_, ?_⟩
    · rw [hval' w (by simpa using hw), hv, List.sum_append, Int.add_assoc]
    · rw [Option.bind_some, hsome', AllFit.append_iff, ← hv]
      exact ⟨fun h => ⟨hall, h⟩, And.right⟩

/-- The shift of a block pair on the frame of the largest exponents. -/
def cellShift (xa xb : Nat) (g : Int) (e : FieldBlock × FieldBlock) : Int := ((e.1.1 : Int) - xa) + ((e.2.1 : Int) - xb) + g

theorem cellSum_sumsExactly (xa xb : Nat) (g : Int) (l : List (FieldBlock × FieldBlock)) {acc : Int} (hacc : Fits64 acc) :
    SumsExactly (cellSum xa xb g l acc) (l.flatMap fun e => blockTerms (cellShift xa xb g e) (e.1.2.zip e.2.2)) acc := by
  induction l generalizing acc with
  | nil => exact ⟨by simp [cellSum], by simp [cellSum, AllFit.nil_iff, hacc]⟩
  | cons e l ih =>
    obtain ⟨a, b⟩ := e
    have hblock := blockSum_sumsExactly (cellShift xa xb g (a, b)) (a.2.zip b.2) hacc
    refine hblock.bind fun v hv => ih ?_
    obtain ⟨hval, hsome⟩ := hblock
    have hall := hsome.mp (by simp [hv])
    have := hall.2 (blockTerms (cellShift xa xb g (a, b)) (a.2.zip b.2)).length
    rwa [List.take_length, ← hval v hv] at this

/-- Settles O26, from the sums of its blocks. -/
theorem accumulatorSums : Obligations.AccumulatorSums := by
  intro xa xb g l shift terms fits
  have hterms : (l.flatMap fun e => blockTerms (cellShift xa xb g e) (e.1.2.zip e.2.2)) = terms := by
    simp only [blockTerms, alignProduct_eq]
    rfl
  have h := cellSum_sumsExactly xa xb g l (acc := 0) ⟨by decide, by decide⟩
  rw [hterms] at h
  obtain ⟨hval, hsome⟩ := h
  refine ⟨fun v hv => (hval v hv).trans (Int.zero_add _), hsome.trans ?_⟩
  simp only [AllFit, Int.zero_add]
  exact Iff.rfl

/-! ### The decision over the reports of an attempt (R188) -/

/-- The step of the search for the lowest report of a class. -/
def lowerReport (cls : Nat) (best : Option SealReport) (r : SealReport) : Option SealReport :=
  if r.faultClass.toNat != cls then best
  else match best with
    | none => some r
    | some b => if r.signature.rank < b.signature.rank then some r else some b

/-- A report of the class in the list, none of which has a lower rank. -/
def IsLowest (rs : List SealReport) (cls : Nat) (r : SealReport) : Prop :=
  r ∈ rs ∧ r.faultClass.toNat = cls ∧ ∀ x ∈ rs, x.faultClass.toNat = cls → r.signature.rank.toNat ≤ x.signature.rank.toNat

/-- What the search holds after the reports so far. -/
def Searched (rs : List SealReport) (cls : Nat) : Option SealReport → Prop
  | none => ∀ x ∈ rs, x.faultClass.toNat ≠ cls
  | some r => IsLowest rs cls r

theorem searched_lowerReport {rs : List SealReport} {cls : Nat} {best : Option SealReport} (h : Searched rs cls best) (r : SealReport) :
    Searched (rs ++ [r]) cls (lowerReport cls best r) := by
  unfold lowerReport
  by_cases hr : r.faultClass.toNat = cls
  · rw [if_neg (by simp [hr])]
    cases best with
    | none =>
      refine ⟨by simp, hr, fun x hx hc => ?_⟩
      rcases List.mem_append.mp hx with hx | hx
      · exact absurd hc (h x hx)
      · exact Nat.le_of_eq (by rw [List.mem_singleton.mp hx])
    | some b =>
      obtain ⟨hmem, hcls, hlow⟩ := h
      dsimp only
      split
      · next hlt =>
        rw [BitVec.lt_def] at hlt
        refine ⟨by simp, hr, fun x hx hc => ?_⟩
        rcases List.mem_append.mp hx with hx | hx
        · exact Nat.le_trans (Nat.le_of_lt hlt) (hlow x hx hc)
        · exact Nat.le_of_eq (by rw [List.mem_singleton.mp hx])
      · next hge =>
        rw [BitVec.lt_def, Nat.not_lt] at hge
        refine ⟨by simp [hmem], hcls, fun x hx hc => ?_⟩
        rcases List.mem_append.mp hx with hx | hx
        · exact hlow x hx hc
        · rwa [List.mem_singleton.mp hx]
  · rw [if_pos (by simpa using hr)]
    cases best with
    | none =>
      intro x hx
      rcases List.mem_append.mp hx with hx | hx
      · exact h x hx
      · rwa [List.mem_singleton.mp hx]
    | some b =>
      obtain ⟨hmem, hcls, hlow⟩ := h
      refine ⟨by simp [hmem], hcls, fun x hx hc => ?_⟩
      rcases List.mem_append.mp hx with hx | hx
      · exact hlow x hx hc
      · exact absurd (List.mem_singleton.mp hx ▸ hc) hr

theorem searched_lowestReport (rs : List SealReport) (cls : Nat) : Searched rs cls (lowestReport rs cls) := by
  suffices h : ∀ (l seen : List SealReport) (best : Option SealReport), Searched seen cls best →
      Searched (seen ++ l) cls (l.foldl (lowerReport cls) best) by
    exact h rs [] none (by simp [Searched])
  intro l
  induction l with
  | nil => intro seen best h; simpa using h
  | cons r l ih => intro seen best h; simpa using ih _ _ (searched_lowerReport h r)

theorem lowestReport_none {rs : List SealReport} {cls : Nat} (h : ¬ ∃ r ∈ rs, r.faultClass.toNat = cls) :
    lowestReport rs cls = none := by
  have hs := searched_lowestReport rs cls
  cases hl : lowestReport rs cls with
  | none => rfl
  | some r =>
    rw [hl] at hs
    obtain ⟨hmem, hcls, -⟩ := hs
    exact absurd ⟨r, hmem, hcls⟩ h

theorem lowestReport_some {rs : List SealReport} {cls : Nat} (h : ∃ r ∈ rs, r.faultClass.toNat = cls) :
    ∃ r, lowestReport rs cls = some r ∧ IsLowest rs cls r := by
  have hs := searched_lowestReport rs cls
  cases hl : lowestReport rs cls with
  | none =>
    rw [hl] at hs
    obtain ⟨r, hmem, hcls⟩ := h
    exact absurd hcls (hs r hmem)
  | some r =>
    rw [hl] at hs
    exact ⟨r, rfl, hs⟩

/-- Settles O31, by the class of the reports that the search finds. -/
theorem decisionOverReports : Obligations.DecisionOverReports := by
  intro rs numerical width group a prev limit
  refine ⟨fun h2 => ?_, fun h2 h1 => ?_, fun h2 h1 hn => ?_, fun h2 h1 hn hw ha => ?_, fun h2 h1 hn hw ha => ?_, fun h2 h1 hn hw => ?_⟩
  · obtain ⟨r, hr, hmem, hcls, hlow⟩ := lowestReport_some h2
    simp only [judgeReports, hr]
    exact ⟨trivial, trivial, r, hmem, hcls, rfl, hlow⟩
  · obtain ⟨r, hr, hmem, hcls, hlow⟩ := lowestReport_some h1
    simp only [judgeReports, lowestReport_none h2, hr]
    by_cases hprev : r.signature = prev
    · simp only [hprev, if_true]
      exact ⟨⟨r, hmem, hcls, hprev.symm, hlow⟩, by simp⟩
    · rw [if_neg hprev]
      by_cases ha : limit ≤ a
      · rw [if_pos ha]
        exact ⟨⟨r, hmem, hcls, rfl, hlow⟩, by simp [hprev], by simp, fun _ hlt => absurd hlt (by omega)⟩
      · rw [if_neg ha]
        exact ⟨⟨r, hmem, hcls, rfl, hlow⟩, by simp [hprev], fun _ hle => absurd hle ha, by simp⟩
  · simp [judgeReports, lowestReport_none h2, lowestReport_none h1, hn]
  · simp [judgeReports, lowestReport_none h2, lowestReport_none h1, hn, hw, Nat.not_le.mpr ha]
  · simp [judgeReports, lowestReport_none h2, lowestReport_none h1, hn, hw, ha]
  · simp [judgeReports, lowestReport_none h2, lowestReport_none h1, hn, hw]

/-! ### The power governor (R416, R417) -/

/-- The state at the end of a governor window, before what the window itself leaves. -/
def atWindowEnd (s : State) : State := (s.upTo (windowEnd s.cycle)).settlePhase

/-- The counters of a window: throttled time and windows above the declared peak, while a job is Growing. -/
def windowCounted (s : State) : State :=
  let t := if s.ctl.cur == .growing then (atWindowEnd s).bump 0x700005 (250 * (64 - s.num 0x700004)) else atWindowEnd s
  if s.ctl.cur == .growing && t.declaredPeak * s.power.samples.length < s.power.samples.sum then t.bump 0x700006 else t

/-- The run fraction and the quiet windows that a window leaves. -/
def governed (s : State) : Nat × Nat :=
  governRule (s.num 0x700004) s.power.lowWindows s.power.samples.sum s.power.samples.length (s.num 0x700001)

/-- What the window leaves in the entries and in the meter. -/
def windowLeft (s : State) : State :=
  let watts := min (s.power.samples.sum / s.power.samples.length) 65535
  let t := (((windowCounted s).setNum 0x700002 watts).setNum 0x700003 (max ((windowCounted s).num 0x700003) watts)).setRun
    (governed s).1
  { t with power := { t.power with samples := [], lowWindows := (governed s).2 } }

theorem governorWindow_eq {s : State} (hcur : s.ctl.cur ≠ .fallow) (hne : s.power.samples ≠ []) :
    governorWindow s = windowLeft s := by
  rw [governorWindow, if_neg (by simp [hcur, hne])]
  simp only [windowLeft, governed, windowCounted, atWindowEnd, State.settlePhase, State.upTo_power, State.upTo_ctl, ← List.sum_eq_foldl_nat]
  rfl

theorem keeps_windowCounted (s : State) : Keeps s (windowCounted s) := by
  have h : Keeps s (atWindowEnd s) := (Keeps.refl s).upTo.settlePhase
  exact (Keeps.ite (Keeps.ite h.bump h).bump (Keeps.ite h.bump h))

theorem windowCounted_frame (s : State) :
    windowCounted s = { s with cycle := (windowCounted s).cycle, power := (windowCounted s).power, nums := (windowCounted s).nums } := by
  unfold windowCounted
  dsimp only
  split <;> split <;> rfl

theorem windowCounted_num (s : State) {k : Nat} (h5 : 0x700005 ≠ k) (h6 : 0x700006 ≠ k) : (windowCounted s).num k = s.num k := by
  have hend : (atWindowEnd s).num k = s.num k := rfl
  have hthrottled := State.num_bump_other (atWindowEnd s) (250 * (64 - s.num 0x700004)) h5
  unfold windowCounted
  dsimp only
  split <;> split <;> simp only [State.num_bump_other _ _ h6, hthrottled, hend]

theorem windowLeft_num {s : State} (hs : Canonical s) :
    (windowLeft s).num 0x700002 = min (s.power.samples.sum / s.power.samples.length) 65535 ∧
    (windowLeft s).num 0x700003 = max (s.num 0x700003) (min (s.power.samples.sum / s.power.samples.length) 65535) ∧
    (windowLeft s).num 0x700004 = (governed s).1 := by
  have hkeeps := keeps_windowCounted s
  have hmax : (windowCounted s).num 0x700003 = s.num 0x700003 := windowCounted_num s (by decide) (by decide)
  rw [← hmax]
  generalize hw : min (s.power.samples.sum / s.power.samples.length) 65535 = watts
  have hleft : ∀ k, (windowLeft s).num k = ((((windowCounted s).setNum 0x700002 watts).setNum 0x700003
      (max ((windowCounted s).num 0x700003) watts)).setNum 0x700004 (governed s).1).num k := by
    intro k
    rw [← hw]
    rfl
  refine ⟨?_, ?_, ?_⟩ <;> rw [hleft]
  · rw [State.num_setNum_other _ _ (by decide), State.num_setNum_other _ _ (by decide),
      State.num_setNum_same (hkeeps.canonical hs)]
  · rw [State.num_setNum_other _ _ (by decide), State.num_setNum_same (hkeeps.setNum.canonical hs)]
  · rw [State.num_setNum_same (hkeeps.setNum.setNum.canonical hs)]

theorem governRule_cases (r quiet sum n cap : Nat) :
    (3300 * n < sum → governRule r quiet sum n cap = (8, 0)) ∧
    (sum ≤ 3300 * n → cap * n < sum → governRule r quiet sum n cap = (max 8 (r * cap * n / sum), 0)) ∧
    (sum ≤ 3300 * n → sum ≤ cap * n → sum * 64 ≤ cap * 62 * n → quiet < 99 → governRule r quiet sum n cap = (r, quiet + 1)) ∧
    (sum ≤ 3300 * n → sum ≤ cap * n → sum * 64 ≤ cap * 62 * n → 99 ≤ quiet →
      governRule r quiet sum n cap = (min 64 (r + 1), 0)) ∧
    (sum ≤ 3300 * n → sum ≤ cap * n → cap * 62 * n < sum * 64 → governRule r quiet sum n cap = (r, 0)) := by
  unfold governRule
  refine ⟨fun h => ?_, fun h1 h2 => ?_, fun h1 h2 h3 h4 => ?_, fun h1 h2 h3 h4 => ?_, fun h1 h2 h3 => ?_⟩
  · rw [if_pos h]
  · rw [if_neg (by omega), if_pos h2]
  · rw [if_neg (by omega), if_neg (by omega), if_pos h3, if_neg (by omega)]
  · rw [if_neg (by omega), if_neg (by omega), if_pos h3, if_pos (by omega)]
  · rw [if_neg (by omega), if_neg (by omega), if_neg (by omega)]

/-- Settles O45: the window's mean, its largest, and the cases of the governing rule. -/
theorem meterAndGovernor : Obligations.MeterAndGovernor := by
  refine ⟨fun w s h => ?_, fun w s h => ⟨?_, ?_⟩, fun s hs hcur hne => ?_⟩
  · have hexec : exec (.yokeSample w) s = .next (yokeSample w s) := rfl
    rw [hexec, yokeSample, if_neg (by simpa using h)]
  · have hexec : exec (.yokeSample w) s = .next (yokeSample w s) := rfl
    rw [hexec, yokeSample, if_pos (by simp [h])]
  · have hexec : exec .governorWindow s = .next (governorWindow s) := rfl
    rw [hexec, governorWindow, if_pos (by simp [h])]
  · have hexec : exec .governorWindow s = .next (governorWindow s) := rfl
    rw [governorWindow_eq hcur hne] at hexec
    obtain ⟨hmean, hmax, hrun⟩ := windowLeft_num hs
    obtain ⟨hlimit, hcap, hquiet, hrise, helse⟩ :=
      governRule_cases (s.num 0x700004) s.power.lowWindows s.power.samples.sum s.power.samples.length (s.num 0x700001)
    have hboth : ∀ {r q : Nat}, governed s = (r, q) → (windowLeft s).num 0x700004 = r ∧ (windowLeft s).power.lowWindows = q := by
      intro r q h
      exact ⟨by rw [hrun, h], congrArg Prod.snd h⟩
    refine ⟨_, hexec, rfl, hmean, hmax, fun h => hboth (hlimit h), fun h h' => hboth (hcap h h'), fun h h' h'' h3 => hboth (hquiet h h' h'' h3),
      fun h h' h'' h3 => hboth (hrise h h' h'' h3), fun h h' h'' => hboth (helse h h' h''), ?_⟩
    unfold windowLeft
    dsimp only
    rw [windowCounted_frame s]
    rfl

/-! ### The control slot (R121 to R123) -/

/-- What may issue is a plot of the device, held by no wait. -/
theorem issuing_some {s : State} {p : Nat} {pl : Plot} (h : s.issuing p = some pl) :
    s.jobRuns = true ∧ s.plotAt p = some pl ∧ pl.stopped = false ∧ pl.halted = false ∧ pl.wait = none := by
  unfold State.issuing at h
  split at h
  · next hr =>
    split at h
    · next q hq =>
      split at h
      · exact absurd h (by simp)
      · next hfree =>
        obtain rfl := Option.some.inj h
        simp only [Bool.or_eq_true, not_or, Bool.not_eq_true, Option.isSome_eq_false_iff, Option.isNone_iff_eq_none] at hfree
        obtain ⟨⟨hstop, hhalt⟩, hwait⟩ := hfree
        exact ⟨hr, hq, hstop, hhalt, hwait⟩
    · exact absurd h (by simp)
  · exact absurd h (by simp)

/-- Outside of loops the next bundle follows. -/
theorem advance_of_no_loops {pl : Plot} (h : pl.loops = []) : advance pl = { pl with pc := pl.pc + 1 } := by
  simp [advance, nextBundle, h]

/-- A bundle that ends a loop goes back to its first while runs are left. -/
theorem advance_of_loop {pl : Plot} {first left : Nat} {ls : List (Nat × Nat × Nat)} (h : pl.loops = (first, pl.pc, left) :: ls)
    (hl : 1 < left) : advance pl = { pl with pc := first, loops := (first, pl.pc, left - 1) :: ls } := by
  simp [advance, nextBundle, h, hl]

theorem nop_of_issuing {s : State} {p : Nat} {pl : Plot} (h : s.issuing p = some pl) : nop p s = s.mapPlot p advance := by
  simp [nop, h]

theorem mapPlot_advance {s : State} {p : Nat} {pl : Plot} (hp : s.plotAt p = some pl) (h : pl.loops = []) :
    s.mapPlot p advance = s.mapPlot p fun q => { q with pc := pl.pc + 1 } :=
  State.mapPlot_congr hp (advance_of_no_loops h)

/-- A plot's bundle may not issue: nothing happens (R122). -/
theorem controlSlot_of_not_issuing {s : State} {p : Nat} (h : s.issuing p = none) (k : MarkKind) (count off : Nat) :
    ∀ c ∈ [Instr.nop p, .stepMark p k, .loop p count off, .sealWait p], exec c s = .next s := by
  have hnop : exec (.nop p) s = .next (nop p s) := rfl
  have hmark : exec (.stepMark p k) s = .next (stepMark p k s) := rfl
  have hloop : exec (.loop p count off) s = .next (loopStart p count off s) := rfl
  have hseal : exec (.sealWait p) s = .next (sealWait p s) := rfl
  intro c hc
  simp only [List.mem_cons, List.not_mem_nil, or_false] at hc
  rcases hc with rfl | rfl | rfl | rfl
  · simp [hnop, nop, h]
  · simp [hmark, stepMark, h]
  · simp [hloop, loopStart, h]
  · simp [hseal, sealWait, h]

theorem controlSlotClaim : Claims.ControlSlot := by
  intro p s
  refine ⟨fun pl hi => ?_, rfl, controlSlot_of_not_issuing⟩
  obtain ⟨-, hp, -, -, -⟩ := issuing_some hi
  have hnop : exec (.nop p) s = .next (nop p s) := rfl
  have hmark : exec (.stepMark p .sealArrival) s = .next (stepMark p .sealArrival s) := rfl
  have hseal : exec (.sealWait p) s = .next (sealWait p s) := rfl
  refine ⟨fun hl => ⟨?_, ?_⟩, fun first left ls hl hleft => ?_, fun count off hc ho => ?_, fun hpend => ?_, fun hl hpend => ?_⟩
  · rw [hnop, nop_of_issuing hi, mapPlot_advance hp hl]
  · rw [hmark, stepMark, hi]
    dsimp only
    rw [State.mapPlot_congr hp]
    exact advance_of_no_loops (pl := { pl with tines := _ }) hl
  · rw [hnop, nop_of_issuing hi, State.mapPlot_congr hp]
    exact advance_of_loop hl hleft
  · have hloop : exec (.loop p count off) s = .next (loopStart p count off s) := rfl
    rw [hloop, loopStart, hi]
    dsimp only
    rw [if_neg (by simp; omega)]
  · rw [hseal, sealWait, hi]
    dsimp only
    rw [if_pos hpend]
    rfl
  · rw [hseal, sealWait, hi]
    dsimp only
    rw [if_neg (by simp [hpend]), mapPlot_advance hp hl]

/-! #### The entry to a step (R123, R131, R142, R299) -/

theorem get_eq_find? {α : Type} (d : α) (m : SMap α) (n : Nat) : SMap.get d m n = (SMap.find? m n).getD d := by
  induction m with
  | nil => rfl
  | cons e m ih =>
    simp only [SMap.get, SMap.find?]
    split
    · rfl
    · exact ih

/-- Every entry changed, read back at a key. -/
theorem get_mapValues {α β : Type} [DecidableEq α] [DecidableEq β] {g : Nat → α} {m : SMap α} (hm : SMap.wfBy g m = true)
    (d : β) (f : α → β) (n : Nat) : SMap.get d (SMap.mapValues d f m) n = (SMap.find? m n).elim d f := by
  induction m with
  | nil => rfl
  | cons e m ih =>
    obtain ⟨k, a⟩ := e
    obtain ⟨⟨habove, -⟩, hm⟩ : (SMap.above k m = true ∧ _) ∧ SMap.wfBy g m = true := by simpa [SMap.wfBy] using hm
    simp only [SMap.mapValues, SMap.find?]
    by_cases hk : k = n
    · subst hk
      rw [if_pos rfl]
      split
      · next hd =>
        rw [SMap.get_of_above d (SMap.wf_mapValues d f hm) (SMap.above_mapValues d f hm habove)]
        exact hd.symm
      · simp [SMap.get]
    · rw [if_neg hk]
      split
      · exact ih hm
      · simpa [SMap.get, hk] using ih hm

/-- The cursor that a tine records at the entry to the current step. -/
theorem markTine_default : markTine false {} = {} := rfl

theorem tineOf_mapValues {pl q : Plot} (hwf : SMap.wf {} pl.tines = true) {f : Tine → Tine}
    (hq : q.tines = SMap.mapValues {} f pl.tines) (n : Nat) : tineOf q n = (SMap.find? pl.tines n).elim {} f := by
  rw [tineOf, hq, get_mapValues hwf]

/-- A plot's place in the program, and its marks, at the entry to a step. -/
def enteredPlot (s : State) (pl : Plot) : Plot :=
  s.enterVariant (s.num 0x205001 + if pl.arrived then 2 else 1)
    { pl with pc := pl.pc + 1, entered := pl.entered || !pl.arrived, enteredNext := pl.arrived
              tines := SMap.mapValues {} (markTine pl.arrived) pl.tines }

/-- The plot with the intake tile that it is due (R177). -/
def withIntake (s : State) (pl : Plot) : Plot :=
  match s.job, s.intakeFor (enteredPlot s pl) with
  | some j, some t => if pl.arrived then enteredPlot s pl else placeIntake j.binary.intakeRegion t (enteredPlot s pl)
  | _, _ => enteredPlot s pl

theorem stepMark_entry {s : State} {p : Nat} {pl : Plot} (hi : s.issuing p = some pl) (hl : pl.loops = []) :
    stepMark p .entry s = s.mapPlot p fun _ => withIntake s pl := by
  obtain ⟨-, hp, -, -, -⟩ := issuing_some hi
  rw [stepMark, hi]
  dsimp only
  rw [State.mapPlot_mapPlot]
  refine State.mapPlot_congr hp ?_
  rw [advance_of_no_loops (pl := { pl with
    entered := pl.entered || !pl.arrived, enteredNext := pl.arrived, tines := SMap.mapValues {} (markTine pl.arrived) pl.tines }) hl]
  rfl

/-- The variant of a step changes the program counter only. -/
theorem enterVariant_eq (s : State) (n : Nat) (pl : Plot) :
    s.enterVariant n pl = { pl with pc := ((s.seasonVariant n).bind fun k => pl.seasonEntries[k]?).getD pl.pc } := by
  unfold State.enterVariant
  cases (s.seasonVariant n).bind fun k => pl.seasonEntries[k]? <;> rfl

/-- The intake tile lies in the Crib. -/
theorem withIntake_eq (s : State) (pl : Plot) : withIntake s pl = { enteredPlot s pl with crib := (withIntake s pl).crib } := by
  unfold withIntake
  split
  · split <;> rfl
  · rfl

theorem withIntake_of_arrived {s : State} {pl : Plot} (h : pl.arrived = true) : withIntake s pl = enteredPlot s pl := by
  unfold withIntake
  split
  · rw [if_pos h]
  · rfl

theorem stepMarkEntryClaim : Claims.StepMarkEntry := by
  intro p pl s hi hwf hl
  obtain ⟨-, hp, -, -, -⟩ := issuing_some hi
  have hexec : exec (.stepMark p .entry) s = .next (stepMark p .entry s) := rfl
  rw [stepMark_entry hi hl] at hexec
  have hentered : enteredPlot s pl = _ := enterVariant_eq _ _ _
  refine ⟨_, withIntake s pl, hexec, rfl, State.plotAt_mapPlot_same hp _, fun o ho => State.plotAt_mapPlot_other s _ ho, ?_,
    fun harr => ⟨?_, fun n => ?_⟩, fun harr => ⟨?_, fun n x hx => ?_⟩⟩
  · rw [withIntake_eq, hentered]
  · rw [withIntake_eq, hentered]
    simp [harr]
  · have ht : (withIntake s pl).tines = SMap.mapValues {} (markTine false) pl.tines := by rw [withIntake_eq, hentered, harr]
    rw [tineOf_mapValues hwf ht, tineOf, get_eq_find?]
    cases SMap.find? pl.tines n <;> rfl
  · rw [withIntake_of_arrived harr, hentered]
    simp [harr]
  · have ht : (withIntake s pl).tines = SMap.mapValues {} (markTine true) pl.tines := by rw [withIntake_eq, hentered, harr]
    rw [tineOf_mapValues hwf ht, hx]
    rfl

/-- Settles O22: the slots of a bundle, and the entry to a step. -/
theorem controlSlot : Obligations.ControlSlot := ⟨controlSlotClaim, stepMarkEntryClaim⟩

/-! ### Waits (R123, R124, R252) -/

theorem endWait_of_no_loops {pl : Plot} (h : pl.loops = []) : endWait pl = { pl with wait := none, pc := pl.pc + 1 } :=
  advance_of_no_loops (pl := { pl with wait := none }) h

theorem mapPlot_endWait {s : State} {p : Nat} {pl : Plot} (hp : s.plotAt p = some pl) (h : pl.loops = []) :
    s.mapPlot p endWait = s.mapPlot p fun q => { q with wait := none, pc := pl.pc + 1 } :=
  State.mapPlot_congr hp (endWait_of_no_loops h)

/-- A wait that ends in the cycle in which it begins leaves no trace. -/
theorem beginWait_endWait {s : State} {p : Nat} {pl : Plot} (hp : s.plotAt p = some pl) (hw : pl.wait = none) (h : pl.loops = [])
    (w : WaitKind) : (s.beginWait p w).mapPlot p endWait = s.mapPlot p fun q => { q with pc := pl.pc + 1 } := by
  rw [State.beginWait, State.mapPlot_mapPlot, State.mapPlot_congr hp]
  rw [endWait_of_no_loops (pl := { pl with wait := some (w, s.cycle, false) }) h]
  simp [← hw]

theorem regionAt_beginWait {s : State} {p : Nat} {pl : Plot} (hp : s.plotAt p = some pl) (w : WaitKind) (l : Loc) :
    (s.beginWait p w).regionAt p l = s.regionAt p l := by
  unfold State.regionAt State.beginWait
  rw [State.plotAt_mapPlot_same hp, hp]
  cases l <;> rfl

/-- The tag check does not look at the wait. -/
theorem readTile_beginWait {s : State} {p : Nat} {pl : Plot} (hp : s.plotAt p = some pl) (w : WaitKind) (t : TileRef) :
    (s.beginWait p w).readTile p t = s.readTile p t := by
  have hseen : ∀ l, (s.beginWait p w).seenAt p l = s.seenAt p l := by
    intro l
    unfold State.seenAt
    rw [regionAt_beginWait hp, hp, State.beginWait, State.plotAt_mapPlot_same hp]
    rfl
  unfold State.readTile
  rw [hp]
  simp only [hseen]
  rw [State.beginWait, State.plotAt_mapPlot_same hp]
  cases t.loc <;> rfl

/-- A tile that passes the tag check leaves the state as it is. -/
theorem readOrFault_ok {s : State} {p : Nat} {t : TileRef} {x : Tile} (h : s.readTile p t = .ok x) (bundle : Nat) :
    s.readOrFault p bundle t = (s, some x) := by
  simp [State.readOrFault, h, State.orFault]

theorem releaseTile_ready {s : State} {p : Nat} {t : TileRef} {x : Tile} (hr : (s.regionAt p t.loc).ready = true)
    (hx : s.readTile p t = .ok x) : s.releaseTile p t false = s.mapPlot p endWait := by
  simp [State.releaseTile, hr, readOrFault_ok hx]

theorem releaseTile_not_ready {s : State} {p : Nat} {t : TileRef} (hr : (s.regionAt p t.loc).ready = false) :
    s.releaseTile p t false = s := by
  simp [State.releaseTile, hr]

theorem waitTile_of_issuing {s : State} {p : Nat} {pl : Plot} (h : s.issuing p = some pl) (t : TileRef) (season : Bool) :
    waitTile p t season s = (s.beginWait p (.tile t season)).releaseTile p t season := by
  simp [waitTile, h]

theorem waitTileRelease_eq {s : State} {p : Nat} {pl : Plot} {t : TileRef} {season b : Bool} {since : Cycle}
    (hr : s.runsAt p = true) (hp : s.plotAt p = some pl) (hw : pl.wait = some (.tile t season, since, b)) :
    waitTileRelease p s = s.releaseTile p t season := by
  simp [waitTileRelease, hr, hp, hw]

/-- Whose work a plot does, and the tokens that count for it, do not depend on its wait. -/
theorem plotAhead_beginWait {s : State} {p : Nat} {pl : Plot} (hp : s.plotAt p = some pl) (w : WaitKind) :
    (s.beginWait p w).plotAhead p = s.plotAhead p := by
  unfold State.plotAhead State.whoseAt
  rw [State.beginWait, State.plotAt_mapPlot_same hp, hp]
  rfl

theorem waitToken_of_issuing {s : State} {p : Nat} {pl : Plot} (hi : s.issuing p = some pl) (hl : pl.loops = []) (n count : Nat) :
    waitToken p n count s = s.mapPlot p fun q =>
      if count ≤ s.token (s.plotAhead p) n then { q with pc := pl.pc + 1 }
      else { q with wait := some (.token n count, s.cycle, false) } := by
  obtain ⟨-, hp, -, -, hw⟩ := issuing_some hi
  have htoken : (s.beginWait p (.token n count)).token ((s.beginWait p (.token n count)).plotAhead p) n =
      s.token (s.plotAhead p) n := by
    rw [plotAhead_beginWait hp]
    rfl
  simp only [waitToken, hi, Option.isSome_some, if_true, htoken]
  split
  · exact beginWait_endWait hp hw hl _
  · rfl

theorem tileAndTokenWaits : Claims.TileAndTokenWaits := by
  intro p pl s hruns hp hstop hl
  have hr := State.runsAt_of hruns hp hstop
  have hwait : ∀ t, exec (.waitTile p t false) s = .next (waitTile p t false s) := fun _ => rfl
  have hrelease : exec (.waitTileRelease p) s = .next (waitTileRelease p s) := rfl
  refine ⟨fun t hh hw hready => ?_, fun t x hh hw hready hx => ?_, fun t x since b hw hready hx => ?_, fun t since b hw hready => ?_,
    fun n count hh hw => ?_, fun n count since b hw => ?_⟩
  · rw [hwait, waitTile_of_issuing (State.issuing_of hruns hp hstop hh hw), releaseTile_not_ready (by rwa [regionAt_beginWait hp])]
    rfl
  · rw [hwait, waitTile_of_issuing (State.issuing_of hruns hp hstop hh hw),
      releaseTile_ready (by rwa [regionAt_beginWait hp]) (by rwa [readTile_beginWait hp]), beginWait_endWait hp hw hl]
  · rw [hrelease, waitTileRelease_eq hr hp hw, releaseTile_ready hready hx, mapPlot_endWait hp hl]
  · rw [hrelease, waitTileRelease_eq hr hp hw, releaseTile_not_ready hready]
  · have hexec : exec (.waitToken p n count) s = .next (waitToken p n count s) := rfl
    rw [hexec, waitToken_of_issuing (State.issuing_of hruns hp hstop hh hw) hl]
  · have hexec : exec (.waitTokenRelease p) s = .next (waitTokenRelease p s) := rfl
    rw [hexec, waitTokenRelease, if_neg (by simp [hr]), hp]
    simp only [Option.bind_some, hw, mapPlot_endWait hp hl]

theorem waitCycle_of_issuing {s : State} {p : Nat} {pl : Plot} (hi : s.issuing p = some pl) {d : BitVec 512} {w : WaitKind}
    (hw : waitCycleKind d = some w) :
    waitCycle p d s = match (s.beginWait p w).cycleHere p w with
      | some t => if Machine.reached s.cycle t then (s.beginWait p w).mapPlot p endWait else s.beginWait p w
      | none => s.beginWait p w := by
  simp only [waitCycle, hi, Option.isSome_some, if_true, hw]
  rfl

theorem releaseOf_beginWait {s : State} {p : Nat} {pl : Plot} (hp : s.plotAt p = some pl) (w : WaitKind) (b : W32) :
    (s.beginWait p w).releaseOf p b = s.releaseOf p b := by
  unfold State.releaseOf
  rw [State.beginWait, State.plotAt_mapPlot_same hp, hp]
  rfl

theorem waitCycleRelease_eq {s : State} {p : Nat} {pl : Plot} {w : WaitKind} {since : Cycle} {b : Bool} (hr : s.runsAt p = true)
    (hp : s.plotAt p = some pl) (hl : pl.loops = []) (hw : pl.wait = some (w, since, b)) :
    waitCycleRelease p s = match s.cycleHere p w with
      | some t => (s.upTo t).mapPlot p fun q => { q with wait := none, pc := pl.pc + 1 }
      | none => s := by
  rw [waitCycleRelease, if_neg (by simp [hr]), hp]
  simp only [Option.bind_some, hw]
  cases s.cycleHere p w with
  | none => rfl
  | some t => exact mapPlot_endWait (s := s.upTo t) hp hl

theorem cycleWaits : Claims.CycleWaits := by
  intro p pl s hruns hp hstop hl
  have hr := State.runsAt_of hruns hp hstop
  have hwait : ∀ d, exec (.waitCycle p d) s = .next (waitCycle p d s) := fun _ => rfl
  have hrelease : exec (.waitCycleRelease p) s = .next (waitCycleRelease p s) := rfl
  refine ⟨fun d hh hw hkind => ?_, fun d hh hw hkind hnone => ?_, fun c since b hw => ?_, fun x off r since b hw hsome => ?_,
    fun x off since b hw hnone => ?_⟩
  · have hd : waitCycleKind d = some (.cycle (BitVec.ofNat 64 d.toNat)) := by simp only [waitCycleKind, hkind]
    rw [hwait, waitCycle_of_issuing (State.issuing_of hruns hp hstop hh hw) hd]
    dsimp only [State.cycleHere]
    by_cases hc : Machine.reached s.cycle (BitVec.ofNat 64 d.toNat) = true
    · simp only [hc, if_true, beginWait_endWait hp hw hl]
    · simp only [hc, State.beginWait]
      rfl
  · have hd : waitCycleKind d = some (.barrier (BitVec.ofNat 32 (d.toNat / 2 ^ 448)) (BitVec.ofNat 64 d.toNat)) := by
      simp only [waitCycleKind, hkind]
    rw [hwait, waitCycle_of_issuing (State.issuing_of hruns hp hstop hh hw) hd]
    dsimp only [State.cycleHere]
    rw [releaseOf_beginWait hp, hnone]
    rfl
  · rw [hrelease, waitCycleRelease_eq hr hp hl hw]
    rfl
  · rw [hrelease, waitCycleRelease_eq hr hp hl hw, State.cycleHere, hsome]
    rfl
  · rw [hrelease, waitCycleRelease_eq hr hp hl hw, State.cycleHere, hnone]
    rfl

/-! ### Faults of an attempt (R167, R168, R187) -/

/-- A 32-bit counter of the dictionary counts one up, as far as it goes. -/
theorem num_bump_counter {s : State} (hs : Canonical s) {k : Nat} (hk : widthOf k = 32) :
    (s.bump k).num k = min (s.num k + 1) (2 ^ 32 - 1) := by
  rw [State.num_bump_same hs, hk, stick]

/-- The counters of the fault kinds have 32 bits. -/
theorem width_kindCounter (kind : Nat) : widthOf (kindCounter kind) = 32 := by
  unfold kindCounter
  split <;> decide +kernel

theorem sendAbort_frame (s : State) (w : Whose) (rises : Bool) :
    s.sendAbort w rises = { s with job := (s.sendAbort w rises).job, fabric := (s.sendAbort w rises).fabric,
                                   outbox := (s.sendAbort w rises).outbox } := by
  unfold State.sendAbort
  dsimp only
  split
  · rfl
  · split
    · rfl
    · split <;> rfl

theorem sendAbort_job_fault (s : State) (rises : Bool) :
    ((s.sendAbort .step rises).job.bind fun j => j.attempt.fault) = s.job.bind fun j => j.attempt.fault := by
  have hmark : ((s.mapWhose .step fun a => { a with aborted := true }).job.bind fun j => j.attempt.fault) =
      s.job.bind fun j => j.attempt.fault := by
    unfold State.mapWhose State.mapJob
    cases s.job <;> rfl
  unfold State.sendAbort
  dsimp only
  split
  · rfl
  · split
    · exact hmark
    · split
      · exact hmark
      · exact hmark

/-- The signature of a fault in the current step's work (R168). -/
def stepSignature (s : State) (plot kind bundle region : Nat) : Signature :=
  { kind := BitVec.ofNat 8 kind, plot := BitVec.ofNat 16 plot, rank := BitVec.ofNat 16 s.rank
    bundle := BitVec.ofNat 16 bundle, region := BitVec.ofNat 16 region, stepLo := BitVec.ofNat 32 (s.num 0x205001 + 1) }

/-- The attempt of the current step, on a device that has not arrived, before its first fault (R168, R192). -/
def FaultFree (s : State) : Prop := ∃ j, s.job = some j ∧ j.attempt.fault = none ∧ j.attempt.arrived = false

theorem meetFault_step {s : State} (h : FaultFree s) (kind plot bundle region : Nat) :
    s.meetFault .step kind plot bundle region =
      ((s.bump (kindCounter kind)).mapWhose .step fun a =>
        { a with fault := some (kindClass kind, stepSignature s plot kind bundle region) }).sendAbort .step (kindClass kind == 2) := by
  obtain ⟨j, hj, hfault, harr⟩ := h
  have hblamed : s.blamed .step = .step := by simp [State.blamed, State.attemptOf, hj, harr]
  have hnone : (s.attemptOf .step).fault = none := by simp [State.attemptOf, hj, hfault]
  rw [State.meetFault]
  simp only [hblamed, hnone]
  rw [if_neg (by decide)]
  congr 1
  · simp only [State.mapWhose, State.mapJob, State.bump_job, hj, Option.map_some, hfault, worseFault]
    rfl
  · simp

/-- A fault of the current step's work is the attempt's first one. -/
theorem firstFault_meetFault {s : State} (hs : Canonical s) (h : FaultFree s) (kind plot bundle region : Nat) :
    FirstFault s (s.meetFault .step kind plot bundle region) plot kind bundle region := by
  rw [meetFault_step h]
  obtain ⟨j, hj, hfault, harr⟩ := h
  have hnum : ∀ k, (((s.bump (kindCounter kind)).mapWhose .step fun a =>
      { a with fault := some (kindClass kind, stepSignature s plot kind bundle region) }).sendAbort .step (kindClass kind == 2)).num k =
      (s.bump (kindCounter kind)).num k := by
    intro k
    rw [sendAbort_frame]
    rfl
  refine ⟨?_, ?_, fun k hk => ?_, ?_⟩
  · rw [sendAbort_job_fault]
    simp only [State.mapWhose, State.mapJob, State.bump_job, hj]
    rfl
  · rw [hnum, num_bump_counter hs (width_kindCounter kind)]
  · rw [hnum, State.num_bump_other _ _ hk.symm]
  · rw [sendAbort_frame]
    rfl

theorem meetFault_frame (s : State) (w : Whose) (kind plot bundle region : Nat) :
    s.meetFault w kind plot bundle region =
      { s with nums := (s.meetFault w kind plot bundle region).nums, job := (s.meetFault w kind plot bundle region).job
               fabric := (s.meetFault w kind plot bundle region).fabric, outbox := (s.meetFault w kind plot bundle region).outbox } := by
  unfold State.meetFault
  dsimp only
  split
  · rfl
  · rw [sendAbort_frame]
    rfl

/-- A fault is the first one also seen from before changes that reports do not look at. -/
theorem firstFault_of_before {s u t : State} {plot kind bundle region : Nat} (h : FirstFault u t plot kind bundle region)
    (hu : u = { s with plots := u.plots, job := u.job, fabric := u.fabric, outbox := u.outbox, cycle := u.cycle, recovery := u.recovery }) :
    FirstFault s t plot kind bundle region := by
  have hnums : u.nums = s.nums := by rw [hu]
  have hnum : ∀ k, u.num k = s.num k := fun k => by simp only [State.num, hnums]
  obtain ⟨hfault, hcount, hother, hframe⟩ := h
  rw [hnum] at hcount
  simp only [hnum, State.rank] at hfault hother
  refine ⟨hfault, hcount, hother, ?_⟩
  rw [hframe, hu]

/-- A plot at work does the current step's work. -/
theorem whoseAt_of_atWork {s : State} {p : Nat} {pl : Plot} {j : Job} (h : AtWork s p pl j) : s.whoseAt p = .step := by
  obtain ⟨-, hp, -, harr, hj, hserv, heval, -, -⟩ := h
  simp [State.whoseAt, hp, State.whose, State.serving, State.evaluating, hj, hserv, heval, harr]

theorem faultFree_of_atWork {s : State} {p : Nat} {pl : Plot} {j : Job} (h : AtWork s p pl j) : FaultFree s := by
  obtain ⟨-, -, -, -, hj, -, -, hfault, harr⟩ := h
  exact ⟨j, hj, hfault, harr⟩

theorem runsAt_of_atWork {s : State} {p : Nat} {pl : Plot} {j : Job} (h : AtWork s p pl j) : s.runsAt p = true := by
  obtain ⟨hr, hp, hstop, -⟩ := h
  exact State.runsAt_of hr hp hstop

theorem plotFault_of_atWork {s : State} {p : Nat} {pl : Plot} {j : Job} (h : AtWork s p pl j) (kind bundle region : Nat) :
    s.plotFault p kind bundle region = s.meetFault .step kind p bundle region := by
  rw [State.plotFault, whoseAt_of_atWork h]

/-- A fault of a plot at work is the first of the attempt. -/
theorem firstFault_plotFault {s : State} {p : Nat} {pl : Plot} {j : Job} (hs : Canonical s) (h : AtWork s p pl j)
    (kind bundle region : Nat) : FirstFault s (s.plotFault p kind bundle region) p kind bundle region := by
  rw [plotFault_of_atWork h]
  exact firstFault_meetFault hs (faultFree_of_atWork h) _ _ _ _

/-! #### Waits that hold too long (R126) -/

/-- The state at the instant at which a wait is too long, the wait marked. -/
def atTimeout (s : State) (p : Nat) (w : WaitKind) (since : Cycle) : State :=
  (s.upTo (later s.cycle (since + BitVec.ofNat 64 (s.num 0x203001 + 1)))).mapPlot p fun q =>
    { q with wait := some (w, since, true) }

/-- The region that a wait's fault names. -/
def waitRegion : WaitKind → Nat
  | .tile r _ => locNumber r.loc
  | _ => 0xFFFF

/-- A wait for the season tile has no limit (R310). -/
def seasonWait : WaitKind → Bool
  | .tile _ season => season
  | _ => false

theorem waitTimeout_eq {s : State} {p : Nat} {pl : Plot} {w : WaitKind} {since : Cycle} (hr : s.runsAt p = true)
    (hp : s.plotAt p = some pl) (hw : pl.wait = some (w, since, false)) :
    waitTimeout p s =
      if seasonWait w || s.rollsBackBy pl (later s.cycle (since + BitVec.ofNat 64 (s.num 0x203001 + 1))) then s
      else (atTimeout s p w since).plotFault p 0x0A pl.pc (waitRegion w) := by
  rw [waitTimeout, if_neg (by simp [hr]), hp]
  simp only [hw]
  cases w <;> rfl

theorem later_self (a b : Cycle) : later a (later a b) = later a b := by
  unfold later
  split
  · split <;> rfl
  · rfl

theorem waitTimeoutFaults : Claims.WaitTimeoutFaults := by
  intro p pl w since j s hs hwork hw
  obtain ⟨hruns, hp, hstop, harr, hj, hserv, heval, hfault, hdev⟩ := id hwork
  have hr := runsAt_of_atWork hwork
  have hexec : exec (.waitTimeout p) s = .next (waitTimeout p s) := rfl
  rw [waitTimeout_eq hr hp hw] at hexec
  dsimp only
  refine ⟨fun ⟨t, ht⟩ => ?_, fun hback => ?_, fun hseason hback => ?_, ?_⟩
  · rw [hexec, if_pos (by simp [ht, seasonWait])]
  · rw [hexec, if_pos (by simp [hback])]
  · have hlimit : seasonWait w = false := by
      cases w with
      | tile t season => cases season with
        | false => rfl
        | true => exact absurd rfl (hseason t)
      | _ => rfl
    rw [if_neg (by simp [hlimit, hback])] at hexec
    have hwork' : AtWork (atTimeout s p w since) p { pl with wait := some (w, since, true) } j :=
      ⟨hruns, State.plotAt_mapPlot_same (s := s.upTo _) hp _, hstop, harr, hj, hserv, heval, hfault, hdev⟩
    have hcanon : Canonical (atTimeout s p w since) := State.canonical_of_eq hs rfl rfl rfl
    refine ⟨_, hexec, ?_, ?_, ?_⟩
    · have hfirst := firstFault_plotFault hcanon hwork' 0x0A pl.pc (waitRegion w)
      cases w <;> exact firstFault_of_before (u := atTimeout s p _ since) hfirst rfl
    · rw [State.plotFault, meetFault_frame]
      exact later_self _ _
    · rw [State.plotFault, meetFault_frame]
      rfl
  · have hmarked : (s.mapPlot p fun q => { q with wait := some (w, since, true) }).plotAt p =
        some { pl with wait := some (w, since, true) } := State.plotAt_mapPlot_same hp _
    have hagain : ∀ u, exec (.waitTimeout p) u = .next (waitTimeout p u) := fun _ => rfl
    rw [hagain, waitTimeout, hmarked]
    simp

/-- Settles O23: tile and token waits, cycle waits, and the wait timeout. -/
theorem waits : Obligations.Waits := ⟨tileAndTokenWaits, cycleWaits, waitTimeoutFaults⟩

/-! ### Tines (R121, R131 to R135) -/

/-- A table with what it reads at a key written there is the same table. -/
theorem set_get {α : Type} [DecidableEq α] {d : α} {m : SMap α} (hm : SMap.wf d m = true) (k : Nat) :
    SMap.set d m k (SMap.get d m k) = m := by
  unfold SMap.wf at hm
  induction m with
  | nil => simp [SMap.set, SMap.get, SMap.erase]
  | cons e m ih =>
    obtain ⟨j, a⟩ := e
    obtain ⟨⟨habove, ha⟩, hm⟩ : (SMap.above j m = true ∧ ¬ a = d) ∧ SMap.wfBy (fun _ => d) m = true := by
      simpa [SMap.wfBy] using hm
    have ih := ih hm
    by_cases hk : j = k
    · simp [SMap.set, SMap.get, hk, ha, SMap.put]
    · have hget : SMap.get d ((j, a) :: m) k = SMap.get d m k := by simp [SMap.get, hk]
      rw [hget]
      unfold SMap.set at ih ⊢
      by_cases hd : SMap.get d m k = d
      · rw [if_pos hd] at ih ⊢
        rw [SMap.erase, if_neg hk, ih]
      · rw [if_neg hd] at ih ⊢
        have hlt : j < k := Decidable.byContradiction fun hge =>
          hd (SMap.get_of_above d hm (SMap.above_mono (by omega) habove))
        rw [SMap.put, if_pos hlt, ih]

theorem modifyNth_self {α : Type} {f : α → α} {l : List α} {n : Nat} {a : α} (h : l[n]? = some a) (hf : f a = a) :
    modifyNth f l n = l := by
  apply List.ext_getElem?
  intro m
  by_cases hm : m = n
  · rw [hm, getElem?_modifyNth_same, h, Option.map_some, hf]
  · rw [getElem?_modifyNth_other f l hm]

/-- A change that leaves the plot as it is changes nothing. -/
theorem mapPlot_self {s : State} {p : Nat} {pl : Plot} {f : Plot → Plot} (hp : s.plotAt p = some pl) (hf : f pl = pl) :
    s.mapPlot p f = s := by
  unfold State.mapPlot
  rw [modifyNth_self hp hf]

theorem mapTine_eq {s : State} {p : Nat} {pl : Plot} (hp : s.plotAt p = some pl) (n : Nat) (f : Tine → Tine) :
    s.mapTine p n f = s.mapPlot p fun q => { q with tines := SMap.set {} pl.tines n (f (tineOf pl n)) } :=
  State.mapPlot_congr hp rfl

theorem token_signalToken_same {s : State} (hwf : SMap.wf 0 s.tokens = true) {n : Nat} (hn : n ≠ 0) :
    (s.signalToken false n).token false n = (s.token false n + 1) % 2 ^ 18 := by
  rw [State.signalToken, if_neg hn]
  exact SMap.get_set_same 0 n _ hwf

theorem token_signalToken_other (s : State) {n m : Nat} (h : m ≠ n) :
    (s.signalToken false n).token false m = s.token false m := by
  unfold State.signalToken
  split
  · rfl
  · exact SMap.get_set_other 0 0 s.tokens _ h.symm

theorem signalToken_frame (s : State) (n : Nat) :
    s.signalToken false n = { s with tokens := (s.signalToken false n).tokens } := by
  unfold State.signalToken
  split <;> rfl

theorem startTiers_frame (s : State) (ahead : Bool) : s.startTiers ahead = { s with tiers := (s.startTiers ahead).tiers } := rfl

/-- A token of the current step counts up; what it triggers lies with the tiers. -/
theorem countToken_frame (s : State) (n : Nat) :
    s.countToken false n = { s with tokens := (s.signalToken false n).tokens, tiers := (s.countToken false n).tiers } := by
  unfold State.countToken
  rw [startTiers_frame, signalToken_frame]

theorem token_countToken (s : State) (n m : Nat) : (s.countToken false n).token false m = (s.signalToken false n).token false m := by
  unfold State.countToken State.startTiers
  rfl

theorem tokenSignal_of_issuing {s : State} {p : Nat} {pl : Plot} (h : s.issuing p = some pl) (n : Nat) :
    tokenSignal p n s = s.countToken (s.plotAhead p) n := by
  simp [tokenSignal, h]

theorem tineAndSyncSlots : Claims.TineAndSyncSlots := by
  intro p pl s hi
  obtain ⟨-, hp, -⟩ := issuing_some hi
  have hstart : ∀ n descs, exec (.tineStart p n descs) s = .next (s.mapTine p n fun t =>
      if t.running then t else { t with ahead := speculative s pl, descs := descs, pos := 0, running := true,
                                        stale := inFlight t, xfer := none }) := by
    intro n descs
    have hexec : exec (.tineStart p n descs) s = .next (tineStart p n descs s) := rfl
    simp only [hexec, tineStart, hi, Option.isSome_some, if_true, hp, Option.elim_some]
  have hsignal : ∀ n, exec (.tokenSignal p n) s = .next (tokenSignal p n s) := fun _ => rfl
  refine ⟨fun n descs hstill => ?_, fun n descs hwf hrun => ?_, fun n => ?_, fun r => ?_, fun n hn hahead hwf => ?_, ?_⟩
  · simp only [hstart, mapTine_eq hp, hstill]
    rfl
  · rw [hstart, mapTine_eq hp, mapPlot_self hp]
    rw [if_pos hrun, tineOf, set_get hwf]
  · have hexec : exec (.tineStop p n) s = .next (tineStop p n s) := rfl
    simp only [hexec, tineStop, hi, Option.isSome_some, if_true, mapTine_eq hp]
  · have hexec : exec (.regionRelease p r) s = .next (regionRelease p r s) := rfl
    simp only [hexec, regionRelease, hi, Option.isSome_some, if_true, State.setRegion]
    rw [State.mapPlot_congr hp]
    simp only [State.regionAt, hp]
  · rw [hsignal, tokenSignal_of_issuing hi, hahead]
    refine ⟨_, rfl, ?_, fun m hm => ?_, countToken_frame s n⟩
    · rw [token_countToken, token_signalToken_same hwf hn]
    · rw [token_countToken, token_signalToken_other s hm]
  · rw [hsignal, tokenSignal_of_issuing hi]
    exact ⟨_, rfl, rfl⟩

theorem startTransfer_of_tineAt {s : State} {p n op : Nat} {pl : Plot} {t : Tine} {d : BitVec 512}
    (h : s.tineAt p n op = some (pl, t, d)) (htiles : 0 < tineTiles (tineDesc d)) (hlines : 0 < (tineDesc d).lines) :
    s.startTransfer p n op = s.mapTine p n fun t => { t with xfer := some { desc := d } } := by
  have hreq : tileRequests (tineDesc d) ≠ 0 := by
    unfold tileRequests
    omega
  simp only [State.startTransfer, h]
  rw [if_neg (by simp [Nat.ne_of_gt htiles, hreq])]

theorem tineDescriptors : Claims.TineDescriptors := by
  intro p n op pl t d s h
  refine ⟨?_, ?_, ?_, ?_, ?_, ?_⟩
  · rintro rfl
    have hexec : exec (.tineNop p n) s = .next (tineNop p n s) := rfl
    simp only [hexec, tineNop, h, Option.isSome_some, if_true]
    rfl
  · rintro rfl htiles hlines
    exact congrArg Host.Outcome.next (startTransfer_of_tineAt h htiles hlines)
  · rintro rfl htiles hlines
    exact congrArg Host.Outcome.next (startTransfer_of_tineAt h htiles hlines)
  · rintro rfl hahead hentered
    have hexec : exec (.tineMark p n) s = .next (tineMark p n s) := rfl
    simp only [hexec, tineMark, h, hahead, hentered]
    rfl
  · rintro rfl hahead hentered hserv heval
    have hexec : exec (.tineMark p n) s = .next (tineMark p n s) := rfl
    simp only [hexec, tineMark, h, hahead, hentered, hserv, heval]
    rfl
  · rintro rfl
    have hexec : exec (.tineEnd p n) s = .next (tineEnd p n s) := rfl
    simp only [hexec, tineEnd, h, Option.isSome_some, if_true]

/-- Settles O29: the slots of a bundle, and a tine at its descriptor. -/
theorem tineSlots : Obligations.TineSlots := ⟨tineAndSyncSlots, tineDescriptors⟩

end Sys2Proof.Proofs

/-! The transfers of the tines: requests, the data of a LOAD, the acknowledgements of a STORE. -/

namespace Sys2Proof.Proofs

open Sys2Proof Machine

/-! ### Bytes written, read back in parts -/

theorem readBytes_length (m : List Host.Cell) (a n : Nat) : (Memory.readBytes m a n).length = n := by
  induction n generalizing a with
  | zero => rfl
  | succ n ih => simp [Memory.readBytes, ih]

theorem readBytes_add (m : List Host.Cell) (a n k : Nat) :
    Memory.readBytes m a (n + k) = Memory.readBytes m a n ++ Memory.readBytes m (a + n) k := by
  induction n generalizing a with
  | zero => simp [Memory.readBytes]
  | succ n ih =>
    rw [Nat.add_right_comm, Memory.readBytes, Memory.readBytes, ih, List.cons_append, Nat.add_assoc a 1 n, Nat.add_comm 1 n]

/-- A part of what was written. -/
theorem readBytes_writeBytes_part {m : List Host.Cell} (hm : Memory.wf m = true) (a : Nat) (xs ys zs : List Byte) :
    Memory.readBytes (Memory.writeBytes m a (xs ++ ys ++ zs)) (a + xs.length) ys.length = ys := by
  have h := Memory.readBytes_writeBytes_same a (xs ++ ys ++ zs) hm
  generalize Memory.writeBytes m a (xs ++ ys ++ zs) = w at h ⊢
  rw [List.length_append, List.length_append, readBytes_add, readBytes_add] at h
  obtain ⟨h, -⟩ := List.append_inj h (by simp [readBytes_length])
  exact (List.append_inj h (by simp [readBytes_length])).2

/-! ### Writing a tile into HBM (R139) -/

theorem hbmBytes_length (t : Tile) : (hbmBytes t).length = 64 + 64 * payloadLines t.payload.length := by
  have hle : t.payload.length ≤ 64 * payloadLines t.payload.length := by
    unfold payloadLines
    omega
  simp only [hbmBytes, List.length_append, tagBytes, Tests.leBytes_length, List.length_replicate]
  omega

/-- Metadata written line by line leaves everything but the metadata. -/
theorem setLines_host (v : BitVec 36) (ls : List Nat) (s : State) :
    ls.foldl (fun s l => s.setLine l v) s =
      { s with host := { s.host with lineMeta := (ls.foldl (fun s l => s.setLine l v) s).host.lineMeta } } := by
  induction ls generalizing s with
  | nil => rfl
  | cons l ls ih =>
    rw [List.foldl_cons, ih]
    rfl

theorem writeHbmTile_window (s : State) (addr : Nat) (t : Tile) :
    (s.writeHbmTile addr t).host.window = Memory.writeBytes s.host.window addr (hbmBytes t) := by
  unfold State.writeHbmTile
  rw [setLines_host]

/-- A tile written into HBM leaves everything but the window and its metadata. -/
theorem writeHbmTile_frame (s : State) (addr : Nat) (t : Tile) :
    s.writeHbmTile addr t = { s with host := { s.host with
      window := (s.writeHbmTile addr t).host.window, lineMeta := (s.writeHbmTile addr t).host.lineMeta } } := by
  unfold State.writeHbmTile
  dsimp only
  rw [setLines_host]

/-- The tag line and the payload stand where they were written, and every byte outside is as before. -/
theorem writeHbmTile_reads {s : State} (hs : Memory.wf s.host.window = true) (addr : Nat) (t : Tile) :
    Memory.readBytes (s.writeHbmTile addr t).host.window addr 32 = tagBytes t.tag ∧
    Memory.readBytes (s.writeHbmTile addr t).host.window (addr + 64) t.payload.length = t.payload ∧
    ∀ a, (a < addr ∨ addr + 64 + 64 * payloadLines t.payload.length ≤ a) →
      Memory.readByte (s.writeHbmTile addr t).host.window a = Memory.readByte s.host.window a := by
  rw [writeHbmTile_window]
  have htag : (tagBytes t.tag).length = 32 := Tests.leBytes_length _ _
  refine ⟨?_, ?_, fun a ha => ?_⟩
  · have h := readBytes_writeBytes_part hs addr [] (tagBytes t.tag) (List.replicate 32 0 ++ t.payload ++
      List.replicate (64 * payloadLines t.payload.length - t.payload.length) 0)
    rw [htag] at h
    simpa [hbmBytes, List.append_assoc] using h
  · have h := readBytes_writeBytes_part hs addr (tagBytes t.tag ++ List.replicate 32 0) t.payload
      (List.replicate (64 * payloadLines t.payload.length - t.payload.length) 0)
    simpa [hbmBytes, List.append_assoc, htag] using h
  · refine Memory.readByte_writeBytes_other _ _ ?_
    rw [hbmBytes_length]
    omega

/-! ### The credit and the transfer of a request -/

/-- A plot after a return of a tine's oldest request: the credit is back, and the tine as given. -/
def returned (n : Nat) (t : Tine) (pl : Plot) : Plot :=
  { pl with creditsUsed := pl.creditsUsed - 1, tines := SMap.set {} pl.tines n t }

theorem mapTine_returnCredit {s : State} {p : Nat} {pl : Plot} (hp : s.plotAt p = some pl) (n : Nat) (f : Tine → Tine) :
    (s.mapTine p n f).returnCredit p = s.mapPlot p (returned n (f (tineOf pl n))) := by
  rw [State.returnCredit, State.mapTine, State.mapPlot_mapPlot]
  exact State.mapPlot_congr hp rfl

/-- A change that a plot's stores and standing do not see. -/
theorem regionAt_mapPlot {s : State} {p : Nat} {f : Plot → Plot}
    (hf : ∀ pl, (f pl).crib = pl.crib ∧ (f pl).loam = pl.loam) (q : Nat) (l : Loc) :
    (s.mapPlot p f).regionAt q l = s.regionAt q l := by
  unfold State.regionAt
  by_cases hq : q = p
  · subst hq
    cases hp : s.plotAt q with
    | none =>
      have hnone : (s.mapPlot q f).plotAt q = none := by
        have := getElem?_modifyNth_same f s.plots q
        unfold State.plotAt at hp ⊢
        simpa [hp] using this
      simp only [hnone]
    | some pl =>
      simp only [State.plotAt_mapPlot_same hp]
      cases l with
      | crib r => simp only [(hf pl).1]
      | loam r => simp only [(hf pl).2]
      | pool sl r => rfl
      | buffer i n => rfl
  · rw [State.plotAt_mapPlot_other s f hq]
    rfl

theorem regionAt_returned (s : State) (p n : Nat) (t : Tine) (q : Nat) (l : Loc) :
    (s.mapPlot p (returned n t)).regionAt q l = s.regionAt q l := regionAt_mapPlot (f := returned n t) (fun _ => ⟨rfl, rfl⟩) q l

/-- What a LOAD fetches does not depend on credits and tines. -/
theorem fetched_returned (s : State) (p n : Nat) (t : Tine) (w : Whose) (d : TineDesc) (k : Nat) :
    (s.mapPlot p (returned n t)).fetched p w d k = s.fetched p w d k := by
  unfold State.fetched
  simp only [regionAt_returned]
  rfl

theorem runsAt_returned {s : State} {p : Nat} {pl : Plot} (hp : s.plotAt p = some pl) (n : Nat) (t : Tine) :
    (s.mapPlot p (returned n t)).runsAt p = s.runsAt p := by
  unfold State.runsAt
  rw [State.plotAt_mapPlot_same hp, hp]
  rfl

theorem returnStale_eq {s : State} {p : Nat} {pl : Plot} (hp : s.plotAt p = some pl) (n : Nat) :
    s.returnStale p n = s.mapPlot p fun q =>
      { q with creditsUsed := q.creditsUsed - 1
               tines := SMap.set {} q.tines n { tineOf pl n with stale := (tineOf pl n).stale - 1 } } :=
  mapTine_returnCredit hp n _

/-- The work of a tine of a plot at work, until it serves the next step. -/
theorem tineWhose_of_atWork {s : State} {p : Nat} {pl : Plot} {j : Job} (h : AtWork s p pl j) {t : Tine} (ht : t.ahead = false) :
    s.tineWhose pl t = .step := by
  obtain ⟨-, -, -, harr, hj, hserv, heval, -, -⟩ := h
  simp [State.tineWhose, State.whose, State.serving, State.evaluating, hj, hserv, heval, harr, ht]

/-- A first fault also counts from after changes of the plots alone. -/
theorem firstFault_after {s t u : State} {plot kind bundle region : Nat} (h : FirstFault s t plot kind bundle region)
    (hu : u = { t with plots := u.plots }) : FirstFault s u plot kind bundle region := by
  obtain ⟨hfault, hcount, hother, hframe⟩ := h
  have hnum : ∀ k, u.num k = t.num k := fun k => by rw [hu]; rfl
  refine ⟨by rw [hu]; exact hfault, by rw [hnum, hcount], fun k hk => by rw [hnum, hother k hk], ?_⟩
  rw [hu, hframe]

/-! ### Requests (R134, R167) -/

/-- A request of a running tine with a credit: whether it may leave, and whether its address stands. -/
theorem tineRequestIssue_eq {s : State} {p n : Nat} {pl : Plot} {x : Transfer} (hr : s.runsAt p = true) (hp : s.plotAt p = some pl)
    (hx : (tineOf pl n).xfer = some x) (hrun : (tineOf pl n).running = true)
    (hnext : x.next < tineTiles (tineDesc x.desc) * tileRequests (tineDesc x.desc)) (hcredit : pl.creditsUsed < pl.credits) :
    tineRequestIssue p n s =
      if (if (tineDesc x.desc).op = 1 then s.loadMay pl (tineOf pl n) (tineDesc x.desc) x
          else storeMay pl (tineDesc x.desc) x) = true then
        if s.addressOk p (tineDesc x.desc) (tineAddr (tineDesc x.desc) (x.next / tileRequests (tineDesc x.desc)))
            (x.next % tileRequests (tineDesc x.desc)) = true then
          s.mapPlot p fun q => { q with
            creditsUsed := q.creditsUsed + 1
            tines := SMap.set {} q.tines n { tineOf pl n with xfer := some { x with next := x.next + 1 } } }
        else (s.mapTine p n fun t => { t with running := false }).meetFault (s.tineWhose pl (tineOf pl n)) 0x07 p 0xFFFF 0xFFFF
      else s := by
  simp only [tineRequestIssue, hr, hp, hx]
  generalize (if (tineDesc x.desc).op = 1 then s.loadMay pl (tineOf pl n) (tineDesc x.desc) x
          else storeMay pl (tineDesc x.desc) x) = may
  generalize s.addressOk p _ _ _ = ok
  have hmay : (!(tineOf pl n).running || decide (tineTiles (tineDesc x.desc) * tileRequests (tineDesc x.desc) ≤ x.next) ||
      decide (pl.credits ≤ pl.creditsUsed) || !may) = !may := by
    simp [hrun, Nat.not_le.mpr hnext, Nat.not_le.mpr hcredit]
  rw [if_neg (by decide), hmay]
  cases may with
  | false => rfl
  | true => cases ok with
    | false => rfl
    | true => exact (State.mapPlot_mapPlot ..).trans (State.mapPlot_congr hp rfl)

theorem tineRequests : Claims.TineRequests := by
  intro p n pl x s d per hr hp hx hrun hnext hcredit
  have hexec : exec (.tineRequestIssue p n) s = .next (tineRequestIssue p n s) := rfl
  rw [tineRequestIssue_eq hr hp hx hrun hnext hcredit] at hexec
  refine ⟨fun hop hvalid hfirst => ?_, fun hop htok hcount => ?_, fun hmay => ?_⟩
  · have hno : s.loadMay pl (tineOf pl n) d x = false := by
      have hfree : x.next % tileRequests d = 0 := hfirst
      have hring : (SMap.get {} pl.crib (ringRegion d (x.next / tileRequests d))).tile.tag.valid = true := hvalid
      unfold State.loadMay
      dsimp only
      rw [hfree, hring]
      simp
    rw [hexec, if_pos hop, if_neg (by rw [hno]; decide)]
  · have hno : s.loadMay pl (tineOf pl n) d x = false := by
      simp [State.loadMay, htok, Nat.not_le.mpr hcount]
    rw [hexec, if_pos hop, if_neg (by rw [hno]; decide)]
  · have hyes : (if d.op = 1 then s.loadMay pl (tineOf pl n) d x else storeMay pl d x) = true := by
      rcases hmay with ⟨hop, hm⟩ | ⟨hop, hm⟩
      · rwa [if_pos hop]
      · rwa [if_neg (by omega)]
    rw [if_pos hyes] at hexec
    refine ⟨fun hok => ?_, fun j hs hwork hahead hbad => ?_⟩
    · rw [hexec, if_pos hok]
    · have hfree := faultFree_of_atWork hwork
      rw [if_neg (by rw [hbad]; decide), tineWhose_of_atWork hwork hahead] at hexec
      refine ⟨_, hexec, ?_, ?_⟩
      · have hstopped := firstFault_meetFault (s := s.mapTine p n fun t => { t with running := false })
          (State.canonical_of_eq hs rfl rfl rfl) hfree 0x07 p 0xFFFF 0xFFFF
        exact firstFault_of_before hstopped rfl
      · rw [meetFault_frame]

/-! ### The data of a LOAD (R139, R140) -/

/-- The transfer after its oldest request has returned. -/
def stepped (x : Transfer) (e : EccResult) (last : Bool) : Transfer :=
  { x with done := x.done + 1, bad := (x.bad || e == .miscorrected) && !last, lost := (x.lost || e == .uncorrectable) && !last }

/-- The state after a LOAD's oldest request has given its credit back. -/
def loadReturned (s : State) (p n : Nat) (pl : Plot) (x : Transfer) (e : EccResult) : State :=
  s.mapPlot p (returned n { tineOf pl n with
    xfer := some (stepped x e (decide (x.done % tileRequests (tineDesc x.desc) + 1 = tileRequests (tineDesc x.desc)))) })

/-- A tine goes on to its next descriptor after its last request. -/
def tineDone (s : State) (p n : Nat) (done : Bool) : State := if done then s.mapTine p n nextDesc else s

section
variable {s : State} {p n : Nat} {pl : Plot} {x : Transfer} (hp : s.plotAt p = some pl) (hstale : (tineOf pl n).stale = 0)
  (hjob : s.job.isSome = true) (hx : (tineOf pl n).xfer = some x) (hdone : x.done < x.next)
include hp hstale hjob hx hdone

theorem tineDataReturn_stopped (hop : (tineDesc x.desc).op = 1) (hr : s.runsAt p = false) (e : EccResult) :
    tineDataReturn p n e s = loadReturned s p n pl x e := by
  simp only [tineDataReturn, hp, hstale, hx, hop]
  rw [if_neg (by simp), if_neg (by simpa [Nat.not_le.mpr hdone, Option.isSome_iff_ne_none] using hjob), mapTine_returnCredit hp,
    runsAt_returned hp, if_pos (by simp [hr])]
  rfl

/-- The last request of a tile brings the tile. -/
theorem tineDataReturn_last (hop : (tineDesc x.desc).op = 1) (hr : s.runsAt p = true)
    (hlast : x.done % tileRequests (tineDesc x.desc) + 1 = tileRequests (tineDesc x.desc)) :
    tineDataReturn p n .clean s =
      tineDone ((loadReturned s p n pl x .clean).landTile p (s.tineWhose pl (tineOf pl n)) (tineDesc x.desc)
        (x.done / tileRequests (tineDesc x.desc)) x.bad x.lost) p n
        (decide (x.done + 1 = tineTiles (tineDesc x.desc) * tileRequests (tineDesc x.desc))) := by
  simp only [tineDataReturn, hp, hstale, hx, hop]
  rw [if_neg (by simp), if_neg (by simpa [Nat.not_le.mpr hdone, Option.isSome_iff_ne_none] using hjob), mapTine_returnCredit hp,
    runsAt_returned hp, if_neg (by simp [hr]), if_pos hlast]
  simp only [tineDone, decide_eq_true_eq, loadReturned, stepped]
  have hbad : (x.bad || (EccResult.clean == .miscorrected)) = x.bad := by simp
  have hlost : (x.lost || (EccResult.clean == .uncorrectable)) = x.lost := by simp
  rw [hbad, hlost]
  rfl

end

/-! #### What the end of a tile leaves -/

theorem tineDone_frame (s : State) (p n : Nat) (b : Bool) :
    tineDone s p n b = { s with plots := (tineDone s p n b).plots } := by
  cases b <;> rfl

theorem plotAt_tineDone {s : State} {p : Nat} {q : Plot} (hq : s.plotAt p = some q) (n : Nat) (b : Bool) :
    ∃ tines, (tineDone s p n b).plotAt p = some { q with tines := tines } := by
  cases b with
  | false => exact ⟨q.tines, hq⟩
  | true => exact ⟨_, State.plotAt_mapPlot_same hq _⟩

theorem plotAt_tineDone_other {s : State} {p o : Nat} (ho : o ≠ p) (n : Nat) (b : Bool) :
    (tineDone s p n b).plotAt o = s.plotAt o := by
  cases b with
  | false => rfl
  | true => exact State.plotAt_mapPlot_other s _ ho

theorem regionAt_crib {s : State} {p : Nat} {q : Plot} (hq : s.plotAt p = some q) (r : Nat) :
    s.regionAt p (.crib r) = SMap.get {} q.crib r := by
  simp only [State.regionAt, hq]

/-- A region with its ready bit set, read back. -/
theorem get_set_ready (m : SMap Region) (r : Nat) (t : Tile) :
    SMap.get {} (SMap.set {} m r { tile := t, ready := true }) r = { tile := t, ready := true } := by
  have hne : ({ tile := t, ready := true } : Region) ≠ {} := by
    intro h
    exact Bool.noConfusion (congrArg Region.ready h)
  rw [SMap.set, if_neg hne, SMap.get_put_same]

/-- A ready tile in a plot's Crib, and the tine past its request. -/
theorem landed_crib {s : State} {p : Nat} {q : Plot} (hq : s.plotAt p = some q) (n r : Nat) (t : Tile) (b : Bool) :
    ∃ tines, (tineDone (s.setRegion p (.crib r) { tile := t, ready := true }) p n b).plotAt p =
      some { q with crib := SMap.set {} q.crib r { tile := t, ready := true }, tines := tines } :=
  plotAt_tineDone (State.plotAt_mapPlot_same hq _) n b

theorem landTile_good {s : State} {p : Nat} {w : Whose} {d : TineDesc} {t : Nat} (h : (s.fetched p w d t).2 = true) :
    s.landTile p w d t false false = s.setRegion p (.crib (ringRegion d t))
      { tile := { (s.fetched p w d t).1 with tag := { (s.fetched p w d t).1.tag with valid := true } }, ready := true } := by
  simp only [State.landTile, h]
  simp

theorem landTile_bad {s : State} {p : Nat} {w : Whose} {d : TineDesc} {t : Nat} {bad : Bool}
    (h : (s.fetched p w d t).2 = false ∨ bad = true) (lost : Bool) :
    ∃ tile : Tile, tile.tag.poison = true ∧ s.landTile p w d t bad lost =
      (s.meetFault w 0x04 p 0xFFFF (ringRegion d t)).setRegion p (.crib (ringRegion d t)) { tile := tile, ready := true } := by
  have hfails : (!(s.fetched p w d t).2 || bad) = true := by
    rcases h with h | h <;> simp [h]
  refine ⟨_, ?_, by simp only [State.landTile, hfails]; rfl⟩
  simp

theorem loadReturned_frame (s : State) (p n : Nat) (pl : Plot) (x : Transfer) (e : EccResult) :
    loadReturned s p n pl x e = { s with plots := (loadReturned s p n pl x e).plots } := rfl

theorem plotAt_loadReturned {s : State} {p : Nat} {pl : Plot} (hp : s.plotAt p = some pl) (n : Nat) (x : Transfer) (e : EccResult) :
    ∃ tines, (loadReturned s p n pl x e).plotAt p = some { pl with creditsUsed := pl.creditsUsed - 1, tines := tines } :=
  ⟨_, State.plotAt_mapPlot_same hp _⟩

theorem fetched_loadReturned (s : State) (p n : Nat) (pl : Plot) (x : Transfer) (e : EccResult) (w : Whose) (d : TineDesc) (k : Nat) :
    (loadReturned s p n pl x e).fetched p w d k = s.fetched p w d k := fetched_returned ..

theorem loadReturns : Claims.LoadReturns := by
  intro p n pl s hp
  have hexec : ∀ e, exec (.tineDataReturn p n e) s = .next (tineDataReturn p n e s) := fun _ => rfl
  constructor
  · intro e hstale
    rw [hexec, tineDataReturn, hp]
    simp only [bne_iff_ne, ne_eq, hstale, not_false_eq_true, if_true]
    rw [returnStale_eq hp]
  intro x d per w last hstale hjob hx hdone hop
  refine ⟨fun hr e => ?_, fun hr hend hok hbad hlost => ?_, fun j hs hwork hahead hend hfail => ?_⟩
  · rw [hexec, tineDataReturn_stopped hp hstale hjob hx hdone hop hr]
    rfl
  · rw [hexec, tineDataReturn_last hp hstale hjob hx hdone hop hr hend, hbad, hlost,
      landTile_good (by rw [fetched_loadReturned]; exact hok), fetched_loadReturned]
    obtain ⟨tines, hu⟩ := plotAt_loadReturned hp n x .clean
    generalize (s.fetched p _ _ _).1 = got
    generalize decide (x.done + 1 = tineTiles (tineDesc x.desc) * tileRequests (tineDesc x.desc)) = b
    obtain ⟨tines', hq⟩ := landed_crib hu n (ringRegion d (x.done / per)) { got with tag := { got.tag with valid := true } } b
    refine ⟨_, _, rfl, ?_, hq, fun o ho => ?_, rfl, ?_, ?_, fun r hr => ?_⟩
    · rw [tineDone_frame]
      rfl
    · rw [plotAt_tineDone_other ho]
      exact (State.plotAt_mapPlot_other _ _ ho).trans (State.plotAt_mapPlot_other s _ ho)
    · rw [regionAt_crib hq, get_set_ready]
    · rw [regionAt_crib hq, get_set_ready]
    · rw [regionAt_crib hq, regionAt_crib hp]
      exact SMap.get_set_other _ _ _ _ (Ne.symm hr)
  · have hfree := faultFree_of_atWork hwork
    have hr := runsAt_of_atWork hwork
    obtain ⟨tile, hpoison, hland⟩ := landTile_bad (s := loadReturned s p n pl x .clean) (p := p) (w := .step) (d := d)
      (t := x.done / per) (bad := x.bad) (by rw [fetched_loadReturned]; exact hfail) x.lost
    rw [hexec, tineDataReturn_last hp hstale hjob hx hdone hop hr hend, tineWhose_of_atWork hwork hahead, hland]
    have hfirst := firstFault_meetFault (s := loadReturned s p n pl x .clean) (State.canonical_of_eq hs rfl rfl rfl) hfree
      0x04 p 0xFFFF (ringRegion d (x.done / per))
    obtain ⟨tines, hu⟩ := plotAt_loadReturned hp n x .clean
    have hu' : ((loadReturned s p n pl x .clean).meetFault .step 0x04 p 0xFFFF (ringRegion d (x.done / per))).plotAt p =
        (loadReturned s p n pl x .clean).plotAt p := by
      rw [meetFault_frame]
      rfl
    generalize decide (x.done + 1 = tineTiles (tineDesc x.desc) * tileRequests (tineDesc x.desc)) = b
    obtain ⟨tines', hq⟩ := landed_crib (hu'.trans hu) n (ringRegion d (x.done / per)) tile b
    refine ⟨_, rfl, firstFault_after (firstFault_of_before hfirst rfl) ?_, ?_, ?_⟩
    · rw [tineDone_frame]
      rfl
    · rw [regionAt_crib hq, get_set_ready]
    · rw [regionAt_crib hq, get_set_ready]
      exact hpoison

/-! ### The acknowledgements of a STORE (R135, R138, R139) -/

/-- The state after a STORE's oldest request has given its credit back. -/
def storeReturned (s : State) (p n : Nat) (pl : Plot) (x : Transfer) : State :=
  s.mapPlot p (returned n { tineOf pl n with xfer := some { x with done := x.done + 1 } })

section
variable {s : State} {p n : Nat} {pl : Plot} {x : Transfer} (hp : s.plotAt p = some pl) (hstale : (tineOf pl n).stale = 0)
  (hjob : s.job.isSome = true) (hx : (tineOf pl n).xfer = some x) (hdone : x.done < x.next) (hop : (tineDesc x.desc).op = 2)
include hp hstale hjob hx hdone hop

theorem storeAck_stopped (hr : s.runsAt p = false) : storeAck p n s = storeReturned s p n pl x := by
  simp only [storeAck, hp, hstale, hx, hop]
  rw [if_neg (by simp), if_neg (by simpa [Nat.not_le.mpr hdone, Option.isSome_iff_ne_none] using hjob), mapTine_returnCredit hp,
    runsAt_returned hp, if_pos (by simp [hr])]
  rfl

theorem storeAck_last (hr : s.runsAt p = true)
    (hlast : x.done % tileRequests (tineDesc x.desc) + 1 = tileRequests (tineDesc x.desc)) :
    storeAck p n s =
      tineDone (((storeReturned s p n pl x).storeTile p (s.tineWhose pl (tineOf pl n)) (tineDesc x.desc)
        (x.done / tileRequests (tineDesc x.desc))).countToken (s.tineWhose pl (tineOf pl n) == .ahead) (tineDesc x.desc).token) p n
        (decide (x.done + 1 = tineTiles (tineDesc x.desc) * tileRequests (tineDesc x.desc))) := by
  simp only [storeAck, hp, hstale, hx, hop]
  rw [if_neg (by simp), if_neg (by simpa [Nat.not_le.mpr hdone, Option.isSome_iff_ne_none] using hjob), mapTine_returnCredit hp,
    runsAt_returned hp, if_neg (by simp [hr]), if_pos hlast]
  simp only [tineDone, decide_eq_true_eq, storeReturned]

end

/-- A tile for HBM whose check holds is written as it stands, no longer speculative. -/
theorem storeTile_hbm {s : State} {p : Nat} {w : Whose} {d : TineDesc} {t : Nat} (hspace : d.space = 1)
    (hok : tileCheckOk (s.regionAt p (.crib (ringRegion d t))).tile = true) :
    s.storeTile p w d t = s.writeHbmTile (s.translate w (tineAddr d t)).1
      { (s.regionAt p (.crib (ringRegion d t))).tile with
        tag := { (s.regionAt p (.crib (ringRegion d t))).tile.tag with spec := false } } := by
  simp only [State.storeTile, hspace, hok]
  simp

theorem storeTile_port {s : State} {p : Nat} {w : Whose} {d : TineDesc} {t : Nat} (hspace : d.space = 6) :
    s.storeTile p w d t = s.mapPlot p fun q =>
      { q with sendQueue := q.sendQueue ++ [((s.regionAt p (.crib (ringRegion d t))).tile, 0)] } := by
  simp only [State.storeTile, hspace]
  rfl

/-- A token of the current step, counted once a tile has gone. -/
theorem token_storeAck {u s : State} (htokens : u.tokens = s.tokens) (hwf : SMap.wf 0 s.tokens = true) {n : Nat} (hn : n ≠ 0) :
    (u.countToken false n).token false n = (s.token false n + 1) % 2 ^ 18 := by
  rw [token_countToken, token_signalToken_same (by rwa [htokens]) hn]
  simp [State.token, htokens]

theorem storeAcknowledgements : Claims.StoreAcknowledgements := by
  intro p n pl s hp
  have hexec : exec (.storeAck p n) s = .next (storeAck p n s) := rfl
  constructor
  · intro hstale
    rw [hexec, storeAck, hp]
    simp only [bne_iff_ne, ne_eq, hstale, not_false_eq_true, if_true]
    rw [returnStale_eq hp]
  intro x d per tile w addr hs hstale hjob hx hdone hop
  refine ⟨fun hr => ?_, fun hr hw hwf htok hend hspace hok => ?_, fun hr hw hwf htok hend hspace => ?_⟩
  · rw [hexec, storeAck_stopped hp hstale hjob hx hdone hop hr]
    rfl
  · have hregion : ((storeReturned s p n pl x).regionAt p (.crib (ringRegion d (x.done / per)))).tile = tile := by
      rw [storeReturned, regionAt_returned, regionAt_crib hp]
    have hstored := storeTile_hbm (s := storeReturned s p n pl x) (p := p) (w := .step) (t := x.done / per) hspace (by rwa [hregion])
    rw [hregion] at hstored
    have haddr : ((storeReturned s p n pl x).translate .step (tineAddr d (x.done / per))).1 = addr := by
      simp only [addr, hw]
      rfl
    rw [haddr] at hstored
    rw [hexec, storeAck_last hp hstale hjob hx hdone hop hr hend, show s.tineWhose pl (tineOf pl n) = .step from hw, hstored]
    generalize ht : ({ tile with tag := { tile.tag with spec := false } } : Tile) = out
    obtain ⟨htag, hpay, hother⟩ := writeHbmTile_reads (s := storeReturned s p n pl x) hs.2.2.1 addr out
    have hframe := writeHbmTile_frame (storeReturned s p n pl x) addr out
    generalize (storeReturned s p n pl x).writeHbmTile addr out = u at htag hpay hother hframe ⊢
    generalize decide (x.done + 1 = tineTiles (tineDesc x.desc) * tileRequests (tineDesc x.desc)) = b
    have htokens : u.tokens = s.tokens := by rw [hframe]; rfl
    have htoken := token_storeAck htokens hwf htok
    have hcount := countToken_frame u d.token
    have heq : (u.countToken (Whose.step == .ahead) (tineDesc x.desc).token) = u.countToken false d.token := rfl
    rw [heq]
    refine ⟨_, rfl, ?_, ?_, ?_, ?_, ?_, ?_⟩
    · rw [tineDone_frame, hcount, hframe]
      rfl
    · rw [tineDone_frame, hcount, hframe]
      rfl
    · rw [tineDone_frame]
      exact htoken
    · rw [tineDone_frame, hcount]
      rw [← ht] at htag
      exact htag
    · rw [tineDone_frame, hcount]
      rw [← ht] at hpay
      exact hpay
    · rw [tineDone_frame, hcount]
      rw [← ht] at hother
      exact hother
  · have hregion : ((storeReturned s p n pl x).regionAt p (.crib (ringRegion d (x.done / per)))).tile = tile := by
      rw [storeReturned, regionAt_returned, regionAt_crib hp]
    have hstored := storeTile_port (s := storeReturned s p n pl x) (p := p) (w := .step) (t := x.done / per) hspace
    rw [hregion] at hstored
    rw [hexec, storeAck_last hp hstale hjob hx hdone hop hr hend, show s.tineWhose pl (tineOf pl n) = .step from hw, hstored]
    have hu : ((storeReturned s p n pl x).mapPlot p fun q => { q with sendQueue := q.sendQueue ++ [(tile, 0)] }).plotAt p = _ :=
      State.plotAt_mapPlot_same (State.plotAt_mapPlot_same hp _) _
    have hother : ∀ o, o ≠ p → ((storeReturned s p n pl x).mapPlot p fun q =>
        { q with sendQueue := q.sendQueue ++ [(tile, 0)] }).plotAt o = s.plotAt o := fun o ho =>
      (State.plotAt_mapPlot_other _ _ ho).trans (State.plotAt_mapPlot_other s _ ho)
    have hframe : ((storeReturned s p n pl x).mapPlot p fun q => { q with sendQueue := q.sendQueue ++ [(tile, 0)] }) =
        { s with plots := ((storeReturned s p n pl x).mapPlot p fun q => { q with sendQueue := q.sendQueue ++ [(tile, 0)] }).plots } := rfl
    generalize ((storeReturned s p n pl x).mapPlot p fun q => { q with sendQueue := q.sendQueue ++ [(tile, 0)] }) = u at hu hother hframe ⊢
    generalize decide (x.done + 1 = tineTiles (tineDesc x.desc) * tileRequests (tineDesc x.desc)) = b
    have htokens : u.tokens = s.tokens := by rw [hframe]
    have htoken := token_storeAck htokens hwf htok
    have hcount := countToken_frame u d.token
    have heq : (u.countToken (Whose.step == .ahead) (tineDesc x.desc).token) = u.countToken false d.token := rfl
    rw [heq]
    have hu' : (u.countToken false d.token).plotAt p = u.plotAt p := by
      rw [hcount]
      rfl
    obtain ⟨tines, hq⟩ := plotAt_tineDone (hu'.trans hu) n b
    refine ⟨_, _, rfl, ?_, ?_, hq, rfl, fun o ho => ?_⟩
    · rw [tineDone_frame, hcount, hframe]
    · rw [tineDone_frame]
      exact htoken
    · rw [plotAt_tineDone_other ho, hcount]
      exact hother o ho

/-- Settles O30: requests, returns and acknowledgements. -/
theorem tineTransfers : Obligations.TineTransfers := ⟨tineRequests, loadReturns, storeAcknowledgements⟩

/-! ### The Furrow unit: issue slot, scan and records (R70, R71, R73, R80, R81) -/

theorem upToPlot_frame (s : State) (t : Cycle) : s.upToPlot t = { s with cycle := (s.upToPlot t).cycle } := by
  unfold State.upToPlot
  split <;> rfl

theorem upToPlot_plotAt (s : State) (t : Cycle) (p : Nat) : (s.upToPlot t).plotAt p = s.plotAt p := by
  rw [upToPlot_frame]
  rfl

theorem upToPlot_runsAt (s : State) (t : Cycle) (p : Nat) : (s.upToPlot t).runsAt p = s.runsAt p := by
  rw [upToPlot_frame]
  rfl

/-- An instruction enters the array at a count of the plot's cycles. -/
def entersArray (x : FurrowRun) (since : Cycle) (q : Plot) : Plot :=
  { q with scan := none, wait := none, furrow := some { x with since := since } }

/-- The state after an instruction has left the issue slot: its output's ready bit is clear (R73, R130). -/
def enteredArray (s : State) (p : Nat) (x : FurrowRun) : State :=
  (s.setRegion p x.desc.out { s.regionAt p x.desc.out with ready := false }).mapPlot p (entersArray x s.plotCycle)

/-- What stood at the issue slot does not matter to an instruction's entry. -/
theorem setScan_entersArray (s : State) (p : Nat) (r : Option FurrowRun) (l : Loc) (g : Region) (x : FurrowRun) (c : Cycle) :
    ((s.setScan p r).setRegion p l g).mapPlot p (entersArray x c) = (s.setRegion p l g).mapPlot p (entersArray x c) := by
  cases l with
  | pool sl n =>
    unfold State.setScan State.setRegion State.mapPlot
    simp only [modifyNth_modifyNth]
    rfl
  | crib n =>
    unfold State.setScan State.setRegion
    simp only [State.mapPlot_mapPlot]
    rfl
  | loam n =>
    unfold State.setScan State.setRegion
    simp only [State.mapPlot_mapPlot]
    rfl
  | buffer i n =>
    unfold State.setScan State.setRegion
    simp only [State.mapPlot_mapPlot]
    rfl

theorem enteredArray_setScan (s : State) (p : Nat) (r : Option FurrowRun) (x : FurrowRun) :
    enteredArray (s.setScan p r) p x = enteredArray s p x := by
  have hregion : (s.setScan p r).regionAt p x.desc.out = s.regionAt p x.desc.out :=
    regionAt_mapPlot (f := fun pl => { pl with scan := r }) (fun _ => ⟨rfl, rfl⟩) p _
  unfold enteredArray
  rw [hregion]
  exact setScan_entersArray s p r _ _ x s.plotCycle

/-- The instruction at the issue slot enters the array when nothing holds it (R73). -/
theorem releaseFurrow_enters {s : State} {p : Nat} {q : Plot} {r : FurrowRun} {d : FurrowDesc} {c : Cycle} {b : Bool}
    (hq : s.plotAt p = some q) (hscan : q.scan = some r) (hw : q.wait = some (.furrow d, c, b)) (hf : q.furrow = none)
    (hdone : r.scanDone = true) (hleft : r.recordsLeft = 0) : s.releaseFurrow p = enteredArray s p r := by
  rw [State.releaseFurrow, hq]
  simp only [hscan, hw]
  rw [if_neg (by simp [hf, hdone, hleft])]
  rfl

/-- What holds an instruction at the issue slot: the instruction before it, its scan or a record. -/
def HeldAtSlot (q : Plot) : Prop :=
  q.furrow.isSome = true ∨ ∀ r, q.scan = some r → r.scanDone = false ∨ r.recordsLeft ≠ 0

theorem releaseFurrow_held {s : State} {p : Nat} {q : Plot} (hq : s.plotAt p = some q) (h : HeldAtSlot q) :
    s.releaseFurrow p = s := by
  rw [State.releaseFurrow, hq]
  dsimp only
  split
  · next r _ _ _ hr _ =>
    refine if_pos ?_
    rcases h with h | h
    · simp [h]
    · rcases h r hr with h | h <;> simp [h]
  · rfl

/-- What keeps a share's record from leaving (R80). -/
def MaximaStay (r : FurrowRun) : Prop :=
  r.desc.split = false ∨ r.scanDone = false ∨ r.stopped = true ∨ r.sent = true ∨ r.taken < r.desc.below

theorem sendMaxima_stays {s : State} {p : Nat} {q : Plot} (hq : s.plotAt p = some q)
    (h : ∀ r, q.scan = some r → MaximaStay r) : s.sendMaxima p = s := by
  rw [State.sendMaxima, hq]
  dsimp only
  split
  · rfl
  · next r hr =>
    refine if_pos ?_
    rcases h r hr with h | h | h | h | h <;> simp [h]

/-- A share's own record, sealed under the identity of the output. -/
def maximaTile (s : State) (q : Plot) (r : FurrowRun) : Tile :=
  sealTile { tag := s.outTag q r.desc.outTensor r.desc.outShard r.desc.outOffset 0x00 2 192 .none, payload := maximaBytes r.xaMax r.xbMax }

theorem tileCheckOk_sealTile (t : Tile) : tileCheckOk (sealTile t) = true := by
  simp only [tileCheckOk, sealTile, checkValue, tagIdentity, tagShape, beq_self_eq_true]

theorem forTile_maximaTile (s : State) (q : Plot) (r : FurrowRun) :
    forTile r.desc.outTensor r.desc.outShard r.desc.outOffset (maximaTile s q r) = true := by
  simp [forTile, maximaTile, sealTile, State.outTag]

theorem sendMaxima_sends {s : State} {p : Nat} {q : Plot} {r : FurrowRun} (hq : s.plotAt p = some q) (hr : q.scan = some r)
    (hsplit : r.desc.split = true) (hdone : r.scanDone = true) (hstop : r.stopped = false) (hsent : r.sent = false)
    (hbelow : r.desc.below ≤ r.taken) :
    s.sendMaxima p = s.mapPlot p fun x =>
      { x with scan := some { r with sent := true }, sendQueue := x.sendQueue ++ [(maximaTile s q r, 0)] } := by
  simp only [State.sendMaxima, hq, hr]
  rw [if_neg (by simp [hsplit, hdone, hstop, hsent, Nat.not_lt.mpr hbelow])]
  rfl

/-- No record is taken: none is due, or none is here. -/
theorem takeMaxima_stays {s : State} {p : Nat} {q : Plot} (hq : s.plotAt p = some q)
    (h : ∀ r, q.scan = some r → r.scanDone = false ∨ r.recordsLeft = 0 ∨ (recordsFor r.desc q.maxima).1 = []) :
    s.takeMaxima p = s := by
  rw [State.takeMaxima, hq]
  dsimp only
  split
  · rfl
  · next r hr =>
    refine if_pos ?_
    rcases h r hr with h | h | h
    · simp [h]
    · simp [h]
    · simp [h]

/-- Records that are not an instruction's leave its list as it is. -/
theorem recordsFor_append {d : FurrowDesc} {l : List Tile} {m : Tile} (hl : (recordsFor d l).1 = [])
    (hm : forTile d.outTensor d.outShard d.outOffset m = true) : recordsFor d (l ++ [m]) = ([m], l) := by
  unfold recordsFor at hl ⊢
  rw [List.partition_eq_filter_filter] at hl ⊢
  have hnone : ∀ x ∈ l, forTile d.outTensor d.outShard d.outOffset x = false := by
    simpa [List.filter_eq_nil_iff] using hl
  have hall : l.filter (not ∘ forTile d.outTensor d.outShard d.outOffset) = l :=
    List.filter_eq_self.mpr fun x hx => by simp [hnone x hx]
  have hnil : l.filter (forTile d.outTensor d.outShard d.outOffset) = [] := hl
  simp only [List.filter_append, hnil, hall, List.nil_append, List.filter_cons, hm, List.filter_nil]
  simp [hm]

/-- The one record that has come is put to the tag check. -/
theorem takeMaxima_one {s : State} {p : Nat} {q : Plot} {r : FurrowRun} {m : Tile} {rest : List Tile} (hq : s.plotAt p = some q)
    (hr : q.scan = some r) (hdone : r.scanDone = true) (hleft : 0 < r.recordsLeft) (hmine : recordsFor r.desc q.maxima = ([m], rest)) :
    s.takeMaxima p =
      match (s.mapPlot p fun x => { x with maxima := rest }).checkAll p r.desc.bundle
          (recordTmpl r.desc.outTensor r.desc.outShard r.desc.outOffset 2) [m] with
      | (u, none) => u.setScan p (some (stoppedRun r))
      | (u, some l) => u.setScan p (some (l.foldl takeRecord r)) := by
  have htake : [m].take r.recordsLeft = [m] := List.take_of_length_le hleft
  have hdrop : [m].drop r.recordsLeft = [] := List.drop_of_length_le hleft
  simp only [State.takeMaxima, hq, hr, hmine, htake, hdrop]
  rw [if_neg (by simp [hdone, Nat.ne_of_gt hleft])]
  rfl

theorem checkAll_one_ok {s : State} {p bundle : Nat} {q : Plot} {t : TagTemplate} {m : Tile} (hq : s.plotAt p = some q)
    (hok : s.checkTile q t m = .ok m) : s.checkAll p bundle t [m] = (s, some [m]) := by
  simp [State.checkAll, hq, hok, State.orFault]

theorem checkAll_one_fault {s : State} {p bundle : Nat} {q : Plot} {t : TagTemplate} {m : Tile} {format : Bool}
    (hq : s.plotAt p = some q) (hbad : s.checkTile q t m = .mismatch format) :
    s.checkAll p bundle t [m] = (s.plotFault p (if format then 0x03 else 0x02) bundle 0xFFFF, none) := by
  simp [State.checkAll, hq, hbad, State.orFault, ReadOutcome.kind]

/-- Two plots of one job and one dictionary that stand at the same step and batch. -/
structure SameWork (s u : State) (q v : Plot) : Prop where
  nums : u.nums = s.nums
  job : u.job = s.job
  arrived : v.arrived = q.arrived
  lastTicket : v.lastTicket = q.lastTicket

theorem SameWork.batchOf {s u : State} {q v : Plot} (h : SameWork s u q v) : u.batchOf v = s.batchOf q := by
  simp only [State.batchOf, h.job, h.lastTicket]

theorem SameWork.serving {s u : State} {q v : Plot} (h : SameWork s u q v) : u.serving = s.serving := by
  simp only [State.serving, h.job]

theorem SameWork.evaluating {s u : State} {q v : Plot} (h : SameWork s u q v) : u.evaluating = s.evaluating := by
  simp only [State.evaluating, h.job]

theorem SameWork.singleField {s u : State} {q v : Plot} (h : SameWork s u q v) : u.singleField = s.singleField := by
  simp only [State.singleField, h.job]

theorem SameWork.num {s u : State} {q v : Plot} (h : SameWork s u q v) (k : Nat) : u.num k = s.num k := by
  simp only [State.num, h.nums]

theorem SameWork.workStep {s u : State} {q v : Plot} (h : SameWork s u q v) : u.workStep v = s.workStep q := by
  simp only [State.workStep, h.batchOf, h.serving, h.evaluating, h.num, h.arrived]

theorem SameWork.workAttempt {s u : State} {q v : Plot} (h : SameWork s u q v) : u.workAttempt v = s.workAttempt q := by
  simp only [State.workAttempt, h.batchOf, h.serving, h.evaluating, h.num, h.arrived]

theorem SameWork.fieldOf {s u : State} {q v : Plot} (h : SameWork s u q v) (r : FieldRole) : u.fieldOf v r = s.fieldOf q r := by
  simp only [State.fieldOf, h.singleField, h.batchOf, h.serving, h.evaluating, h.num, h.workStep]

theorem SameWork.speculative {s u : State} {q v : Plot} (h : SameWork s u q v) : speculative u v = speculative s q := by
  simp only [Machine.speculative, h.serving, h.evaluating, h.arrived]

/-- The tag check looks at no more than that (R141, R142). -/
theorem SameWork.checkTile {s u : State} {q v : Plot} (h : SameWork s u q v) (t : TagTemplate) (m : Tile) :
    u.checkTile v t m = s.checkTile q t m := by
  simp only [State.checkTile, h.workStep, h.workAttempt, h.fieldOf, h.speculative]

theorem SameWork.outTag {s u : State} {q v : Plot} (h : SameWork s u q v) (id shard : W32) (bo : BitVec 40) (f : BitVec 8)
    (rows cols : Nat) (r : FieldRole) : u.outTag v id shard bo f rows cols r = s.outTag q id shard bo f rows cols r := by
  simp only [State.outTag, h.workStep, h.workAttempt, h.fieldOf, h.speculative]

/-- A record that passes the tag check is combined into the maxima. -/
theorem takeMaxima_takes {s : State} {p : Nat} {q : Plot} {r : FurrowRun} {m : Tile} {rest : List Tile} (hq : s.plotAt p = some q)
    (hr : q.scan = some r) (hdone : r.scanDone = true) (hleft : 0 < r.recordsLeft) (hmine : recordsFor r.desc q.maxima = ([m], rest))
    (hok : s.checkTile q (recordTmpl r.desc.outTensor r.desc.outShard r.desc.outOffset 2) m = .ok m) :
    s.takeMaxima p = s.mapPlot p fun x => { x with maxima := rest, scan := some (takeRecord r m) } := by
  have hsame : SameWork s (s.mapPlot p fun x => { x with maxima := rest }) q { q with maxima := rest } := ⟨rfl, rfl, rfl, rfl⟩
  rw [← hsame.checkTile] at hok
  rw [takeMaxima_one hq hr hdone hleft hmine, checkAll_one_ok (State.plotAt_mapPlot_same hq _) hok]
  exact State.mapPlot_mapPlot ..

/-- A record that fails the tag check stops the instruction. -/
theorem takeMaxima_faults {s : State} {p : Nat} {q : Plot} {r : FurrowRun} {m : Tile} {rest : List Tile} (hq : s.plotAt p = some q)
    (hr : q.scan = some r) (hdone : r.scanDone = true) (hleft : 0 < r.recordsLeft) (hmine : recordsFor r.desc q.maxima = ([m], rest))
    (hbad : s.checkTile q (recordTmpl r.desc.outTensor r.desc.outShard r.desc.outOffset 2) m = .mismatch false) :
    s.takeMaxima p = ((s.mapPlot p fun x => { x with maxima := rest }).plotFault p 0x02 r.desc.bundle 0xFFFF).setScan p
      (some (stoppedRun r)) := by
  have hsame : SameWork s (s.mapPlot p fun x => { x with maxima := rest }) q { q with maxima := rest } := ⟨rfl, rfl, rfl, rfl⟩
  rw [← hsame.checkTile] at hbad
  rw [takeMaxima_one hq hr hdone hleft hmine, checkAll_one_fault (State.plotAt_mapPlot_same hq _) hbad]
  rfl

/-- A record of another step fails the tag check as a mismatch (R141). -/
theorem checkTile_stepMismatch {s : State} {q : Plot} {id shard : W32} {bo : BitVec 40} {rows : Nat} {m : Tile}
    (hv : m.tag.valid = true) (hp : m.tag.poison = false) (hs : m.tag.stepLo ≠ BitVec.ofNat 32 (s.workStep q)) :
    s.checkTile q (recordTmpl id shard bo rows) m = .mismatch false := by
  simp [State.checkTile, tagCheck, recordTmpl, hv, hp, hs]

/-! #### The instruction at the issue slot -/

theorem furrowIssue_of_issuing {s : State} {p : Nat} {pl : Plot} (hi : s.issuing p = some pl) (d : FurrowDesc) :
    furrowIssue p d s = s.mapPlot p fun q =>
      { q with wait := some (.furrow d, s.cycle, false)
               scan := some { desc := d, since := s.plotCycle, recordsLeft := if d.split then d.holders else 0 } } := by
  simp only [furrowIssue, hi, Option.isSome_some, if_true]
  exact State.mapPlot_mapPlot ..

/-- The instruction at the issue slot after its scan (R71, R74). -/
def scanned (r : FurrowRun) (as bs : List Tile) : FurrowRun :=
  { r with scanDone := true, xaMax := (aLines r.desc as).map lineMax, xbMax := (bLines r.desc bs).map lineMax }

theorem headlandScanDone_defined {s : State} {p : Nat} {pl : Plot} {r : FurrowRun} {as bs : List Tile} (hr : s.runsAt p = true)
    (hp : s.plotAt p = some pl) (hscan : pl.scan = some r) (hnot : r.scanDone = false)
    (hread : (s.upToPlot (r.since + BitVec.ofNat 64 (scanCycles r.desc))).furrowOperands p r.desc =
      (s.upToPlot (r.since + BitVec.ofNat 64 (scanCycles r.desc)), some (as, bs)))
    (hdef : furrowDefined r.desc as bs = true) :
    headlandScanDone p s =
      ((s.upToPlot (r.since + BitVec.ofNat 64 (scanCycles r.desc))).setScan p (some (scanned r as bs))).settleScan p := by
  simp only [headlandScanDone, hr, hp, Option.bind_some, hscan, hnot, hread, hdef]
  rfl

theorem plotAt_setScan {s : State} {p : Nat} {pl : Plot} (hp : s.plotAt p = some pl) (r : Option FurrowRun) :
    (s.setScan p r).plotAt p = some { pl with scan := r } := State.plotAt_mapPlot_same hp _

theorem setScan_setScan (s : State) (p : Nat) (r r' : Option FurrowRun) : (s.setScan p r).setScan p r' = s.setScan p r' :=
  State.mapPlot_mapPlot ..

/-- A scan of which no record leaves and none comes: only the release follows. -/
theorem settleScan_releases {s : State} {p : Nat} {q : Plot} (hq : s.plotAt p = some q)
    (hsend : ∀ r, q.scan = some r → MaximaStay r)
    (htake : ∀ r, q.scan = some r → r.scanDone = false ∨ r.recordsLeft = 0 ∨ (recordsFor r.desc q.maxima).1 = []) :
    s.settleScan p = s.releaseFurrow p := by
  rw [State.settleScan, sendMaxima_stays hq hsend, takeMaxima_stays hq htake, sendMaxima_stays hq hsend]

/-- A share's record leaves with the scan, and the records of others are awaited. -/
theorem settleScan_sends {s : State} {p : Nat} {q : Plot} {r : FurrowRun} (hq : s.plotAt p = some q) (hr : q.scan = some r)
    (hsplit : r.desc.split = true) (hdone : r.scanDone = true) (hstop : r.stopped = false) (hsent : r.sent = false)
    (hbelow : r.desc.below ≤ r.taken) (hleft : 0 < r.recordsLeft) (hnone : (recordsFor r.desc q.maxima).1 = []) :
    s.settleScan p = s.mapPlot p fun x =>
      { x with scan := some { r with sent := true }, sendQueue := q.sendQueue ++ [(maximaTile s q r, 0)] } := by
  have hsends := sendMaxima_sends hq hr hsplit hdone hstop hsent hbelow
  rw [State.mapPlot_congr (g := fun x =>
    { x with scan := some { r with sent := true }, sendQueue := q.sendQueue ++ [(maximaTile s q r, 0)] }) hq rfl] at hsends
  have hu := State.plotAt_mapPlot_same hq fun x =>
    { x with scan := some { r with sent := true }, sendQueue := q.sendQueue ++ [(maximaTile s q r, 0)] }
  rw [State.settleScan, hsends, takeMaxima_stays hu, sendMaxima_stays hu, releaseFurrow_held hu]
  · exact Or.inr fun x hx => Or.inr (by
      obtain rfl := Option.some.inj hx
      exact Nat.ne_of_gt hleft)
  · intro x hx
    obtain rfl := Option.some.inj hx
    exact Or.inr (Or.inr (Or.inr (Or.inl rfl)))
  · intro x hx
    obtain rfl := Option.some.inj hx
    exact Or.inr (Or.inr hnone)

/-! #### The records of other holders (R80, R81) -/

theorem maximaRecord_eq {s : State} {p : Nat} {pl : Plot} (hr : s.runsAt p = true) (hp : s.plotAt p = some pl) (m : Tile) :
    maximaRecord p m s = (s.mapPlot p fun q => { q with maxima := pl.maxima ++ [m] }).settleScan p := by
  rw [maximaRecord, if_neg (by simp [hr]), State.mapPlot_congr (g := fun q => { q with maxima := pl.maxima ++ [m] }) hp rfl]

/-- Two maxima combined, byte by byte. -/
theorem takeRecord_xaMax {r : FurrowRun} (m : Tile) {i : Nat} (hlen : r.xaMax.length = r.desc.rows) (hi : i < r.desc.rows)
    (hrows : r.desc.rows ≤ 192) :
    nth 0 (takeRecord r m).xaMax i = max (nth 0 r.xaMax i) (nth 0 m.payload i).toNat := by
  have hbyte : nth 0 (((m.payload.take 192).map (·.toNat)).take r.desc.rows) i = (nth 0 m.payload i).toNat := by
    simp only [nth_eq_getD, List.getElem?_take, hi, if_true, List.getElem?_map, show i < 192 by omega]
    cases m.payload[i]? <;> rfl
  rw [takeRecord]
  simp only [maxBytes]
  rw [nth_eq_getD, List.getElem?_map, List.getElem?_range (by omega), Option.map_some, Option.getD_some, hbyte]

section
variable {s : State} {p : Nat} {pl : Plot} {r : FurrowRun} {m : Tile} (hr : s.runsAt p = true) (hp : s.plotAt p = some pl)
  (hscan : pl.scan = some r) (hdone : r.scanDone = true) (hleft : 0 < r.recordsLeft) (hnone : (recordsFor r.desc pl.maxima).1 = [])
  (hmine : forTile r.desc.outTensor r.desc.outShard r.desc.outOffset m = true)
include hr hp hscan hdone hleft hnone hmine

/-- A record that the instruction waits for, before its own leaves: it is combined, and what the instruction then does. -/
theorem maximaRecord_takes (hok : s.checkTile pl (recordTmpl r.desc.outTensor r.desc.outShard r.desc.outOffset 2) m = .ok m)
    (hstay : MaximaStay r) :
    maximaRecord p m s = ((s.setScan p (some (takeRecord r m))).sendMaxima p).releaseFurrow p := by
  have hu := State.plotAt_mapPlot_same hp fun q => { q with maxima := pl.maxima ++ [m] }
  have hsame : SameWork s (s.mapPlot p fun q => { q with maxima := pl.maxima ++ [m] }) pl { pl with maxima := pl.maxima ++ [m] } :=
    ⟨rfl, rfl, rfl, rfl⟩
  rw [← hsame.checkTile] at hok
  rw [maximaRecord_eq hr hp, State.settleScan, sendMaxima_stays hu, takeMaxima_takes hu hscan hdone hleft
    (recordsFor_append hnone hmine) hok, State.mapPlot_mapPlot,
    State.mapPlot_congr (g := fun q => { q with scan := some (takeRecord r m) }) hp rfl]
  · rfl
  · intro x hx
    obtain rfl := Option.some.inj (hscan.symm.trans hx)
    exact hstay

theorem maximaRecord_faults (hv : m.tag.valid = true) (hpoison : m.tag.poison = false)
    (hstep : m.tag.stepLo ≠ BitVec.ofNat 32 (s.workStep pl)) (hsent : r.sent = true) :
    maximaRecord p m s = ((s.plotFault p 0x02 r.desc.bundle 0xFFFF).setScan p (some (stoppedRun r))).releaseFurrow p := by
  have hu := State.plotAt_mapPlot_same hp fun q => { q with maxima := pl.maxima ++ [m] }
  have hsame : SameWork s (s.mapPlot p fun q => { q with maxima := pl.maxima ++ [m] }) pl { pl with maxima := pl.maxima ++ [m] } :=
    ⟨rfl, rfl, rfl, rfl⟩
  rw [← hsame.workStep] at hstep
  have hback : ((s.mapPlot p fun q => { q with maxima := pl.maxima ++ [m] }).mapPlot p fun x => { x with maxima := pl.maxima }) = s := by
    rw [State.mapPlot_mapPlot, mapPlot_self hp rfl]
  have hplot : ((s.plotFault p 0x02 r.desc.bundle 0xFFFF).setScan p (some (stoppedRun r))).plotAt p =
      some { pl with scan := some (stoppedRun r) } := by
    refine plotAt_setScan ?_ _
    rw [State.plotFault, meetFault_frame]
    exact hp
  rw [maximaRecord_eq hr hp, State.settleScan, sendMaxima_stays hu, takeMaxima_faults hu hscan hdone hleft
    (recordsFor_append hnone hmine) (checkTile_stepMismatch hv hpoison hstep), hback, sendMaxima_stays hplot]
  · intro x hx
    obtain rfl := Option.some.inj hx
    exact Or.inr (Or.inr (Or.inl rfl))
  · intro x hx
    obtain rfl := Option.some.inj (hscan.symm.trans hx)
    exact Or.inr (Or.inr (Or.inr (Or.inl hsent)))

end

theorem num_meetFault_other {s : State} {w : Whose} {kind plot bundle region k : Nat} (hk : kindCounter kind ≠ k) :
    (s.meetFault w kind plot bundle region).num k = s.num k := by
  unfold State.meetFault
  dsimp only
  split
  · exact State.num_bump_other _ _ hk
  · rw [sendAbort_frame]
    exact State.num_bump_other _ _ hk

/-- Faults do not move the plots' count. -/
theorem plotCycle_plotFault {s : State} {p kind bundle region : Nat} (hk : kindCounter kind ≠ 0x700004) :
    (s.plotFault p kind bundle region).plotCycle = s.plotCycle := by
  have hnum : (s.plotFault p kind bundle region).num 0x700004 = s.num 0x700004 := num_meetFault_other hk
  have hframe := meetFault_frame s (s.whoseAt p) kind p bundle region
  unfold State.plotCycle
  rw [hnum]
  unfold State.plotFault
  rw [hframe]

theorem plotAt_plotFault (s : State) (p kind bundle region o : Nat) :
    (s.plotFault p kind bundle region).plotAt o = s.plotAt o := by
  rw [State.plotFault, meetFault_frame]
  rfl

/-- A scan of an instruction that has no share waits, or releases it. -/
theorem settleScan_unsplit {s : State} {p : Nat} {pl : Plot} {r : FurrowRun} (hp : s.plotAt p = some pl)
    (hsplit : r.desc.split = false) (hleft : r.recordsLeft = 0) :
    (s.setScan p (some r)).settleScan p = (s.setScan p (some r)).releaseFurrow p := by
  refine settleScan_releases (plotAt_setScan hp _) (fun x hx => ?_) fun x hx => ?_
  · obtain rfl := Option.some.inj hx
    exact Or.inl hsplit
  · obtain rfl := Option.some.inj hx
    exact Or.inr (Or.inl hleft)

/-- Behind an instruction that has not left the array the issue slot waits on. -/
theorem setScan_release_busy {s : State} {p : Nat} {pl : Plot} (hp : s.plotAt p = some pl) (hbusy : pl.furrow.isSome = true)
    (r : Option FurrowRun) : (s.setScan p r).releaseFurrow p = s.setScan p r :=
  releaseFurrow_held (q := { pl with scan := r }) (plotAt_setScan hp r) (Or.inl hbusy)

theorem setScan_release_enters {s : State} {p : Nat} {pl : Plot} {d : FurrowDesc} {c : Cycle} {b : Bool} {r : FurrowRun}
    (hp : s.plotAt p = some pl) (hw : pl.wait = some (.furrow d, c, b)) (hf : pl.furrow = none) (hdone : r.scanDone = true)
    (hleft : r.recordsLeft = 0) : (s.setScan p (some r)).releaseFurrow p = enteredArray s p r := by
  rw [releaseFurrow_enters (q := { pl with scan := some r }) (plotAt_setScan hp _) rfl hw hf hdone hleft, enteredArray_setScan]

/-- While records are awaited the issue slot waits on. -/
theorem setScan_release_awaits {s : State} {p : Nat} {pl : Plot} {r : FurrowRun} (hp : s.plotAt p = some pl)
    (hleft : r.recordsLeft ≠ 0) : (s.setScan p (some r)).releaseFurrow p = s.setScan p (some r) := by
  refine releaseFurrow_held (q := { pl with scan := some r }) (plotAt_setScan hp _) (Or.inr fun y hy => Or.inr ?_)
  obtain rfl := Option.some.inj hy
  exact hleft

/-- A share's record that has left is not sent again. -/
theorem setScan_sent {s : State} {p : Nat} {pl : Plot} {r : FurrowRun} (hp : s.plotAt p = some pl) (hsent : r.sent = true) :
    (s.setScan p (some r)).sendMaxima p = s.setScan p (some r) := by
  refine sendMaxima_stays (q := { pl with scan := some r }) (plotAt_setScan hp _) fun y hy => ?_
  obtain rfl := Option.some.inj hy
  exact Or.inr (Or.inr (Or.inr (Or.inl hsent)))

/-- A share's record that leaves, sealed. -/
theorem setScan_sends {s : State} {p : Nat} {pl : Plot} {r : FurrowRun} (hp : s.plotAt p = some pl) (hsplit : r.desc.split = true)
    (hdone : r.scanDone = true) (hstop : r.stopped = false) (hsent : r.sent = false) (hbelow : r.desc.below ≤ r.taken) :
    ∃ o : Tile, o.payload = maximaBytes r.xaMax r.xbMax ∧ tileCheckOk o = true ∧
      (s.setScan p (some r)).sendMaxima p = s.mapPlot p fun x =>
        { x with scan := some { r with sent := true }, sendQueue := pl.sendQueue ++ [(o, 0)] } := by
  have hsends := sendMaxima_sends (q := { pl with scan := some r }) (plotAt_setScan hp _) rfl hsplit hdone hstop hsent hbelow
  refine ⟨maximaTile (s.setScan p (some r)) { pl with scan := some r } r, rfl, tileCheckOk_sealTile _, ?_⟩
  generalize maximaTile _ _ r = o at hsends ⊢
  rw [hsends]
  exact (State.mapPlot_mapPlot ..).trans (State.mapPlot_congr hp rfl)

/-- A share's record that leaves with the scan, under the identity of its output. -/
theorem setScan_settle_sends {s : State} {p : Nat} {pl : Plot} {r : FurrowRun} (hp : s.plotAt p = some pl)
    (hsplit : r.desc.split = true) (hdone : r.scanDone = true) (hstop : r.stopped = false) (hsent : r.sent = false)
    (hbelow : r.desc.below ≤ r.taken) (hleft : 0 < r.recordsLeft) (hnone : (recordsFor r.desc pl.maxima).1 = []) :
    ∃ o : Tile, o.payload = maximaBytes r.xaMax r.xbMax ∧ forTile r.desc.outTensor r.desc.outShard r.desc.outOffset o = true ∧
      tileCheckOk o = true ∧ (s.setScan p (some r)).settleScan p = s.mapPlot p fun x =>
        { x with scan := some { r with sent := true }, sendQueue := pl.sendQueue ++ [(o, 0)] } := by
  have hsends := settleScan_sends (q := { pl with scan := some r }) (plotAt_setScan hp _) rfl hsplit hdone hstop hsent hbelow hleft hnone
  refine ⟨maximaTile (s.setScan p (some r)) { pl with scan := some r } r, rfl, forTile_maximaTile _ _ _, tileCheckOk_sealTile _, ?_⟩
  generalize maximaTile _ _ r = o at hsends ⊢
  rw [hsends]
  exact State.mapPlot_mapPlot ..

/-- Settles O24: the issue slot, the scan, and the records that come. -/
theorem furrowIssueScanAndRecords : Obligations.FurrowIssueScanAndRecords := by
  intro p pl s hruns hp hstop enters
  have hr := State.runsAt_of hruns hp hstop
  have hrecord : ∀ m, exec (.maximaRecord p m) s = .next (maximaRecord p m s) := fun _ => rfl
  refine ⟨fun d hh hw => ?_, fun r as bs hscan hnot => ?_, fun m hopen => ?_, fun r m hscan hdone hleft hnone hmine => ?_⟩
  · have hexec : exec (.furrowIssue p d) s = .next (furrowIssue p d s) := rfl
    rw [hexec, furrowIssue_of_issuing (State.issuing_of hruns hp hstop hh hw)]
  · intro u x hread hdef
    have hexec : exec (.headlandScanDone p) s = .next (headlandScanDone p s) := rfl
    rw [headlandScanDone_defined hr hp hscan hnot hread hdef] at hexec
    have hu : u.plotAt p = some pl := (upToPlot_plotAt s _ p).trans hp
    refine ⟨fun hsplit hleft hbusy => ?_, fun d c b hsplit hleft hfree hw => ?_, fun hsplit hsent hstopped hbelow hleft hnone => ?_⟩
    · rw [hexec, settleScan_unsplit (r := scanned r as bs) hu hsplit hleft,
        setScan_release_busy hu hbusy]
      rfl
    · rw [hexec, settleScan_unsplit (r := scanned r as bs) hu hsplit hleft,
        setScan_release_enters (r := scanned r as bs) hu hw hfree rfl hleft]
      rfl
    · obtain ⟨o, hpayload, hmine, hok, hsends⟩ :=
        setScan_settle_sends (r := scanned r as bs) hu hsplit rfl hstopped hsent hbelow hleft hnone
      exact ⟨o, hexec.trans (congrArg Host.Outcome.next hsends), hpayload, hmine, hok⟩
  · have hu := State.plotAt_mapPlot_same hp fun q => { q with maxima := pl.maxima ++ [m] }
    have hwaits : ∀ x, pl.scan = some x → x.scanDone = false := by
      intro x hx
      simpa [hx] using hopen
    rw [hrecord, maximaRecord_eq hr hp, settleScan_releases hu (fun x hx => Or.inr (Or.inl (hwaits x hx))) fun x hx => Or.inl (hwaits x hx),
      releaseFurrow_held hu (Or.inr fun x hx => Or.inl (hwaits x hx))]
  · refine ⟨fun hok => ⟨fun i hlen hi hrows => takeRecord_xaMax m hlen hi hrows, fun hsent hmore => ?_,
      fun hsplit hsent hstopped hbelow hmore => ?_, fun d c b hsent hone hfree hw => ?_⟩, ?_⟩
    · rw [hrecord, maximaRecord_takes hr hp hscan hdone hleft hnone hmine hok (Or.inr (Or.inr (Or.inr (Or.inl hsent)))),
        setScan_sent (r := takeRecord r m) hp hsent, setScan_release_awaits (r := takeRecord r m) hp (Nat.sub_ne_zero_of_lt hmore)]
      rfl
    · obtain ⟨o, hpayload, hok', hsends⟩ := setScan_sends (r := takeRecord r m) hp hsplit hdone hstopped hsent (Nat.le_of_eq hbelow.symm)
      refine ⟨o, ?_, hpayload, hok'⟩
      rw [hrecord, maximaRecord_takes hr hp hscan hdone hleft hnone hmine hok (Or.inr (Or.inr (Or.inr (Or.inr (by omega))))), hsends,
        releaseFurrow_held (State.plotAt_mapPlot_same hp _)]
      refine Or.inr fun y hy => Or.inr ?_
      obtain rfl := Option.some.inj hy
      exact Nat.sub_ne_zero_of_lt hmore
    · rw [hrecord, maximaRecord_takes hr hp hscan hdone hleft hnone hmine hok (Or.inr (Or.inr (Or.inr (Or.inl hsent)))),
        setScan_sent (r := takeRecord r m) hp hsent,
        setScan_release_enters (r := takeRecord r m) hp hw hfree hdone (show r.recordsLeft - 1 = 0 by omega)]
      rfl
    · intro j hs hwork hsent hv hpoison hstep
      have hfirst := firstFault_plotFault hs hwork 0x02 r.desc.bundle 0xFFFF
      have hp' : (s.plotFault p 0x02 r.desc.bundle 0xFFFF).plotAt p = some pl := (plotAt_plotFault ..).trans hp
      have hcycle : (s.plotFault p 0x02 r.desc.bundle 0xFFFF).plotCycle = s.plotCycle := plotCycle_plotFault (by decide)
      have hplots : (s.plotFault p 0x02 r.desc.bundle 0xFFFF).plots = s.plots := by
        rw [State.plotFault, meetFault_frame]
      rw [hrecord, maximaRecord_faults hr hp hscan hdone hleft hnone hmine hv hpoison hstep hsent]
      generalize s.plotFault p 0x02 r.desc.bundle 0xFFFF = u at hfirst hp' hcycle hplots ⊢
      refine ⟨fun hbusy => ⟨_, rfl, ?_, ?_⟩, fun d c b hfree hw => ⟨u, hfirst, hplots, ?_⟩⟩
      · rw [setScan_release_busy hp' hbusy]
        exact firstFault_after hfirst rfl
      · rw [setScan_release_busy hp' hbusy]
        simp only [State.setScan, State.mapPlot, hplots]
      · rw [setScan_release_enters (r := stoppedRun r) hp' hw hfree rfl rfl, enteredArray, hcycle]
        rfl

/-! ### Passes of the Furrow array (R70, R72, R85 to R88) -/

theorem plotAt_setFurrow {s : State} {p : Nat} {pl : Plot} (hp : s.plotAt p = some pl) (r : Option FurrowRun) :
    (s.setFurrow p r).plotAt p = some { pl with furrow := r } := State.plotAt_mapPlot_same hp _

theorem checksumOn_congr {s u : State} {q v : Plot} (h : SameWork s u q v) : u.checksumOn v = s.checksumOn q := by
  simp only [State.checksumOn, State.whose, State.attemptOf, h.serving, h.evaluating, h.batchOf, h.num, h.workStep, h.job, h.arrived]

section
variable {s : State} {p : Nat} {pl : Plot} {r : FurrowRun} {as bs : List Tile} (hr : s.runsAt p = true)
  (hp : s.plotAt p = some pl) (hfurrow : pl.furrow = some r) (hstop : r.stopped = false) (hnext : r.next < r.desc.k)
include hr hp hfurrow hstop hnext

theorem furrowPass_passes (hread : s.furrowOperands p r.desc = (s, some (as, bs))) (hdef : furrowDefined r.desc as bs = true)
    {sums : List (List (Option Int))} (hshadow : r.shadow = none) (hsums : furrowPassSums r as bs = some sums) (ok : Bool) :
    furrowPass p ok s = ((s.upToPlot (passedRun r sums).copied).setFurrow p (some (passedRun r sums))).checkPass p pl r.desc ok := by
  have hunder : passUnderWay r = true := by simp [passUnderWay, hstop, hnext]
  simp only [furrowPass, hr, hp, hfurrow, hunder, hshadow, hread, passSums, hdef, hsums]
  rfl

theorem passOverflow_overflows (hread : s.furrowOperands p r.desc = (s, some (as, bs))) (hnone : furrowPassSums r as bs = none) :
    passOverflow p s =
      if r.rep = 3 then ((s.setFurrow p (some (stoppedRun r))).plotFault p 0x0C r.desc.bundle 0xFFFF).suspectPlot p
      else ((s.setFurrow p (some { r with rep := r.rep + 1, since := s.plotCycle + 12 })).bump 0x303001).mapWhose (s.whose pl)
        fun a => { a with repeats := a.repeats + 1 } := by
  have hunder : passUnderWay r = true := by simp [passUnderWay, hstop, hnext]
  simp only [passOverflow, hr, hp, hfurrow, hunder, hread, hnone, Option.isSome_none, Bool.and_false]
  rfl

/-- A poisoned operand stops the instruction. -/
theorem furrowPass_poison (hshadow : r.shadow = none) {o : TileRef} {rest : List TileRef} (ha : r.desc.a = o :: rest)
    (hpoison : s.readTile p o = .poison) (ok : Bool) :
    furrowPass p ok s = (s.plotFault p 0x05 r.desc.bundle (locNumber o.loc)).setFurrow p (some (stoppedRun r)) := by
  have hunder : passUnderWay r = true := by simp [passUnderWay, hstop, hnext]
  have hread : s.furrowOperands p r.desc = (s.plotFault p 0x05 r.desc.bundle (locNumber o.loc), none) := by
    simp [State.furrowOperands, ha, State.readAll, State.readOrFault, hpoison, State.orFault, ReadOutcome.kind]
  simp only [furrowPass, hr, hp, hfurrow, hunder, hshadow, hread]
  rfl

end

theorem mem_addOnce (l : List Nat) (n : Nat) : n ∈ addOnce l n := by
  unfold addOnce has
  split
  · next h => simpa using h
  · simp

/-- A suspect site: only the recovery record changes. -/
theorem suspectPlot_eq {s : State} {p : Nat} {pl : Plot} (hp : s.plotAt p = some pl) :
    s.suspectPlot p = { s with recovery := { s.recovery with suspectSites := addOnce s.recovery.suspectSites pl.site } } := by
  simp only [State.suspectPlot, hp, State.mapRecovery]

/-- A first fault also counts from after changes of the recovery record alone. -/
theorem firstFault_suspect {s t : State} {plot kind bundle region : Nat} (h : FirstFault s t plot kind bundle region) (p : Nat) :
    FirstFault s (t.suspectPlot p) plot kind bundle region := by
  unfold State.suspectPlot
  split
  · obtain ⟨hfault, hcount, hother, hframe⟩ := h
    refine ⟨hfault, hcount, hother, ?_⟩
    rw [State.mapRecovery, hframe]
  · exact h

/-- A fault attributed to a plot at work, from a state before changes that reports do not look at. -/
theorem firstFault_suspected {s u : State} {p kind bundle region : Nat} {pl : Plot} {j : Job} (hu : Canonical u) (hwork : AtWork u p pl j)
    (hbefore : u = { s with plots := u.plots, job := u.job, fabric := u.fabric, outbox := u.outbox, cycle := u.cycle, recovery := u.recovery }) :
    FirstFault s ((u.plotFault p kind bundle region).suspectPlot p) p kind bundle region ∧
      pl.site ∈ ((u.plotFault p kind bundle region).suspectPlot p).recovery.suspectSites ∧
      ((u.plotFault p kind bundle region).suspectPlot p).plots = u.plots := by
  have hplots : (u.plotFault p kind bundle region).plots = u.plots := by rw [State.plotFault, meetFault_frame]
  have hp : (u.plotFault p kind bundle region).plotAt p = some pl := (plotAt_plotFault ..).trans hwork.2.1
  refine ⟨firstFault_suspect (firstFault_of_before (firstFault_plotFault hu hwork _ _ _) hbefore) p, ?_, ?_⟩
  · rw [suspectPlot_eq hp]
    exact mem_addOnce _ _
  · rw [suspectPlot_eq hp]
    exact hplots

/-- Work goes on at a plot whose units have changed. -/
theorem atWork_of_same {s u : State} {p : Nat} {pl q : Plot} {j : Job} (h : AtWork s p pl j) (hq : u.plotAt p = some q)
    (hruns : u.jobRuns = s.jobRuns) (hjob : u.job = s.job) (hstop : q.stopped = pl.stopped) (harr : q.arrived = pl.arrived) :
    AtWork u p q j := by
  obtain ⟨hr, -, hs, ha, hj, hrest⟩ := h
  exact ⟨hruns.trans hr, hq, hstop.trans hs, harr.trans ha, hjob.trans hj, hrest⟩

/-- The state between a pass and its checks. -/
def passedState (s : State) (p : Nat) (r : FurrowRun) (sums : List (List (Option Int))) : State :=
  (s.upToPlot (passedRun r sums).copied).setFurrow p (some (passedRun r sums))

theorem passedState_frame (s : State) (p : Nat) (r : FurrowRun) (sums : List (List (Option Int))) :
    passedState s p r sums = { s with cycle := (passedState s p r sums).cycle, plots := (passedState s p r sums).plots } := by
  unfold passedState
  rw [upToPlot_frame]
  rfl

theorem plotAt_passedState {s : State} {p : Nat} {pl : Plot} (hp : s.plotAt p = some pl) (r : FurrowRun)
    (sums : List (List (Option Int))) : (passedState s p r sums).plotAt p = some { pl with furrow := some (passedRun r sums) } :=
  plotAt_setFurrow (s := s.upToPlot _) (by rw [upToPlot_plotAt, hp]) _

theorem checksumOn_passedState (s : State) (p : Nat) (pl : Plot) (r : FurrowRun) (sums : List (List (Option Int))) :
    (passedState s p r sums).checksumOn pl = s.checksumOn pl := by
  refine checksumOn_congr ⟨?_, ?_, rfl, rfl⟩ <;> rw [passedState_frame]

theorem checkPass_clean {s : State} {p : Nat} {pl : Plot} {d : FurrowDesc} {ok : Bool}
    (h : s.checksumOn pl = false ∨ ok = true ∧ spareRowsNeeded d ≤ pl.spareRows ∧ 2 ≤ pl.spareCols) : s.checkPass p pl d ok = s := by
  by_cases hon : s.checksumOn pl = true
  · rcases h with h | ⟨rfl, hrows, hcols⟩
    · exact absurd hon (by simp [h])
    · simp [State.checkPass, Nat.not_lt.mpr hrows, Nat.not_lt.mpr hcols]
  · simp [State.checkPass, hon]

theorem checkPass_mismatch {s : State} {p : Nat} {pl : Plot} {d : FurrowDesc} (hon : s.checksumOn pl = true)
    (hrows : spareRowsNeeded d ≤ pl.spareRows) (hcols : 2 ≤ pl.spareCols) :
    s.checkPass p pl d false = (s.plotFault p 0x0B d.bundle 0xFFFF).suspectPlot p := by
  simp [State.checkPass, hon, Nat.not_lt.mpr hrows, Nat.not_lt.mpr hcols]

theorem furrowPassesClaim : Claims.FurrowPasses := by
  intro p pl r s hs hruns hp hstopped hfurrow hstop hnext
  have hr := State.runsAt_of hruns hp hstopped
  have hpass : ∀ ok, exec (.furrowPass p ok) s = .next (furrowPass p ok s) := fun _ => rfl
  have hover : exec (.passOverflow p) s = .next (passOverflow p s) := rfl
  refine ⟨fun as bs hread hdef => ⟨fun sums ok hshadow hsums => ⟨fun hclean => ?_, fun j hwork hon hrows hcols => ?_⟩,
    fun hnone hrep => ?_, fun j hwork hnone hrep => ?_⟩, fun j o rest ok hwork hshadow ha hpoison => ?_⟩
  · rw [hpass, furrowPass_passes hr hp hfurrow hstop hnext hread hdef hshadow hsums]
    have hsame := checksumOn_passedState s p pl r sums
    rw [passedState] at hsame
    rw [checkPass_clean (by rwa [hsame])]
    rfl
  · rw [hpass, furrowPass_passes hr hp hfurrow hstop hnext hread hdef hshadow hsums]
    have hon' := (checksumOn_passedState s p pl r sums).trans hon
    have hframe := passedState_frame s p r sums
    have hplot := plotAt_passedState hp r sums
    rw [← passedState]
    generalize passedState s p r sums = u at hon' hframe hplot ⊢
    rw [checkPass_mismatch hon' hrows hcols]
    have hwork' : AtWork u p { pl with furrow := some (passedRun r sums) } j :=
      atWork_of_same hwork hplot (by rw [hframe]; rfl) (by rw [hframe]) rfl rfl
    obtain ⟨hfirst, hsite, -⟩ := firstFault_suspected (s := s) (kind := 0x0B) (bundle := r.desc.bundle) (region := 0xFFFF)
      (State.canonical_of_eq hs (by rw [hframe]) (by rw [hframe]) (by rw [hframe])) hwork' (by rw [hframe])
    exact ⟨_, rfl, hfirst, hsite⟩
  · rw [hover, passOverflow_overflows hr hp hfurrow hstop hnext hread hnone, if_neg (by omega)]
    refine ⟨_, rfl, rfl, rfl, ?_, fun k hk => ?_, fun j hwork => ?_⟩
    · exact num_bump_counter (s := s.setFurrow p _) (State.canonical_of_eq hs rfl rfl rfl) (by decide +kernel)
    · exact State.num_bump_other (s.setFurrow p _) _ hk.symm
    · have hwhose : s.whose pl = .step := by
        have := whoseAt_of_atWork hwork
        rwa [State.whoseAt, hp] at this
      obtain ⟨-, -, -, -, hj, -⟩ := hwork
      rw [hwhose]
      simp [State.mapWhose, State.mapJob, State.setFurrow, hj]
  · rw [hover, passOverflow_overflows hr hp hfurrow hstop hnext hread hnone, if_pos hrep]
    have hwork' : AtWork (s.setFurrow p (some (stoppedRun r))) p { pl with furrow := some (stoppedRun r) } j :=
      atWork_of_same hwork (plotAt_setFurrow hp _) rfl rfl rfl rfl
    obtain ⟨hfirst, hsite, hplots⟩ := firstFault_suspected (s := s)
      (u := s.setFurrow p (some (stoppedRun r))) (kind := 0x0C) (bundle := r.desc.bundle) (region := 0xFFFF)
      (State.canonical_of_eq hs rfl rfl rfl) hwork' rfl
    exact ⟨_, rfl, hfirst, hsite, hplots⟩
  · rw [hpass, furrowPass_poison hr hp hfurrow hstop hnext hshadow ha hpoison]
    refine ⟨_, rfl, firstFault_after (firstFault_plotFault hs hwork _ _ _) rfl, ?_⟩
    rw [State.plotFault, meetFault_frame]
    rfl

/-! ### A unit's finished tile (R103, R116, R130, R183, R221, R299) -/

/-- A region set at a place of a plot lies in that plot's stores or in the pool. -/
theorem plotAt_setRegion {s : State} {p : Nat} {pl : Plot} (hp : s.plotAt p = some pl) (l : Loc) (g : Region) :
    ∃ q, (s.setRegion p l g).plotAt p = some q ∧
      q = { pl with crib := q.crib, loam := q.loam, buffers := q.buffers, badWords := q.badWords } ∧
      ((∀ i n, l ≠ .buffer i n) → q.buffers = pl.buffers ∧ q.badWords = pl.badWords) := by
  cases l with
  | crib r => exact ⟨_, State.plotAt_mapPlot_same hp _, rfl, fun _ => ⟨rfl, rfl⟩⟩
  | loam r => exact ⟨_, State.plotAt_mapPlot_same hp _, rfl, fun _ => ⟨rfl, rfl⟩⟩
  | pool sl r => exact ⟨pl, hp, rfl, fun _ => ⟨rfl, rfl⟩⟩
  | buffer i n => exact ⟨_, State.plotAt_mapPlot_same hp _, rfl, fun h => absurd rfl (h i n)⟩

theorem plotAt_setRegion_other (s : State) {p o : Nat} (l : Loc) (g : Region) (ho : o ≠ p) :
    (s.setRegion p l g).plotAt o = s.plotAt o := by
  cases l with
  | pool sl r => rfl
  | crib r => exact State.plotAt_mapPlot_other s _ ho
  | loam r => exact State.plotAt_mapPlot_other s _ ho
  | buffer i n => exact State.plotAt_mapPlot_other s _ ho

theorem setRegion_frame (s : State) (p : Nat) (l : Loc) (g : Region) :
    s.setRegion p l g = { s with plots := (s.setRegion p l g).plots, pool := (s.setRegion p l g).pool } := by
  cases l <;> rfl

/-- A region set at a place with its ready bit is there; in a tile buffer stand its bytes. -/
theorem written_setRegion {s : State} {p : Nat} {pl : Plot} (hp : s.plotAt p = some pl) (l : Loc) (x : Tile) :
    Written (s.setRegion p l { tile := x, ready := true }) p pl l x := by
  cases l with
  | crib r =>
    have h := regionAt_crib (State.plotAt_mapPlot_same hp fun q => { q with crib := SMap.set {} q.crib r { tile := x, ready := true } }) r
    exact ⟨congrArg Region.ready (h.trans (get_set_ready ..)), congrArg Region.tile (h.trans (get_set_ready ..))⟩
  | loam r =>
    have h : (s.setRegion p (.loam r) { tile := x, ready := true }).regionAt p (.loam r) = { tile := x, ready := true } := by
      simp only [State.regionAt, State.setRegion, State.plotAt_mapPlot_same hp, get_set_ready]
    exact ⟨congrArg Region.ready h, congrArg Region.tile h⟩
  | pool sl r =>
    have hplot : (s.setRegion p (.pool sl r) { tile := x, ready := true }).plotAt p = some pl := hp
    have h : (s.setRegion p (.pool sl r) { tile := x, ready := true }).regionAt p (.pool sl r) = { tile := x, ready := true } := by
      simp only [State.regionAt, hplot]
      exact get_set_ready ..
    exact ⟨congrArg Region.ready h, congrArg Region.tile h⟩
  | buffer i n =>
    have h := State.plotAt_mapPlot_same hp (writeBuffer i n x.payload)
    exact congrArg (Option.map Plot.buffers) h

/-- What a tile written stands in: the stores of its plot, and the pool. -/
theorem written_congr {t u : State} {p : Nat} {pl : Plot} {l : Loc} {x : Tile} (h : Written t p pl l x)
    (hregion : ∀ l, u.regionAt p l = t.regionAt p l)
    (hbuf : (u.plotAt p).map (·.buffers) = (t.plotAt p).map (·.buffers)) : Written u p pl l x := by
  cases l with
  | buffer i n => exact hbuf.trans h
  | crib r => exact ⟨by rw [hregion]; exact h.1, by rw [hregion]; exact h.2⟩
  | loam r => exact ⟨by rw [hregion]; exact h.1, by rw [hregion]; exact h.2⟩
  | pool sl r => exact ⟨by rw [hregion]; exact h.1, by rw [hregion]; exact h.2⟩

/-- What a unit's finished tile leaves: the tile at its place, and what goes with it. -/
structure WroteOutput (s t : State) (p : Nat) (pl : Plot) (l : Loc) (x : Tile) : Prop where
  frame : t = { s with plots := t.plots, pool := t.pool, job := t.job, records := t.records, nums := t.nums, host := t.host,
                       seasons := t.seasons }
  plot : ∃ q, t.plotAt p = some q ∧
    q = { pl with crib := q.crib, loam := q.loam, buffers := q.buffers, badWords := q.badWords, digests := q.digests } ∧
    ((∀ i n, l ≠ .buffer i n) → q.buffers = pl.buffers ∧ q.badWords = pl.badWords)
  others : ∀ o, o ≠ p → t.plotAt o = s.plotAt o
  written : Written t p pl l x
  run : t.num 0x700004 = s.num 0x700004

/-- Changes that leave the plots, the pool and the run fraction. -/
theorem WroteOutput.after {s t u : State} {p : Nat} {pl : Plot} {l : Loc} {x : Tile} (h : WroteOutput s t p pl l x)
    (hu : u = { t with job := u.job, records := u.records, nums := u.nums, host := u.host, seasons := u.seasons })
    (hrun : u.num 0x700004 = t.num 0x700004) : WroteOutput s u p pl l x := by
  have hplot : ∀ o, u.plotAt o = t.plotAt o := fun o => by rw [hu]; rfl
  refine ⟨?_, ?_, fun o ho => (hplot o).trans (h.others o ho), ?_, hrun.trans h.run⟩
  · rw [hu, h.frame]
  · rw [hplot]
    exact h.plot
  · exact written_congr h.written (fun l => by rw [hu]; rfl) (by rw [hplot])

/-- A plot's digest partial with the tile's contribution (R116). -/
theorem WroteOutput.digest {s t : State} {p : Nat} {pl : Plot} {l : Loc} {x : Tile} (h : WroteOutput s t p pl l x) (slot : Option Nat)
    (d : W64) : WroteOutput s (t.mapPlot p (addDigest slot d)) p pl l x := by
  obtain ⟨q, hq, hshape, hbuf⟩ := h.plot
  have hsame : ∀ v, (addDigest slot d v).crib = v.crib ∧ (addDigest slot d v).loam = v.loam := by
    intro v
    cases slot <;> exact ⟨rfl, rfl⟩
  have hdig : ∃ ds, addDigest slot d q = { q with digests := ds } := by
    cases slot with
    | none => exact ⟨q.digests, rfl⟩
    | some n => exact ⟨_, rfl⟩
  obtain ⟨ds, hdig⟩ := hdig
  have hq' := State.plotAt_mapPlot_same hq (addDigest slot d)
  rw [hdig] at hq'
  refine ⟨?_, ⟨_, hq', ?_, hbuf⟩, fun o ho => (State.plotAt_mapPlot_other t _ ho).trans (h.others o ho), ?_, h.run⟩
  · rw [h.frame]
    rfl
  · rw [hshape]
  · exact written_congr h.written (fun l => regionAt_mapPlot hsame p l) (by rw [hq', hq]; rfl)

theorem overflow_frame (s : State) (w : Whose) : s.overflow w = { s with job := (s.overflow w).job } := rfl

theorem tapTile_frame (s : State) (step : Nat) (t : Tile) :
    s.tapTile step t = { s with records := (s.tapTile step t).records, nums := (s.tapTile step t).nums, host := (s.tapTile step t).host } := by
  unfold State.tapTile
  dsimp only
  split
  · rfl
  · split
    · rfl
    · rw [writeHbmTile_frame]
      rfl

theorem tapTile_run (s : State) (step : Nat) (t : Tile) : (s.tapTile step t).num 0x700004 = s.num 0x700004 := by
  have hhost : ∀ a, (s.writeHbmTile a t).num 0x700004 = s.num 0x700004 := fun a => by rw [writeHbmTile_frame]; rfl
  unfold State.tapTile
  dsimp only
  split
  · rfl
  · split
    · exact State.num_setNum_other _ _ (by decide)
    · rw [State.num_setNum_other _ _ (by decide)]
      exact hhost _

theorem noteSeason_frame (s : State) (step : Nat) (role : FieldRole) (t : Tile) (g : GlobalIndex) :
    s.noteSeason step role t g = { s with seasons := (s.noteSeason step role t g).seasons } := by
  unfold State.noteSeason
  split <;> rfl

theorem wroteOutput {s : State} {p : Nat} {pl : Plot} (hp : s.plotAt p = some pl) (l : Loc) (t : Tile) (role : FieldRole)
    (g : GlobalIndex) (slot : Option Nat) : WroteOutput s (s.writeOutput p l t role g slot) p pl l (sealTile t) := by
  rw [State.writeOutput, hp]
  dsimp only
  have hset : WroteOutput s (s.setRegion p l { tile := sealTile t, ready := true }) p pl l (sealTile t) := by
    obtain ⟨q, hq, hshape, hbuf⟩ := plotAt_setRegion hp l { tile := sealTile t, ready := true }
    exact ⟨by rw [setRegion_frame], ⟨q, hq, by rw [hshape], hbuf⟩, fun o ho => plotAt_setRegion_other s l _ ho,
      written_setRegion hp l _, by rw [setRegion_frame]; rfl⟩
  generalize s.setRegion p l { tile := sealTile t, ready := true } = u at hset ⊢
  have hdigest : ∀ b : Bool, ∀ d, WroteOutput s (if b = true then u.mapPlot p (addDigest slot d) else u) p pl l (sealTile t) := by
    intro b d
    split
    · exact hset.digest slot d
    · exact hset
  have hover : ∀ (b : Bool) (v : State) (w : Whose), WroteOutput s v p pl l (sealTile t) →
      WroteOutput s (if b = true then v.overflow w else v) p pl l (sealTile t) := by
    intro b v w hv
    split
    · exact hv.after (overflow_frame v w) rfl
    · exact hv
  have htap : ∀ (v : State) (n : Nat) (y : Tile), WroteOutput s v p pl l (sealTile t) → WroteOutput s (v.tapTile n y) p pl l (sealTile t) :=
    fun v n y hv => hv.after (by rw [tapTile_frame]) (tapTile_run v n y)
  have hnote : ∀ (v : State) (n : Nat) (y : Tile), WroteOutput s v p pl l (sealTile t) →
      WroteOutput s (v.noteSeason n role y g) p pl l (sealTile t) :=
    fun v n y hv => hv.after (by rw [noteSeason_frame]) (by rw [noteSeason_frame]; rfl)
  exact hnote _ _ _ (htap _ _ _ (hover _ _ _ (hdigest _ _)))

/-! ### Spills and the ready output (R72, R73, R82, R83) -/

theorem releaseFullWidth_free {s : State} {p : Nat} {q : Plot} (hq : s.plotAt p = some q) (h : heldFullWidth q = none) :
    s.releaseFullWidth p = s := by
  simp only [State.releaseFullWidth, hq, h]

/-- The output with a spill in it, and the shadow registers free (R82, R83). -/
def spilledInto (u : State) (p : Nat) (pl : Plot) (r : FurrowRun) (v x : FwpTile) : State :=
  (u.setRegion p r.desc.out
    { tile := sealTile
        { tag := u.outTag pl r.desc.outTensor r.desc.outShard r.desc.outOffset 0x20 v.rows v.cols .none, payload := x.bytes }
      ready := false }).mapPlot p fun q => { q with furrow := some { r with shadow := none, spilled := true } }

theorem releaseFullWidth_spilled {u : State} {p : Nat} {pl : Plot} (hp : u.plotAt p = some pl) (h : heldFullWidth pl = none)
    (r : FurrowRun) (v x : FwpTile) : (spilledInto u p pl r v x).releaseFullWidth p = spilledInto u p pl r v x := by
  unfold spilledInto
  generalize sealTile _ = tile
  obtain ⟨q, hq, hshape, -⟩ := plotAt_setRegion hp r.desc.out { tile := tile, ready := false }
  refine releaseFullWidth_free (State.plotAt_mapPlot_same hq _) ?_
  rw [← h, hshape]
  rfl

section
variable {s : State} {p : Nat} {pl : Plot} {r : FurrowRun} (hr : s.runsAt p = true) (hp : s.plotAt p = some pl)
  (hfurrow : pl.furrow = some r)
include hr hp hfurrow

theorem spill_none (hshadow : r.shadow = none) : spill p s = s := by
  simp only [spill, hr, hp, hfurrow, hshadow]
  rfl

/-- The first spill of an instruction that does not accumulate writes the output afresh. -/
theorem spill_fresh {rep : Nat} {sums : List (List (Option Int))} (hshadow : r.shadow = some (rep, sums))
    (hacc : r.desc.accumulate = false) (hspilled : r.spilled = false) :
    spill p s = spilledInto (s.upToPlot (r.copied + BitVec.ofNat 64 (beats (spillTile r rep sums).rows))) p pl r (spillTile r rep sums)
      (spillTile r rep sums) := by
  simp only [spill, hr, hp, hfurrow, hshadow, hacc, hspilled]
  rfl

/-- Another spill is added to the output. -/
theorem spill_adds {rep : Nat} {sums : List (List (Option Int))} (hshadow : r.shadow = some (rep, sums))
    (hadds : r.spilled = true ∨ r.desc.accumulate = true) {old : Tile}
    (hread : (s.upToPlot (r.copied + BitVec.ofNat 64 (beats (spillTile r rep sums).rows))).readTile p
      (outputRef r (spillTile r rep sums)) = .ok old) (hfits : (fwpAdd (fwpOf old) (spillTile r rep sums)).2 = 0) :
    spill p s = spilledInto (s.upToPlot (r.copied + BitVec.ofNat 64 (beats (spillTile r rep sums).rows))) p pl r (spillTile r rep sums)
      (fwpAdd (fwpOf old) (spillTile r rep sums)).1 := by
  have hcond : (r.spilled || r.desc.accumulate) = true := by rcases hadds with h | h <;> simp [h]
  simp only [spill, hr, hp, hfurrow, hshadow, hcond, readOrFault_ok hread, State.spillInto, hfits]
  rfl

theorem furrowReady_eq (hstop : r.stopped = false) (hshadow : r.shadow = none) (hspilled : r.spilled = true) (hk : r.desc.k ≤ r.next) :
    furrowReady p s = ((s.writeOutput p r.desc.out (s.regionAt p r.desc.out).tile .none r.desc.gidx r.desc.digestSlot).setFurrow p
      none).releaseFurrow p := by
  simp only [furrowReady, hr, hp, hfurrow]
  rw [if_neg (by decide), if_neg (by simp [hstop, hshadow, hspilled, Nat.not_lt.mpr hk])]

end

theorem spillAndReady : Claims.SpillAndReady := by
  intro p pl r s hruns hp hstopped hfurrow hheld
  have hr := State.runsAt_of hruns hp hstopped
  have hspill : exec (.spill p) s = .next ((spill p s).releaseFullWidth p) := rfl
  have hready : exec (.furrowReady p) s = .next (furrowReady p s) := rfl
  refine ⟨fun rep sums hshadow => ?_, fun hshadow => ?_, fun hstop hshadow hspilled hk => ?_⟩
  · have hu := (upToPlot_plotAt s (r.copied + BitVec.ofNat 64 (beats (spillTile r rep sums).rows)) p).trans hp
    refine ⟨fun hacc hspilled => ?_, fun old hadds hread hfits => ?_⟩
    · rw [hspill, spill_fresh hr hp hfurrow hshadow hacc hspilled, releaseFullWidth_spilled hu hheld]
      rfl
    · rw [hspill, spill_adds hr hp hfurrow hshadow hadds hread hfits, releaseFullWidth_spilled hu hheld]
      rfl
  · rw [hspill, spill_none hr hp hfurrow hshadow, releaseFullWidth_free hp hheld]
  · have hwrote := wroteOutput hp r.desc.out (s.regionAt p r.desc.out).tile .none r.desc.gidx r.desc.digestSlot
    have hsealed := tileCheckOk_sealTile (s.regionAt p r.desc.out).tile
    have hpay : (sealTile (s.regionAt p r.desc.out).tile).payload = (s.regionAt p r.desc.out).tile.payload := rfl
    rw [hready, furrowReady_eq hr hp hfurrow hstop hshadow hspilled hk]
    generalize sealTile (s.regionAt p r.desc.out).tile = x at hwrote hsealed hpay
    generalize s.writeOutput p r.desc.out (s.regionAt p r.desc.out).tile .none r.desc.gidx r.desc.digestSlot = u at hwrote ⊢
    obtain ⟨q, hq, hshape, hbuf⟩ := hwrote.plot
    have hq' := plotAt_setFurrow hq none
    have hregion : ∀ l, (u.setFurrow p none).regionAt p l = u.regionAt p l :=
      fun l => regionAt_mapPlot (f := fun v => { v with furrow := none }) (fun _ => ⟨rfl, rfl⟩) p l
    refine ⟨fun hscan hout => ?_, fun x d c b hscan hdone hleft hw => ?_⟩
    · have hscan' : q.scan = none := by rw [hshape]; exact hscan
      rw [releaseFurrow_held hq' (Or.inr fun y hy => absurd (hscan'.symm.trans hy) (by simp))]
      have hwritten := hwrote.written
      obtain ⟨hbuffers, hbad⟩ := hbuf hout
      have hplace : (u.regionAt p r.desc.out).ready = true ∧ (u.regionAt p r.desc.out).tile = x := by
        cases hl : r.desc.out with
        | buffer i n => exact absurd hl (hout i n)
        | crib k => rw [hl] at hwritten; exact hwritten
        | loam k => rw [hl] at hwritten; exact hwritten
        | pool sl k => rw [hl] at hwritten; exact hwritten
      refine ⟨_, _, rfl, hq', ?_, ?_, ?_, ?_, fun o ho => (State.plotAt_mapPlot_other u _ ho).trans (hwrote.others o ho), ?_⟩
      · rw [hregion, hplace.1]
      · rw [hregion, hplace.2, hpay]
      · rw [hregion, hplace.2, hsealed]
      · rw [hshape, ← hbuffers, ← hbad]
      · rw [hwrote.frame]
        rfl
    · have hscan' : q.scan = some x := by rw [hshape]; exact hscan
      have hw' : q.wait = some (.furrow d, c, b) := by rw [hshape]; exact hw
      have hcycle : (u.setFurrow p none).plotCycle = s.plotCycle := by
        have hrun : (u.setFurrow p none).num 0x700004 = s.num 0x700004 := hwrote.run
        unfold State.plotCycle
        rw [hrun, hwrote.frame]
        rfl
      rw [releaseFurrow_enters hq' hscan' hw' rfl hdone hleft, enteredArray, hcycle]
      obtain ⟨v, hv, -, -⟩ := plotAt_setRegion hq' x.desc.out { (u.setFurrow p none).regionAt p x.desc.out with ready := false }
      exact ⟨_, _, rfl, State.plotAt_mapPlot_same hv _, rfl, rfl, rfl⟩

/-- Settles O25: passes and their repeats, spills and the ready output. -/
theorem furrowPasses : Obligations.FurrowPasses := ⟨furrowPassesClaim, spillAndReady⟩

end Sys2Proof.Proofs

/-! Chains, the full-width adder, frame records and moves. -/

namespace Sys2Proof.Proofs

open Sys2Proof Machine

/-! ### The full-width adder (R105, R108, R120) -/

theorem fullWidthIssue_waits {s : State} {p : Nat} {pl : Plot} (hi : s.issuing p = some pl) {d : FullWidthDesc}
    (h : spillDue pl = true ∨ recordsHere pl d = false) : fullWidthIssue p d s = s.beginWait p (.fullWidth d) := by
  have hno : fullWidthMay pl d = false := by rcases h with h | h <;> simp [fullWidthMay, h]
  simp [fullWidthIssue, hi, hno]

theorem fullWidthIssue_runs {s : State} {p : Nat} {pl : Plot} (hi : s.issuing p = some pl) {d : FullWidthDesc}
    (hspill : spillDue pl = false) (hrec : recordsHere pl d = true) : fullWidthIssue p d s = s.startFullWidth p d := by
  simp [fullWidthIssue, hi, fullWidthMay, hspill, hrec]

/-- Two operands that pass the tag check. -/
theorem readAll_two {s : State} {p bundle : Nat} {a b : TileRef} {x y : Tile} (ha : s.readTile p a = .ok x) (hb : s.readTile p b = .ok y) :
    s.readAll p bundle [a, b] = (s, some [x, y]) := by
  simp [State.readAll, readOrFault_ok ha, readOrFault_ok hb]

/-- An addition names no frame records. -/
theorem recordsHere_add (pl : Plot) {d : FullWidthDesc} {a b : TileRef} (h : d.op = .add a b) : recordsHere pl d = true := by
  simp [recordsHere, recordTile, h]

theorem startFullWidth_add {s : State} {p : Nat} {pl : Plot} {d : FullWidthDesc} {a b : TileRef} {x y : Tile}
    (hp : s.plotAt p = some pl) (hop : d.op = .add a b) (ha : s.readTile p a = .ok x) (hb : s.readTile p b = .ok y)
    (hdef : fullWidthDefined d.op x y = true) (hfits : (fwpAdd (fwpOf x) (fwpOf y)).2 = 0) :
    s.startFullWidth p d = s.writeOutput p d.out
      { tag := s.outTag pl d.outTensor d.outShard d.outOffset 0x20 (fwpAdd (fwpOf x) (fwpOf y)).1.rows
          (fwpAdd (fwpOf x) (fwpOf y)).1.cols d.outRole
        payload := (fwpAdd (fwpOf x) (fwpOf y)).1.bytes } d.outRole d.gidx d.digestSlot := by
  have hread : s.readAll p d.bundle (fullWidthOperands d.op) = (s, some [x, y]) := by
    rw [hop]
    exact readAll_two ha hb
  have hnone : recordsOf pl d.records d.op = [] := by simp [recordsOf, recordTile, hop]
  simp only [State.startFullWidth, hread, hp, hnone, State.checkAll, List.head?_cons, Option.getD_some, List.drop_succ_cons, List.drop_zero,
    hdef, if_true, State.runFullWidth]
  rw [hop]
  simp only [State.writeFwp, hfits, if_true]

/-- A frame record of another step is a fault of the instruction that names it. -/
theorem startFullWidth_fault {s : State} {p : Nat} {pl : Plot} {d : FullWidthDesc} {ts rest : List Tile} {m : Tile}
    (hp : s.plotAt p = some pl) (hread : s.readAll p d.bundle (fullWidthOperands d.op) = (s, some ts))
    (hrec : recordsOf pl d.records d.op = m :: rest) (hv : m.tag.valid = true) (hpoison : m.tag.poison = false)
    (hstep : m.tag.stepLo ≠ BitVec.ofNat 32 (s.workStep pl)) :
    s.startFullWidth p d = s.plotFault p 0x02 d.bundle 0xFFFF := by
  simp only [State.startFullWidth, hread, hp, hrec, State.checkAll, Option.elim_some, checkTile_stepMismatch hv hpoison hstep,
    State.orFault, ReadOutcome.kind]
  rfl

theorem frameRecord_eq {s : State} {p : Nat} {pl : Plot} (hr : s.runsAt p = true) (hp : s.plotAt p = some pl) (m : Tile) :
    frameRecord p m s = (s.mapPlot p fun q => { q with frames := pl.frames ++ [m] }).releaseFullWidth p := by
  rw [frameRecord, if_neg (by simp [hr]), State.mapPlot_congr (g := fun q => { q with frames := pl.frames ++ [m] }) hp rfl]

/-! ### The move slot (R130, R138) -/

/-- A tile as a move puts it down: valid, and speculative when the plot runs ahead. -/
def movedTile (s : State) (pl : Plot) (x : Tile) : Tile := { x with tag := { x.tag with valid := true, spec := speculative s pl } }

/-- What a move carries from a place: a tile buffer holds a tile's payload alone, whose tag is sealed anew. -/
def carriedFrom (l : Loc) (x : Tile) : Tile :=
  match l with
  | .buffer _ _ => sealTile x
  | _ => x

theorem move_ok {s : State} {p : Nat} {pl : Plot} {d : MoveDesc} {x : Tile} (hi : s.issuing p = some pl)
    (hx : s.readTile p d.src = .ok x) :
    move p d s = s.setRegion p d.dst
      { tile := movedTile s pl (carriedFrom d.src.loc x), ready := true } := by
  obtain ⟨-, hp, -⟩ := issuing_some hi
  simp only [move, hi, readOrFault_ok hx, hp, Option.any_some, movedTile]
  cases d.src.loc <;> rfl

theorem move_unwritten {s : State} {p : Nat} {pl : Plot} {d : MoveDesc} (hi : s.issuing p = some pl)
    (hx : s.readTile p d.src = .unwritten) : move p d s = s.plotFault p 0x01 d.bundle (locNumber d.src.loc) := by
  simp only [move, hi, State.readOrFault, hx, State.orFault, ReadOutcome.kind]

/-- Settles O28: the adder, the frame records and the moves. -/
theorem adderRecordsAndMoves : Obligations.AdderRecordsAndMoves := by
  intro p pl s hruns hp hstop
  have hr := State.runsAt_of hruns hp hstop
  have hissue : ∀ d, exec (.fullWidthIssue p d) s = .next (fullWidthIssue p d s) := fun _ => rfl
  have hframe : ∀ m, exec (.frameRecord p m) s = .next (frameRecord p m s) := fun _ => rfl
  have hmove : ∀ d, exec (.move p d) s = .next (move p d s) := fun _ => rfl
  refine ⟨fun d hh hw h => ?_, fun d a b x y hh hw hspill hop ha hb hdef hfits => ?_, fun m hheld => ?_, fun m d hheld hspill hrec => ?_,
    fun d m rest ts j hs hwork hh hw hspill hrec hread hof hv hpoison hstep => ?_, fun d x hh hw hx => ⟨fun hloc => ?_, fun i n hloc => ?_⟩,
    fun d j hs hwork hh hw hx => ?_⟩
  · rw [hissue, fullWidthIssue_waits (State.issuing_of hruns hp hstop hh hw) h]
    rfl
  · rw [hissue, fullWidthIssue_runs (State.issuing_of hruns hp hstop hh hw) hspill (recordsHere_add pl hop),
      startFullWidth_add hp hop ha hb hdef hfits]
    have hwrote := wroteOutput hp d.out
      { tag := s.outTag pl d.outTensor d.outShard d.outOffset 0x20 (fwpAdd (fwpOf x) (fwpOf y)).1.rows
          (fwpAdd (fwpOf x) (fwpOf y)).1.cols d.outRole
        payload := (fwpAdd (fwpOf x) (fwpOf y)).1.bytes } d.outRole d.gidx d.digestSlot
    exact ⟨_, rfl, hwrote.written, hwrote.others, hwrote.frame⟩
  · rw [hframe, frameRecord_eq hr hp, releaseFullWidth_free (State.plotAt_mapPlot_same hp _) hheld]
  · have hplot := State.plotAt_mapPlot_same hp fun q => { q with frames := pl.frames ++ [m] }
    have hheld' : heldFullWidth { pl with frames := pl.frames ++ [m] } = some d := hheld
    have hmay : fullWidthMay { pl with frames := pl.frames ++ [m] } d = true := by
      simp only [fullWidthMay, hrec, Bool.and_true]
      exact congrArg Bool.not hspill
    rw [hframe, frameRecord_eq hr hp]
    simp only [State.releaseFullWidth, hplot, hheld', hmay, if_true, State.mapPlot_mapPlot]
  · rw [hissue, fullWidthIssue_runs (State.issuing_of hruns hp hstop hh hw) hspill hrec,
      startFullWidth_fault hp hread hof hv hpoison hstep]
    refine ⟨_, rfl, firstFault_plotFault hs hwork _ _ _, ?_⟩
    rw [State.plotFault, meetFault_frame]
  · rw [hmove, move_ok (State.issuing_of hruns hp hstop hh hw) hx]
    cases hl : d.src.loc with
    | buffer i n => exact absurd hl (hloc i n)
    | crib _ => rfl
    | loam _ => rfl
    | pool _ _ => rfl
  · rw [hmove, move_ok (State.issuing_of hruns hp hstop hh hw) hx, hloc]
    rfl
  · rw [hmove, move_unwritten (State.issuing_of hruns hp hstop hh hw) hx]
    refine ⟨_, rfl, firstFault_plotFault hs hwork _ _ _, ?_⟩
    rw [State.plotFault, meetFault_frame]

/-! ### Chains (R148, R149, R167) -/

theorem chainIssue_issues {s u : State} {p : Nat} {pl : Plot} {d : ChainDesc} {i : ChainIn} {o : ChainOut} (hi : s.issuing p = some pl)
    (hread : s.chainOperands p d = (s, some i)) (hres : s.chainResult pl d i = (u, o)) :
    chainIssue p d s = (u.noteBlocks (u.whose pl) d.group o.blocks).launchChain p (u.chainRun pl d o) := by
  simp only [chainIssue, hi, hread, hres]

theorem noteBlocks_frame (s : State) (w : Whose) (g : Nat) (l : List FwOutcome) :
    s.noteBlocks w g l = { s with job := (s.noteBlocks w g l).job } := by
  unfold State.noteBlocks
  dsimp only
  split <;> split <;> rfl

theorem mapWhose_step_job {s : State} {j : Job} (hj : s.job = some j) (f : Attempt → Attempt) :
    (s.mapWhose .step f).job = some { j with attempt := f j.attempt } := by
  simp [State.mapWhose, State.mapJob, hj]

/-- The overflows of a result leave the step's faults and its arrival. -/
theorem noteBlocks_job {s : State} {j : Job} (hj : s.job = some j) (g : Nat) (l : List FwOutcome) :
    ∃ a : Attempt, a.fault = j.attempt.fault ∧ a.arrived = j.attempt.arrived ∧
      (s.noteBlocks .step g l).job = some { j with attempt := a } := by
  unfold State.noteBlocks State.overflow State.widthOverflow
  dsimp only
  split
  · split
    · refine ⟨_, ?_, ?_, mapWhose_step_job (mapWhose_step_job hj _) _⟩ <;> rfl
    · refine ⟨_, ?_, ?_, mapWhose_step_job hj _⟩ <;> rfl
  · split
    · refine ⟨_, ?_, ?_, mapWhose_step_job hj _⟩ <;> rfl
    · exact ⟨_, rfl, rfl, hj⟩

/-- A plot's chains with a new one, those that clash with it dead. -/
def withChain (r : ChainRun) (clash : Bool) (q : Plot) : Plot :=
  { q with chains := (q.chains.map fun c => if portsClash r c then { c with dead := true } else c) ++ [{ r with dead := clash }] }

theorem launchChain_eq {s : State} {p : Nat} {pl : Plot} (hp : s.plotAt p = some pl) (r : ChainRun) :
    s.launchChain p r =
      if pl.chains.any (portsClash r) then (s.mapPlot p (withChain r true)).plotFault p 0x08 r.desc.bundle 0xFFFF
      else s.mapPlot p (withChain r false) := by
  simp only [State.launchChain, hp, Option.elim_some]
  cases pl.chains.any (portsClash r) <;> rfl

theorem withChain_alone {r : ChainRun} {pl : Plot} (h : pl.chains.any (portsClash r) = false) (hr : r.dead = false) :
    withChain r false pl = { pl with chains := pl.chains ++ [r] } := by
  have hsame : (pl.chains.map fun c => if portsClash r c then { c with dead := true } else c) = pl.chains := by
    refine (List.map_congr_left fun c hc => ?_).trans (List.map_id _)
    have := List.any_eq_false.mp h c hc
    rw [if_neg this]
    rfl
  rw [withChain, hsame, ← hr]

theorem withChain_clash (r : ChainRun) (pl : Plot) :
    (∀ c ∈ (withChain r true pl).chains, portsClash r c = true → c.dead = true) ∧
      (withChain r true pl).chains.length = pl.chains.length + 1 := by
  refine ⟨fun c hc hclash => ?_, by simp [withChain]⟩
  rcases List.mem_append.mp hc with hc | hc
  · obtain ⟨x, -, rfl⟩ := List.mem_map.mp hc
    by_cases hx : portsClash r x = true
    · rw [if_pos hx]
    · rw [if_neg hx] at hclash ⊢
      exact absurd hclash hx
  · rw [List.mem_singleton.mp hc]

/-- Of the chains in flight one ends next. -/
theorem nextDone_mem {l : List ChainRun} {r : ChainRun} (h : nextDone l = some r) : r ∈ l := by
  have hfold : ∀ (rest : List ChainRun) (a : ChainRun), rest.foldl endsFirst a ∈ a :: rest := by
    intro rest
    induction rest with
    | nil => intro a; simp
    | cons b rest ih =>
      intro a
      rcases List.mem_cons.mp (ih (endsFirst a b)) with h | h
      · have hab : endsFirst a b = a ∨ endsFirst a b = b := by
          unfold endsFirst
          split
          · exact Or.inl rfl
          · exact Or.inr rfl
        rw [List.foldl_cons, h]
        rcases hab with hab | hab <;> simp [hab]
      · simp only [List.foldl_cons, List.mem_cons]
        exact Or.inr (Or.inr h)
  cases l with
  | nil => exact absurd h (by simp [nextDone])
  | cons a rest =>
    obtain rfl := Option.some.inj h
    exact hfold rest a

/-- A tile buffer's bytes depend on no other part of the plot. -/
theorem written_of_buffers {t : State} {p : Nat} {pl q : Plot} {l : Loc} {x : Tile} (hb : q.buffers = pl.buffers)
    (h : Written t p pl l x) : Written t p q l x := by
  cases l with
  | buffer i n =>
    have hw : (writeBuffer i n x.payload q).buffers = (writeBuffer i n x.payload pl).buffers := by simp only [writeBuffer, hb]
    exact Eq.trans h (congrArg some hw.symm)
  | crib _ => exact h
  | loam _ => exact h
  | pool _ _ => exact h

/-- The state at a chain's end, the chain no longer in flight. -/
def chainEnded (s : State) (p : Nat) (pl : Plot) (r : ChainRun) : State :=
  (s.upToPlot (chainEnd r)).mapPlot p fun q => { q with chains := pl.chains.erase r }

theorem chainDone_eq {s : State} {p : Nat} {pl : Plot} {r : ChainRun} (hr : s.runsAt p = true) (hp : s.plotAt p = some pl)
    (hnext : nextDone pl.chains = some r) :
    chainDone p s =
      if r.dead then chainEnded s p pl r
      else
        let t := ((chainEnded s p pl r).writeOutput p r.desc.out r.result r.desc.outRole r.desc.gidx r.desc.digestSlot).mapPlot p
          (addTallies r.tallies)
        if r.numerical then t.overflow (t.whose pl) else t := by
  have hu : (s.upToPlot (chainEnd r)).plotAt p = some pl := (upToPlot_plotAt ..).trans hp
  have herase : ((s.upToPlot (chainEnd r)).mapPlot p fun q => { q with chains := q.chains.erase r }) = chainEnded s p pl r :=
    State.mapPlot_congr hu rfl
  simp only [chainDone, hp, hnext, herase]
  rw [if_neg (by simp [hr])]

theorem chainIssueAndDone : Claims.ChainIssueAndDone := by
  intro p pl s hruns hp hstop
  have hr := State.runsAt_of hruns hp hstop
  have hissue : ∀ d, exec (.chainIssue p d) s = .next (chainIssue p d s) := fun _ => rfl
  have hdone : exec (.chainDone p) s = .next (chainDone p s) := rfl
  refine ⟨fun d i u o hh hw hread hres hfree => ?_, fun d i o j hs hwork hh hw hread hres hclash => ?_, fun r hnext => ⟨nextDone_mem hnext,
    fun hdead => ?_, fun hdead => ?_⟩⟩
  · have hu : u.plotAt p = some pl := by
      unfold State.chainResult at hres
      dsimp only at hres
      split at hres
      · obtain ⟨rfl, -⟩ := Prod.mk.inj hres
        exact hp
      · obtain ⟨rfl, -⟩ := Prod.mk.inj hres
        exact hp
    have hv : (u.noteBlocks (u.whose pl) d.group o.blocks).plotAt p = some pl := by
      rw [noteBlocks_frame]
      exact hu
    rw [hissue, chainIssue_issues (State.issuing_of hruns hp hstop hh hw) hread hres, launchChain_eq hv, if_neg (by simp [hfree]),
      State.mapPlot_congr (g := fun q => { q with chains := pl.chains ++ [u.chainRun pl d o] }) hv (withChain_alone hfree rfl)]
  · have hwhose : s.whose pl = .step := by
      have := whoseAt_of_atWork hwork
      rwa [State.whoseAt, hp] at this
    obtain ⟨-, -, -, harr, hj, hserv, heval, hfault, hdev⟩ := id hwork
    obtain ⟨a, haf, haa, hjob⟩ := noteBlocks_job hj d.group o.blocks
    have hframe := noteBlocks_frame s .step d.group o.blocks
    rw [hissue, chainIssue_issues (State.issuing_of hruns hp hstop hh hw) hread hres, hwhose]
    have hbundle : (s.chainRun pl d o).desc.bundle = d.bundle := rfl
    generalize s.chainRun pl d o = r at hclash hbundle ⊢
    generalize s.noteBlocks .step d.group o.blocks = u at hjob hframe ⊢
    have hu : u.plotAt p = some pl := by rw [hframe]; exact hp
    rw [launchChain_eq hu, if_pos hclash, hbundle]
    have hjruns : (u.mapPlot p (withChain r true)).jobRuns = true := by
      have : u.jobRuns = s.jobRuns := by
        simp only [State.jobRuns, hjob, hj]
        rw [hframe]
      exact this.trans hruns
    have hwork' : AtWork (u.mapPlot p (withChain r true)) p (withChain r true pl) { j with attempt := a } :=
      ⟨hjruns, State.plotAt_mapPlot_same hu _, hstop, harr, hjob, hserv, heval, haf.trans hfault, haa.trans hdev⟩
    have hfirst := firstFault_plotFault (s := u.mapPlot p (withChain r true))
      (State.canonical_of_eq hs (by rw [hframe]; rfl) (by rw [hframe]; rfl) (by rw [hframe]; rfl)) hwork' 0x08 d.bundle 0xFFFF
    obtain ⟨hdeads, hlen⟩ := withChain_clash r pl
    refine ⟨_, withChain r true pl, rfl, firstFault_of_before hfirst ?_, ?_, hdeads, hlen⟩
    · rw [hframe]
      rfl
    · rw [plotAt_plotFault]
      exact State.plotAt_mapPlot_same hu _
  · rw [hdone, chainDone_eq hr hp hnext, if_pos hdead]
    rfl
  · have hended : (chainEnded s p pl r).plotAt p = some { pl with chains := pl.chains.erase r } :=
      State.plotAt_mapPlot_same ((upToPlot_plotAt ..).trans hp) _
    have hwrote := wroteOutput hended r.desc.out r.result r.desc.outRole r.desc.gidx r.desc.digestSlot
    rw [hdone, chainDone_eq hr hp hnext, if_neg (by simp [hdead])]
    generalize (chainEnded s p pl r).writeOutput p r.desc.out r.result r.desc.outRole r.desc.gidx r.desc.digestSlot = u at hwrote ⊢
    obtain ⟨q, hq, hshape, -⟩ := hwrote.plot
    have hq' := State.plotAt_mapPlot_same hq (addTallies r.tallies)
    have hframe : u = { s with
        cycle := (s.upToPlot (chainEnd r)).cycle, plots := u.plots, pool := u.pool, job := u.job, records := u.records, nums := u.nums
        host := u.host, seasons := u.seasons } := by
      rw [hwrote.frame, chainEnded, upToPlot_frame]
      rfl
    have hwritten : Written (u.mapPlot p (addTallies r.tallies)) p pl r.desc.out (sealTile r.result) := by
      have h := written_congr (u := u.mapPlot p (addTallies r.tallies)) hwrote.written
        (fun l => regionAt_mapPlot (f := addTallies r.tallies) (fun _ => ⟨rfl, rfl⟩) p l) (by rw [hq', hq]; rfl)
      exact written_of_buffers rfl h
    have hothers : ∀ o, o ≠ p → (u.mapPlot p (addTallies r.tallies)).plotAt o = s.plotAt o := fun o ho =>
      (State.plotAt_mapPlot_other u _ ho).trans ((hwrote.others o ho).trans
        ((State.plotAt_mapPlot_other _ _ ho).trans (upToPlot_plotAt ..)))
    have hchains : (addTallies r.tallies q).chains = pl.chains.erase r := by
      rw [hshape]
      rfl
    have hcycle : u.cycle = (s.upToPlot (chainEnd r)).cycle := by
      rw [hframe]
    cases r.numerical with
    | false =>
      refine ⟨u.mapPlot p (addTallies r.tallies), _, rfl, hcycle, hq', hchains, hwritten, hothers, ?_⟩
      rw [hframe]
      rfl
    | true =>
      refine ⟨(u.mapPlot p (addTallies r.tallies)).overflow _, _, rfl, hcycle, hq', hchains,
        written_congr hwritten (fun _ => rfl) rfl, hothers, ?_⟩
      rw [hframe]
      rfl

/-! #### Latency (R148, R149) -/

theorem chainLatency_append (a1 : Bool) (d : ChainDesc) (st : Stage) (rest : List Stage) :
    chainLatency a1 { d with stages := rest ++ [st] } =
      chainLatency a1 { d with stages := rest } + stageLatency a1 (fromBlock d st) st.op := by
  have hblock : ∀ l x, fromBlock { d with stages := l } x = fromBlock d x := fun _ _ => rfl
  unfold chainLatency
  simp only [hblock, List.map_append, List.foldl_append, List.map_cons, List.map_nil, List.foldl_cons, List.foldl_nil]
  omega

theorem chainLatencyClaim : Claims.ChainLatency := by
  intro d a1 wide block figure
  refine ⟨?_, fun st rest => ?_⟩
  · cases d.reducing <;> simp [chainLatency]
  · have hblock : fromBlock d st = block st := by
      simp only [fromBlock, block]
      cases st.args with
      | nil => rfl
      | cons a args =>
        obtain ⟨src, m⟩ := a
        cases src with
        | x => rfl
        | y => rfl
        | v => exact Option.any_map ..
        | _ => rfl
    rw [chainLatency_append, hblock]
    rfl

/-- Settles O27: the issue and the end of a chain, and its latency. -/
theorem chains : Obligations.Chains := ⟨chainIssueAndDone, chainLatencyClaim⟩

/-! ### Arrivals and collections at the lead device (R249, R251, R253) -/

/-- The numbers of barriers of the binary lie below those of seal, gate and undo, and of the reserved ones (R249). -/
theorem plain_barrier {b : W32} (h : b.toNat ≤ 0xFFFFFFEF) :
    b ≠ undoBarrier ∧ b ≠ sealBarrier ∧ b ≠ gateBarrier ∧ barrierReserved b = false := by
  refine ⟨?_, ?_, ?_, by simp [barrierReserved, Nat.not_lt.mpr h]⟩ <;>
  · rintro rfl
    exact absurd h (by decide)

/-- The collection that an arrival opens. -/
def opened (s : State) (m : ArrivalMsg) : Collect :=
  addArrival { barrier := m.barrier, stepLo := m.stepLo, attempt := m.attempt, first := s.cycle } m

theorem collectFor_none {s : State} (h : s.fabric.collects = []) (m : ArrivalMsg) :
    s.collectFor m = { barrier := m.barrier, stepLo := m.stepLo, attempt := m.attempt, first := s.cycle } := by
  simp [State.collectFor, h]

theorem filter_new (l : List Nat) : l.filter (fun r => !has [] r) = l := by
  simp [has]

theorem opened_eq (s : State) (m : ArrivalMsg) :
    (opened s m).barrier = m.barrier ∧ (opened s m).stepLo = m.stepLo ∧ (opened s m).attempt = m.attempt ∧
      (opened s m).count = m.count ∧ (opened s m).ranks = m.ranks ∧ (opened s m).first = s.cycle ∧
      (opened s m).reports = m.reports.foldl putReport [] := by
  refine ⟨rfl, rfl, rfl, ?_, ?_, rfl, rfl⟩ <;> simp [opened, addArrival, filter_new]

/-- An arrival of work under way, at a barrier that may be collected, is counted. -/
theorem leadTake_counts {s : State} {m : ArrivalMsg} {w : Whose} (hcoll : s.collecting = true) (hundo : m.barrier ≠ undoBarrier)
    (hres : barrierReserved m.barrier = false) (hw : s.whoseOf m.stepLo m.attempt = some w)
    (hdec : s.decided m.stepLo m.attempt = false) (hnone : s.fabric.collects = [])
    (hahead : w ≠ .ahead ∨ m.barrier ≠ sealBarrier ∧ m.barrier ≠ gateBarrier) : s.leadTake m = s.countArrival m w := by
  have hother : s.otherBarrier m = false := by simp [State.otherBarrier, hnone]
  rw [State.leadTake, if_neg hundo, if_neg (by simp [hcoll]), if_neg (by simp [hres]), hw]
  dsimp only
  rw [if_neg (by simp [hdec]), if_neg]
  rcases hahead with h | ⟨h1, h2⟩
  · simp [hother, h]
  · simp [hother, h1, h2]

theorem putCollect_first {s : State} (h : s.fabric.collects = []) (c : Collect) :
    s.putCollect c = { s with fabric := { s.fabric with collects := [c] } } := by
  simp [State.putCollect, State.mapFabric, h]

/-- The devices heard of by a collection without reports. -/
theorem heardOf_plain {c : Collect} (h : c.reports = []) : heardOf c = c.count := by
  simp [heardOf, h]

/-- The first arrival at a barrier of the binary, of several that are due. -/
theorem countArrival_opens {s : State} {m : ArrivalMsg} (w : Whose) (hnone : s.fabric.collects = []) (hseal : m.barrier ≠ sealBarrier)
    (hrep : m.reports = []) (hfew : m.count < s.devices) :
    s.countArrival m w = { s with fabric := { s.fabric with collects := [opened s m] } } := by
  obtain ⟨-, -, -, hcount, -, -, hreports⟩ := opened_eq s m
  have hheard : heardOf (opened s m) = m.count := by rw [heardOf_plain (by rw [hreports, hrep]; rfl), hcount]
  rw [State.countArrival, collectFor_none hnone]
  dsimp only
  rw [show addArrival { barrier := m.barrier, stepLo := m.stepLo, attempt := m.attempt, first := s.cycle } m = opened s m from rfl,
    if_neg (by omega), if_neg hseal, putCollect_first hnone]
  exact if_neg (show ¬ s.devices ≤ heardOf (opened s m) by omega)

theorem takeAbort_opens {s : State} (hnone : s.fabric.collects = []) (b : W32) (rank : Nat) (r : SealReport) (hmany : 2 ≤ s.devices) :
    ∃ c : Collect, s.takeAbort b rank r = { s with fabric := { s.fabric with collects := [c] } } ∧ c.window = some (s.cycle + 64) ∧
      c.reports.map (·.signature.rank) = [BitVec.ofNat 16 rank] ∧ c.stepLo = r.stepLo := by
  simp only [State.takeAbort, State.mapFabric, hnone, List.any_nil]
  refine ⟨_, rfl, ?_, rfl, rfl⟩
  simp only [abortWindow, putReport, heardOf, has, Option.getD_none]
  rw [if_neg (by simp; omega)]

theorem notePhase_frame (s : State) (b : W32) (t : Cycle) : s.notePhase b t = { s with power := (s.notePhase b t).power } := by
  unfold State.notePhase
  split <;> rfl

/-- The release of a barrier lies with the fabric and the phases. -/
theorem noteRelease_frame (s : State) (b step : W32) (a : BitVec 4) (t : Cycle) :
    s.noteRelease b step a t = { s with fabric := (s.noteRelease b step a t).fabric, power := (s.noteRelease b step a t).power } := by
  unfold State.noteRelease State.noteAnchor State.mapFabric
  rw [notePhase_frame]

theorem noteRelease_mem (s : State) (b step : W32) (a : BitVec 4) (t : Cycle) :
    (barrierKey b step, t) ∈ (s.noteRelease b step a t).fabric.releases := by
  unfold State.noteRelease State.mapFabric putPair
  simp

/-- Settles O33: the messages by their kind, and the device that they reach. -/
theorem teamMessages : Obligations.TeamMessages := by
  intro s
  refine ⟨fun port m hform => ⟨?_, fun x => ?_⟩, fun port m w hform hlead hcoll hnone hw hdec hb hnodup hcount hfew hrep => ?_,
    fun rank r hlead => ?_, fun rank r w hlead hcoll hdec hw hahead hnone hmany => ?_, fun b step a c hform hlead hb hw => ?_⟩
  · have hexec : exec (.barrierArrivalMessage port m) s = .next (barrierArrivalMessage port m s) := rfl
    rw [hexec, barrierArrivalMessage, if_pos (by simp [hform])]
  · have hexec : exec (.releaseMessage x) s = .next (releaseMessage x s) := rfl
    rw [hexec]
    unfold releaseMessage
    rw [if_pos (by simp [hform])]
  · obtain ⟨hundo, hseal, hgate, hres⟩ := plain_barrier hb
    obtain ⟨hcb, hcs, hca, hcc, hcr, hcf, -⟩ := opened_eq s m
    have hexec : exec (.barrierArrivalMessage port m) s = .next (barrierArrivalMessage port m s) := rfl
    rw [barrierArrivalMessage, if_neg (by simp [hform]), if_pos hlead,
      leadTake_counts hcoll hundo hres hw hdec hnone (Or.inr ⟨hseal, hgate⟩), countArrival_opens w hnone hseal hrep hfew] at hexec
    exact ⟨_, opened s m, hexec, rfl, hcb, hcs, hca, hcc, hcr, hcf, rfl⟩
  · have hexec : exec (.earlyAbort rank r) s = .next (earlyAbort rank r s) := rfl
    rw [hexec, earlyAbort, if_pos (by simp [hlead])]
    rfl
  · obtain ⟨c, hc, hwin, hranks, hstep⟩ := takeAbort_opens hnone (s.nextBarrier w) rank r hmany
    have hexec : exec (.earlyAbort rank r) s = .next (earlyAbort rank r s) := rfl
    rw [earlyAbort, if_neg (by simp [hlead]), if_neg (by simp [hcoll, hdec]), hw] at hexec
    dsimp only at hexec
    rw [if_neg hahead, hc] at hexec
    exact ⟨_, c, hexec, rfl, hwin, hranks, hstep, rfl⟩
  · have hexec : exec (.releaseMessage (.barrier b step a c)) s = .next (releaseMessage (.barrier b step a c) s) := rfl
    simp only [releaseMessage, hform, hlead, hb, Bool.not_true, Bool.false_eq_true, if_false] at hexec
    by_cases hkids : s.fabric.children = []
    · rw [if_pos (show s.fabric.children.isEmpty = true by simp [hkids]), if_pos hw] at hexec
      refine ⟨_, hexec, noteRelease_mem .., fun h => absurd hkids h, ?_⟩
      rw [noteRelease_frame]
    · have hpass : (s.send (.release (.barrier b step a c))).whoseOf step a = s.whoseOf step a := rfl
      rw [if_neg (show ¬ s.fabric.children.isEmpty = true by simpa using hkids), hpass, if_pos hw] at hexec
      refine ⟨_, hexec, noteRelease_mem .., fun _ => ?_, ?_⟩
      · rw [noteRelease_frame]
        simp
      · rw [noteRelease_frame]
        rfl

/-! ### Arrivals on a device alone (R249, R251, R186) -/

/-- What makes a device alone with a step under way take its own arrivals: it leads, it collects, and nothing is decided. -/
structure Alone (s : State) : Prop where
  job : ∃ j, s.job = some j ∧ j.binary.serving = false ∧ j.evalRunning = none ∧ j.outcomes = []
  formed : s.formed = false
  collecting : s.collecting = true
  collects : s.fabric.collects = []

theorem Alone.lead {s : State} (h : Alone s) : s.isLead = true := by simp [State.isLead, h.formed]

theorem Alone.devices {s : State} (h : Alone s) : s.devices = 1 := by simp [State.devices, h.formed]

theorem Alone.decided {s : State} (h : Alone s) (step : W32) (a : BitVec 4) : s.decided step a = false := by
  obtain ⟨j, hj, -, -, hout⟩ := h.job
  simp [State.decided, hj, hout]

theorem Alone.whoseOf {s : State} (h : Alone s) :
    s.whoseOf (BitVec.ofNat 32 (s.numberOf .step)) (BitVec.ofNat 4 (s.attemptNumber .step)) = some .step := by
  obtain ⟨j, hj, hserv, heval, -⟩ := h.job
  simp [State.whoseOf, hj, hserv, heval, State.carries]

/-- The step's arrival at a barrier reaches the decision, when it names no reserved barrier. -/
theorem Alone.arrive {s : State} (h : Alone s) {m : ArrivalMsg} (hstep : m.stepLo = BitVec.ofNat 32 (s.numberOf .step))
    (hatt : m.attempt = BitVec.ofNat 4 (s.attemptNumber .step)) (hundo : m.barrier ≠ undoBarrier)
    (hres : barrierReserved m.barrier = false) : s.arrive m = s.countArrival m .step := by
  rw [State.arrive, if_pos h.lead]
  refine leadTake_counts h.collecting hundo hres ?_ (h.decided _ _) h.collects (Or.inl (by simp))
  rw [hstep, hatt]
  exact h.whoseOf

theorem opened_of_one {s : State} {m : ArrivalMsg} (hcount : m.count = 1) (hrep : m.reports = []) :
    (opened s m).count = 1 ∧ heardOf (opened s m) = 1 := by
  obtain ⟨-, -, -, hc, -, -, hr⟩ := opened_eq s m
  have h : (opened s m).count = 1 := hc.trans hcount
  exact ⟨h, (heardOf_plain (by rw [hr, hrep]; rfl)).trans h⟩

/-- The one device's arrival at a barrier of the binary decides it. -/
theorem Alone.countArrival {s : State} (h : Alone s) {m : ArrivalMsg} (hseal : m.barrier ≠ sealBarrier) (hcount : m.count = 1)
    (hrep : m.reports = []) : s.countArrival m .step = (s.putCollect (opened s m)).decideBarrier (opened s m) .step := by
  obtain ⟨hc, hheard⟩ := opened_of_one (s := s) hcount hrep
  have hdev : (s.putCollect (opened s m)).devices = s.devices := rfl
  rw [State.countArrival, collectFor_none h.collects]
  dsimp only
  rw [show addArrival { barrier := m.barrier, stepLo := m.stepLo, attempt := m.attempt, first := s.cycle } m = opened s m from rfl,
    if_neg (by rw [hc, h.devices]; decide), if_neg hseal, hdev, if_pos (Nat.le_of_eq (by rw [hheard, h.devices]))]

/-- Its arrival at the seal decides the attempt. -/
theorem Alone.countArrival_seal {s : State} (h : Alone s) {m : ArrivalMsg} (hseal : m.barrier = sealBarrier) (hcount : m.count = 1)
    (hrep : m.reports = []) :
    s.countArrival m .step = ((s.mapFabric fun f => { f with saveTime := max f.saveTime m.saveTime }).putCollect
      (opened s m)).decideBarrier (opened s m) .step := by
  obtain ⟨hc, hheard⟩ := opened_of_one (s := s) hcount hrep
  have hdev : ((s.mapFabric fun f => { f with saveTime := max f.saveTime m.saveTime }).putCollect (opened s m)).devices = s.devices := rfl
  rw [State.countArrival, collectFor_none h.collects]
  dsimp only
  rw [show addArrival { barrier := m.barrier, stepLo := m.stepLo, attempt := m.attempt, first := s.cycle } m = opened s m from rfl,
    if_neg (by rw [hc, h.devices]; decide), if_pos hseal, hdev, if_pos (Nat.le_of_eq (by rw [hheard, h.devices]))]

theorem decideBarrier_plain {s : State} {c : Collect} (w : Whose) (hform : s.formed = false) (hseal : c.barrier ≠ sealBarrier)
    (hgate : c.barrier ≠ gateBarrier) :
    s.decideBarrier c w = (s.mapFabric fun f => { f with collects := f.collects.filter fun x =>
      !(x.barrier == c.barrier && x.stepLo == c.stepLo && x.attempt == c.attempt) }).noteRelease c.barrier c.stepLo c.attempt
        (s.cycle + BitVec.ofNat 64 s.margin) := by
  have hframe : ∀ (u : State) b x a t, (u.noteRelease b x a t).formed = u.formed := fun u b x a t => by
    rw [noteRelease_frame]
    rfl
  rw [State.decideBarrier]
  dsimp only
  rw [if_neg (by simp [hseal, hgate]), hframe, if_neg]
  exact ne_true_of_eq_false hform

/-- The outcome that the decision of an attempt fixes. -/
def fixedOutcome (s : State) (c : Collect) (w : Whose) : SealOutcome :=
  { s.judgeCollect c w with
    release := s.cycle + BitVec.ofNat 64 s.margin, attempt := c.attempt, gate := c.barrier == gateBarrier, stepLo := c.stepLo }

theorem announce_job {s : State} {j : Job} (hj : s.job = some j) (o : SealOutcome) :
    (s.announce o).job = some { j with outcomes := j.outcomes ++ [o] } := by
  unfold State.announce State.mapJob
  rw [hj]
  dsimp only
  split <;> rfl

theorem decideBarrier_seal {s : State} {c : Collect} (w : Whose) (h : c.barrier = sealBarrier ∨ c.barrier = gateBarrier) :
    s.decideBarrier c w = (s.mapFabric fun f =>
      { f with collects := f.collects.filter fun x => !(x.stepLo == c.stepLo && x.attempt == c.attempt) }).announce
        (fixedOutcome (s.mapFabric fun f =>
          { f with collects := f.collects.filter fun x => !(x.stepLo == c.stepLo && x.attempt == c.attempt) }) c w) := by
  rw [State.decideBarrier]
  dsimp only
  rw [if_pos (by rcases h with h | h <;> simp [h])]
  rfl

/-- A clean attempt of a device whose judgement nothing changes seals. -/
theorem judgeCollect_clean {s : State} {c : Collect} (hrep : c.reports = []) (hnum : c.numericalAny = false) (hwidth : c.widthAny = false)
    (hsingle : s.singleField = false) (hback : s.fabric.judgeRollback = []) (w : Whose) : (s.judgeCollect c w).code = .seal := by
  have hlow : ∀ cls, lowestReport [] cls = none := fun _ => rfl
  simp [State.judgeCollect, hrep, hnum, hwidth, hsingle, hback, judgeReports, hlow]

theorem all_zipIdx {α : Type} (l : List α) (f : α → Nat → Bool) :
    (l.zipIdx.all fun q => f q.1 q.2) = true ↔ ∀ i a, l[i]? = some a → f a i = true := by
  rw [List.all_eq_true]
  constructor
  · intro h i a ha
    exact h (a, i) (List.mk_mem_zipIdx_iff_getElem?.mpr ha)
  · rintro h ⟨a, i⟩ hq
    exact h i a (List.mk_mem_zipIdx_iff_getElem?.mp hq)

/-- The arrivals of plots with a plot's own at a barrier. -/
def withArrival (s : State) (key p : Nat) : List (Nat × Nat) :=
  s.fabric.plotArrivals.filter (fun a => a != (key, p)) ++ [(key, p)]

theorem mem_withArrival_self (s : State) (key p : Nat) : (key, p) ∈ withArrival s key p := by simp [withArrival]

theorem mem_withArrival_other {s : State} {key p o : Nat} (ho : o ≠ p) :
    (key, o) ∈ withArrival s key p ↔ (key, o) ∈ s.fabric.plotArrivals := by
  simp [withArrival, ho]

/-- Whether every plot that has not halted has arrived at a barrier, one of them just now. -/
def allArrived (s : State) (key p : Nat) : Bool :=
  s.plots.zipIdx.all fun q => q.1.halted || (withArrival s key p).any fun a => a == (key, q.2)

theorem allArrived_iff {s : State} {key p : Nat} :
    allArrived s key p = true ↔
      ∀ o x, o ≠ p → s.plotAt o = some x → x.halted = false → (key, o) ∈ s.fabric.plotArrivals := by
  unfold allArrived
  rw [all_zipIdx s.plots fun x i => x.halted || (withArrival s key p).any fun a => a == (key, i)]
  constructor
  · intro h o x ho hx hhalt
    have := h o x hx
    rw [hhalt] at this
    simpa [mem_withArrival_other ho] using this
  · intro h o x hx
    by_cases hhalt : x.halted = true
    · simp [hhalt]
    · by_cases ho : o = p
      · simp [ho, mem_withArrival_self]
      · simp [mem_withArrival_other ho, h o x ho hx (by simpa using hhalt)]

/-- The arrivals at other barriers: what is left when a barrier's last plot has arrived. -/
def otherArrivals (s : State) (key p : Nat) : List (Nat × Nat) := (withArrival s key p).filter fun a => a.1 != key

theorem barrierArrive_eq {s : State} {p : Nat} {pl : Plot} (hi : s.issuing p = some pl) {b : W32} (hb : b.toNat ≤ 0xFFFFFFEF) :
    barrierArrive p b s =
      let key := barrierKey b (BitVec.ofNat 32 (s.numberOf (s.whose pl)))
      if allArrived s key p then
        (s.mapFabric fun f => { f with plotArrivals := otherArrivals s key p }).arrive
          (s.plainArrival (s.whose pl) b)
      else s.mapFabric fun f => { f with plotArrivals := withArrival s key p } := by
  simp only [barrierArrive, hi]
  rw [if_neg (by omega)]
  rfl

theorem alone_of_atWork {s u : State} {p : Nat} {pl : Plot} {j : Job} (h : AtWork s p pl j) (hheld : u.held = false) (hform : u.formed = false)
    (hcoll : u.fabric.collects = []) (hout : j.outcomes = []) (hundo : j.running = true ∧ j.undoing = false)
    {a : Attempt} (hjob : u.job = some { j with attempt := a }) : Alone u := by
  obtain ⟨-, -, -, -, -, hserv, heval, -, -⟩ := h
  obtain ⟨hrun, hu⟩ := hundo
  exact ⟨⟨_, hjob, hserv, heval, hout⟩, hform, by simp [State.collecting, hjob, hrun, hu, hheld], hcoll⟩

theorem running_of_atWork {s : State} {p : Nat} {pl : Plot} {j : Job} (h : AtWork s p pl j) : j.running = true ∧ j.undoing = false := by
  obtain ⟨hr, -, -, -, hj, hserv, -⟩ := h
  simp only [State.jobRuns, hj, hserv, Bool.and_eq_true, Bool.or_false, Bool.not_eq_true'] at hr
  exact hr.2

theorem whose_of_atWork {s : State} {p : Nat} {pl : Plot} {j : Job} (h : AtWork s p pl j) : s.whose pl = .step := by
  have hw := whoseAt_of_atWork h
  obtain ⟨-, hp, -⟩ := h
  rwa [State.whoseAt, hp] at hw

/-! #### The seal arrival (R186) -/

/-- A plot's partials in the tables of its step (R116, R118, R119). -/
theorem flushPlot_step {s : State} {p : Nat} {pl : Plot} (hp : s.plotAt p = some pl) :
    ∃ n x, s.flushPlot p .step = (({ s with records := { s.records with current := x } } : State).bump 0x304002 n).mapPlot p
      fun q => { q with digests := [], tallies := [] } := by
  rw [State.flushPlot, hp]
  exact ⟨_, _, rfl⟩

theorem stepArrive_eq {s : State} {p : Nat} {pl : Plot} {j : Job} (h : AtWork s p pl j) :
    ∃ n x, s.stepArrive p pl =
      let u := ((({ s with records := { s.records with current := x } } : State).bump 0x304002 n).mapPlot p fun q =>
        { q with digests := [], tallies := [], arrived := true })
      if u.allPlots (·.arrived) then u.deviceArrives .step sealBarrier else u := by
  obtain ⟨-, hp, -, harr, -⟩ := id h
  obtain ⟨n, x, hflush⟩ := flushPlot_step hp
  refine ⟨n, x, ?_⟩
  rw [State.stepArrive, if_neg (by simp [harr]), whose_of_atWork h]
  dsimp only
  rw [hflush, State.mapPlot_mapPlot]

theorem allPlots_iff {s : State} {f : Plot → Bool} :
    s.allPlots f = true ↔ ∀ o x, s.plotAt o = some x → f x = true ∨ x.halted = true ∧ x.entered = false := by
  unfold State.allPlots State.plotAt
  rw [List.all_eq_true]
  constructor
  · intro h o x hx
    simpa using h x (List.mem_of_getElem? hx)
  · intro h x hx
    obtain ⟨o, ho⟩ := List.getElem?_of_mem hx
    simpa using h o x ho

/-- No digest pairs, none that differ (R117). -/
theorem checkPairs_none {s : State} {j : Job} (hj : s.job = some j) (hpairs : (slotMapOf j.binary j.role).pairs = []) (w : Whose) :
    s.checkPairs w = s := by
  simp [State.checkPairs, State.unequalPairs, hj, hpairs]

/-- The one report of a device whose attempt has met nothing (R186). -/
theorem reportArrival_clean {s : State} {b : W32} (hf : (s.attemptOf .step).fault = none) (hn : (s.attemptOf .step).numerical = false)
    (hw : (s.attemptOf .step).widthGroup = none) :
    (s.reportArrival .step b).reports = [] ∧ (s.reportArrival .step b).numericalAny = false ∧
      (s.reportArrival .step b).widthAny = false := by
  have hclass : (s.reportOf .step (if b = gateBarrier then 3 else 1)).faultClass = 0 := by simp [State.reportOf, hf]
  refine ⟨?_, ?_, ?_⟩
  · simp only [State.reportArrival, hclass, if_true]
  · simp [State.reportArrival, State.reportOf, hn]
  · simp [State.reportArrival, State.reportOf, hw]

/-- The seal arrival of a clean attempt on a device alone fixes the outcome that seals it. -/
theorem Alone.seals {v : State} (h : Alone v) {j : Job} (hj : v.job = some j) (hf : (v.attemptOf .step).fault = none)
    (hn : (v.attemptOf .step).numerical = false) (hw : (v.attemptOf .step).widthGroup = none) (hsingle : v.singleField = false)
    (hback : v.fabric.judgeRollback = []) :
    ∃ o, (v.arrive (v.reportArrival .step sealBarrier)).job = some { j with outcomes := j.outcomes ++ [o] } ∧ o.code = .seal ∧
      o.gate = false ∧ o.release = v.cycle + BitVec.ofNat 64 v.margin ∧ o.stepLo = BitVec.ofNat 32 (v.numberOf .step) := by
  obtain ⟨hrep, hnumer, hwidth⟩ := reportArrival_clean (s := v) (b := sealBarrier) hf hn hw
  obtain ⟨hbar, hstep, -, -, -, -, hor⟩ := opened_eq v (v.reportArrival .step sealBarrier)
  have hon : (opened v (v.reportArrival .step sealBarrier)).numericalAny = false := by simp [opened, addArrival, hnumer]
  have how : (opened v (v.reportArrival .step sealBarrier)).widthAny = false := by simp [opened, addArrival, hwidth]
  rw [h.arrive rfl rfl (show ¬ sealBarrier = undoBarrier by decide) (show barrierReserved sealBarrier = false by decide),
    h.countArrival_seal rfl rfl hrep, decideBarrier_seal .step (Or.inl hbar)]
  have hgate : ((opened v (v.reportArrival .step sealBarrier)).barrier == gateBarrier) = false := hbar ▸ (show (sealBarrier == gateBarrier) = false by decide)
  have hclean := fun (x : State) hs hb => judgeCollect_clean (s := x) (hor.trans (by rw [hrep]; rfl)) hon how hs hb .step
  generalize opened v (v.reportArrival .step sealBarrier) = c at hstep hgate hclean ⊢
  refine ⟨_, announce_job ?_ _, hclean _ ?_ ?_, hgate, rfl, hstep⟩
  · exact hj
  · exact hsingle
  · exact hback

/-- Settles O32: barrier arrivals and the seal arrival of a device alone. -/
theorem arrivalsAlone : Obligations.ArrivalsAlone := by
  intro p pl j s hwork hi hheld hform hcoll hout
  obtain ⟨hruns, hp, hstop, harr, hj, hserv, heval, hfault, hdev⟩ := id hwork
  have hwhose := whose_of_atWork hwork
  have hnum : s.numberOf (s.whose pl) = s.num 0x205001 + 1 := by rw [hwhose]; rfl
  have hbar : ∀ b, exec (.barrierArrive p b) s = .next (barrierArrive p b s) := fun _ => rfl
  have hseal : exec (.sealArrive p false) s = .next (s.stepArrive p pl) := by
    have hexec : exec (.sealArrive p false) s = .next (sealArrive p false s) := rfl
    have hs : s.serving = false := by simp [State.serving, hj, hserv]
    rw [hexec, sealArrive, hi]
    simp [hs]
  refine ⟨fun b hb hlate => ?_, fun b hb hall => ?_, fun o x ho hx hxarr hxhalt hs => ?_, fun hall hpairs hsingle habort hnumer hwidth hback => ?_⟩
  · have hexec := hbar b
    rw [barrierArrive_eq hi hb] at hexec
    dsimp only at hexec
    rw [hnum, if_neg] at hexec
    · exact ⟨_, hexec, mem_withArrival_self .., rfl⟩
    · intro hall
      obtain ⟨o, x, ho, hx, hhalt, hnot⟩ := hlate
      exact hnot (allArrived_iff.mp hall o x ho hx hhalt)
  · obtain ⟨hundo, hnseal, hgate, hres⟩ := plain_barrier hb
    have hexec := hbar b
    rw [barrierArrive_eq hi hb] at hexec
    dsimp only at hexec
    rw [hnum, if_pos (allArrived_iff.mpr hall), hwhose] at hexec
    generalize hu : (s.mapFabric fun f => { f with
      plotArrivals := otherArrivals s (barrierKey b (BitVec.ofNat 32 (s.num 0x205001 + 1))) p }) = u at hexec
    have hframe : u = { s with fabric := u.fabric } := by rw [← hu]; rfl
    have halone : Alone u := by
      refine alone_of_atWork hwork ?_ ?_ ?_ hout (running_of_atWork hwork) (a := j.attempt) ?_
      · rw [hframe]; exact hheld
      · rw [hframe]; exact hform
      · rw [← hu]; exact hcoll
      · rw [hframe]; exact hj
    have hplain : s.plainArrival .step b = u.plainArrival .step b := by rw [hframe]; rfl
    rw [hplain, halone.arrive rfl rfl hundo hres, halone.countArrival hnseal rfl rfl,
      decideBarrier_plain (s := u.putCollect (opened u (u.plainArrival .step b))) .step halone.formed hnseal hgate] at hexec
    have hcycle : u.cycle = s.cycle := by rw [hframe]
    have hmargin : u.margin = s.margin := by rw [hframe]; rfl
    have hstep : BitVec.ofNat 32 (u.numberOf .step) = BitVec.ofNat 32 (s.num 0x205001 + 1) := by rw [hframe]; rfl
    refine ⟨_, hexec, ?_, ?_⟩
    · rw [← hcycle, ← hmargin, ← hstep]
      exact noteRelease_mem ..
    · rw [noteRelease_frame, hframe]
      rfl
  · obtain ⟨n, y, hstep⟩ := stepArrive_eq hwork
    rw [hstep] at hseal
    dsimp only at hseal
    have hplot := State.plotAt_mapPlot_same (s := ({ s with records := { s.records with current := y } } : State).bump 0x304002 n) hp
      fun q => { q with digests := [], tallies := [], arrived := true }
    rw [if_neg] at hseal
    · refine ⟨_, _, hseal, hplot, rfl, rfl, rfl, rfl, rfl, fun k hk => ?_, rfl⟩
      exact State.num_bump_other ({ s with records := { s.records with current := y } } : State) _ hk.symm
    · intro hall
      rcases allPlots_iff.mp hall o x ((State.plotAt_mapPlot_other _ _ ho).trans hx) with h | ⟨h, -⟩
      · exact absurd h (by simp [hxarr])
      · exact absurd h (by simp [hxhalt])
  · obtain ⟨n, y, hstep⟩ := stepArrive_eq hwork
    rw [hstep] at hseal
    dsimp only at hseal
    have hplot := State.plotAt_mapPlot_same (s := ({ s with records := { s.records with current := y } } : State).bump 0x304002 n) hp
      fun q => { q with digests := [], tallies := [], arrived := true }
    have hother : ∀ o, o ≠ p → (((({ s with records := { s.records with current := y } } : State).bump 0x304002 n).mapPlot p
      fun q => { q with digests := [], tallies := [], arrived := true })).plotAt o = s.plotAt o :=
        fun o ho => State.plotAt_mapPlot_other _ _ ho
    have hframe : (((({ s with records := { s.records with current := y } } : State).bump 0x304002 n).mapPlot p
      fun q => { q with digests := [], tallies := [], arrived := true })) = { s with
        records := { s.records with current := y }
        nums := (({ s with records := { s.records with current := y } } : State).bump 0x304002 n).nums
        plots := (((({ s with records := { s.records with current := y } } : State).bump 0x304002 n).mapPlot p
          fun q => { q with digests := [], tallies := [], arrived := true })).plots } := rfl
    have hnums : ∀ k, 0x304002 ≠ k → (((({ s with records := { s.records with current := y } } : State).bump 0x304002 n).mapPlot p
      fun q => { q with digests := [], tallies := [], arrived := true })).num k = s.num k :=
        fun k hk => State.num_bump_other ({ s with records := { s.records with current := y } } : State) _ hk
    generalize ((({ s with records := { s.records with current := y } } : State).bump 0x304002 n).mapPlot p
      fun q => { q with digests := [], tallies := [], arrived := true }) = u at hseal hplot hother hframe hnums
    have hall' : u.allPlots (·.arrived) = true := by
      refine allPlots_iff.mpr fun o x hx => Or.inl ?_
      by_cases ho : o = p
      · subst ho
        obtain rfl := Option.some.inj (hplot.symm.trans hx)
        rfl
      · exact hall o x ho ((hother o ho).symm.trans hx)
    have hjob : u.job = some j := by rw [hframe]; exact hj
    rw [if_pos hall', State.deviceArrives, if_pos rfl, checkPairs_none hjob hpairs] at hseal
    have hrun := running_of_atWork hwork
    have hvjob := mapWhose_step_job hjob fun a =>
      if sealBarrier = gateBarrier then { a with gateArrived := true } else { a with arrived := true }
    have hvframe : (u.mapWhose .step fun a => if sealBarrier = gateBarrier then { a with gateArrived := true }
      else { a with arrived := true }) = { u with job := (u.mapWhose .step fun a =>
        if sealBarrier = gateBarrier then { a with gateArrived := true } else { a with arrived := true }).job } := rfl
    generalize (u.mapWhose .step fun a => if sealBarrier = gateBarrier then { a with gateArrived := true }
      else { a with arrived := true }) = v at hseal hvjob hvframe
    rw [if_neg (show ¬ sealBarrier = gateBarrier by decide)] at hvjob
    have hatt : v.attemptOf .step = { j.attempt with arrived := true } := by simp [State.attemptOf, hvjob]
    have hfab : v.fabric = s.fabric := by rw [hvframe, hframe]
    have hnum' : ∀ k, 0x304002 ≠ k → v.num k = s.num k := fun k hk => by rw [hvframe]; exact hnums k hk
    have halone : Alone v := by
      refine alone_of_atWork hwork ?_ ?_ (by rw [hfab]; exact hcoll) hout hrun (a := { j.attempt with arrived := true }) hvjob
      · rwa [State.held, hnum' _ (by decide)]
      · rwa [State.formed, hnum' _ (by decide)]
    rw [if_neg (by simp [hatt, habort])] at hseal
    obtain ⟨o, hojob, hcode, hgate, hrel, hstepLo⟩ := halone.seals hvjob (by rw [hatt]; exact hfault) (by rw [hatt]; exact hnumer)
      (by rw [hatt]; exact hwidth) (by simp [State.singleField, hvjob, hsingle]) (by rw [hfab]; exact hback)
    refine ⟨_, o, hseal, by rw [hojob]; simp [hout], hcode, hgate, ?_, ?_, by rw [hojob]; rfl⟩
    · rw [hrel]
      have hm : v.margin = s.margin := by
        simp only [State.margin, State.formed, hnum' 0x400006 (by decide), hnum' 0x40000B (by decide), hnum' 0x40000A (by decide)]
        rfl
      have hc : v.cycle = s.cycle := by rw [hvframe, hframe]
      rw [hm, hc]
    · rw [hstepLo, State.numberOf, hnum' _ (by decide)]

end Sys2Proof.Proofs

/-! ## Records of the Hopper table (R396 to R403) -/

namespace Sys2Proof.Proofs

open Sys2Proof Machine

theorem slotOfTicket_of_toNat {t : W64} {n : Nat} (h : t.toNat = n) (hpos : 0 < n) : slotOfTicket t = (n - 1) % 4096 := by
  have ht := t.isLt
  have : (t - 1).toNat = n - 1 := by
    rw [BitVec.toNat_sub_of_le (by rw [BitVec.le_def]; simp; omega)]
    simp [h]
  rw [slotOfTicket, this]

theorem Completion.status_bits {c : Completion} (cycle : Cycle) (h : c.status < 2 ^ 32) :
    bitsOf 31 0 (c.bits cycle).toNat = c.status := by
  simp only [Completion.bits, bitsOf, BitVec.toNat_ofNat]
  omega

/-- A slot that is not empty stands in the table as it was put. -/
theorem get_set_slot (m : SMap Slot) (k : Nat) {v : Slot} (h : v.state ≠ 0) : SMap.get {} (SMap.set {} m k v) k = v := by
  have hne : v ≠ {} := fun he => h (by rw [he])
  rw [SMap.set, if_neg hne, SMap.get_put_same]

/-- The record of a ticket has completed with what its completion record says (R403). -/
theorem completed_complete (s : State) (ticket : W64) {c : Completion} (h : c.status < 2 ^ 32) :
    Completed (s.complete ticket c) ticket c.status := by
  have hslot : SMap.get {} (s.complete ticket c).hopper (slotOfTicket ticket) =
      { SMap.get {} s.hopper (slotOfTicket ticket) with body := c.bits s.cycle, state := 3 } := by
    rw [State.complete, raise_hopper]
    exact get_set_slot _ _ (show (3 : BitVec 8) ≠ 0 by decide)
  rw [Completed, hslot]
  exact ⟨rfl, Completion.status_bits _ h⟩

theorem complete_slot_other (s : State) (ticket : W64) (c : Completion) {k : Nat} (h : slotOfTicket ticket ≠ k) :
    SMap.get {} (s.complete ticket c).hopper k = SMap.get {} s.hopper k := by
  rw [State.complete, raise_hopper]
  exact SMap.get_set_other _ _ _ _ h

/-- A completion touches the table, and what its event touches. -/
theorem complete_frame (s : State) (ticket : W64) (c : Completion) :
    s.complete ticket c = { s with hopper := (s.complete ticket c).hopper, ctl := (s.complete ticket c).ctl
                                   outbox := (s.complete ticket c).outbox, nums := (s.complete ticket c).nums } := by
  rw [State.complete, State.raise_frame]

theorem num_complete (s : State) (ticket : W64) (c : Completion) {k : Nat} (h : eventCause ≠ k) :
    (s.complete ticket c).num k = s.num k := by
  rw [State.complete, State.num_raise_other _ _ h]
  rfl

theorem complete_cur (s : State) (ticket : W64) (c : Completion) : (s.complete ticket c).ctl.cur = s.ctl.cur := by
  rw [State.complete, raise_ctl_cur]

/-- A sweep takes nothing when the next ticket's record is not to be taken. -/
theorem sweepOn_of_not_takeable {s : State} (h : takeable (SMap.get {} s.hopper ((s.num 0x201004 - 1) % 4096)) (s.num 0x201004) = false)
    (fuel : Nat) (seen keys : Bool) : s.sweepOn fuel seen keys = s := by
  cases fuel with
  | zero => rfl
  | succ n =>
    rw [State.sweepOn, h, if_neg (by simp)]

theorem not_takeable_of_state {v : Slot} (h : v.state ≠ 1) (n : Nat) : takeable v n = false := by
  have hstate : (v.state == 1) = false := by simpa using h
  rw [takeable, hstate]
  rfl

theorem sweep_of_not_takeable {s : State} (h : takeable (SMap.get {} s.hopper ((s.num 0x201004 - 1) % 4096)) (s.num 0x201004) = false)
    (keys : Bool) : s.sweep keys = s := by
  rw [State.sweep, sweepOn_of_not_takeable h, ite_self]

theorem sweepIntervalExpiry_of_not_takeable {s : State} {w : List HostWrite}
    (h : takeable (SMap.get {} (s.hostWrites w).hopper (((s.hostWrites w).num 0x201004 - 1) % 4096))
      ((s.hostWrites w).num 0x201004) = false) (keys : Bool) : sweepIntervalExpiry w keys s = s.hostWrites w := by
  rw [sweepIntervalExpiry, sweep_of_not_takeable h, ite_self]

/-- Settles O40: sweeps without a record to take, and one that takes a record which its state refuses. -/
theorem sweeps : Obligations.Sweeps := by
  intro keys s hs
  have hexec : ∀ w, exec (.sweepIntervalExpiry w keys) s = .next (sweepIntervalExpiry w keys s) := fun _ => rfl
  refine ⟨fun hnone => ⟨?_, fun a bs => ?_⟩, fun v hv hbad => ?_, fun hsw htilled hpos hlt v hv htake hkind hother => ?_⟩
  · rw [hexec, sweepIntervalExpiry_of_not_takeable (w := []) (not_takeable_of_state (hnone _) _)]
    rfl
  · refine ⟨_, hexec _, ?_⟩
    rw [sweepIntervalExpiry_of_not_takeable (w := [.tier a bs]) (not_takeable_of_state (hnone _) _)]
    obtain ⟨-, -, -, htier, -⟩ := hs
    exact ⟨rfl, Memory.readBytes_writeBytes_same a bs htier, fun x hx => Memory.readByte_writeBytes_other _ bs hx⟩
  · rw [hexec, sweepIntervalExpiry_of_not_takeable (w := [])]
    · rfl
    · have hcheck : (v.check == slotCheck v) = false := by simpa using hbad
      change takeable (SMap.get {} s.hopper ((s.num 0x201004 - 1) % 4096)) _ = false
      rw [hv, takeable, hcheck]
      simp
  · refine ⟨_, hexec _, ?_⟩
    obtain ⟨⟨⟨hstate, hticket⟩, -⟩, -⟩ : ((v.state = 1 ∧ v.ticket.toNat = s.num 0x201004) ∧ v.check = slotCheck v) ∧ v.poisoned = false := by
      simpa [takeable] using htake
    have hslot := slotOfTicket_of_toNat hticket hpos
    have hjudge : ∀ u : State, u.ctl.cur = .tilled → u.judge v.kind.toNat v.body.toNat (v.reserved != 0) false = some 0x00650001 := by
      intro u hu
      have hk : v.kind.toNat = 2 := by rw [hkind]; rfl
      simp [State.judge, hk, State.kindAccepted, hu, kindRefusal]
    generalize hu : ({ s with hopper := SMap.set {} s.hopper ((s.num 0x201004 - 1) % 4096) { v with state := 2 } }.setNum 0x201004
      (s.num 0x201004 + 1) : State) = u
    have hrest : ∀ k, (s.num 0x201004 - 1) % 4096 ≠ k → SMap.get {} u.hopper k = SMap.get {} s.hopper k := by
      intro k hk
      rw [← hu]
      exact SMap.get_set_other _ _ s.hopper _ hk
    have hrecord : s.takeRecord v false keys = u.complete v.ticket { status := 0x00650001 } := by
      rw [State.takeRecord]
      dsimp only
      rw [hu, hjudge u (by rw [← hu]; exact htilled)]
      dsimp only
      rw [if_neg (by simp [hkind])]
    have hnum : (u.complete v.ticket { status := 0x00650001 }).num 0x201004 = s.num 0x201004 + 1 := by
      rw [num_complete _ _ _ (by decide), ← hu]
      exact State.num_setNum_same (s := { s with hopper := _ }) hs _ _
    have hnext : ((u.complete v.ticket { status := 0x00650001 }).num 0x201004 - 1) % 4096 ≠ (s.num 0x201004 - 1) % 4096 := by
      rw [hnum]
      omega
    have hsweep : sweepIntervalExpiry [] keys s = u.complete v.ticket { status := 0x00650001 } := by
      rw [sweepIntervalExpiry]
      change (if (s.ctl.cur == .growing && _) = true then s else s.sweep keys) = _
      rw [if_neg (by simp [htilled]), State.sweep, if_pos hsw, State.sweepOn]
      rw [hv, htake, State.staysBehind, hjudge s htilled, if_pos (by rfl), hrecord]
      refine sweepOn_of_not_takeable (not_takeable_of_state ?_ _) _ _ _
      rw [complete_slot_other _ _ _ (by rw [hslot]; exact hnext.symm), hrest _ hnext.symm]
      exact hother _ hnext
    rw [hsweep]
    refine ⟨completed_complete _ _ (by decide), hnum, ?_⟩
    rw [complete_cur, ← hu]
    exact htilled

/-! ## Forming a team (R242, R244, R250) -/

section
variable {s : State}

/-- No neighbour has said who it is. -/
def NoNeighbour (s : State) : Prop := ∀ p ∈ s.fabric.ports, p.identity = none

theorem NoNeighbour.identity (h : NoNeighbour s) (n : Nat) : (s.portAt n).identity = none := by
  rw [State.portAt, nth_eq_getD]
  cases hp : s.fabric.ports[n]? with
  | none => rfl
  | some p => exact h p (List.mem_of_getElem? hp)

theorem NoNeighbour.sameTeam (h : NoNeighbour s) (n : Nat) : s.sameTeam (s.portAt n) = false := by
  rw [State.sameTeam, h.identity]
  rfl

theorem NoNeighbour.settlePorts (h : NoNeighbour s) : s.settlePorts = s := by
  have hport : ∀ n, s.settlePort n = s := fun n => by
    rw [State.settlePort, if_neg (by simp [h.identity])]
  rw [State.settlePorts]
  induction List.range 28 with
  | nil => rfl
  | cons n ns ih => rw [List.foldl_cons, hport, ih]

theorem NoNeighbour.childPeers (h : NoNeighbour s) : s.childPeers = [] := by
  have hpeer : ∀ n, s.peerOf n = none := fun n => by
    rw [State.peerOf, if_neg (by simp [h.sameTeam])]
  simp [State.childPeers, State.peers, hpeer]

theorem NoNeighbour.mismatched (h : NoNeighbour s) : s.mismatched = false := by
  simp [State.mismatched, State.teamPorts, h.sameTeam]

/-- The lead device without neighbours is the root of a tree of one. -/
theorem NoNeighbour.settleTree (h : NoNeighbour s) (hlead : s.leads = true) :
    s.settleTree = (s.setNum 0x40000C 0xFF).mapFabric fun f => { f with children := [] } := by
  have hchild : (s.setNum 0x40000C 0xFF).childPeers = [] := NoNeighbour.childPeers (s := s.setNum 0x40000C 0xFF) h
  rw [State.settleTree, if_pos hlead, hchild]
  rfl

/-- It forms the team when it is the whole team, and waits when it is not. -/
theorem NoNeighbour.settleForming (h : NoNeighbour s) (hforming : s.forming = true) (hlead : s.leads = true) (htime : s.num 0x400104 = 2)
    (hrank : s.rank = 0) : s.settleForming = if s.teamSize ≤ 1 then s.formTeam 0 else s := by
  have haligned : s.subtreeAligned = true := by simp [State.subtreeAligned, htime, h.childPeers]
  have hranks : s.subtreeRanks = [0] := by simp [State.subtreeRanks, h.childPeers, hrank]
  have hreach : s.reach = 0 := by simp [State.reach, h.childPeers]
  have hall : (List.range s.teamSize).all (has [0]) = true ↔ s.teamSize ≤ 1 := by
    rw [List.all_eq_true]
    constructor
    · intro hall
      refine Decidable.byContradiction fun hmore => ?_
      exact absurd (hall 1 (List.mem_range.mpr (by omega))) (by decide)
    · intro hone r hr
      rw [List.mem_range] at hr
      obtain rfl : r = 0 := by omega
      rfl
  rw [State.settleForming, if_neg (by simp [hforming]), if_neg (by simp [h.mismatched]), if_pos hlead]
  dsimp only
  rw [hranks, haligned, hreach, if_neg (by simp), if_neg (by decide)]
  by_cases hone : s.teamSize ≤ 1
  · rw [if_pos (hall.mpr hone), if_pos hone]
  · rw [if_neg (mt hall.mp hone), if_neg hone]

/-- A device's entries and ports as the Form verb leaves them, before it looks for its neighbours (R242). -/
def formingBegun (s : State) (lead : Nat) : State :=
  (((((((s.setNum 0x400006 1).setNum 0x400007 lead).setNum 0x400008 0).setNum 0x400009 0).setNum 0x40000B 0).setNum 0x40000C 0xFF).setNum
    0x400104 2).mapFabric fun f => { f with
      maps := [], links := [], children := [], lateBouts := 0, judgeRollback := []
      ports := f.ports.map fun p => { p with identity := p.identity.map fun i => { i with formed := none } } }

theorem noNeighbour_formingBegun (h : NoNeighbour s) (lead : Nat) : NoNeighbour (formingBegun s lead) := by
  intro p hp
  obtain ⟨q, hq, rfl⟩ := List.mem_map.mp (show p ∈ s.fabric.ports.map _ from hp)
  simp [h q hq]

/-- The entries that the Form verb sets, and no other, have changed. -/
theorem num_formingBegun (hs : Canonical s) (lead : Nat) :
    (formingBegun s lead).num 0x400006 = 1 ∧ (formingBegun s lead).num 0x400007 = lead ∧ (formingBegun s lead).num 0x400008 = 0 ∧
      (formingBegun s lead).num 0x400104 = 2 ∧ (formingBegun s lead).num 0x400003 = s.num 0x400003 ∧
      (formingBegun s lead).num 0x400002 = s.num 0x400002 ∧ (formingBegun s lead).num 0x40000A = s.num 0x40000A := by
  have h1 := State.canonical_setNum hs 0x400006 1
  have h2 := State.canonical_setNum h1 0x400007 lead
  have h3 := State.canonical_setNum h2 0x400008 0
  have h4 := State.canonical_setNum h3 0x400009 0
  have h5 := State.canonical_setNum h4 0x40000B 0
  have h6 := State.canonical_setNum h5 0x40000C 0xFF
  have hnum : ∀ k, (formingBegun s lead).num k = if 0x400104 = k then 2 else if 0x40000C = k then 0xFF else if 0x40000B = k then 0 else
      if 0x400009 = k then 0 else if 0x400008 = k then 0 else if 0x400007 = k then lead else if 0x400006 = k then 1 else s.num k := by
    intro k
    rw [← State.num_setNum hs, ← State.num_setNum h1, ← State.num_setNum h2, ← State.num_setNum h3, ← State.num_setNum h4,
      ← State.num_setNum h5, ← State.num_setNum h6]
    rfl
  simp [hnum]

theorem canonical_formingBegun (hs : Canonical s) (lead : Nat) : Canonical (formingBegun s lead) :=
  (Keeps.refl s).setNum.setNum.setNum.setNum.setNum.setNum.setNum.mapFabric.canonical hs

theorem beginForming_lead (hlead : s.successors.head? = some 0) (hrank : s.num 0x400003 = 0) (hnone : NoNeighbour s) :
    s.beginForming = (formingBegun s 0).settleTree.settleForming.sendIdentities := by
  have hports := (noNeighbour_formingBegun hnone 0).settlePorts
  have hr : (((((((s.setNum 0x400006 1).setNum 0x400007 0).setNum 0x400008 0).setNum 0x400009 0).setNum 0x40000B 0).setNum 0x40000C
      0xFF : State)).rank = 0 := by
    unfold State.rank
    iterate 6 rw [State.num_setNum_other _ _ (by decide)]
    exact hrank
  rw [State.beginForming, hlead]
  dsimp only [Option.getD_some]
  rw [if_pos hr.symm]
  change (formingBegun s 0).settlePorts.settleTree.settleForming.sendIdentities = _
  rw [hports]

/-- A formed team's entries (R242, R250). -/
theorem num_formTeam (hs : Canonical s) (d : Nat) :
    (s.formTeam d).num 0x400006 = 2 ∧ (s.formTeam d).num 0x40000B = s.marginOf d ∧
      ∀ k, k ≠ 0x400006 ∧ k ≠ 0x400009 ∧ k ≠ 0x40000B ∧ k ≠ eventCause → (s.formTeam d).num k = s.num k := by
  have h6 := State.canonical_setNum hs 0x400006 2
  have h9 := State.canonical_setNum h6 0x400009 d
  have hmargin : (s.setNum 0x400006 2).marginOf d = s.marginOf d := by
    unfold State.marginOf
    rw [State.num_setNum_other _ _ (by decide)]
  have hnum : ∀ k, k ≠ eventCause → (s.formTeam d).num k =
      (((s.setNum 0x400006 2).setNum 0x400009 d).setNum 0x40000B ((s.setNum 0x400006 2).marginOf d)).num k := by
    intro k hk
    rw [State.formTeam, State.num_raise_other _ _ hk.symm]
    rfl
  refine ⟨?_, ?_, fun k ⟨h1, h2, h3, h4⟩ => ?_⟩
  · rw [hnum _ (by decide), State.num_setNum_other _ _ (by decide), State.num_setNum_other _ _ (by decide), State.num_setNum_same hs]
  · rw [hnum _ (by decide), State.num_setNum_same h9, hmargin]
  · rw [hnum _ h4, State.num_setNum_other _ _ h3.symm, State.num_setNum_other _ _ h2.symm, State.num_setNum_other _ _ h1.symm]

theorem formTeam_signals (hs : Canonical s) (d : Nat) : ((s.formTeam d).num 0x102001).testBit 7 = true :=
  State.raise_sets ((Keeps.refl s).setNum.setReach.mapFabric.canonical hs) .verbDone

theorem formTeam_mirror (d : Nat) : (s.formTeam d).ctl.mirror = s.ctl.mirror := by
  rw [State.formTeam, raise_ctl_mirror]
  rfl

/-- What a lead device of rank 0 without neighbours is after the Form verb: formed alone, or forming (R242). -/
theorem beginForming_alone (hs : Canonical s) (hlead : s.successors.head? = some 0) (hrank : s.num 0x400003 = 0) (hnone : NoNeighbour s) :
    s.beginForming.num 0x400007 = 0 ∧ s.beginForming.num 0x400008 = 0 ∧ s.beginForming.num 0x400104 = 2 ∧
      s.beginForming.ctl.mirror = s.ctl.mirror ∧
      (s.num 0x400002 = 1 → s.beginForming.num 0x400006 = 2 ∧ s.beginForming.num 0x40000B = 120 + s.num 0x40000A ∧
        (s.beginForming.num 0x102001).testBit 7 = true) ∧
      (2 ≤ s.num 0x400002 → s.beginForming.num 0x400006 = 1) := by
  have hu := noNeighbour_formingBegun hnone 0
  have hcu := State.canonical_setNum (canonical_formingBegun hs 0) 0x40000C 0xFF
  have hmirror : (formingBegun s 0).ctl.mirror = s.ctl.mirror := rfl
  obtain ⟨h6, h7, h8, h104, h3, h2, hA⟩ := num_formingBegun hs 0
  have hlead' : (formingBegun s 0).leads = true := by simp [State.leads, State.rank, h7, h3, hrank]
  rw [beginForming_lead hlead hrank hnone, hu.settleTree hlead']
  generalize formingBegun s 0 = u at hu hcu hmirror h6 h7 h8 h104 h3 h2 hA hlead'
  have hnum : ∀ k, 0x40000C ≠ k → ((u.setNum 0x40000C 0xFF).mapFabric fun f => { f with children := [] }).num k = u.num k :=
    fun k hk => show (u.setNum 0x40000C 0xFF).num k = u.num k from State.num_setNum_other u _ hk
  have hv : NoNeighbour ((u.setNum 0x40000C 0xFF).mapFabric fun f => { f with children := [] }) := hu
  have hcv : Canonical ((u.setNum 0x40000C 0xFF).mapFabric fun f => { f with children := [] }) := hcu
  have hmv : ((u.setNum 0x40000C 0xFF).mapFabric fun f => { f with children := [] }).ctl.mirror = s.ctl.mirror := hmirror
  generalize (u.setNum 0x40000C 0xFF).mapFabric (fun f => { f with children := [] }) = v at hnum hv hcv hmv ⊢
  have h6v : v.num 0x400006 = 1 := (hnum _ (by decide)).trans h6
  have h7v : v.num 0x400007 = 0 := (hnum _ (by decide)).trans h7
  have h8v : v.num 0x400008 = 0 := (hnum _ (by decide)).trans h8
  have h104v : v.num 0x400104 = 2 := (hnum _ (by decide)).trans h104
  have h3v : v.rank = 0 := ((hnum _ (by decide)).trans h3).trans hrank
  have h2v : v.teamSize = s.num 0x400002 := (hnum _ (by decide)).trans h2
  have hAv : v.num 0x40000A = s.num 0x40000A := (hnum _ (by decide)).trans hA
  rw [hv.settleForming (by simp [State.forming, h6v]) (by simp [State.leads, h7v, h3v]) h104v h3v, h2v]
  by_cases hone : s.num 0x400002 ≤ 1
  · obtain ⟨hform, hmargin, hother⟩ := num_formTeam hcv 0
    rw [if_pos hone]
    simp only [sendIdentities_num, sendIdentities_ctl, hform, hmargin, State.marginOf, hAv]
    refine ⟨?_, ?_, ?_, ?_, fun _ => ⟨trivial, rfl, formTeam_signals hcv 0⟩, fun h => absurd hone (by omega)⟩
    · rw [hother _ (by decide), h7v]
    · rw [hother _ (by decide), h8v]
    · rw [hother _ (by decide), h104v]
    · rw [formTeam_mirror, hmv]
  · rw [if_neg hone]
    simp only [sendIdentities_num, sendIdentities_ctl]
    exact ⟨h7v, h8v, h104v, hmv, fun h => absurd h (by omega), fun _ => h6v⟩

end

/-- Settles O47: the Form verb of a lead device without neighbours, and the end of the 10 s. -/
theorem teamFormation : Obligations.TeamFormation := by
  refine ⟨fun r s hs hasked _ hcur hports hrank hlead => ?_, fun r s hasked _ hcur => ?_, fun s hs hforming => ?_, fun s hidle => ?_⟩
  · have hexec : exec (.form r) s = .next (form r s) := rfl
    have hform : form r s = (answeredTo r none [] s).beginForming :=
      takeVerb_eq (effect := fun _ s => s.beginForming) hasked (by rw [hcur]; rfl) rfl
    have hnone : NoNeighbour (answeredTo r none [] s) := by
      intro p hp
      rw [answeredTo_fabric] at hp
      have := List.all_eq_true.mp hports p hp
      simp only [Bool.and_eq_true, Option.isNone_iff_eq_none] at this
      exact this.1
    have hnum : ∀ k, k ≠ 0x101003 → (answeredTo r none [] s).num k = s.num k := fun k hk => num_answeredTo hk
    obtain ⟨h7, h8, h104, hmirror, hone, htwo⟩ := beginForming_alone (canonical_answeredTo hs) (s := answeredTo r none [] s)
      (by rw [State.successors, answeredTo_oct]; exact hlead) (by rw [hnum _ (by decide), hrank]) hnone
    rw [hnum _ (by decide), hnum 0x40000A (by decide)] at hone
    rw [hnum _ (by decide)] at htwo
    rw [hexec, hform]
    exact ⟨_, rfl, hasAnswer_keep (hasAnswer_answeredTo hasked.1) (.beginForming (.refl _)) hmirror, h7, h8, h104, hone, htwo⟩
  · have hexec : exec (.form r) s = .next (form r s) := rfl
    have hrefused : form r s = answeredTo r (some Abort.wrongState.code) [] s :=
      takeVerb_of_wrongState hasked (by simp [tilledOnly, hcur])
    rw [hexec, hrefused]
    exact ⟨_, rfl, hasAnswer_answeredTo hasked.1, onlyAnswers_answeredTo⟩
  · have hexec : exec .formTimeout s = .next (formTimeout s) := rfl
    rw [hexec, formTimeout, if_pos (by simp [State.forming, hforming])]
    refine ⟨_, rfl, ?_, ?_, fun k h6 hcause => ?_⟩
    · rw [sendIdentities_num, State.failForming, State.num_raise_other _ _ (by decide)]
      exact State.num_setNum_same hs _ _
    · rw [sendIdentities_num]
      exact State.raise_sets (State.canonical_setNum hs _ _) .verbDone
    · rw [sendIdentities_num, State.failForming, State.num_raise_other _ _ hcause.symm]
      exact State.num_setNum_other s _ h6.symm
  · have hexec : exec .formTimeout s = .next (formTimeout s) := rfl
    rw [hexec, formTimeout, if_neg (by simpa [State.forming] using hidle)]

/-! ## Windrow ports -/

section
variable {s : State}

@[simp] theorem num_mapFabric (s : State) (f : Fabric → Fabric) (k : Nat) : (s.mapFabric f).num k = s.num k := rfl

theorem portAt_mapPort_other (s : State) {n m : Nat} (f : Port → Port) (h : m ≠ n) : (s.mapPort n f).portAt m = s.portAt m := by
  rw [State.portAt, State.portAt, nth_eq_getD, nth_eq_getD, State.mapPort_fabric, getElem?_modifyNth_other f _ h]

theorem portAt_mapPort_same {n : Nat} (f : Port → Port) (h : n < s.fabric.ports.length) : (s.mapPort n f).portAt n = f (s.portAt n) := by
  rw [State.portAt, State.portAt, nth_eq_getD, nth_eq_getD, State.mapPort_fabric, getElem?_modifyNth_same, List.getElem?_eq_getElem h]
  rfl

/-- A port in another state than off is one that the device has. -/
theorem port_lt_of_state {n : Nat} (h : (s.portAt n).state ≠ .off) : n < s.fabric.ports.length := by
  refine Decidable.byContradiction fun hn => ?_
  rw [State.portAt, nth_eq_getD, List.getElem?_eq_none (by omega)] at h
  exact h rfl

theorem port_lt_of_up {n : Nat} (h : (s.portAt n).up = true) : n < s.fabric.ports.length := by
  refine port_lt_of_state fun hoff => ?_
  simp [Port.up, hoff] at h

theorem map_modifyNth {α β : Type} (g : α → β) {f : α → α} (hf : ∀ a, g (f a) = g a) (l : List α) (n : Nat) :
    (modifyNth f l n).map g = l.map g := by
  apply List.ext_getElem?
  intro m
  rw [List.getElem?_map, List.getElem?_map]
  by_cases hm : m = n
  · subst hm
    rw [getElem?_modifyNth_same, Option.map_map, show g ∘ f = g from funext hf]
  · rw [getElem?_modifyNth_other f _ hm]

/-! ### Bouts (R229, R230) -/

theorem later_of_close {a b : Cycle} (h : a.toNat ≤ b.toNat) (hclose : b.toNat - a.toNat < 2 ^ 63) : later a b = b := by
  have ha := a.isLt
  have hb := b.isLt
  by_cases he : a = b
  · rw [he, later, ite_self]
  · have hne : a.toNat ≠ b.toNat := fun h => he (BitVec.eq_of_toNat_eq h)
    have hmsb : (a - b).msb = true := by
      rw [BitVec.msb_eq_decide, decide_eq_true_eq, BitVec.toNat_sub]
      omega
    rw [later, Machine.reached, hmsb]
    rfl

/-- A port without what a bout's control words take from it. -/
def barePort (p : Port) : Port := { p with creditsDue := 0, ask := [] }

/-- A state without what the control words of a bout touch. -/
def bareState (s : State) : State := { s with fabric := { s.fabric with ports := s.fabric.ports.map barePort }, outbox := [] }

theorem portAt_bareState (s : State) (n : Nat) : (bareState s).portAt n = barePort (s.portAt n) := by
  rw [State.portAt, State.portAt, nth_eq_getD, nth_eq_getD, bareState, List.getElem?_map]
  cases s.fabric.ports[n]? <;> rfl

theorem bareState_send (s : State) (m : OutMsg) : bareState (s.send m) = bareState s := rfl

theorem bareState_mapPort (s : State) (n : Nat) {f : Port → Port} (hf : ∀ p, barePort (f p) = barePort p) :
    bareState (s.mapPort n f) = bareState s := by
  rw [bareState, State.mapPort_fabric, map_modifyNth barePort hf]
  rfl

theorem frame_of_bareState {s t : State} (h : bareState t = bareState s) :
    t = { s with fabric := { s.fabric with ports := t.fabric.ports }, outbox := t.outbox } :=
  calc t = { bareState t with fabric := { (bareState t).fabric with ports := t.fabric.ports }, outbox := t.outbox } := rfl
    _ = { bareState s with fabric := { (bareState s).fabric with ports := t.fabric.ports }, outbox := t.outbox } := by rw [h]
    _ = _ := rfl

theorem ringFull_bareState (s : State) : (bareState s).ringFull = s.ringFull := by
  simp only [State.ringFull, State.stagingRing, bareState, List.flatMap_map]
  rfl

theorem routePort_bareState (s : State) (r : Nat) : (bareState s).routePort r = s.routePort r := by
  have hup : ∀ n, ((bareState s).portAt n).up = (s.portAt n).up := fun n => by
    rw [portAt_bareState]
    rfl
  simp only [State.routePort, hup]
  rfl

theorem chainPort_bareState (s : State) (n : Nat) : (bareState s).chainPort n = s.chainPort n := by
  have hroute : (bareState s).routePort = s.routePort := funext (routePort_bareState s)
  simp only [State.chainPort, hroute]
  rfl

/-- Whether a port's credits wait for the staging ring. -/
def stalled (s : State) (n : Nat) : Bool := s.ringFull && s.chainPort n

theorem stalled_congr {s t : State} (h : bareState t = bareState s) (n : Nat) : stalled t n = stalled s n := by
  rw [stalled, stalled, ← ringFull_bareState t, ← chainPort_bareState t, h, ringFull_bareState, chainPort_bareState]

/-- The acknowledgement of a port's bout. -/
def boutAck (s : State) (n : Nat) : AckWord :=
  { upTo := (s.portAt n).missing.headD (s.portAt n).expectSeq, again := (s.portAt n).ask
    credits := if s.ringFull = true ∧ s.chainPort n = true then 0 else (s.portAt n).creditsDue }

theorem boutAck_congr {s t : State} (h : bareState t = bareState s) {n : Nat} (hp : t.portAt n = s.portAt n) :
    boutAck t n = boutAck s n := by
  have hstall := stalled_congr h n
  simp only [stalled] at hstall
  simp only [boutAck, hp, ← Bool.and_eq_true, hstall]

/-- A port's control words: a marker and the acknowledgement leave, and nothing but what they take from the port changes. -/
theorem controlWords_sends (s : State) (n bout : Nat) :
    OutMsg.boutMarker n bout ∈ (s.controlWords n bout).outbox ∧ OutMsg.ack n (boutAck s n) ∈ (s.controlWords n bout).outbox ∧
      (∀ m ∈ s.outbox, m ∈ (s.controlWords n bout).outbox) ∧ bareState (s.controlWords n bout) = bareState s ∧
      ∀ m, m ≠ n → (s.controlWords n bout).portAt m = s.portAt m := by
  have hack : boutAck s n = { upTo := (s.portAt n).missing.headD (s.portAt n).expectSeq, again := (s.portAt n).ask
                              credits := if (s.ringFull && s.chainPort n) = true then 0 else (s.portAt n).creditsDue } := by
    simp only [boutAck, Bool.and_eq_true]
  unfold State.controlWords
  dsimp only
  rw [← hack]
  generalize hu : (((s.send (.boutMarker n bout)).send (.ack n (boutAck s n))).mapPort n fun p =>
    { p with creditsDue := if (s.ringFull && s.chainPort n) = true then p.creditsDue else 0, ask := [] }) = u
  have hout : u.outbox = s.outbox ++ [.boutMarker n bout] ++ [.ack n (boutAck s n)] := by rw [← hu]; rfl
  have hbare : bareState u = bareState s := by
    rw [← hu]
    exact bareState_mapPort _ _ fun _ => rfl
  have hport : ∀ m, m ≠ n → u.portAt m = s.portAt m := fun m hm => by
    rw [← hu]
    exact portAt_mapPort_other ((s.send (.boutMarker n bout)).send (.ack n (boutAck s n))) _ hm
  have hsend : ∀ (c : Bool) (x : OutMsg) (v : State), bareState v = bareState s → (∀ m, m ≠ n → v.portAt m = s.portAt m) →
      (∀ m ∈ u.outbox, m ∈ v.outbox) → bareState (if c then v.send x else v) = bareState s ∧
        (∀ m, m ≠ n → (if c then v.send x else v).portAt m = s.portAt m) ∧ ∀ m ∈ u.outbox, m ∈ (if c then v.send x else v).outbox := by
    intro c x v hv hvp hvo
    cases c
    · exact ⟨hv, hvp, hvo⟩
    · exact ⟨hv, hvp, fun m hm => List.mem_append_left _ (hvo m hm)⟩
  obtain ⟨hb, hp, ho⟩ := hsend _ (.timeWord n (16 * 1856 * bout)) u hbare hport fun _ hm => hm
  obtain ⟨hb', hp', ho'⟩ := hsend _ _ _ hb hp ho
  refine ⟨ho' _ ?_, ho' _ ?_, fun m hm => ho' _ ?_, hb', hp'⟩ <;> rw [hout] <;> simp
  exact Or.inl hm

/-- The control words of ports, each once: every port's marker and acknowledgement leave. -/
theorem controlWords_fold (bout : Nat) : ∀ (l : List Nat) (u : State), l.Nodup →
    (∀ n ∈ l, OutMsg.boutMarker n bout ∈ (l.foldl (fun s n => s.controlWords n bout) u).outbox ∧
      OutMsg.ack n (boutAck u n) ∈ (l.foldl (fun s n => s.controlWords n bout) u).outbox) ∧
    (∀ m ∈ u.outbox, m ∈ (l.foldl (fun s n => s.controlWords n bout) u).outbox) ∧
    bareState (l.foldl (fun s n => s.controlWords n bout) u) = bareState u := by
  intro l
  induction l with
  | nil => exact fun u _ => ⟨fun n hn => absurd hn (by simp), fun _ hm => hm, rfl⟩
  | cons a l ih =>
    intro u hnodup
    obtain ⟨hnot, hrest⟩ := List.nodup_cons.mp hnodup
    obtain ⟨hmarker, hack, hkeep, hbare, hport⟩ := controlWords_sends u a bout
    obtain ⟨hsent, hkeeps, hbares⟩ := ih (u.controlWords a bout) hrest
    rw [List.foldl_cons]
    refine ⟨fun n hn => ?_, fun m hm => hkeeps m (hkeep m hm), hbares.trans hbare⟩
    rcases List.mem_cons.mp hn with rfl | hn
    · exact ⟨hkeeps _ hmarker, hkeeps _ hack⟩
    · have hne : n ≠ a := fun h => hnot (h ▸ hn)
      rw [← boutAck_congr hbare (hport n hne)]
      exact hsent n hn

/-- A bout's ports: those that are Up, and Foreign ones. -/
def boutPorts (s : State) : List Nat := (List.range 28).filter fun n => (s.portAt n).up || (s.portAt n).state == .foreign

theorem boutStart_sends {s : State} (h : s.cycle.toNat + 1855 < 2 ^ 64) :
    (boutStart s).cycle.toNat = (s.cycle.toNat + 1855) / 1856 * 1856 ∧
      (∀ n, n < 28 → ((s.portAt n).up = true ∨ (s.portAt n).state = .foreign) →
        OutMsg.boutMarker n ((s.cycle.toNat + 1855) / 1856) ∈ (boutStart s).outbox ∧ OutMsg.ack n (boutAck s n) ∈ (boutStart s).outbox) ∧
      boutStart s = { s with cycle := (boutStart s).cycle, fabric := { s.fabric with ports := (boutStart s).fabric.ports }
                             outbox := (boutStart s).outbox } := by
  let bout := (s.cycle.toNat + 1855) / 1856
  let u := s.upTo (BitVec.ofNat 64 (1856 * bout))
  have heq : boutStart s = (boutPorts u).foldl (fun s n => s.controlWords n bout) u := rfl
  have hcycle : u.cycle.toNat = (s.cycle.toNat + 1855) / 1856 * 1856 := by
    have hto : (BitVec.ofNat 64 (1856 * bout)).toNat = 1856 * bout := by
      rw [BitVec.toNat_ofNat, Nat.mod_eq_of_lt]
      omega
    have hlater : u.cycle = BitVec.ofNat 64 (1856 * bout) := later_of_close (by rw [hto]; omega) (by rw [hto]; omega)
    rw [hlater, hto]
    omega
  obtain ⟨hsent, -, hbare⟩ := controlWords_fold bout (boutPorts u) u (List.nodup_range.filter _)
  rw [← heq] at hsent hbare
  have hframe := frame_of_bareState hbare
  have hto : (boutStart s).cycle = u.cycle := by rw [hframe]
  rw [hto]
  refine ⟨hcycle, fun n hn hp => hsent n ?_, hframe⟩
  · simp only [boutPorts, List.mem_filter, List.mem_range, Bool.or_eq_true, beq_iff_eq]
    exact ⟨hn, hp⟩

/-! ### Time words (R245, R246, R248) -/

/-- The offset that a time word gives, against the port's asymmetry (R245). -/
def measured (s : State) (n : Nat) (w : TimeStamps) : Int := timeOffset w (ofPattern 32 (s.num (0x401201 + n)))

/-- A time word on a port that is not the parent's gives the link delay alone. -/
theorem timeWord_other {s : State} {n : Nat} {w : TimeStamps} (hn : n < 28) (hup : (s.portAt n).up = true) (hp : n ≠ s.num 0x40000C) :
    timeWord n w s = s.setNum (0x401300 + n + 1) (toPattern 32 (timeDelay w)) := by
  have hparent : (s.setNum (0x401300 + n + 1) (toPattern 32 (timeDelay w))).num 0x40000C = s.num 0x40000C :=
    State.num_setNum_other _ _ (by omega)
  rw [timeWord, if_neg (by simp [hup])]
  dsimp only
  rw [hparent, if_pos (by simp [hp])]

/-- On the parent's port of a formed device that is aligned, it gives the offset too, and the count is kept (R246). -/
theorem timeWord_parent {s : State} {n : Nat} {w : TimeStamps} (hn : n < 28) (hup : (s.portAt n).up = true) (hp : n = s.num 0x40000C)
    (hlead : s.leads = false) (hform : s.formed = true) (htime : s.num 0x400104 = 2) :
    timeWord n w s = ((s.setNum (0x401300 + n + 1) (toPattern 32 (timeDelay w))).setNum 0x400105
      (toPattern 32 (measured s n w))).keepTime (measured s n w) := by
  let u := s.setNum (0x401300 + n + 1) (toPattern 32 (timeDelay w))
  have hnum : ∀ k, 0x401300 + n + 1 ≠ k → u.num k = s.num k := fun k hk => State.num_setNum_other _ _ hk
  have hl : u.leads = false := by
    rw [← hlead, State.leads, State.leads, State.rank, State.rank, hnum _ (by omega), hnum _ (by omega)]
  have hf : u.formed = true := by
    rw [← hform, State.formed, State.formed, hnum _ (by omega)]
  have hoffset : timeOffset w (ofPattern 32 (u.num (0x401200 + n + 1))) = measured s n w := by
    rw [measured, hnum _ (by omega), show 0x401200 + n + 1 = 0x401201 + n by omega]
  rw [timeWord, if_neg (by simp [hup])]
  change (if n ≠ u.num 0x40000C || u.leads || !(u.forming || u.formed) then u else _) = _
  rw [hnum _ (by omega), if_neg (by simp [hp, hl, hf])]
  dsimp only
  rw [if_neg, hoffset]
  rw [State.num_setNum_other _ _ (by decide), hnum _ (by omega), htime]
  decide

/-- A formed device whose offset is near changes its count by one increment at most (R246). -/
theorem keepTime_near {s : State} {offset : Int} (htime : s.num 0x400104 = 2) (hlo : -1024 ≤ offset) (hhi : offset ≤ 1024)
    (hjob : s.job = none) : s.keepTime offset = (s.mapFabric fun f => { f with lateBouts := 0 }).slew offset := by
  have hfar : (decide (1024 < offset) || decide (offset < -1024)) = false := by
    simp only [Bool.or_eq_false_iff, decide_eq_false_iff_not]
    omega
  have hreport : ((s.mapFabric fun f => { f with lateBouts := 0 }).slew offset).tryReport =
      (s.mapFabric fun f => { f with lateBouts := 0 }).slew offset := by
    have hj : ((s.mapFabric fun f => { f with lateBouts := 0 }).slew offset).job = none := by
      unfold State.slew
      split
      · exact hjob
      · split <;> exact hjob
    rw [State.tryReport, hj]
  have hlost : ((s.mapFabric fun f => { f with lateBouts := 0 }).num 0x400104 == 3) = false := by
    change (s.num 0x400104 == 3) = false
    rw [htime]
    rfl
  have hnewly : (decide (8 ≤ (s.mapFabric fun f => { f with lateBouts := 0 }).fabric.lateBouts)) = false := rfl
  unfold State.keepTime
  dsimp only
  simp only [hfar, Bool.false_eq_true, if_false, hlost, hnewly, Bool.and_false, Bool.false_and, Bool.or_false, hreport]

/-- A formed device whose offset was far for eight bouts in Tilled or Sown steps its count (R248). -/
theorem keepTime_steps {s : State} {offset : Int} (htime : s.num 0x400104 = 2) (hfar : offset < -1024 ∨ 1024 < offset)
    (hlate : 7 ≤ s.fabric.lateBouts) (hcur : s.ctl.cur = .tilled ∨ s.ctl.cur = .sown) :
    s.keepTime offset = (((s.mapFabric fun f => { f with lateBouts := f.lateBouts + 1 }).stepCount offset).setNum 0x400104 2).mapFabric
      fun f => { f with lateBouts := 0 } := by
  have hfar' : (decide (1024 < offset) || decide (offset < -1024)) = true := by
    simp only [Bool.or_eq_true, decide_eq_true_eq]
    omega
  have hlost : ((s.mapFabric fun f => { f with lateBouts := f.lateBouts + 1 }).num 0x400104 == 3) = false := by
    change (s.num 0x400104 == 3) = false
    rw [htime]
    rfl
  have hnewly : (decide (8 ≤ (s.mapFabric fun f => { f with lateBouts := f.lateBouts + 1 }).fabric.lateBouts)) = true :=
    decide_eq_true (by change 8 ≤ s.fabric.lateBouts + 1; omega)
  have hmay : (s.ctl.cur == .tilled || s.ctl.cur == .sown) = true := by
    rcases hcur with h | h <;> rw [h] <;> rfl
  unfold State.keepTime
  dsimp only
  simp only [hfar', if_true, hlost, hnewly, Bool.not_false, Bool.and_true, Bool.or_true, State.mapFabric_ctl, hmay]

/-- A slew changes the count and what remembers it, and nothing else (R246). -/
theorem slew_frame (s : State) (offset : Int) :
    s.slew offset = { s with cycle := (s.slew offset).cycle, fabric := (s.slew offset).fabric } := by
  unfold State.slew
  split
  · rfl
  · split <;> rfl

theorem slew_adds {s : State} {offset : Int} (hsince : 1024 ≤ (s.cycle - s.fabric.lastSlew).toNat) (h : offset < 0) :
    (s.slew offset).cycle = s.cycle + 1 := by
  have hlate : ¬ cyclesSince s.cycle s.fabric.lastSlew < 1024 := Nat.not_lt.mpr hsince
  rw [State.slew, if_neg (by simp [hlate, Int.ne_of_lt h]), if_neg (by omega)]

theorem slew_withholds {s : State} {offset : Int} (hsince : 1024 ≤ (s.cycle - s.fabric.lastSlew).toNat) (h : 0 < offset) :
    (s.slew offset).cycle = s.cycle ∧ (s.slew offset).fabric.withhold = true := by
  have hlate : ¬ cyclesSince s.cycle s.fabric.lastSlew < 1024 := Nat.not_lt.mpr hsince
  rw [State.slew, if_neg (by simp [hlate, Int.ne_of_gt h]), if_pos h]
  exact ⟨rfl, rfl⟩

theorem slew_waits {s : State} {offset : Int} (h : (s.cycle - s.fabric.lastSlew).toNat < 1024 ∨ offset = 0) : s.slew offset = s := by
  have h' : cyclesSince s.cycle s.fabric.lastSlew < 1024 ∨ offset = 0 := h
  rw [State.slew, if_pos]
  rcases h' with h' | h' <;> simp [h']

/-- Settles O48: bouts, and the time words of a formed device. -/
theorem boutsAndTimeWords : Obligations.BoutsAndTimeWords := by
  refine ⟨fun s h => ?_, fun n w s hs hn hup => ?_⟩
  · obtain ⟨hcycle, hsent, hframe⟩ := boutStart_sends h
    exact ⟨_, rfl, hcycle, hsent, hframe⟩
  have hexec : exec (.timeWord n w) s = .next (timeWord n w s) := rfl
  intro delay offset
  have hdelay : timeDelay w = delay := rfl
  have hoffset : measured s n w = offset := rfl
  have hkey : 0x401300 + n + 1 = 0x401301 + n := by omega
  refine ⟨fun hp => ?_, fun hp hlead hform htime hjob hlo hhi => ?_, fun hp hlead hform htime hcur hlate hfar => ?_⟩
  · rw [hexec, timeWord_other hn hup hp, hdelay, hkey]
    exact ⟨_, rfl, State.num_setNum_same hs _ _, fun k hk => State.num_setNum_other _ _ hk.symm, rfl⟩
  · let v := (s.setNum (0x401301 + n) (toPattern 32 delay)).setNum 0x400105 (toPattern 32 offset)
    have hv : Canonical (s.setNum (0x401301 + n) (toPattern 32 delay)) := State.canonical_setNum hs _ _
    have hword : timeWord n w s = (v.mapFabric fun f => { f with lateBouts := 0 }).slew offset := by
      rw [timeWord_parent hn hup hp hlead hform htime, hdelay, hkey, hoffset]
      refine keepTime_near ?_ hlo hhi hjob
      rw [State.num_setNum_other _ _ (by decide), State.num_setNum_other _ _ (by omega), htime]
    have hcount : v.num 0x400105 = toPattern 32 offset := State.num_setNum_same hv _ _
    have hlink : v.num (0x401301 + n) = toPattern 32 delay :=
      (State.num_setNum_other _ _ (by omega)).trans (State.num_setNum_same hs _ _)
    have hnum : ∀ k, (timeWord n w s).num k = v.num k := fun k => by
      rw [hword, slew_frame]
      rfl
    refine ⟨_, hexec, (hnum _).trans hlink, (hnum _).trans hcount, fun hsince h => ?_, fun hsince h => ?_, fun h => ?_, ?_⟩
    · rw [hword]
      exact slew_adds hsince h
    · rw [hword]
      exact slew_withholds hsince h
    · rw [hword, slew_waits (s := v.mapFabric fun f => { f with lateBouts := 0 }) h]
      exact ⟨rfl, rfl⟩
    · rw [hword, slew_frame]
      rfl
  · have hv : Canonical ((s.setNum (0x401301 + n) (toPattern 32 delay)).setNum 0x400105 (toPattern 32 offset)) :=
      State.canonical_setNum (State.canonical_setNum hs _ _) _ _
    have hcopy : ∀ k, k ≠ 0x400105 → k ≠ 0x401301 + n →
        ((s.setNum (0x401301 + n) (toPattern 32 delay)).setNum 0x400105 (toPattern 32 offset)).num k = s.num k := fun k h1 h2 =>
      (State.num_setNum_other _ _ h1.symm).trans (State.num_setNum_other _ _ h2.symm)
    rw [hexec, timeWord_parent hn hup hp hlead hform htime, hdelay, hkey, hoffset,
      keepTime_steps ((hcopy _ (by decide) (by omega)).trans htime) hfar hlate hcur]
    have hcycle : ((s.setNum (0x401301 + n) (toPattern 32 delay)).setNum 0x400105 (toPattern 32 offset)).cycle = s.cycle := rfl
    generalize (s.setNum (0x401301 + n) (toPattern 32 delay)).setNum 0x400105 (toPattern 32 offset) = v at hv hcopy hcycle
    have hstep : Canonical ((v.mapFabric fun f => { f with lateBouts := f.lateBouts + 1 }).stepCount offset) :=
      State.canonical_setNum (s := { v with cycle := _, fabric := _ }) hv _ _
    refine ⟨_, rfl, ?_, ?_, ?_⟩
    · rw [← hcycle]
      rfl
    · rw [num_mapFabric, State.num_setNum_same hstep]
    · rw [num_mapFabric, State.num_setNum_other _ _ (by decide)]
      exact (State.num_setNum_same (s := { v with cycle := _, fabric := _ }) hv _ _)

end

/-! ## Memory tiers (R341 to R343) -/

/-- A state with other tiers and entries. -/
def withTiers (s : State) (x : Tiers) (n : SMap Nat) : State := { s with tiers := x, nums := n }

theorem regionTiles_withTiers (s : State) (x : Tiers) (n : SMap Nat) (fuel : Nat) :
    ∀ off bs, regionTiles (withTiers s x n) fuel off bs = regionTiles s fuel off bs := by
  induction fuel with
  | zero => exact fun _ _ => rfl
  | succ fuel ih =>
    intro off bs
    simp only [regionTiles, ih]
    rfl

theorem setLines_withTiers (x : Tiers) (n : SMap Nat) (v : BitVec 36) (ls : List Nat) (s : State) :
    ls.foldl (fun s l => s.setLine l v) (withTiers s x n) = withTiers (ls.foldl (fun s l => s.setLine l v) s) x n := by
  induction ls generalizing s with
  | nil => rfl
  | cons l ls ih => exact ih (s.setLine l v)

theorem writeHbmTile_withTiers (s : State) (x : Tiers) (n : SMap Nat) (addr : Nat) (t : Tile) :
    (withTiers s x n).writeHbmTile addr t = withTiers (s.writeHbmTile addr t) x n := by
  unfold State.writeHbmTile
  dsimp only
  rw [← setLines_withTiers]
  rfl

/-- A fill reads and changes neither the tiers nor the entries. -/
theorem fillRegion_withTiers (s : State) (x : Tiers) (n : SMap Nat) (start : Nat) (bs : List Byte) :
    (withTiers s x n).fillRegion start bs = (withTiers (s.fillRegion start bs).1 x n, (s.fillRegion start bs).2) := by
  have hfold : ∀ (ts : List (Nat × Tile)) (u : State),
      ts.foldl (fun s t => s.writeHbmTile (start + t.1) t.2) (withTiers u x n) =
        withTiers (ts.foldl (fun s t => s.writeHbmTile (start + t.1) t.2) u) x n := by
    intro ts
    induction ts with
    | nil => exact fun _ => rfl
    | cons t ts ih =>
      intro u
      rw [List.foldl_cons, List.foldl_cons, writeHbmTile_withTiers, ih]
  unfold State.fillRegion
  dsimp only
  rw [regionTiles_withTiers]
  exact Prod.ext (hfold _ { s with host := { s.host with window := Memory.writeBytes s.host.window start bs } }) rfl

/-- A fill changes what lies outside the device, and nothing else. -/
theorem fillRegion_frame (s : State) (start : Nat) (bs : List Byte) :
    (s.fillRegion start bs).1 = { s with host := (s.fillRegion start bs).1.host } := by
  have hfold : ∀ (ts : List (Nat × Tile)) (u : State),
      ts.foldl (fun s t => s.writeHbmTile (start + t.1) t.2) u =
        { u with host := (ts.foldl (fun s t => s.writeHbmTile (start + t.1) t.2) u).host } := by
    intro ts
    induction ts with
    | nil => exact fun _ => rfl
    | cons t ts ih =>
      intro u
      rw [List.foldl_cons, ih, writeHbmTile_frame]
  unfold State.fillRegion
  dsimp only
  rw [hfold]

/-- The one binding's move has ended and no other starts, where it has been triggered in this attempt. -/
theorem countToken_of_fired {s : State} {b : TierBinding} (hone : tierBindings s.regions = [b]) (hfired : 0 ∈ s.tiers.fired) (n : Nat) :
    (s.countToken false n).tiers.moves = s.tiers.moves := by
  have hframe := signalToken_frame s n
  have hregions : (s.signalToken false n).regions = s.regions := by rw [hframe]; rfl
  have htiers : (s.signalToken false n).tiers = s.tiers := by rw [hframe]
  have hhas : has s.tiers.fired 0 = true := by simpa [has] using hfired
  simp [State.countToken, State.startTiers, hregions, hone, htiers, hhas]

/-- The state in which a binding's move has ended, before its data moves. -/
def moveEnded (s : State) (i : Nat) : State := { s with tiers := { s.tiers with moves := s.tiers.moves.filter (· != i) } }

theorem tryReport_of_no_undo {s : State} {j : Job} (hj : s.job = some j) (h : j.undoing = false) : s.tryReport = s := by
  rw [State.tryReport, hj]
  simp [h]

/-- A good move of the one binding that moves: its data, then its done token. -/
theorem tierMoveDone_eq {s u : State} {b : TierBinding} {j : Job} {content : List Byte} (hundo : j.undoing = false)
    (hone : tierBindings s.regions = [b]) (hmoves : s.tiers.moves = [0]) (hmove : (moveEnded s 0).moveTier b content = (u, true))
    (hu : u.job = some j) : tierMoveDone b.region content true s = u.countToken false b.doneToken := by
  have hfind : s.tiers.moves.find? (fun i => (nth {} [b] i).region == b.region) = some 0 := by
    rw [hmoves]
    simp [nth]
  rw [tierMoveDone, hone]
  dsimp only
  rw [hfind]
  dsimp only [nth]
  change (if ((moveEnded s 0).moveTier b content).1.job.elim true (·.undoing) then _ else
    (if ((moveEnded s 0).moveTier b content).2 && true then ((moveEnded s 0).moveTier b content).1
      else ((moveEnded s 0).moveTier b content).1.deviceFault 0x04).countToken false b.doneToken) = _
  rw [hmove]
  dsimp only
  rw [if_neg (by simp [hu, hundo])]
  rfl

theorem moveEnded_moves {s : State} (h : s.tiers.moves = [0]) : (moveEnded s 0).tiers.moves = [] := by simp [moveEnded, h]

/-- Settles O42: a drain, a fill, and a tier move that an undo waits for too long. -/
theorem tierMoves : Obligations.TierMoves := by
  intro b h j s hs hj hone hmoves
  have hexec : ∀ content, exec (.tierMoveDone b.region content true) s = .next (tierMoveDone b.region content true s).tryReport :=
    fun _ => rfl
  have hbind : (moveEnded s 0).regions = s.regions := rfl
  have hdone : ∀ {u : State} {content : List Byte}, (moveEnded s 0).moveTier b content = (u, true) → j.undoing = false → u.job = some j → u.tiers = (moveEnded s 0).tiers →
      u.tokens = s.tokens → b.doneToken ≠ 0 → 0 ∈ s.tiers.fired → SMap.wf 0 s.tokens = true →
      exec (.tierMoveDone b.region content true) s = .next (u.countToken false b.doneToken) ∧
        (u.countToken false b.doneToken).tiers.moves = [] ∧
        (u.countToken false b.doneToken).token false b.doneToken = (s.token false b.doneToken + 1) % 2 ^ 18 := by
    intro u content hmove hundo hu htiers htokens htoken hfired hwf
    have hjob : (u.countToken false b.doneToken).job = some j := by
      rw [countToken_frame]
      exact hu
    have hregions : u.regions = s.regions := by simp only [State.regions, hu, hj]
    refine ⟨?_, ?_, ?_⟩
    · rw [hexec, tierMoveDone_eq hundo hone hmoves hmove hu, tryReport_of_no_undo hjob hundo]
    · rw [countToken_of_fired (hregions ▸ hone) (by rw [htiers]; exact hfired), htiers, moveEnded_moves hmoves]
    · rw [token_countToken, token_signalToken_same (by rw [htokens]; exact hwf) htoken]
      simp [State.token, htokens]
  refine ⟨fun hundo hregion hkind htoken hfired hwf => ?_, ?_, fun hundo hcur => ?_, fun hundo => ?_⟩
  · let bs := Memory.readBytes s.host.window h.start h.bytes
    have hlen : bs.length = h.bytes := readBytes_length _ _ _
    obtain ⟨-, -, -, htier, -⟩ := hs
    have hmove : (moveEnded s 0).moveTier b [] = (({ moveEnded s 0 with host := { s.host with
        tier := Memory.writeBytes s.host.tier b.backingOffset bs } } : State).bump 0x206205 h.bytes, true) := by
      rw [State.moveTier, hbind, hregion]
      dsimp only
      rw [hkind]
      rfl
    obtain ⟨hrun, hends, hcount⟩ := hdone hmove hundo hj rfl rfl htoken hfired hwf
    refine ⟨_, hrun, hends, ?_, ?_, ?_, hcount, ?_⟩
    · have hback := Memory.readBytes_writeBytes_same b.backingOffset bs htier
      rw [hlen] at hback
      rw [countToken_frame]
      exact hback
    · intro a ha
      rw [countToken_frame]
      exact Memory.readByte_writeBytes_other _ bs (by rw [hlen]; exact ha)
    · rw [countToken_frame]
      rfl
    · rw [countToken_frame]
      rfl
  · intro content hundo hregion hkind htoken hfired hwf bs hgood
    have hfill : (((moveEnded s 0).bump 0x206204 h.bytes).fillRegion h.start bs) =
        (withTiers (s.fillRegion h.start bs).1 (moveEnded s 0).tiers (s.bump 0x206204 h.bytes).nums, true) := by
      rw [← hgood]
      exact fillRegion_withTiers s _ _ _ _
    have hmove : (moveEnded s 0).moveTier b content =
        (withTiers (s.fillRegion h.start bs).1 (moveEnded s 0).tiers (s.bump 0x206204 h.bytes).nums, true) := by
      rw [← hfill, State.moveTier, hbind, hregion]
      dsimp only
      rcases hkind with hk | hk
      · have hbs : bs = Memory.readBytes s.host.tier b.backingOffset h.bytes := by simp only [bs, hk, if_true]
        rw [hk, hbs]
        rfl
      · have hbs : bs = content.take h.bytes := by
          simp only [bs, hk]
          rfl
        rw [hk, hbs]
        rfl
    have hframe := fillRegion_frame s h.start bs
    obtain ⟨hrun, hends, hcount⟩ := hdone hmove hundo (by rw [withTiers, hframe]; exact hj) rfl (by rw [withTiers, hframe]) htoken hfired
      hwf
    refine ⟨_, hrun, hends, ?_, hcount, ?_, ?_⟩
    · rw [countToken_frame]
      rfl
    · rw [countToken_frame]
      rfl
    · rw [countToken_frame, withTiers, hframe]
  · have hexec' : exec .tierTimeout s = .next (tierTimeout s) := rfl
    rw [hexec', tierTimeout, if_pos (by simp [hj, hundo, hmoves])]
    have hlog := enterFaulted_faultLog (s := s) (cause := 6) (domain := 0) (sig := 0)
    refine ⟨_, rfl, enterFaulted_state.1, enterFaulted_raises hs, ?_⟩
    rw [Option.map_eq_some_iff] at hlog ⊢
    obtain ⟨r, hr, hlog⟩ := hlog
    simp only [Prod.mk.injEq] at hlog
    obtain ⟨hcause, -, hstate⟩ := hlog
    exact ⟨r, hr, by rw [hcause, hstate]⟩
  · have hexec' : exec .tierTimeout s = .next (tierTimeout s) := rfl
    rw [hexec', tierTimeout, if_neg (by simp [hj, hundo])]

end Sys2Proof.Proofs

/-! ## The Harvest (R364 to R368) -/

namespace Sys2Proof.Proofs

open Sys2Proof Machine

/-- The lead device, of rank 5, of a team that serves, with a drill whose copy is none of the two: the entry of that copy's state
would be 0x4000.07, the team's lead rank. -/
def strayDrill : State :=
  { ((Tests.serving.setNum 0x400003 5).setNum 0x400006 2).setNum 0x400007 5 with
    tiers := { drills := [{ copy := 0x1FA005, member := true }] } }

/-- The Harvest ends the stray drill first, and the device no longer knows itself as the lead. -/
theorem strayDrill_harvest :
    strayDrill.formed = true ∧ strayDrill.isLead = true ∧ strayDrill.ctl.cur = .growing ∧ strayDrill.harvest = none ∧
      ((harvestControlWord 0 0 0 strayDrill).harvest.map fun h => h.fixedByLead) = some false := by
  decide +kernel

/-- Refutes O43: with a drill of a copy that the device does not have, the end of the drills takes the team's lead rank, and the
latest stop is not fixed. -/
theorem not_harvestBegins : ¬ Obligations.HarvestBegins := by
  intro h
  obtain ⟨-, hword, -⟩ := h
  obtain ⟨hformed, hlead, hcur, hnone, hfixed⟩ := strayDrill_harvest
  obtain ⟨t, hexec, -, hrun⟩ := (hword 0 0 0 0 strayDrill).2 hformed hlead (Or.inr hcur) hnone
  have ht : harvestControlWord 0 0 0 strayDrill = t := Host.Outcome.next.inj hexec
  rw [ht] at hfixed
  cases hh : t.harvest with
  | none => simp [hh] at hfixed
  | some r =>
    simp only [hh, Option.map_some, Option.some.injEq, Prod.mk.injEq] at hfixed hrun
    obtain ⟨-, -, htrue⟩ := hrun
    exact absurd (htrue.symm.trans hfixed) (by decide)

/-! ## Drills (R330 to R335) -/

/-- The last member, of rank 2, of a drill line through the ranks 1, 7 and 2, while it serves. -/
def lineEnd : State := (Tests.serving.setNum 0x400003 2).setOct 0x206101 [1, 0, 7, 0, 2, 0]

/-- The manifest of an empty source. -/
def emptyManifest : List Byte := leBytes 64 (0x4C4C5244 + 2 ^ 128)

/-- A manifest for a copy that the device does not have: the entry of that copy's state would be 0x4000.03, the device's rank. -/
def strayManifest : DrillChunk := { copy := 0x1FA001, manifest := some emptyManifest }

theorem lineEnd_takes :
    Canonical lineEnd ∧ lineEnd.runningDrill strayManifest.copy = none ∧ ((words16 (lineEnd.oct 0x206101)).drop 1).contains lineEnd.rank = true ∧
      lineEnd.drillRefusal strayManifest.copy = none ∧ lineEnd.copyState strayManifest.copy ≠ 4 ∧ lineEnd.chainNext = none := by
  unfold Canonical
  decide +kernel

/-- The device takes rank 1 for its own and ends the drill, for it knows no route to rank 7. -/
theorem lineEnd_drops :
    (readManifest { copy := strayManifest.copy, chain := true, member := true } (emptyManifest.take 64) (emptyManifest.drop 64)
      (2 ^ 64)).isSome = true ∧ (drillChunk strayManifest lineEnd).tiers.drills = [] := by
  decide +kernel

/-- Refutes O41: the manifest of a copy that the device does not have sets the device's rank, and the line has no route on. -/
theorem not_drills : ¬ Obligations.Drills := by
  rintro ⟨-, hchunks⟩
  obtain ⟨hcanon, hnone, hmember, hrefusal, hcopy, hnext⟩ := lineEnd_takes
  obtain ⟨hread, hdropped⟩ := lineEnd_drops
  obtain ⟨d, hd⟩ := Option.isSome_iff_exists.mp hread
  obtain ⟨t, hexec, htiers, -⟩ := ((hchunks lineEnd hcanon).1 strayManifest emptyManifest d hnone rfl hmember hrefusal hcopy hd).1 hnext
  have ht : drillChunk strayManifest lineEnd = t := Host.Outcome.next.inj hexec
  rw [← ht] at htiers
  rw [htiers] at hdropped
  simp at hdropped

/-! ## Ports and the exchange of identities (R257 to R261) -/

theorem portGone_of_not_up {s : State} {p : Port} (h : p.up = false) : s.portGone p = s := by
  rw [State.portGone]
  rw [if_neg (by simp [h])]

theorem portGone_of_not_named {s : State} {p : Port} (h : p.named = false) : s.portGone p = s := by
  rw [State.portGone]
  rw [if_neg (by simp [h])]

theorem portGone_of_not_growing {s : State} {p : Port} (h : s.ctl.cur ≠ .growing) : s.portGone p = s := by
  rw [State.portGone]
  rw [if_neg (by simp [h])]

theorem portGone_of_no_job {s : State} {p : Port} (h : s.job = none) : s.portGone p = s := by
  rw [State.portGone]
  rw [if_neg (by simp [h])]

theorem not_up_of_state {p : Port} {x : PortState} (h : p.state = x) (h1 : x ≠ .upBestEffort) (h2 : x ≠ .upScheduled) :
    p.up = false := by
  simp [Port.up, h, h1, h2]

theorem trained_of_up {p : Port} (h : p.up = true) : p.trained = true := by
  simp [Port.trained, h]

/-- A port as it stands after going Down (R258, R264). -/
def downPort (p : Port) : Port := { p with state := .down, backoffMs := min 320 (2 * p.backoffMs) }

theorem takeAbort_ports (s : State) (b : W32) (rank : Nat) (r : SealReport) :
    (s.takeAbort b rank r).fabric.ports = s.fabric.ports := by
  unfold State.takeAbort
  simp only [State.mapFabric]
  split <;> rfl

theorem sendAbort_ports (s : State) (w : Whose) (rises : Bool) : (s.sendAbort w rises).fabric.ports = s.fabric.ports := by
  unfold State.sendAbort
  dsimp only
  split
  · rfl
  · split
    · rfl
    · split
      · rfl
      · exact takeAbort_ports _ _ _ _

theorem meetFault_ports (s : State) (w : Whose) (kind plot bundle region : Nat) :
    (s.meetFault w kind plot bundle region).fabric.ports = s.fabric.ports := by
  unfold State.meetFault
  dsimp only
  split
  · rfl
  · rw [sendAbort_ports]
    rfl

theorem currentWork_step {s : State} {j : Job} (hj : s.job = some j) (hserv : j.binary.serving = false)
    (heval : j.evalRunning = none) : s.currentWork = .step := by
  simp [State.currentWork, hj, hserv, heval]

/-- A named port that leaves Up while the device is Growing is a fault of the current step. -/
theorem portGone_growing {s : State} {p : Port} {j : Job} (hup : p.up = true) (hnamed : p.named = true)
    (hcur : s.ctl.cur = .growing) (hj : s.job = some j) (hrun : j.running = true) (hundo : j.undoing = false)
    (hserv : j.binary.serving = false) (heval : j.evalRunning = none) (hheld : s.held = false) :
    s.portGone p = s.meetFault .step 0x0A 0xFFFF 0xFFFF 0xFFFF := by
  rw [State.portGone]
  rw [if_pos (by simp [hup, hnamed, hcur, hj, hrun, hundo, hheld]), State.deviceFault, currentWork_step hj hserv heval]

/-- The count of ports that go down has no part in whether the job is held. -/
theorem held_bump_downs (s : State) : (s.bump 0x404003).held = s.held := by
  rw [State.held, State.num_bump_other _ _ (by decide), ← State.held]

theorem portDisabled_eq (s : State) (n : Nat) : s.portDisabled n = decide (s.num (0x401100 + n + 1) = 1) := by
  simp only [State.portDisabled]
  exact (Bool.beq_eq_decide_eq _ _)

/-- The ports whose Headland is under test. -/
theorem has_headlandPorts (g : Option Nat) (n : Nat) :
    has (headlandPorts (g.getD 0)) n = decide ((g = some 16 ∧ n < 14) ∨ (g = some 17 ∧ 14 ≤ n ∧ n < 28)) := by
  have hmem : ∀ a, has (range a 14) n = decide (a ≤ n ∧ n < a + 14) := by
    intro a
    rw [Bool.eq_iff_iff, has, List.any_eq_true, decide_eq_true_iff]
    constructor
    · rintro ⟨x, hx, hxn⟩
      obtain ⟨y, hy, rfl⟩ := List.mem_map.mp hx
      have hlt := List.mem_range.mp hy
      have heq := beq_iff_eq.mp hxn
      omega
    · intro hn
      exact ⟨n, List.mem_map.mpr ⟨n - a, List.mem_range.mpr (by omega), by omega⟩, beq_self_eq_true n⟩
  rw [headlandPorts]
  cases g with
  | none => rfl
  | some d =>
    simp only [Option.getD_some, Option.some.injEq]
    by_cases h16 : d = 16
    · simp [h16, hmem]
    · by_cases h17 : d = 17
      · simp [h17, hmem]
      · simp [h16, h17, has]

theorem portLife : Claims.PortLife := by
  intro n s hs hn
  dsimp only
  have hsame : ∀ f : Port → Port, (s.mapPort n f).portAt n = f (s.portAt n) := fun f => portAt_mapPort_same f hn
  refine ⟨fun x hx => ?_, fun x hx => ?_, fun hx => ?_, fun hx hnot => ?_, fun hx => ?_, fun hx => ?_, fun hx hcur => ?_,
    fun hx hnamed => ?_, fun j hup hnamed hcur hj hrun hundo hserv heval hfault harr hheld => ?_⟩
  · have hexec : exec (.portTrainingDone n false x) s = .next (portTrainingDone n false x s) := rfl
    rw [hexec, portTrainingDone, if_neg (by simp [hx]), if_pos (by decide), State.toDown,
      portGone_of_not_up (not_up_of_state hx (by decide) (by decide))]
  · have hexec : exec (.portTrainingDone n true x) s = .next (portTrainingDone n true x s) := rfl
    have hport : ∀ o, ((s.mapPort n fun p => p.retrained x).send o).portAt n = (s.portAt n).retrained x := fun _ => hsame _
    have hdone : portTrainingDone n true x s = (s.mapPort n fun p => p.retrained x).send
        (if s.ready then .identity n ((s.mapPort n fun p => p.retrained x).ownIdentity n) else .notReady n) := by
      rw [portTrainingDone, if_neg (by simp [hx]), if_neg (by decide)]
      change (if s.ready then _ else _) = _
      split <;> rfl
    refine ⟨_, hexec, ?_⟩
    rw [hdone, hport]
    exact ⟨rfl, rfl, rfl, rfl, rfl, rfl, fun m hm => portAt_mapPort_other s _ hm, rfl, rfl⟩
  · have hexec : exec (.trainingRetry n) s = .next (trainingRetry n s) := rfl
    rw [hexec, trainingRetry]
    simp only [hx, portDisabled_eq, has_headlandPorts]
    by_cases h1 : s.num (0x401100 + n + 1) = 1
    · simp only [h1, true_or, if_true]
      rw [if_neg (by simp)]
    · by_cases h2 : (s.recovery.gleanDomain = some 16 ∧ n < 14) ∨ (s.recovery.gleanDomain = some 17 ∧ 14 ≤ n ∧ n < 28)
      · simp only [h1, h2, false_or]
        simp
      · simp only [h1, h2, false_or]
        simp
  · have hexec : exec (.readyQuery n false) s = .next (readyQuery n false s) := rfl
    rw [hexec, readyQuery, if_neg (by decide), if_pos (by simp [hx, hnot])]
    rfl
  · have hexec : exec (.readyQuery n true) s = .next (readyQuery n true s) := rfl
    rw [hexec, readyQuery, if_pos rfl, if_neg (by simp [hx])]
    split <;> rfl
  · have hexec : exec (.readyQuery n true) s = .next (readyQuery n true s) := rfl
    rw [hexec, readyQuery, if_pos rfl, if_pos (by simp [hx])]
  · have hexec : exec (.notReadyReceived n) s = .next (notReadyReceived n s) := rfl
    have hfield : s.ctl.cur ≠ .growing → notReadyReceived n s =
        if ((s.portAt n).up && s.sameTeam (s.portAt n) && s.formed) && (s.ctl.cur == .tilled || s.ctl.cur == .sown) then
          (s.mapPort n fun p => { p with state := .notReady, partnerNotReady := true, identity := none }).setNum 0x400006 3
        else s.mapPort n fun p => { p with state := .notReady, partnerNotReady := true, identity := none } := by
      intro hcur
      rw [notReadyReceived]
      rw [if_neg (by simp [hx])]
      apply portGone_of_not_growing
      split <;> exact hcur
    have hmember : (((s.portAt n).up && s.sameTeam (s.portAt n) && s.formed) && (s.ctl.cur == .tilled || s.ctl.cur == .sown)) = true ↔
        ((s.portAt n).up = true ∧ s.sameTeam (s.portAt n) = true ∧ s.formed = true ∧ (s.ctl.cur = .tilled ∨ s.ctl.cur = .sown)) := by
      simp [and_assoc]
    refine ⟨_, hexec, ?_⟩
    rw [hfield hcur]
    simp only [hmember]
    split
    · refine ⟨?_, State.num_setNum_same (by exact hs) _ _, fun k hk => ?_⟩
      · rw [State.portAt, State.setNum_fabric]
        exact congrArg Port.state (hsame _)
      · rw [State.num_setNum_other _ _ hk.symm]
        rfl
    · exact ⟨congrArg Port.state (hsame _), rfl, fun _ _ => rfl⟩
  · have hexec : exec (.portDown n) s = .next (portDown n s) := rfl
    rw [hexec, portDown]
    rw [if_pos (by simp [hx]), State.toDown, portGone_of_not_named hnamed]
  · have hexec : exec (.portDown n) s = .next (portDown n s) := rfl
    have hdown : portDown n s = ((s.mapPort n downPort).bump 0x404003).meetFault .step 0x0A 0xFFFF 0xFFFF 0xFFFF := by
      rw [portDown]
      rw [if_pos (by simp [trained_of_up hup]), State.toDown]
      exact portGone_growing hup hnamed (by simpa using hcur) (by simpa using hj) hrun hundo hserv heval
        (by rw [← hheld]; exact held_bump_downs _)
    refine ⟨_, hexec, ?_, ?_⟩
    · rw [hdown]
      exact firstFault_meetFault ((Keeps.refl s).mapPort.bump.canonical hs) ⟨j, by simpa using hj, hfault, harr⟩ _ _ _ _
    · have hports : (portDown n s).portAt n = downPort (s.portAt n) := by
        rw [hdown, State.portAt, meetFault_ports]
        exact hsame _
      rw [hports]
      rfl

theorem learnMaps_frame (s : State) (n : Nat) (i : Identity) :
    s.learnMaps n i = { s with fabric := { s.fabric with maps := (s.learnMaps n i).fabric.maps, links := (s.learnMaps n i).fabric.links } } := by
  unfold State.learnMaps
  split <;> rfl

theorem tryReport_of_no_job {s : State} (h : s.job = none) : s.tryReport = s := by
  rw [State.tryReport, h]

theorem checkOffset_of_not_formed {s : State} (h : s.formed = false) (n : Nat) (o : Int) : s.checkOffset n o = s := by
  rw [State.checkOffset]
  rw [if_neg (by simp [h])]

theorem settleTeam_alone {s : State} (h1 : s.forming = false) (h2 : s.formed = false) (before : State) :
    s.settleTeam before = s.resendIdentities before := by
  rw [State.settleTeam]
  rw [if_neg (by simp [h1]), if_neg (by simp [h2])]

theorem resendIdentities_frame (s before : State) :
    s.resendIdentities before = { s with outbox := (s.resendIdentities before).outbox } := by
  unfold State.resendIdentities
  split <;> rfl

/-- A port whose neighbour has said who it is. -/
def metPort (i : Identity) (p : Port) : Port := { p with identity := some i, partnerNotReady := false }

/-- The state after a neighbour's identity is noted, before the port and the team settle. -/
def met (s : State) (n : Nat) (i : Identity) : State :=
  ((s.mapPort n (metPort i)).setNum (0x401300 + n + 1) (i.linkDelay % 2 ^ 32)).learnMaps n i

/-- A port of a ready device with a known neighbour, settled: Up or Foreign (R242, R257). -/
def settledPort (s : State) (p : Port) : Port :=
  { p with state := if !s.sameTeam p then .foreign else if p.state = .upScheduled then .upScheduled else .upBestEffort
           upSince := if p.up then p.upSince else s.cycle }

theorem modifyNth_length {α : Type} (f : α → α) : ∀ (l : List α) (n : Nat), (modifyNth f l n).length = l.length
  | [], _ => rfl
  | _ :: _, 0 => rfl
  | _ :: as, n + 1 => congrArg (· + 1) (modifyNth_length f as n)

section
variable {n : Nat} {i : Identity} {s : State}

theorem met_frame : met s n i = { s with nums := (met s n i).nums, fabric := (met s n i).fabric } := by
  rw [met, learnMaps_frame]
  rfl

theorem num_met (k : Nat) : (met s n i).num k = ((s.mapPort n (metPort i)).setNum (0x401300 + n + 1) (i.linkDelay % 2 ^ 32)).num k := by
  rw [met, learnMaps_frame]
  rfl

theorem num_met_other {k : Nat} (hk : k ≠ 0x401300 + n + 1) : (met s n i).num k = s.num k := by
  rw [num_met, State.num_setNum_other _ _ hk.symm]
  rfl

theorem portAt_met (m : Nat) : (met s n i).portAt m = (s.mapPort n (metPort i)).portAt m := by
  rw [met, learnMaps_frame]
  rfl

theorem length_met : (met s n i).fabric.ports.length = s.fabric.ports.length := by
  rw [met, learnMaps_frame, State.setNum_fabric, State.mapPort_fabric]
  exact modifyNth_length _ _ _

theorem sameTeam_met (hn : n < 28) (p : Port) (hp : p.identity = some i) :
    (met s n i).sameTeam p = (i.teamId.toNat == s.num 0x400001) := by
  rw [State.sameTeam, hp, num_met_other (by omega)]
  rfl

/-- The port is settled after the exchange (R242, R257). -/
theorem settlePort_met (hn : n < s.fabric.ports.length) (htr : (s.portAt n).trained = true) (hready : s.ready = true) :
    (met s n i).settlePort n = (met s n i).mapPort n (settledPort (met s n i)) := by
  have hport : (met s n i).portAt n = metPort i (s.portAt n) := by rw [portAt_met, portAt_mapPort_same _ hn]
  have hr : (met s n i).ready = true := by rw [← hready, met_frame]; rfl
  have htr' : (metPort i (s.portAt n)).trained = true := htr
  rw [State.settlePort]
  rw [if_pos (by rw [hport, hr, htr']; rfl)]
  rfl

/-- On a device without a team and a job, the exchange settles the port and says what has changed to the neighbours. -/
theorem identityExchange_eq (hn : n < 28) (hlen : s.fabric.ports.length = 28) (htr : (s.portAt n).trained = true)
    (hready : s.ready = true) (hjob : s.job = none) (hforming : s.forming = false) (hformed : s.formed = false) :
    identityExchange n i s = ((met s n i).mapPort n (settledPort (met s n i))).resendIdentities s := by
  have hstate : (met s n i).num 0x400006 = s.num 0x400006 := num_met_other (by omega)
  have hsettle := settlePort_met (i := i) (by omega) htr hready
  have hforming' : ((met s n i).mapPort n (settledPort (met s n i))).forming = false := by
    rw [← hforming, State.forming, State.forming, ← hstate]
    rfl
  have hformed' : ((met s n i).mapPort n (settledPort (met s n i))).formed = false := by
    rw [← hformed, State.formed, State.formed, ← hstate]
    rfl
  have hjob' : (((met s n i).mapPort n (settledPort (met s n i))).resendIdentities s).job = none := by
    rw [resendIdentities_frame, State.mapPort_job, met_frame]
    exact hjob
  rw [identityExchange]
  rw [if_neg (by simp [htr, hready])]
  have hchecked : (if (s.portAt n).up then (met s n i).settlePort n else ((met s n i).settlePort n).checkOffset n i.offset) =
      (met s n i).mapPort n (settledPort (met s n i)) := by
    rw [hsettle, checkOffset_of_not_formed hformed', ite_self]
  have hgone : ∀ u : State, u.job = none → (if (u.portAt n).up then u else u.portGone (s.portAt n)).tryReport = u := by
    intro u hu
    rw [portGone_of_no_job hu, ite_self, tryReport_of_no_job hu]
  change State.tryReport (if (State.portAt (State.settleTeam (if (s.portAt n).up then (met s n i).settlePort n
    else ((met s n i).settlePort n).checkOffset n i.offset) s) n).up then State.settleTeam (if (s.portAt n).up then (met s n i).settlePort n
    else ((met s n i).settlePort n).checkOffset n i.offset) s else State.portGone (State.settleTeam (if (s.portAt n).up then
    (met s n i).settlePort n else ((met s n i).settlePort n).checkOffset n i.offset) s) (s.portAt n)) = _
  rw [hchecked, settleTeam_alone hforming' hformed', hgone _ hjob']
end

theorem identityExchangeClaim : Claims.IdentityExchange := by
  intro n i s hs hn hlen htr hready hjob hforming hformed
  have hexec : exec (.identityExchange n i) s = .next (identityExchange n i s) := rfl
  refine ⟨_, hexec, ?_⟩
  rw [identityExchange_eq hn hlen htr hready hjob hforming hformed]
  have hport : ((met s n i).mapPort n (settledPort (met s n i))).portAt n = settledPort (met s n i) (metPort i (s.portAt n)) := by
    rw [portAt_mapPort_same _ (by rw [length_met, hlen]; exact hn), portAt_met, portAt_mapPort_same _ (by omega)]
  have hother : ∀ m, m ≠ n → ((met s n i).mapPort n (settledPort (met s n i))).portAt m = s.portAt m := fun m hm => by
    rw [portAt_mapPort_other _ _ hm, portAt_met, portAt_mapPort_other _ _ hm]
  have hnum : ∀ k, ((met s n i).mapPort n (settledPort (met s n i))).num k = (met s n i).num k := fun _ => rfl
  have hframe : (met s n i).mapPort n (settledPort (met s n i)) =
      { s with nums := ((met s n i).mapPort n (settledPort (met s n i))).nums
               fabric := ((met s n i).mapPort n (settledPort (met s n i))).fabric } := by
    rw [State.mapPort, met_frame]
  have hteam := sameTeam_met (i := i) (s := s) hn (metPort i (s.portAt n)) rfl
  rw [resendIdentities_frame]
  generalize hu : (met s n i).mapPort n (settledPort (met s n i)) = u at hport hother hnum hframe ⊢
  refine ⟨?_, fun k hk => ?_, ?_, fun hne => ?_, fun heq => ?_, hother, ?_⟩
  · rw [show 0x401301 + n = 0x401300 + n + 1 by omega]
    exact (hnum _).trans ((num_met _).trans (State.num_setNum_same (by exact hs) _ _))
  · exact (hnum k).trans (num_met_other (by omega))
  · exact congrArg Port.identity hport
  · refine (congrArg Port.state hport).trans ?_
    rw [settledPort, hteam]
    simp [hne]
  · refine (congrArg Port.up hport).trans ?_
    rw [settledPort, hteam]
    rw [if_neg (by simp [heq])]
    by_cases hsched : (metPort i (s.portAt n)).state = .upScheduled
    · simp [hsched, Port.up]
    · simp [hsched, Port.up]
  · rw [hframe]

/-- Settles O46: each clause is one command on one port; the fault of a lost port is the first of the current step. -/
theorem ports : Obligations.Ports := ⟨portLife, identityExchangeClaim⟩

/-! ## Acknowledgement words and best-effort frames (R234, R240) -/

/-- A frame of the retry buffer after an acknowledgement word: one that is asked for again has failed once more. -/
def askedAgain (w : AckWord) (r : Retry) : Retry := if w.again.contains r.sequence then { r with fails := r.fails + 1 } else r

theorem askedAgain_sequence (w : AckWord) (r : Retry) : (askedAgain w r).sequence = r.sequence := by
  unfold askedAgain
  split <;> rfl

theorem askedAgain_fails (w : AckWord) (r : Retry) : (askedAgain w r).fails ≤ r.fails + 1 := by
  unfold askedAgain
  split
  · exact Nat.le_refl _
  · exact Nat.le_succ _

/-- The frames that stay in the retry buffer at an acknowledgement word (R234). -/
def keptFrames (w : AckWord) (p : Port) : List Retry :=
  (p.retryBuffer.filter fun r => !seqBelow r.sequence w.upTo || w.again.contains r.sequence).map (askedAgain w)

/-- A port after an acknowledgement word. -/
def ackedPort (w : AckWord) (p : Port) : Port :=
  { p with retryBuffer := keptFrames w p, credits := min 64 (p.credits + w.credits)
           resend := p.resend ++
             ((keptFrames w p).filter fun r => w.again.contains r.sequence && !p.resend.contains r.sequence).map (·.sequence) }

theorem keptFrames_fails {w : AckWord} {p : Port} (h : ∀ r ∈ p.retryBuffer, r.fails < 15) : ∀ r ∈ keptFrames w p, r.fails < 16 := by
  intro r hr
  obtain ⟨x, hx, rfl⟩ := List.mem_map.mp hr
  have hle := askedAgain_fails w x
  have hlt := h x (List.mem_filter.mp hx).1
  omega

theorem mem_keptFrames {w : AckWord} {p : Port} {r : Retry} (hr : r ∈ p.retryBuffer) (h : w.again.contains r.sequence = true) :
    askedAgain w r ∈ keptFrames w p :=
  List.mem_map_of_mem (List.mem_filter.mpr ⟨hr, by rw [h, Bool.or_true]⟩)

/-- What is asked for and still in the retry buffer will be sent again. -/
theorem mem_resend_ackedPort {w : AckWord} {p : Port} {q : BitVec 24} (hq : q ∈ w.again)
    (h : (p.retryBuffer.any fun r => r.sequence == q) = true) : q ∈ (ackedPort w p).resend := by
  obtain ⟨r, hr, hrq⟩ := List.any_eq_true.mp h
  obtain rfl := beq_iff_eq.mp hrq
  have hagain : w.again.contains r.sequence = true := List.contains_iff_mem.mpr hq
  refine List.mem_append.mpr ?_
  by_cases hold : r.sequence ∈ p.resend
  · exact .inl hold
  · refine .inr (List.mem_map.mpr ⟨askedAgain w r, List.mem_filter.mpr ⟨mem_keptFrames hr hagain, ?_⟩, askedAgain_sequence w r⟩)
    simp [askedAgain_sequence, hq, hold]

theorem acknowledgementWords : Claims.AcknowledgementWords := by
  intro n w s hn
  have hexec : exec (.ackWord n w) s = .next (ackWord n w s) := rfl
  refine ⟨fun hdown => ?_, fun hup hfails => ?_⟩
  · rw [hexec, ackWord]
    rw [if_pos (by simp [hdown])]
  · have hport : (s.mapPort n (ackedPort w)).portAt n = ackedPort w (s.portAt n) := portAt_mapPort_same _ hn
    have hacked : ackWord n w s = s.mapPort n (ackedPort w) := by
      have hnone : ¬ ((((s.mapPort n (ackedPort w)).portAt n).retryBuffer.any fun r => 16 ≤ r.fails) = true) := by
        rw [hport]
        intro h
        obtain ⟨r, hr, hge⟩ := List.any_eq_true.mp h
        have hlt := keptFrames_fails (w := w) hfails r hr
        have hge := decide_eq_true_iff.mp hge
        omega
      rw [ackWord]
      rw [if_neg (by simp [hup])]
      exact if_neg hnone
    refine ⟨_, hexec, ?_⟩
    rw [hacked, hport]
    refine ⟨?_, rfl, fun q hq h => mem_resend_ackedPort hq h, fun h => ?_, fun m hm => portAt_mapPort_other _ _ hm, rfl⟩
    · simp only [ackedPort, keptFrames, List.map_map]
      exact List.map_congr_left fun r _ => askedAgain_sequence w r
    · simp [ackedPort, h]

theorem mapPort_mapPort (s : State) (n : Nat) (f g : Port → Port) : (s.mapPort n f).mapPort n g = s.mapPort n fun p => g (f p) := by
  simp only [State.mapPort, modifyNth_modifyNth]

theorem getElem?_portAt {s : State} {n : Nat} (hn : n < s.fabric.ports.length) : s.fabric.ports[n]? = some (s.portAt n) := by
  rw [State.portAt, nth_eq_getD, List.getElem?_eq_getElem hn, Option.getD_some]

/-- A change of a port depends on the port alone. -/
theorem mapPort_congr {s : State} {n : Nat} (hn : n < s.fabric.ports.length) {f g : Port → Port}
    (h : f (s.portAt n) = g (s.portAt n)) : s.mapPort n f = s.mapPort n g := by
  simp only [State.mapPort, modifyNth_congr (getElem?_portAt hn) h]

/-- A port that stays Up or not Up leaves the routing as it is (R240). -/
theorem routePort_mapPort {s : State} {n : Nat} {f : Port → Port} (hn : n < s.fabric.ports.length) (hf : ∀ p, (f p).up = p.up)
    (r : Nat) : (s.mapPort n f).routePort r = s.routePort r := by
  have hup : ∀ m, ((s.mapPort n f).portAt m).up = (s.portAt m).up := fun m => by
    by_cases hm : m = n
    · rw [hm, portAt_mapPort_same _ hn, hf]
    · rw [portAt_mapPort_other _ _ hm]
  simp only [State.routePort, hup]
  rfl

/-- A port after the frame of the next sequence: one that does not come whole is asked for (R224, R234). -/
def sequenced (q : BitVec 24) (ok : Bool) (p : Port) : Port :=
  { p with expectSeq := q + 1, missing := p.missing ++ (if ok then [] else [q]), ask := p.ask ++ (if ok then [] else [q]) }

theorem takeSequence_next {s : State} {n : Nat} {q : BitVec 24} (ok : Bool) (hq : (s.portAt n).expectSeq = q)
    (hnew : q ∉ (s.portAt n).missing) : s.takeSequence n q ok = (s.mapPort n (sequenced q ok), ok) := by
  rw [State.takeSequence]
  rw [if_neg (by simpa using hnew), if_pos (by rw [hq]; simp)]
  simp only [hq, BitVec.sub_self]
  rfl

section
variable {n : Nat} {h : LinkHead} {f : BeFrame} {s : State}

/-- The state after the corrected codewords of a frame are counted. -/
def corrected (h : LinkHead) (s : State) : State := s.bump 0x404001 h.corrected

/-- A port that has taken the next frame, and owes a credit for it. -/
def creditedPort (h : LinkHead) (p : Port) : Port := { p with expectSeq := h.sequence + 1, creditsDue := p.creditsDue + 1 }

theorem waitsBefore_nil {p : Port} (q : BitVec 24) (hp : p.missing = []) : p.waitsBefore q = false := by
  simp [Port.waitsBefore, hp]

theorem bestEffortFrame_next (hup : (s.portAt n).up = true) (hseq : h.sequence = (s.portAt n).expectSeq)
    (hnew : h.sequence ∉ (s.portAt n).missing) :
    bestEffortFrame n h f s =
      if h.frameOk then
        (if (((corrected h s).mapPort n (sequenced h.sequence true)).portAt n).waitsBefore h.sequence then
          ((corrected h s).mapPort n (sequenced h.sequence true)).mapPort n fun p =>
            { p with held := (p.held.takeWhile fun x => seqBelow x.1 h.sequence) ++ (h.sequence, f) ::
                       p.held.drop (p.held.takeWhile fun x => seqBelow x.1 h.sequence).length }
        else ((corrected h s).mapPort n (sequenced h.sequence true)).passOn n [f])
      else (corrected h s).mapPort n (sequenced h.sequence false) := by
  rw [bestEffortFrame]
  have htaken : (s.bump 0x404001 h.corrected).takeSequence n h.sequence h.frameOk =
      ((corrected h s).mapPort n (sequenced h.sequence h.frameOk), h.frameOk) := takeSequence_next h.frameOk hseq.symm hnew
  rw [if_neg (by simp [hup]), htaken]
  cases h.frameOk <;> rfl

/-- A frame that comes in order, with none held behind it, is delivered or routed on, and owes a credit (R240). -/
theorem bestEffortFrame_passed (hn : n < s.fabric.ports.length) (hup : (s.portAt n).up = true) (hheld : (s.portAt n).held = [])
    (hseq : h.sequence = (s.portAt n).expectSeq) (hmissing : (s.portAt n).missing = []) (hok : h.frameOk = true) :
    bestEffortFrame n h f s =
      if f.dest = s.rank then ((corrected h s).mapPort n (creditedPort h)).deliverBest n f
      else ((corrected h s).mapPort n (creditedPort h)).routeBest f := by
  have hport : ((corrected h s).mapPort n (sequenced h.sequence true)).portAt n = sequenced h.sequence true (s.portAt n) :=
    portAt_mapPort_same _ hn
  have hrank : (((corrected h s).mapPort n (creditedPort h)).rank) = s.rank := State.num_bump_other s _ (by decide)
  have hcredit : (((corrected h s).mapPort n (sequenced h.sequence true)).mapPort n fun p => { p with held := p.held.drop 0 }).mapPort n
      (fun p => { p with creditsDue := p.creditsDue + 1 }) = (corrected h s).mapPort n (creditedPort h) := by
    rw [mapPort_mapPort, mapPort_mapPort]
    refine congrArg _ (funext fun p => ?_)
    simp [sequenced, creditedPort]
  rw [bestEffortFrame_next hup hseq (by simp [hmissing]), if_pos hok, hport,
    if_neg (by rw [waitsBefore_nil _ (by simp [sequenced, hmissing])]; decide), State.passOn, hport]
  have hfree : ((sequenced h.sequence true (s.portAt n)).held.takeWhile fun x =>
      !(sequenced h.sequence true (s.portAt n)).waitsBefore x.1) = [] := by
    simp [sequenced, hheld]
  rw [hfree]
  change State.passBest (State.mapPort _ n fun p => { p with held := p.held.drop 0 }) n f = _
  rw [State.passBest, hcredit, hrank]

theorem routePort_credited (hn : n < s.fabric.ports.length) (r : Nat) : ((corrected h s).mapPort n (creditedPort h)).routePort r = s.routePort r :=
  routePort_mapPort hn (s := corrected h s) (f := creditedPort h) (fun _ => rfl) r

end

theorem bestEffortFrames : Claims.BestEffortFrames := by
  intro n h f s hn
  have hexec : exec (.bestEffortFrame n h f) s = .next (bestEffortFrame n h f s) := rfl
  refine ⟨fun hdown => ?_, fun hup hseq hmissing hok => ?_, fun m hup hheld hseq hmissing hbelow hok => ?_,
    fun hup hheld hseq hmissing hok => ?_⟩
  · rw [hexec, bestEffortFrame]
    rw [if_pos (by simp [hdown])]
  · rw [hexec, bestEffortFrame_next hup hseq (by simp [hmissing]), if_neg (by simp [hok])]
    refine congrArg _ (mapPort_congr (s := corrected h s) hn ?_)
    have hsame : (corrected h s).portAt n = s.portAt n := rfl
    simp only [hsame, sequenced, hmissing]
    rfl
  · have hne : h.sequence ∉ (s.portAt n).missing := by
      rw [hmissing]
      intro hin
      rw [List.mem_singleton.mp hin] at hbelow
      simp [seqBelow] at hbelow
    have hport : ((corrected h s).mapPort n (sequenced h.sequence true)).portAt n = sequenced h.sequence true (s.portAt n) :=
      portAt_mapPort_same _ hn
    rw [hexec, bestEffortFrame_next hup hseq hne, if_pos hok, hport,
      if_pos (by simp [Port.waitsBefore, sequenced, hmissing, hbelow]), mapPort_mapPort]
    refine congrArg _ (mapPort_congr (s := corrected h s) hn ?_)
    have hsame : (corrected h s).portAt n = s.portAt n := rfl
    simp only [hsame, sequenced, hheld, if_true, List.append_nil]
    rfl
  · have hpassed := bestEffortFrame_passed (f := f) hn hup hheld hseq hmissing hok
    refine ⟨fun hdest => ?_, fun hdest hroute => ?_, fun m hdest hroute => ?_⟩
    · have hhere : exec (.bestEffortFrame n h f) s = .next (((corrected h s).mapPort n (creditedPort h)).deliverBest n f) := by
        rw [hexec, hpassed, if_pos hdest]
      rw [State.deliverBest] at hhere
      refine ⟨fun offset bytes hc => ?_, fun source id shard bo hc => ?_, fun id shard bo x hc => ?_, fun c hc => ?_, fun b hc => ?_,
        fun r hc => ?_, fun x write hc => ?_, fun rank season mode hc => ?_, fun r offset x hc => ?_⟩
      all_goals
        rw [hc] at hhere
        exact hhere
    · rw [hexec, hpassed, if_neg hdest, State.routeBest, routePort_credited hn, hroute]
      rfl
    · rw [hexec, hpassed, if_neg hdest, State.routeBest, routePort_credited hn, hroute]
      rfl

/-- Settles O52: an acknowledgement changes its port alone, and a frame that comes in order is delivered on the state that owes its
credit. -/
theorem linkWords : Obligations.LinkWords := ⟨acknowledgementWords, bestEffortFrames⟩

/-! ## Acre datagrams and sessions (R287 to R295) -/

theorem letIn_of_no_port {s : State} {h : AcreHeader} (hport : s.acrePort = none) : s.letIn h = (s, none) := by
  rw [State.letIn]
  rw [if_pos (by simp [hport])]

theorem letIn_of_no_session {s : State} {h : AcreHeader} (hport : s.acrePort.isSome = true)
    (hnone : s.sessionWith h.senderTeam.toNat h.senderRank.toNat = none) : s.letIn h = (s.bump 0x504001, none) := by
  rw [State.letIn]
  rw [if_neg (by simp [Option.isSome_iff_ne_none.mp hport]), hnone]
  rfl

section
variable {s : State} {h : AcreHeader} {i : Nat}

theorem letIn_of_broken (hport : s.acrePort.isSome = true) (hs : s.sessionWith h.senderTeam.toNat h.senderRank.toNat = some i)
    (hbroken : h.intact = false) : s.letIn h = (s.bump 0x504001, none) := by
  rw [State.letIn]
  rw [if_neg (by simp [Option.isSome_iff_ne_none.mp hport]), hs]
  exact if_pos (by simp [hbroken])

theorem letIn_of_reserved (hport : s.acrePort.isSome = true) (hs : s.sessionWith h.senderTeam.toNat h.senderRank.toNat = some i)
    (hintact : h.intact = true) (htype : h.type.toNat = 0 ∨ 9 < h.type.toNat) : s.letIn h = (s, none) := by
  rw [State.letIn]
  rw [if_neg (by simp [Option.isSome_iff_ne_none.mp hport]), hs]
  dsimp only
  rw [if_neg (by simp [hintact]), if_pos (by simpa using htype)]

theorem letIn_of_old (hport : s.acrePort.isSome = true) (hs : s.sessionWith h.senderTeam.toNat h.senderRank.toNat = some i)
    (hintact : h.intact = true) (hlow : 1 ≤ h.type.toNat) (hhigh : h.type.toNat ≤ 9)
    (hepoch : h.epoch.toNat < (s.sessionAt i).recvEpoch) (hold : (s.sessionAt i).oldEpoch ≠ some h.epoch.toNat) :
    s.letIn h = (s.bump 0x504003, none) := by
  have hzero : (h.type.toNat == 0) = false := beq_eq_false_iff_ne.mpr (by omega)
  rw [State.letIn]
  rw [if_neg (by simp [Option.isSome_iff_ne_none.mp hport]), hs]
  dsimp only
  rw [if_neg (by simp [hintact]), if_neg (by simp [hzero, hhigh]), if_neg (by omega), if_neg (by simpa using ⟨by omega, hold⟩)]
  rfl

theorem letIn_of_letIn (hin : LetIn s h i) : s.letIn h = (s, some i) := by
  obtain ⟨hport, hs, hintact, hlow, hhigh, hepoch⟩ := hin
  have hzero : (h.type.toNat == 0) = false := beq_eq_false_iff_ne.mpr (by omega)
  rw [State.letIn]
  rw [if_neg (by simp [Option.isSome_iff_ne_none.mp hport]), hs]
  dsimp only
  rw [if_neg (by simp [hintact]), if_neg (by simp [hzero, hhigh]), if_neg (by omega), if_pos (by simp [hepoch])]

/-- A datagram that is not let in leaves what its checks leave. -/
theorem exec_of_not_letIn {bytes : List Byte} {ok : Bool} {n : Nat} {l : List Nat} {t : State} (hin : s.letIn h = (t, none)) :
    ∀ c ∈ [Instr.baleChunk h bytes, .stripeAck h n, .stripeNack h l, .rosterChunk h bytes ok, .anchorChunk h bytes n,
        .fetchRequest h, .probe h, .probeEcho h n], exec c s = .next t := by
  have hbale : exec (.baleChunk h bytes) s = .next t := by
    have hexec : exec (.baleChunk h bytes) s = .next (baleChunk h bytes s) := rfl
    rw [hexec, baleChunk, hin]
  have hack : exec (.stripeAck h n) s = .next t := by
    have hexec : exec (.stripeAck h n) s = .next (stripeAck h n s) := rfl
    rw [hexec, stripeAck, hin]
  have hnack : exec (.stripeNack h l) s = .next t := by
    have hexec : exec (.stripeNack h l) s = .next (stripeNack h l s) := rfl
    rw [hexec, stripeNack, hin]
  have hroster : exec (.rosterChunk h bytes ok) s = .next t := by
    have hexec : exec (.rosterChunk h bytes ok) s = .next (rosterChunk h bytes ok s) := rfl
    rw [hexec, rosterChunk, hin]
  have hanchor : exec (.anchorChunk h bytes n) s = .next t := by
    have hexec : exec (.anchorChunk h bytes n) s = .next (anchorChunk h bytes n s) := rfl
    rw [hexec, anchorChunk, hin]
  have hfetch : exec (.fetchRequest h) s = .next t := by
    have hexec : exec (.fetchRequest h) s = .next (fetchRequest h s) := rfl
    rw [hexec, fetchRequest, hin]
  have hprobe : exec (.probe h) s = .next t := by
    have hexec : exec (.probe h) s = .next (probe h s) := rfl
    rw [hexec, probe, hin]
  have hecho : exec (.probeEcho h n) s = .next t := by
    have hexec : exec (.probeEcho h n) s = .next (probeEcho h n s) := rfl
    rw [hexec, probeEcho, hin]
  simp only [List.forall_mem_cons]
  exact ⟨hbale, hack, hnack, hroster, hanchor, hfetch, hprobe, hecho, fun _ hc => absurd hc List.not_mem_nil⟩

end

theorem acreChecks : Claims.AcreChecks := by
  intro h bytes ok n l s c hc
  refine ⟨fun hport => exec_of_not_letIn (letIn_of_no_port hport) c hc,
    fun hport hnone => exec_of_not_letIn (letIn_of_no_session hport hnone) c hc, fun i hport hs =>
    ⟨fun hbroken => exec_of_not_letIn (letIn_of_broken hport hs hbroken) c hc,
      fun hintact htype => exec_of_not_letIn (letIn_of_reserved hport hs hintact htype) c hc,
      fun hintact hlow hhigh hepoch hold => exec_of_not_letIn (letIn_of_old hport hs hintact hlow hhigh hepoch hold) c hc⟩⟩

/-! ### Sessions -/

theorem flush_of_none_waiting {s : State} (h : s.acre.outgoing = []) : s.flush = s := by
  rw [State.flush]
  split
  · rfl
  · rw [h, List.foldl_nil, ← h]

theorem pace_of_none_held {s : State} (h : s.acre.held = []) (i : Nat) : s.pace i = s := by
  rw [State.pace]
  split
  · rfl
  · rw [h, List.foldl_nil, ← h]

theorem getElem?_sessionAt {s : State} {i : Nat} (hi : i < s.acre.sessions.length) : s.acre.sessions[i]? = some (s.sessionAt i) := by
  rw [State.sessionAt, nth_eq_getD, List.getElem?_eq_getElem hi, Option.getD_some]

theorem sessionAt_mapSession_same {s : State} {i : Nat} (f : Session → Session) (hi : i < s.acre.sessions.length) :
    (s.mapSession i f).sessionAt i = f (s.sessionAt i) := by
  have hget : (s.mapSession i f).acre.sessions[i]? = some (f (s.sessionAt i)) := by
    rw [State.mapSession, getElem?_modifyNth_same, getElem?_sessionAt hi, Option.map_some]
  rw [State.sessionAt, nth_eq_getD, hget, Option.getD_some]

theorem sessionAt_mapSession_other (s : State) {i m : Nat} (f : Session → Session) (hm : m ≠ i) :
    (s.mapSession i f).sessionAt m = s.sessionAt m := by
  rw [State.sessionAt, State.sessionAt, nth_eq_getD, nth_eq_getD, State.mapSession, getElem?_modifyNth_other f _ hm]

theorem sessionWith_lt {s : State} {team rank i : Nat} (h : s.sessionWith team rank = some i) : i < s.acre.sessions.length :=
  (List.findIdx?_eq_some_iff_getElem.mp h).1

/-- The header of a datagram that leaves on a session. -/
def sealedHeader (s : State) (i : Nat) (h : AcreHeader) (payload : List Byte) : AcreHeader :=
  { h with epoch := BitVec.ofNat 32 (s.sessionAt i).sendEpoch, counter := BitVec.ofNat 32 (s.sessionAt i).sendCounter
           senderRank := BitVec.ofNat 32 s.rank, senderTeam := BitVec.ofNat 16 (s.num 0x500002), length := payload.length
           intact := true }

/-- A datagram of a session, by the port it leaves by (R287, R288, R290). -/
def datagram (s : State) (p i : Nat) (h : AcreHeader) (payload : List Byte) : OutMsg :=
  .acre (s.udpPath p (s.sessionAt i).peerTeam (s.sessionAt i).endpoint) (s.sessionAt i).peerTeam (s.sessionAt i).peerRank
    (sealedHeader s i h payload)
    (Config.gcmSeal (epochKey (s.sessionAt i).secret (s.sessionAt i).sendEpoch (s.sessionAt i).initiator)
      (acreNonce (sealedHeader s i h payload)) (acreHeaderBytes (sealedHeader s i h payload)) payload)

/-- A session that has used one more value of its counter. -/
def countedSession (x : Session) : Session := { x with sendCounter := x.sendCounter + 1 }

theorem sendAcre_eq {s : State} {i p : Nat} (hport : s.acrePort = some p) (hcount : (s.sessionAt i).sendCounter + 1 < 2 ^ 32)
    (h : AcreHeader) (payload : List Byte) :
    s.sendAcre i h payload = (s.send (datagram s p i h payload)).mapSession i countedSession := by
  rw [State.sendAcre, hport]
  dsimp only
  rw [if_neg (by omega), if_neg (by omega)]
  rfl

theorem datagramSent_sendAcre {s : State} {i : Nat} (hmay : MaySend s i) (h : AcreHeader) (payload : List Byte) :
    DatagramSent s (s.sendAcre i h payload) i h payload := by
  obtain ⟨hport, hi, hcount⟩ := hmay
  obtain ⟨p, hp⟩ := Option.isSome_iff_exists.mp hport
  rw [sendAcre_eq hp hcount]
  refine ⟨⟨p, hp, ?_⟩, ?_⟩
  · change _ ∈ (s.send (datagram s p i h payload)).outbox
    exact List.mem_append_right _ (List.mem_singleton.mpr rfl)
  · have hsame := sessionAt_mapSession_same (s := s.send (datagram s p i h payload)) countedSession hi
    rw [hsame]
    rfl

section
variable {k : KeyAgreement} {s : State}

/-- Key agreement (R289), by the checks of its message. -/
theorem keyAgreementClaim (p : Nat) (hport : s.acrePort = some p) (hout : s.acre.outgoing = []) (hintact : k.intact = true)
    (hatt : k.attestationOk = true) (hjob : k.jobId.toNat = s.num 0x500001) (hkey : leBytes 32 k.seasonKey.toNat = fit 32 (s.oct 0x500012))
    (hfrom : k.fromInitiator = true ∨ s.acre.requested.contains (k.peerTeam, k.endpoint) = true) :
    ∃ t x, exec (.keyAgreement k) s = .next t ∧ t.acre.sessions =
        (s.acre.sessions.filter fun y => !(y.peerTeam == k.peerTeam && y.peerRank == k.peerRank)) ++ [x] ∧
      x.peerTeam = k.peerTeam ∧ x.peerRank = k.peerRank ∧ x.endpoint = k.endpoint ∧ x.sendEpoch = 1 ∧ x.sendCounter = 0 ∧
      (k.fromInitiator = false → x.initiator = true ∧ x.secret = sessionSecret k.sharedSecret k.transcript ∧ t.outbox = s.outbox) ∧
      (k.fromInitiator = true → x.initiator = false ∧ ∃ b, t.outbox = s.outbox ++ [.keyAgreement
        (s.udpPath p k.peerTeam k.endpoint)
        { type := 7, senderRank := BitVec.ofNat 32 s.rank, senderTeam := BitVec.ofNat 16 (s.num 0x500002), length := b.length }
        k.peerTeam k.endpoint true b]) := by
  have hexec : exec (.keyAgreement k) s = .next (keyAgreement k s) := rfl
  have hchecks : ¬ ((!(k.attestationOk && k.jobId.toNat == s.num 0x500001 && leBytes 32 k.seasonKey.toNat == fit 32 (s.oct 0x500012))) = true) := by
    simp [hatt, hjob, hkey]
  cases hini : k.fromInitiator with
  | true =>
    have hopened : ∃ x, keyAgreement k s = (s.sendAgreement p k.peerTeam k.endpoint true
        (s.agreementMessage k.transcript (Config.mlKemEncaps k.encapsulation).1)).openSession x ∧ x.peerTeam = k.peerTeam ∧
        x.peerRank = k.peerRank ∧ x.endpoint = k.endpoint ∧ x.sendEpoch = 1 ∧ x.sendCounter = 0 ∧ x.initiator = false := by
      rw [keyAgreement]
      rw [if_neg (by simp [hport]), if_neg (by simp [hintact]), if_neg (by simp [hini]), if_neg hchecks, if_pos hini, hport]
      exact ⟨_, rfl, rfl, rfl, rfl, rfl, rfl, rfl⟩
    obtain ⟨x, heq, hteam, hrank, hend, hepoch, hcount, hrole⟩ := hopened
    refine ⟨_, x, hexec, ?_⟩
    rw [heq, State.openSession, flush_of_none_waiting (by exact hout), hteam, hrank]
    exact ⟨rfl, rfl, rfl, hend, hepoch, hcount, nofun, fun _ => ⟨hrole, _, rfl⟩⟩
  | false =>
    have hreq : s.acre.requested.contains (k.peerTeam, k.endpoint) = true := hfrom.resolve_left (by simp [hini])
    have hopened : ∃ x, keyAgreement k s = s.openSession x ∧ x.peerTeam = k.peerTeam ∧
        x.peerRank = k.peerRank ∧ x.endpoint = k.endpoint ∧ x.sendEpoch = 1 ∧ x.sendCounter = 0 ∧ x.initiator = true ∧
        x.secret = sessionSecret k.sharedSecret k.transcript := by
      rw [keyAgreement]
      rw [if_neg (by simp [hport]), if_neg (by simp [hintact]), if_neg (by rw [hreq]; simp), if_neg hchecks, if_neg (by simp [hini])]
      exact ⟨_, rfl, rfl, rfl, rfl, rfl, rfl, rfl, rfl⟩
    obtain ⟨x, heq, hteam, hrank, hend, hepoch, hcount, hrole, hsecret⟩ := hopened
    refine ⟨_, x, hexec, ?_⟩
    rw [heq, State.openSession, flush_of_none_waiting (by exact hout), hteam, hrank]
    exact ⟨rfl, rfl, rfl, hend, hepoch, hcount, fun _ => ⟨hrole, hsecret, rfl⟩, nofun⟩

theorem moveEpoch_of_lt {i : Nat} (h : (s.sessionAt i).sendEpoch < 2 ^ 32 - 1) : s.moveEpoch i = s.mapSession i Session.nextEpoch := by
  rw [State.moveEpoch]
  rw [if_neg (by simp; omega)]

end

/-- A session's first sample (R295). -/
theorem sample_first {x : Session} (hreset : x.resetLeft = 0) (hnone : x.samples = []) (now : Cycle) (rtt srtt rate : Nat) :
    Session.sample x now rtt srtt rate =
      { x with srtt := srtt, rates := rate :: x.rates.take 9, samples := [(now, rtt)], deviations := 0, minRtt := some rtt } := by
  have hsmall : smallest [(now, rtt)] = some rtt := rfl
  rw [Session.sample]
  simp only [hnone, List.filter_nil, List.nil_append, hreset, hsmall, Option.getD_some, Nat.sub_self]
  rfl

theorem takeSample_first {s : State} {i : Nat} (hreset : (s.sessionAt i).resetLeft = 0) (hnone : (s.sessionAt i).samples = [])
    (hheld : s.acre.held = []) (rtt : Nat) :
    ∃ srtt rate, s.takeSample i rtt = s.useFree.useFree.mapSession i fun _ =>
      { s.sessionAt i with srtt := srtt, rates := rate :: (s.sessionAt i).rates.take 9, samples := [(s.cycle, rtt)], deviations := 0
                           minRtt := some rtt } := by
  refine ⟨s.fresh, s.useFree.fresh, ?_⟩
  rw [State.takeSample]
  simp only [sample_first hreset hnone]
  rw [if_neg (by simp [hreset]), pace_of_none_held (by exact hheld)]

theorem foldl_pace_of_none_held {s : State} (h : s.acre.held = []) (l : List Nat) : l.foldl State.pace s = s := by
  induction l with
  | nil => rfl
  | cons i l ih => rw [List.foldl_cons, pace_of_none_held h, ih]

/-- The state after a port's link has changed (R321, R322). -/
def linkChanged (port : Nat) (up training : Bool) (s : State) : State :=
  let on := s.num (0x501001 + port) != 0
  State.setNum { s with acre := { s.acre with portUp := modifyNth (fun _ => on && up) s.acre.portUp port } } (0x501101 + port)
    (if !on then 0 else if up then 2 else if training then 1 else 0)

theorem acreSessionsClaim : Claims.AcreSessions := by
  refine ⟨fun k s => ⟨fun hport => ?_, fun hport hbroken => ?_, fun hport hintact hresp hreq => ?_, fun hport hintact hini hbad => ?_,
    fun p hport hout hintact hatt hjob hkey hfrom => keyAgreementClaim p hport hout hintact hatt hjob hkey hfrom⟩,
    fun i s hi => ⟨fun hepoch => ?_, ?_, fun hnone => ?_, fun hleft hmay => ?_⟩,
    fun h i s hin => ⟨fun hmay => ?_, fun sample hreset hnone hheld => ?_⟩, fun port up training s hs hport hout hheld => ?_⟩
  · have hexec : exec (.keyAgreement k) s = .next (keyAgreement k s) := rfl
    rw [hexec, keyAgreement]
    rw [if_pos (by simp [hport])]
  · have hexec : exec (.keyAgreement k) s = .next (keyAgreement k s) := rfl
    rw [hexec, keyAgreement]
    rw [if_neg (by simp [Option.isSome_iff_ne_none.mp hport]), if_pos (by simp [hbroken])]
    rfl
  · have hexec : exec (.keyAgreement k) s = .next (keyAgreement k s) := rfl
    rw [hexec, keyAgreement]
    rw [if_neg (by simp [Option.isSome_iff_ne_none.mp hport]), if_neg (by simp [hintact]), if_pos (by rw [hresp, hreq]; rfl)]
  · have hexec : exec (.keyAgreement k) s = .next (keyAgreement k s) := rfl
    have hchecks : (!(k.attestationOk && k.jobId.toNat == s.num 0x500001 && leBytes 32 k.seasonKey.toNat == fit 32 (s.oct 0x500012))) = true := by
      rcases hbad with h | h | h <;> simp [h]
    rw [hexec, keyAgreement]
    rw [if_neg (by simp [Option.isSome_iff_ne_none.mp hport]), if_neg (by simp [hintact]), if_neg (by simp [hini]), if_pos hchecks]
    simp only [hini, if_true]
    rfl
  · have hexec : exec (.keyEpochChange i) s = .next (keyEpochChange i s) := rfl
    refine ⟨_, hexec, ?_⟩
    rw [keyEpochChange, if_pos hi, moveEpoch_of_lt hepoch, sessionAt_mapSession_same _ hi, Session.nextEpoch, if_pos hepoch]
    exact ⟨rfl, rfl, fun m hm => sessionAt_mapSession_other _ _ hm⟩
  · have hexec : exec (.oldKeyErase i) s = .next (oldKeyErase i s) := rfl
    refine ⟨_, hexec, ?_⟩
    rw [oldKeyErase, sessionAt_mapSession_same _ hi]
    exact ⟨rfl, fun m hm => sessionAt_mapSession_other _ _ hm, rfl⟩
  · have hexec : exec (.pacingProbe i) s = .next (pacingProbe i s) := rfl
    rw [hexec, pacingProbe, if_pos hnone]
  · have hexec : exec (.pacingProbe i) s = .next (pacingProbe i s) := rfl
    refine ⟨_, hexec, ?_⟩
    rw [pacingProbe, if_neg hleft]
    exact datagramSent_sendAcre hmay _ _
  · have hexec : exec (.probe h) s = .next (probe h s) := rfl
    refine ⟨_, hexec, ?_⟩
    rw [probe, letIn_of_letIn hin]
    exact datagramSent_sendAcre hmay _ _
  · have hexec : exec (.probeEcho h sample) s = .next (probeEcho h sample s) := rfl
    have hi : i < s.acre.sessions.length := sessionWith_lt hin.2.1
    obtain ⟨srtt, rate, htaken⟩ := takeSample_first hreset hnone hheld sample
    have hsame := sessionAt_mapSession_same (s := s.useFree.useFree) (i := i) (fun _ =>
      { s.sessionAt i with srtt := srtt, rates := rate :: (s.sessionAt i).rates.take 9, samples := [(s.cycle, sample)], deviations := 0
                           minRtt := some sample }) hi
    refine ⟨_, hexec, ?_⟩
    rw [probeEcho, letIn_of_letIn hin]
    dsimp only
    rw [htaken, hsame]
    exact ⟨rfl, rfl, rfl⟩
  · have hexec : exec (.acrePortLinkChange port up training) s = .next (acrePortLinkChange port up training s) := rfl
    have hleft : acrePortLinkChange port up training s = linkChanged port up training s := by
      rw [acrePortLinkChange]
      exact (congrArg (fun u => List.foldl State.pace u _) (flush_of_none_waiting (s := linkChanged port up training s) hout)).trans
        (foldl_pace_of_none_held (s := linkChanged port up training s) hheld _)
    have hon : ∀ v, ((s.num (0x501001 + port) != 0) && v) = (decide (s.num (0x501001 + port) ≠ 0) && v) := fun v => by
      by_cases h0 : s.num (0x501001 + port) = 0 <;> simp [h0]
    refine ⟨_, hexec, ?_⟩
    rw [hleft]
    refine ⟨?_, ?_, rfl⟩
    · rw [linkChanged, State.num_setNum_same (by exact hs)]
      simp
    · exact congrArg (fun v => modifyNth (fun _ => v) s.acre.portUp port) (hon up)

/-- Settles O53: by what the checks let in (`State.letIn`), and by what one datagram or sample does to its session. -/
theorem acreSessions : Obligations.AcreSessions := ⟨acreChecks, acreSessionsClaim⟩

/-! ## The Ledger (R213 to R217) -/

/-- Where the next record of the Ledger stands. -/
def nextRecordAt (s : State) : Nat := Config.ledgerBase + 256 * (s.num 0x801002 % 2 ^ 20)

/-- Where its digests stand. -/
def nextDigestsAt (s : State) : Nat := Config.digestRingBase + 65536 * (s.num 0x801002 % 4096)

/-- Where its tallies stand. -/
def nextTalliesAt (s : State) : Nat := Config.tallyRingBase + 65536 * (s.num 0x801002 % 4096)

/-- What a record carries of itself, whatever its place in the ring gives it. -/
def sameRecord (r x : LedgerRecord) : Prop :=
  x = { r with index := x.index, gap := x.gap, digestPtr := x.digestPtr, tallyPtr := x.tallyPtr, tallyStuck := x.tallyStuck }

/-- The window after the tables of a record are written, before the record itself (R216). -/
def tabledWindow (s : State) (r : LedgerRecord) (l : Nat) : List Host.Cell :=
  if r.hasTables then
    writeTables s.host.window s.records.current (Config.digestRingBase + 65536 * (l % 4096)) (Config.tallyRingBase + 65536 * (l % 4096))
  else s.host.window

/-- A state with a record written, before the ring's index rises and the level is judged. -/
def withRecord (s : State) (x : Records) (w : List Host.Cell) : State := { s with records := x, host := { s.host with window := w } }

/-- The function is unfolded before it is applied: unfolded at its arguments, the kernel would evaluate the ring sizes in unary. -/
theorem appendLedger_eq (s : State) (r : LedgerRecord) :
    ∃ x rs, s.appendLedger r =
        ((withRecord s.ledgerGap.1 rs (Memory.writeBytes (tabledWindow s.ledgerGap.1 r (s.ledgerGap.1.num 0x801002))
          (nextRecordAt s.ledgerGap.1) (ledgerBytes x))).setNum 0x801002
            (s.ledgerGap.1.num 0x801002 + 1)).settleLedger ∧
      rs.ledger.getLast? = some x ∧ sameRecord r x ∧ x.index = s.ledgerGap.1.num 0x801002 ∧
      rs.current = s.ledgerGap.1.records.current ∧ rs.taps = s.ledgerGap.1.records.taps := by
  generalize hf : State.appendLedger = f
  delta State.appendLedger at hf
  subst hf
  dsimp -zeta -iota -proj only
  generalize s.ledgerGap = g
  obtain ⟨u, gap⟩ := g
  refine ⟨_, _, rfl, List.getLast?_concat .., rfl, rfl, rfl, rfl⟩

theorem ledgerGap_frame (s : State) : s.ledgerGap.1 = { s with nums := s.ledgerGap.1.nums } := by
  by_cases hgap : s.num 0x801003 + 2 ^ 20 ≤ s.num 0x801002
  · simp only [State.ledgerGap, if_pos hgap]
    rw [State.bump, State.setNum, State.setNum]
  · simp only [State.ledgerGap, if_neg hgap]

theorem num_ledgerGap (s : State) {k : Nat} (h3 : 0x801003 ≠ k) (h4 : 0x801004 ≠ k) : s.ledgerGap.1.num k = s.num k := by
  by_cases hgap : s.num 0x801003 + 2 ^ 20 ≤ s.num 0x801002
  · simp only [State.ledgerGap, if_pos hgap]
    rw [State.num_bump_other _ _ h4, State.num_setNum_other _ _ h3]
  · simp only [State.ledgerGap, if_neg hgap]

theorem settleLedger_frame (s : State) :
    s.settleLedger = { s with records := { s.records with atLevel := s.settleLedger.records.atLevel }, ctl := s.settleLedger.ctl
                              outbox := s.settleLedger.outbox, nums := s.settleLedger.nums } := by
  unfold State.settleLedger
  dsimp only
  split
  · rw [State.raise_frame]
  · rfl

theorem num_settleLedger (s : State) {k : Nat} (hk : eventCause ≠ k) : s.settleLedger.num k = s.num k := by
  unfold State.settleLedger
  dsimp only
  split
  · rw [State.num_raise_other _ _ hk]
    rfl
  · rfl

theorem settleLedger_cur (s : State) : s.settleLedger.ctl.cur = s.ctl.cur ∧ s.settleLedger.ctl.tgt = s.ctl.tgt := by
  unfold State.settleLedger
  dsimp only
  split <;> simp

theorem readByte_foldl_writeBytes {α : Type} {lo hi a : Nat} (ha : a < lo ∨ hi ≤ a) {at_ : α → Nat} {bytes : α → List Byte} (l : List α)
    (hl : ∀ e ∈ l, lo ≤ at_ e ∧ at_ e + (bytes e).length ≤ hi) (m : List Host.Cell) :
    Memory.readByte (l.foldl (fun m e => Memory.writeBytes m (at_ e) (bytes e)) m) a = Memory.readByte m a := by
  induction l generalizing m with
  | nil => rfl
  | cons e l ih =>
    obtain ⟨hlo, hhi⟩ := hl e List.mem_cons_self
    rw [List.foldl_cons, ih (fun x hx => hl x (List.mem_cons_of_mem _ hx)), Memory.readByte_writeBytes_other _ _ (by omega)]

/-- The tables stay within their slots. -/
theorem readByte_writeTables_other (m : List Host.Cell) (x : Tables) {d t a : Nat} (hd : a < d ∨ d + 65536 ≤ a)
    (ht : a < t ∨ t + 65536 ≤ a) : Memory.readByte (writeTables m x d t) a = Memory.readByte m a := by
  unfold writeTables
  rw [readByte_foldl_writeBytes (lo := t) (hi := t + 65536) ht _ fun e he => ?_,
    readByte_foldl_writeBytes (lo := d) (hi := d + 65536) hd _ fun e he => ?_, Memory.readByte_zero_other _ ht,
    Memory.readByte_zero_other _ hd]
  · have hlt := decide_eq_true_iff.mp (List.mem_filter.mp he).2
    rw [Tests.leBytes_length]
    omega
  · have hlt := decide_eq_true_iff.mp (List.mem_filter.mp he).2
    rw [tallyBytes, Tests.leBytes_length]
    omega

theorem ledgerBytes_length (r : LedgerRecord) : (ledgerBytes r).length = 256 := by
  rw [ledgerBytes, List.length_append, Tests.leBytes_length, Tests.leBytes_length]

/-- A record has been appended to the Ledger (R213, R215, R216, R217). -/
structure Appended (s t : State) (r : LedgerRecord) : Prop where
  frame : t = { s with records := t.records, host := t.host, nums := t.nums, ctl := t.ctl, outbox := t.outbox }
  host : t.host = { s.host with window := t.host.window }
  cur : t.ctl.cur = s.ctl.cur ∧ t.ctl.tgt = s.ctl.tgt
  index : t.num 0x801002 = s.num 0x801002 + 1
  num : ∀ k, 0x801002 ≠ k → 0x801003 ≠ k → 0x801004 ≠ k → eventCause ≠ k → t.num k = s.num k
  last : ∃ x, t.records.ledger.getLast? = some x ∧ sameRecord r x ∧ x.index = s.num 0x801002 ∧
    Memory.readBytes t.host.window (nextRecordAt s) 256 = ledgerBytes x
  outside : ∀ a, (a < nextRecordAt s ∨ nextRecordAt s + 256 ≤ a) → (a < nextDigestsAt s ∨ nextDigestsAt s + 65536 ≤ a) →
    (a < nextTalliesAt s ∨ nextTalliesAt s + 65536 ≤ a) → Memory.readByte t.host.window a = Memory.readByte s.host.window a
  tables : t.records.current = s.records.current ∧ t.records.taps = s.records.taps

theorem wf_tabledWindow {s : State} (hs : Canonical s) (r : LedgerRecord) (l : Nat) : Memory.wf (tabledWindow s r l) = true := by
  unfold tabledWindow
  split
  · exact Keeps.wf_writeTables hs.2.2.1 _ _ _
  · exact hs.2.2.1

theorem recorded_frame {s u v : State}
    (hv : v = { u with records := v.records, host := v.host, nums := v.nums, ctl := v.ctl, outbox := v.outbox })
    (hu : u = { s with nums := u.nums }) :
    v = { s with records := v.records, host := v.host, nums := v.nums, ctl := v.ctl, outbox := v.outbox } := by
  rw [hv, hu]

/-- What a record and the next index leave, whatever the index's entry and value. -/
theorem settled_frame (u : State) (rs : Records) (w : List Host.Cell) (k n : Nat) :
    ∃ v, ((withRecord u rs w).setNum k n).settleLedger = v ∧
      v = { u with records := v.records, host := v.host, nums := v.nums, ctl := v.ctl, outbox := v.outbox } ∧
      v.host = { u.host with window := w } ∧ v.records = { rs with atLevel := v.records.atLevel } ∧ v.ctl.cur = u.ctl.cur ∧
      v.ctl.tgt = u.ctl.tgt ∧ ∀ j, eventCause ≠ j → v.num j = ((withRecord u rs w).setNum k n).num j := by
  have hframe := settleLedger_frame ((withRecord u rs w).setNum k n)
  have hcur := settleLedger_cur ((withRecord u rs w).setNum k n)
  have hnum : ∀ j, eventCause ≠ j → _ = _ := fun j hj => num_settleLedger ((withRecord u rs w).setNum k n) hj
  refine ⟨_, rfl, ?_⟩
  generalize ((withRecord u rs w).setNum k n).settleLedger = v at hframe hcur hnum ⊢
  refine ⟨?_, ?_, ?_, hcur.1, hcur.2, hnum⟩
  · rw [hframe]
    rfl
  · rw [hframe]
    rfl
  · rw [hframe]
    rfl

/-- A record appended touches the Ledger, the window and what its event touches. -/
theorem appendLedger_frame (s : State) (r : LedgerRecord) :
    s.appendLedger r = { s with records := (s.appendLedger r).records, host := (s.appendLedger r).host
                                nums := (s.appendLedger r).nums, ctl := (s.appendLedger r).ctl
                                outbox := (s.appendLedger r).outbox } ∧
      (s.appendLedger r).ctl.cur = s.ctl.cur ∧ (s.appendLedger r).ctl.tgt = s.ctl.tgt := by
  obtain ⟨x, rs, heq, -⟩ := appendLedger_eq s r
  have hgap := ledgerGap_frame s
  rw [heq]
  generalize s.ledgerGap.1 = u at *
  obtain ⟨v, hv, hframe, -, -, hcur, htgt, -⟩ := settled_frame u rs (Memory.writeBytes (tabledWindow u r (u.num 0x801002))
    (nextRecordAt u) (ledgerBytes x)) 0x801002 (u.num 0x801002 + 1)
  rw [hv]
  have hstates : u.ctl = s.ctl := by rw [hgap]
  exact ⟨recorded_frame hframe hgap, by rw [hcur, hstates], by rw [htgt, hstates]⟩

theorem num_withRecord (s : State) (x : Records) (w : List Host.Cell) (k : Nat) : (withRecord s x w).num k = s.num k := rfl

theorem canonical_withRecord {s : State} (hs : Canonical s) (x : Records) {w : List Host.Cell} (hw : Memory.wf w = true) :
    Canonical (withRecord s x w) := by
  obtain ⟨hnums, hocts, -, htier, hholder, hheld⟩ := hs
  exact ⟨hnums, hocts, hw, htier, hholder, hheld⟩

theorem appended {s : State} (hs : Canonical s) (r : LedgerRecord) : Appended s (s.appendLedger r) r := by
  obtain ⟨x, rs, heq, hlast, hsame, hindex, hcurrent, htaps⟩ := appendLedger_eq s r
  have hgap := ledgerGap_frame s
  have hgapNum : ∀ k, 0x801003 ≠ k → 0x801004 ≠ k → s.ledgerGap.1.num k = s.num k := fun k h3 h4 => num_ledgerGap s h3 h4
  have hcan : Canonical s.ledgerGap.1 := (Keeps.refl s).ledgerGap.canonical hs
  rw [heq]
  generalize s.ledgerGap.1 = u at *
  have hl : u.num 0x801002 = s.num 0x801002 := hgapNum _ (by decide) (by decide)
  have hwindow : u.host.window = s.host.window := by rw [hgap]
  have hplace : nextRecordAt u = nextRecordAt s := by rw [nextRecordAt, nextRecordAt, hl]
  rw [hl] at hindex
  rw [hl, hplace]
  have hwf := wf_tabledWindow hcan r (s.num 0x801002)
  have hbytes := Memory.readBytes_writeBytes_same (nextRecordAt s) (ledgerBytes x) hwf
  rw [ledgerBytes_length] at hbytes
  have hout : ∀ a, (a < nextRecordAt s ∨ nextRecordAt s + 256 ≤ a) → (a < nextDigestsAt s ∨ nextDigestsAt s + 65536 ≤ a) →
      (a < nextTalliesAt s ∨ nextTalliesAt s + 65536 ≤ a) →
      Memory.readByte (Memory.writeBytes (tabledWindow u r (s.num 0x801002)) (nextRecordAt s) (ledgerBytes x)) a =
        Memory.readByte s.host.window a := by
    intro a hrecord hdigests htallies
    rw [Memory.readByte_writeBytes_other _ _ (by rw [ledgerBytes_length]; exact hrecord), ← hwindow]
    unfold tabledWindow
    split
    · rw [nextDigestsAt] at hdigests
      rw [nextTalliesAt] at htallies
      exact readByte_writeTables_other _ _ hdigests htallies
    · rfl
  have hww := Memory.wf_writeBytes (nextRecordAt s) (ledgerBytes x) hwf
  generalize Memory.writeBytes (tabledWindow u r (s.num 0x801002)) (nextRecordAt s) (ledgerBytes x) = w at hbytes hout hww ⊢
  have hindexed : ((withRecord u rs w).setNum 0x801002 (s.num 0x801002 + 1)).num 0x801002 = s.num 0x801002 + 1 :=
    State.num_setNum_same (canonical_withRecord hcan rs hww) _ _
  have hothers : ∀ k, 0x801002 ≠ k → ((withRecord u rs w).setNum 0x801002 (s.num 0x801002 + 1)).num k = u.num k := by
    intro k hk
    rw [State.num_setNum_other _ _ hk, num_withRecord]
  obtain ⟨v, hv, hframe, hhost, hrecords, hcur, htgt, hnum⟩ := settled_frame u rs w 0x801002 (s.num 0x801002 + 1)
  rw [hv]
  generalize hn : s.num 0x801002 + 1 = n at *
  replace hframe := recorded_frame hframe hgap
  have hhost' : v.host = { s.host with window := v.host.window } := by
    rw [hhost, hgap]
  have hstates : v.ctl.cur = s.ctl.cur ∧ v.ctl.tgt = s.ctl.tgt := by
    rw [hcur, htgt, hgap]
    exact ⟨rfl, rfl⟩
  have hindex' : v.num 0x801002 = n := by rw [hnum 0x801002 (by decide), hindexed]
  have hnums : ∀ k, 0x801002 ≠ k → 0x801003 ≠ k → 0x801004 ≠ k → eventCause ≠ k → v.num k = s.num k := by
    intro k h2 h3 h4 he
    rw [hnum k he, hothers k h2, hgapNum k h3 h4]
  have hlast' : v.records.ledger.getLast? = some x := by
    rw [hrecords]
    exact hlast
  have hread : Memory.readBytes v.host.window (nextRecordAt s) 256 = ledgerBytes x := by
    rw [hhost]
    exact hbytes
  have houtside : ∀ a, (a < nextRecordAt s ∨ nextRecordAt s + 256 ≤ a) → (a < nextDigestsAt s ∨ nextDigestsAt s + 65536 ≤ a) →
      (a < nextTalliesAt s ∨ nextTalliesAt s + 65536 ≤ a) → Memory.readByte v.host.window a = Memory.readByte s.host.window a := by
    rw [hhost]
    exact hout
  have htables : v.records.current = s.records.current ∧ v.records.taps = s.records.taps := by
    rw [hrecords]
    change rs.current = _ ∧ rs.taps = _
    rw [hcurrent, htaps, hgap]
    exact ⟨rfl, rfl⟩
  subst hn
  exact ⟨hframe, hhost', hstates, hindex', hnums, ⟨x, hlast', hsame, hindex, hread⟩, houtside, htables⟩

/-! ## How a Harvest ends (R365 to R368) -/

/-- The job as an undo of everything from a number on begins (R146). -/
def undoneJob (floor : Nat) (j : Job) : Job :=
  { j with
    undoing := true, undoFloor := floor, undone := false, undoReported := false, restartAt := none
    outcomes := if j.binary.serving then j.outcomes.filter fun o => o.stepLo.toNat < floor % 2 ^ 32 else []
    haltRecord := j.haltRecord.bind fun n => if n < floor then some n else none }

theorem undoFabric_frame (s : State) (u : List W32) : s.undoFabric u = { s with fabric := (s.undoFabric u).fabric } := rfl

theorem clearEvaluationTiles_frame (s : State) :
    s.clearEvaluationTiles = { s with pool := s.clearEvaluationTiles.pool, plots := s.clearEvaluationTiles.plots } := rfl

theorem beginUndo_frame (s : State) (floor : Nat) :
    s.beginUndo floor = { s with job := s.job.map (undoneJob floor), nums := (s.beginUndo floor).nums
                                 plots := (s.beginUndo floor).plots, pool := (s.beginUndo floor).pool
                                 records := (s.beginUndo floor).records, fabric := (s.beginUndo floor).fabric } := by
  unfold State.beginUndo
  dsimp only
  rw [undoFabric_frame]
  split
  · rw [clearEvaluationTiles_frame]
    rfl
  · rfl

theorem dropTaps_frame (s : State) (a : Attempt) :
    s.dropTaps a = { s with records := (s.dropTaps a).records, nums := (s.dropTaps a).nums } := rfl

/-- What the records of a job that end may touch. -/
def EndsRecords (s t : State) : Prop :=
  t = { s with hopper := t.hopper, ctl := t.ctl, outbox := t.outbox, nums := t.nums, job := t.job } ∧ t.ctl.cur = s.ctl.cur ∧
    t.ctl.tgt = s.ctl.tgt

theorem EndsRecords.complete {s t : State} (h : EndsRecords s t) (ticket : W64) (c : Completion) :
    EndsRecords s (t.complete ticket c) := by
  obtain ⟨hframe, hcur, htgt⟩ := h
  refine ⟨?_, (complete_cur t ticket c).trans hcur, Eq.trans ?_ htgt⟩
  · rw [complete_frame, hframe]
  · rw [State.complete, raise_ctl_tgt]

theorem EndsRecords.foldl_complete {s t : State} (h : EndsRecords s t) (l : List (W64 × Completion)) :
    EndsRecords s (l.foldl (fun s e => s.complete e.1 e.2) t) := by
  induction l generalizing t with
  | nil => exact h
  | cons e l ih => exact ih (h.complete e.1 e.2)

theorem EndsRecords.mapJob {s t : State} (h : EndsRecords s t) (f : Job → Job) : EndsRecords s (t.mapJob f) := by
  obtain ⟨hframe, hcur, htgt⟩ := h
  refine ⟨?_, hcur, htgt⟩
  rw [State.mapJob, hframe]

theorem endsRecords_completeOthers (s : State) (status : Nat) (except : List W64) (undone : Bool) :
    EndsRecords s (s.completeOthers status except undone) :=
  (EndsRecords.foldl_complete (t := s) ⟨rfl, rfl, rfl⟩ _).mapJob _

/-- The Harvest event and the wait for the host to read the Ledger, after the job-end record (R368). -/
def harvestSaid (s : State) : State :=
  { s.raise .harvest with
    harvest := (s.raise .harvest).harvest.map fun r => { r with phase := if r.holdCycles = 0 then .scrubbing else .holding } }

theorem jobEnd_eq (s : State) : s.jobEnd = harvestSaid (s.appendLedger (s.ledgerBase 5 (s.num 0x205001))) := rfl

theorem harvestSaid_frame (s : State) :
    harvestSaid s = { s with nums := (harvestSaid s).nums, ctl := (harvestSaid s).ctl, outbox := (harvestSaid s).outbox
                             harvest := (harvestSaid s).harvest } := by
  have h := State.raise_frame s .harvest
  rw [harvestSaid]
  generalize s.raise .harvest = u at *
  rw [h]

theorem harvestSaid_harvest (s : State) :
    (harvestSaid s).harvest = s.harvest.map fun r => { r with phase := if r.holdCycles = 0 then .scrubbing else .holding } := by
  rw [harvestSaid, State.raise_frame]

theorem said_frame {s u v : State}
    (hv : v = { u with nums := v.nums, ctl := v.ctl, outbox := v.outbox, harvest := v.harvest })
    (hu : u = { s with records := u.records, host := u.host, nums := u.nums, ctl := u.ctl, outbox := u.outbox }) :
    v = { s with records := v.records, host := v.host, nums := v.nums, ctl := v.ctl, outbox := v.outbox, harvest := v.harvest } := by
  rw [hv, hu]

/-- The end of a job touches the Ledger, the event and the Harvest's phase. -/
def EndsHarvest (s t : State) : Prop :=
  t = { s with records := t.records, host := t.host, nums := t.nums, ctl := t.ctl, outbox := t.outbox, harvest := t.harvest } ∧
    t.ctl.cur = s.ctl.cur ∧ t.ctl.tgt = s.ctl.tgt ∧
    t.harvest = s.harvest.map fun r => { r with phase := if r.holdCycles = 0 then .scrubbing else .holding }

theorem endsHarvest_harvestSaid {s u : State}
    (hu : u = { s with records := u.records, host := u.host, nums := u.nums, ctl := u.ctl, outbox := u.outbox })
    (hcur : u.ctl.cur = s.ctl.cur) (htgt : u.ctl.tgt = s.ctl.tgt) : EndsHarvest s (harvestSaid u) := by
  have hrcur : (harvestSaid u).ctl.cur = u.ctl.cur ∧ (harvestSaid u).ctl.tgt = u.ctl.tgt := by simp [harvestSaid]
  exact ⟨said_frame (harvestSaid_frame u) hu, hrcur.1.trans hcur, hrcur.2.trans htgt, by rw [harvestSaid_harvest, hu]⟩

theorem endsHarvest_jobEnd (s : State) : EndsHarvest s s.jobEnd := by
  obtain ⟨hframe, hcur, htgt⟩ := appendLedger_frame s (s.ledgerBase 5 (s.num 0x205001))
  rw [jobEnd_eq]
  exact endsHarvest_harvestSaid hframe hcur htgt

theorem afterStop_of_no_harvest {s : State} (h : s.harvest = none) : s.afterStop = s := by
  rw [State.afterStop, h]

theorem afterStop_of_no_save {s : State} {r : HarvestRun} (h : s.harvest = some r) (hsave : r.save = 0) : s.afterStop = s.jobEnd := by
  rw [State.afterStop, h]
  dsimp only
  rw [if_pos hsave]

theorem afterStop_of_save {s : State} {r : HarvestRun} (h : s.harvest = some r) (hsave : r.save ≠ 0) :
    s.afterStop = { s with harvest := some { r with phase := .saving } } := by
  rw [State.afterStop, h]
  dsimp only
  rw [if_neg hsave]

/-- What the end of a stopped job may touch: neither the Hopper table nor the job. -/
theorem afterStop_frame (s : State) :
    s.afterStop = { s with records := s.afterStop.records, host := s.afterStop.host, nums := s.afterStop.nums, ctl := s.afterStop.ctl
                           outbox := s.afterStop.outbox, harvest := s.afterStop.harvest } ∧
      s.afterStop.ctl.cur = s.ctl.cur ∧ s.afterStop.ctl.tgt = s.ctl.tgt ∧ s.afterStop.harvest.isSome = s.harvest.isSome := by
  cases hh : s.harvest with
  | none =>
    rw [afterStop_of_no_harvest hh, hh]
    exact ⟨by rw [← hh], rfl, rfl, rfl⟩
  | some r =>
    by_cases hsave : r.save = 0
    · obtain ⟨hframe, hcur, htgt, hharvest⟩ := endsHarvest_jobEnd s
      rw [afterStop_of_no_save hh hsave]
      exact ⟨hframe, hcur, htgt, by rw [hharvest, hh]; rfl⟩
    · rw [afterStop_of_save hh hsave]
      exact ⟨rfl, rfl, rfl, rfl⟩

/-- A job before it stops, with the undo of what was under way. -/
def stopBegun (s : State) : State :=
  if s.workBegun && !(s.job.elim false (·.undoing)) then
    (s.dropTaps (s.attemptOf (if s.evaluating.isSome then Whose.eval else .step))).beginUndo s.lowestOpen
  else s

/-- A job that does not run. -/
def quietJob (j : Job) : Job := { j with running := false, restartAt := none, outcomes := [] }

/-- A job whose records have completed at the latest stop (R365). -/
def stoppedJob (s : State) : State :=
  ((stopBegun s).completeOthers 0x00660001 [] (s.job.elim false (·.undoing))).mapJob quietJob

theorem stopJob_eq (s : State) :
    s.stopJob = if (stoppedJob s).job.elim false (fun j => j.undoing && !j.undone) then stoppedJob s
      else ((stoppedJob s).mapJob fun j => { j with undoing := false }).afterStop := by
  have hpair : ∀ o : Option Job, ((o.elim (false, false) fun j => (j.undoing, j.undone)).1 &&
      !(o.elim (false, false) fun j => (j.undoing, j.undone)).2) = o.elim false fun j => j.undoing && !j.undone := by
    intro o
    cases o <;> rfl
  rw [← hpair]
  rfl

/-- What a job that stops may touch (R365). -/
def StopsJob (s t : State) : Prop :=
  t = { s with hopper := t.hopper, ctl := t.ctl, outbox := t.outbox, nums := t.nums, job := t.job, plots := t.plots, pool := t.pool
               records := t.records, fabric := t.fabric, host := t.host, harvest := t.harvest } ∧
    t.ctl.cur = s.ctl.cur ∧ t.ctl.tgt = s.ctl.tgt ∧ t.harvest.isSome = s.harvest.isSome

theorem stopBegun_frame (s : State) :
    stopBegun s = { s with job := (stopBegun s).job, nums := (stopBegun s).nums, plots := (stopBegun s).plots
                           pool := (stopBegun s).pool, records := (stopBegun s).records, fabric := (stopBegun s).fabric } := by
  unfold stopBegun
  split
  · rw [beginUndo_frame]
    rfl
  · rfl

theorem stopsJob_stoppedJob (s : State) : StopsJob s (stoppedJob s) := by
  have hbegun := stopBegun_frame s
  have hends := (endsRecords_completeOthers (stopBegun s) 0x00660001 [] (s.job.elim false (·.undoing))).mapJob quietJob
  change EndsRecords (stopBegun s) (stoppedJob s) at hends
  generalize stopBegun s = u at *
  generalize stoppedJob s = v at *
  obtain ⟨hframe, hcur, htgt⟩ := hends
  have hctl : u.ctl = s.ctl := by rw [hbegun]
  refine ⟨?_, by rw [hcur, hctl], by rw [htgt, hctl], ?_⟩
  · rw [hframe, hbegun]
  · rw [hframe, hbegun]

theorem StopsJob.mapJob {s t : State} (h : StopsJob s t) (f : Job → Job) : StopsJob s (t.mapJob f) := by
  obtain ⟨hframe, hstates⟩ := h
  refine ⟨?_, hstates⟩
  rw [State.mapJob, hframe]

theorem StopsJob.afterStop {s t : State} (h : StopsJob s t) : StopsJob s t.afterStop := by
  obtain ⟨hframe, hcur, htgt, hharvest⟩ := h
  obtain ⟨hframe', hcur', htgt', hharvest'⟩ := afterStop_frame t
  generalize t.afterStop = v at *
  refine ⟨?_, hcur'.trans hcur, htgt'.trans htgt, hharvest'.trans hharvest⟩
  rw [hframe', hframe]

/-- A job that stops touches its records and what its undo and its end touch (R365). -/
theorem stopsJob_stopJob (s : State) : StopsJob s s.stopJob := by
  rw [stopJob_eq]
  split
  · exact stopsJob_stoppedJob s
  · exact ((stopsJob_stoppedJob s).mapJob _).afterStop

/-! ### The latest stop -/

/-- A training job with one assigned record and nothing else that a stop would complete. -/
structure OneRecord (j : Job) (it : Intake) : Prop where
  eval : j.evalRunning = none
  queue : j.evalQueue = []
  pending : j.evalPending = []
  batches : j.batches = []
  assigned : j.assigned = [it]

theorem openRecords_of_one {s : State} {j : Job} {it : Intake} (hj : s.job = some j) (h : OneRecord j it) (status : Nat) (undone : Bool) :
    ∃ c : Completion, c.status = status ∧ s.openRecords status undone = [(it.ticket, c)] := by
  refine ⟨{ status := status, step := s.num 0x205001 + 1, attempts := j.attempt.count - (if undone then 1 else 0)
            signature := j.attempt.lastSignature }, rfl, ?_⟩
  rw [State.openRecords, hj]
  dsimp only
  rw [h.eval, h.queue, h.pending, h.batches, h.assigned]
  cases undone <;> rfl

/-- The completion that the stop of a job gives its one record. -/
theorem completeOthers_of_one {s : State} {j : Job} {it : Intake} (hj : s.job = some j) (h : OneRecord j it) (status : Nat)
    (undone : Bool) : ∃ c : Completion, c.status = status ∧ s.completeOthers status [] undone = (s.complete it.ticket c).mapJob fun j =>
      { j with assigned := [], batches := [], evalQueue := [], evalPending := [], evalRunning := none } := by
  obtain ⟨c, hc, hopen⟩ := openRecords_of_one hj h status undone
  refine ⟨c, hc, ?_⟩
  rw [State.completeOthers, hopen]
  rfl

theorem stopBegun_job {s : State} {j : Job} {it : Intake} (hj : s.job = some j) (h : OneRecord j it) :
    ∃ x, (stopBegun s).job = some x ∧ OneRecord x it := by
  unfold stopBegun
  split
  · rw [beginUndo_frame, dropTaps_frame]
    exact ⟨undoneJob s.lowestOpen j, by simp only [hj]; rfl, h.eval, h.queue, h.pending, h.batches, h.assigned⟩
  · exact ⟨j, hj, h⟩

/-- The stop of a job completes its record, and the job runs no more (R365). -/
theorem stoppedJob_of_one {s : State} {j : Job} {it : Intake} (hj : s.job = some j) (h : OneRecord j it) :
    Completed (stoppedJob s) it.ticket 0x00660001 ∧ ((stoppedJob s).job.map fun x => (x.running, x.assigned)) = some (false, []) := by
  obtain ⟨x, hx, hone⟩ := stopBegun_job hj h
  obtain ⟨c, hc, hothers⟩ := completeOthers_of_one hx hone 0x00660001 (s.job.elim false (·.undoing))
  have hdone := completed_complete (stopBegun s) it.ticket (c := c) (by rw [hc]; decide)
  rw [hc] at hdone
  rw [stoppedJob, hothers]
  refine ⟨hdone, ?_⟩
  have hjob : ((stopBegun s).complete it.ticket c).job = some x := by rw [complete_frame, hx]
  simp only [State.mapJob, hjob, Option.map_some]
  rfl

theorem stopJob_of_one {s : State} {j : Job} {it : Intake} (hj : s.job = some j) (h : OneRecord j it) :
    Completed s.stopJob it.ticket 0x00660001 ∧ (s.stopJob.job.map fun x => (x.running, x.assigned)) = some (false, []) := by
  obtain ⟨hdone, hjob⟩ := stoppedJob_of_one hj h
  rw [stopJob_eq]
  split
  · exact ⟨hdone, hjob⟩
  · obtain ⟨hframe, -⟩ := afterStop_frame ((stoppedJob s).mapJob fun j => { j with undoing := false })
    rw [hframe]
    refine ⟨hdone, Eq.trans ?_ hjob⟩
    simp only [State.mapJob, Option.map_map]
    rfl

theorem latestStopClaim (h : HarvestRun) (c : Cycle) (j : Job) (it : Intake) (s : State) (hh : s.harvest = some h)
    (hphase : h.phase = .stopping) (hstop : h.latestStop = some c) (hj : s.job = some j) (hone : OneRecord j it)
    (hout : j.outcomes = []) :
    ∃ t, exec .latestStop s = .next t ∧ t.cycle = later s.cycle c ∧ Completed t it.ticket 0x00660001 ∧
      (t.job.map fun x => (x.running, x.assigned)) = some (false, []) := by
  have hexec : exec .latestStop s = .next (latestStop s) := rfl
  have hstopped : latestStop s = (s.upTo c).cutRepairs.stopJob := by
    rw [latestStop, hh]
    dsimp only
    rw [hphase, hstop]
    dsimp only
    rw [if_neg (by simp [hj, hout])]
  refine ⟨_, hexec, ?_⟩
  rw [hstopped]
  obtain ⟨hframe, -⟩ := stopsJob_stopJob (s.upTo c).cutRepairs
  exact ⟨by rw [hframe]; rfl, stopJob_of_one (s := (s.upTo c).cutRepairs) hj hone⟩

/-! ### The save and the end of the job (R366, R368) -/

/-- The job-end record and the Harvest event stand, and the Harvest goes on (R368). -/
structure JobEnded (u t : State) : Prop where
  raised : (t.num 0x102001).testBit 4 = true
  record : ∃ r, t.records.ledger.getLast? = some r ∧ r.kind = 5 ∧ Memory.readBytes t.host.window (nextRecordAt u) 256 = ledgerBytes r
  harvest : t.harvest = u.harvest.map fun r => { r with phase := if r.holdCycles = 0 then .scrubbing else .holding }
  host : t.host = { u.host with window := t.host.window }
  outbox : u.outbox ⊆ t.outbox

theorem kind_of_sameRecord {r x : LedgerRecord} (h : sameRecord r x) : x.kind = r.kind := by
  rw [sameRecord] at h
  rw [h]

theorem harvestSaid_records (s : State) : (harvestSaid s).records = s.records ∧ (harvestSaid s).host = s.host := by
  rw [harvestSaid_frame]
  exact ⟨rfl, rfl⟩

/-- The end of a job whose record of kind 5 stands at the ring's next place. -/
theorem jobEnded_harvestSaid {s u : State} {r : LedgerRecord} (hu : Canonical u) (hrecord : Appended s u r) (hkind : r.kind = 5)
    (hout : s.outbox ⊆ (harvestSaid u).outbox) : JobEnded s (harvestSaid u) := by
  obtain ⟨x, hlast, hsame, -, hread⟩ := hrecord.last
  obtain ⟨hrecords, hhost⟩ := harvestSaid_records u
  refine ⟨State.raise_sets hu .harvest, ⟨x, ?_, ?_, ?_⟩, ?_, ?_, hout⟩
  · rw [hrecords, hlast]
  · rw [kind_of_sameRecord hsame, hkind]
  · rw [hhost, hread]
  · have hharvest : u.harvest = s.harvest := by rw [hrecord.frame]
    rw [harvestSaid_harvest, hharvest]
  · rw [hhost]
    exact hrecord.host

theorem jobEnded {u : State} (hu : Canonical u) : JobEnded u u.jobEnd := by
  have hout := (KeepsAnswers.refl u).jobEnd.outbox
  have hrecord := appended hu (u.ledgerBase 5 (u.num 0x205001))
  have hcan := (Keeps.refl u).appendLedger (r := u.ledgerBase 5 (u.num 0x205001)) |>.canonical hu
  rw [jobEnd_eq] at hout ⊢
  exact jobEnded_harvestSaid hcan hrecord rfl hout

/-- The first bytes of a save stream's header (R366). -/
def saveHead (complete : Bool) : List Byte := [0x53, 0x41, 0x56, 0x45, 1, 0, if complete then 1 else 0, 0]

theorem append_three {a b c d head : List Byte} (h : a ++ (b ++ c) = head) : a ++ (b ++ (c ++ d)) = head ++ d := by
  rw [← h, List.append_assoc, List.append_assoc]

theorem saveHeader_head (s : State) (bytes tiles : Nat) (complete : Bool) :
    ∃ bs, s.saveHeader bytes tiles complete = saveHead complete ++ bs := by
  have hhead : leBytes 4 0x45564153 ++ (leBytes 2 1 ++ leBytes 2 (if complete then 1 else 0)) = saveHead complete := by
    cases complete <;> rfl
  rw [State.saveHeader]
  simp only [List.append_assoc]
  exact ⟨_, append_three hhead⟩

/-- The tiles of a save stream (R366). -/
def savedTiles (s : State) (complete : Bool) : List Tile := if complete then s.saveTiles ++ s.saveSeasons else []

/-- The header of a save stream. -/
def savedHeader (s : State) (complete : Bool) : List Byte :=
  s.saveHeader ((savedTiles s complete).flatMap hbmBytes).length (savedTiles s complete).length complete

/-- The tier window with a save stream in it. -/
def savedTier (s : State) (complete : Bool) : List Host.Cell :=
  Memory.writeBytes (Memory.writeBytes s.host.tier (s.num 0x207003 + 128) ((savedTiles s complete).flatMap hbmBytes))
    (s.num 0x207003) (savedHeader s complete)

theorem writeSave_tier_eq (s : State) (complete : Bool) :
    s.writeSave 1 complete = { s with host := { s.host with tier := savedTier s complete } } := by
  rw [State.writeSave]
  exact if_pos rfl

theorem writeSave_tier {s : State} (hs : Canonical s) (complete : Bool) :
    Memory.readBytes (s.writeSave 1 complete).host.tier (s.num 0x207003) 8 = saveHead complete ∧
      s.writeSave 1 complete = { s with host := { s.host with tier := (s.writeSave 1 complete).host.tier } } := by
  obtain ⟨bs, hhead⟩ := saveHeader_head s ((savedTiles s complete).flatMap hbmBytes).length (savedTiles s complete).length complete
  rw [writeSave_tier_eq, savedTier, savedHeader, hhead]
  exact ⟨readBytes_writeBytes_part (Memory.wf_writeBytes _ _ hs.2.2.2.1) _ [] (saveHead complete) bs, rfl⟩

theorem writeSave_port {s : State} {save : Nat} (hsave : save ≠ 1) (complete : Bool) :
    (∃ bs, OutMsg.saveFrame (s.num 0x207004) (s.portAt (s.num 0x207004)).neighbourRank 0 (saveHead complete ++ bs) ∈
        (s.writeSave save complete).outbox) ∧
      s.writeSave save complete = { s with outbox := (s.writeSave save complete).outbox } := by
  obtain ⟨bs, hhead⟩ := saveHeader_head s ((savedTiles s complete).flatMap hbmBytes).length (savedTiles s complete).length complete
  have hsent : ∃ ms, s.writeSave save complete = s.sendAll (ms ++ [.saveFrame (s.num 0x207004)
      (s.portAt (s.num 0x207004)).neighbourRank 0 (savedHeader s complete)]) := by
    rw [State.writeSave]
    exact ⟨_, if_neg hsave⟩
  obtain ⟨ms, hsent⟩ := hsent
  rw [hsent]
  refine ⟨⟨bs, ?_⟩, rfl⟩
  rw [← hhead]
  exact List.mem_append_right _ (List.mem_append_right _ (List.mem_singleton.mpr rfl))

/-- What the save and the end of the job leave, by the command that ends the save. -/
theorem jobEnd_after_save {s u : State} (hs : Canonical u) {h : HarvestRun} {incomplete : Bool} (hindex : u.num 0x801002 = s.num 0x801002)
    (hh : u.harvest = some { h with incomplete := incomplete }) :
    (u.jobEnd.num 0x102001).testBit 4 = true ∧
      (∃ r, u.jobEnd.records.ledger.getLast? = some r ∧ r.kind = 5 ∧
        Memory.readBytes u.jobEnd.host.window (nextRecordAt s) 256 = ledgerBytes r) ∧
      (u.jobEnd.harvest.map fun x => (x.phase, x.incomplete)) =
        some (if h.holdCycles = 0 then .scrubbing else .holding, incomplete) := by
  obtain ⟨hraised, hrecord, hharvest, -, -⟩ := jobEnded hs
  rw [nextRecordAt, hindex, ← nextRecordAt] at hrecord
  refine ⟨hraised, hrecord, ?_⟩
  rw [hharvest, hh]
  rfl

/-- What ends with the job's end: the Harvest event is raised, the job-end record stands, and the Harvest holds or scrubs (R368). -/
def Ended (s : State) (h : HarvestRun) (incomplete : Bool) (t : State) : Prop :=
  (t.num 0x102001).testBit 4 = true ∧
    (∃ r, t.records.ledger.getLast? = some r ∧ r.kind = 5 ∧ Memory.readBytes t.host.window (nextRecordAt s) 256 = ledgerBytes r) ∧
    (t.harvest.map fun x => (x.phase, x.incomplete)) = some (if h.holdCycles = 0 then .scrubbing else .holding, incomplete)

/-- The end of the job after a stream that has touched the tier window and what has left the device. -/
theorem ended_after {s u : State} {h : HarvestRun} {incomplete : Bool} (hu : Canonical u)
    (hframe : u = { s with cycle := u.cycle, harvest := some { h with incomplete := incomplete }, host := u.host, outbox := u.outbox }) :
    Ended s h incomplete u.jobEnd :=
  jobEnd_after_save hu (num_of_nums (by rw [hframe]) _) (by rw [hframe])

section
variable {s v u t : State} (hsaved : t.host = { u.host with window := t.host.window })
include hsaved

theorem tier_after : t.host.tier = u.host.tier := by rw [hsaved]

theorem host_after_tier (hframe : u = { v with host := { v.host with tier := u.host.tier } }) (hhost : v.host = s.host) :
    t.host = { s.host with tier := t.host.tier, window := t.host.window } := by
  rw [tier_after hsaved, hsaved, hframe, hhost]

theorem host_after_port (hframe : u = { v with outbox := u.outbox }) (hhost : v.host = s.host) :
    t.host = { s.host with window := t.host.window } := by
  rw [hsaved, hframe, hhost]

end

section
variable {s v : State} {h : HarvestRun} {incomplete : Bool} (hs : Canonical s)
  (hv : v = { s with cycle := v.cycle, harvest := some { h with incomplete := incomplete } })
include hs hv

theorem saved_tier (complete : Bool) :
    Memory.readBytes (v.writeSave 1 complete).jobEnd.host.tier (s.num 0x207003) 8 = saveHead complete ∧
      (v.writeSave 1 complete).jobEnd.host = { s.host with tier := (v.writeSave 1 complete).jobEnd.host.tier
                                                           window := (v.writeSave 1 complete).jobEnd.host.window } ∧
      Ended s h incomplete (v.writeSave 1 complete).jobEnd := by
  have hnum : v.num 0x207003 = s.num 0x207003 := num_of_nums (by rw [hv]) _
  have hhost : v.host = s.host := by rw [hv]
  have hcan : Canonical v := by rw [hv]; exact hs
  have hkept := (Keeps.refl v).writeSave (save := 1) (complete := complete) |>.canonical hcan
  obtain ⟨hhead, hframe⟩ := writeSave_tier hcan complete
  have hended := ended_after (s := s) (h := h) (incomplete := incomplete) hkept (by rw [hframe, hv])
  have hsaved := (jobEnded hkept).host
  rw [hnum] at hhead
  rw [← tier_after hsaved] at hhead
  exact ⟨hhead, host_after_tier hsaved hframe hhost, hended⟩

theorem saved_port {save : Nat} (hsave : save ≠ 1) (complete : Bool) :
    (∃ bs, OutMsg.saveFrame (s.num 0x207004) (s.portAt (s.num 0x207004)).neighbourRank 0 (saveHead complete ++ bs) ∈
        (v.writeSave save complete).jobEnd.outbox) ∧
      (v.writeSave save complete).jobEnd.host = { s.host with window := (v.writeSave save complete).jobEnd.host.window } ∧
      Ended s h incomplete (v.writeSave save complete).jobEnd := by
  have hnum : v.num 0x207004 = s.num 0x207004 := num_of_nums (by rw [hv]) _
  have hport : ∀ n, v.portAt n = s.portAt n := fun n => by rw [hv]; rfl
  have hhost : v.host = s.host := by rw [hv]
  have hcan : Canonical v := by rw [hv]; exact hs
  have hkept := (Keeps.refl v).writeSave (save := save) (complete := complete) |>.canonical hcan
  obtain ⟨⟨bs, hhead⟩, hframe⟩ := writeSave_port hsave (s := v) complete
  have hended := ended_after (s := s) (h := h) (incomplete := incomplete) hkept (by rw [hframe, hv])
  obtain ⟨-, -, -, hsaved, hout⟩ := jobEnded hkept
  rw [hnum, hport] at hhead
  exact ⟨⟨bs, hout hhead⟩, host_after_port hsaved hframe hhost, hended⟩

end

theorem saveDone_eq {s : State} {h : HarvestRun} (hh : s.harvest = some h) (hphase : h.phase = .saving) (hrep : s.repairing = false)
    (hway : h.save = 1 ∨ (s.portAt (s.num 0x207004)).up = true) : saveDone s = (s.writeSave h.save true).jobEnd := by
  rw [saveDone, hh]
  exact if_pos (by simpa [hphase, hrep] using hway)

/-- The state at the cut-off of a save (R366). -/
def cutOff (s : State) (h : HarvestRun) : State :=
  { s.upTo (h.deadline - BitVec.ofNat 64 (80000000 + h.holdCycles)) with harvest := some { h with incomplete := true } }

theorem saveCutoff_eq {s : State} {h : HarvestRun} (hh : s.harvest = some h) (hphase : h.phase = .saving)
    (hway : h.save = 1 ∨ (s.portAt (s.num 0x207004)).up = true) : saveCutoff s = ((cutOff s h).writeSave h.save false).jobEnd := by
  rw [saveCutoff, hh]
  dsimp only
  rw [if_pos hphase]
  exact congrArg State.jobEnd (if_pos (by rw [Bool.or_eq_true, decide_eq_true_iff]; exact hway))

theorem saveEnds (h : HarvestRun) (s : State) (hs : Canonical s) (hh : s.harvest = some h) (hphase : h.phase = .saving) :
    ∀ c ∈ [Instr.saveDone, .saveCutoff], (c = .saveDone → s.repairing = false) →
      (h.save = 1 →
        ∃ t, exec c s = .next t ∧ Memory.readBytes t.host.tier (s.num 0x207003) 8 = [0x53, 0x41, 0x56, 0x45, 1, 0, if c = .saveDone then 1 else 0, 0] ∧
          t.host = { s.host with tier := t.host.tier, window := t.host.window } ∧
          Ended s h (if c = .saveDone then h.incomplete else true) t) ∧
      (h.save ≠ 1 → (s.portAt (s.num 0x207004)).up = true →
        ∃ t bs, exec c s = .next t ∧
          OutMsg.saveFrame (s.num 0x207004) (s.portAt (s.num 0x207004)).neighbourRank 0 ([0x53, 0x41, 0x56, 0x45, 1, 0, if c = .saveDone then 1 else 0, 0] ++ bs) ∈ t.outbox ∧
          t.host = { s.host with window := t.host.window } ∧ Ended s h (if c = .saveDone then h.incomplete else true) t) := by
  have hdone : exec .saveDone s = .next (saveDone s) := rfl
  have hcut : exec .saveCutoff s = .next (saveCutoff s) := rfl
  have hself : s = { s with cycle := s.cycle, harvest := some { h with incomplete := h.incomplete } } := by rw [← hh]
  intro c hc hrep
  simp only [List.mem_cons, List.not_mem_nil, or_false] at hc
  rcases hc with rfl | rfl
  · refine ⟨fun hsave => ⟨_, hdone, ?_⟩, fun hsave hup => ?_⟩
    · rw [saveDone_eq hh hphase (hrep rfl) (.inl hsave), hsave]
      simpa [saveHead] using saved_tier hs hself true
    · obtain ⟨⟨bs, hsent⟩, hrest⟩ := saved_port hs hself hsave true
      refine ⟨_, bs, hdone, ?_⟩
      rw [saveDone_eq hh hphase (hrep rfl) (.inr hup)]
      simpa [saveHead] using And.intro hsent hrest
  · refine ⟨fun hsave => ⟨_, hcut, ?_⟩, fun hsave hup => ?_⟩
    · rw [saveCutoff_eq hh hphase (.inl hsave), hsave]
      simpa [saveHead] using saved_tier (v := cutOff s h) hs rfl false
    · obtain ⟨⟨bs, hsent⟩, hrest⟩ := saved_port (v := cutOff s h) hs rfl hsave false
      refine ⟨_, bs, hcut, ?_⟩
      rw [saveCutoff_eq hh hphase (.inr hup)]
      simpa [saveHead] using And.intro hsent hrest

theorem saveDone_held_back {h : HarvestRun} {s : State} (hh : s.harvest = some h)
    (hback : s.repairing = true ∨ h.save ≠ 1 ∧ (s.portAt (s.num 0x207004)).up = false) : saveDone s = s := by
  rw [saveDone, hh]
  refine if_neg ?_
  rcases hback with hrep | ⟨hsave, hdown⟩
  · simp [hrep]
  · simp [hsave, hdown]

theorem saveFrames (port offset : Nat) (bytes : List Byte) (s : State) (hs : Canonical s) :
    (s.ctl.cur = .tilled → (s.portAt port).up = true → offset + bytes.length ≤ s.num 0x207005 →
      ∃ t, exec (.saveFrameReceive port offset bytes) s = .next t ∧ Memory.readBytes t.host.held offset bytes.length = bytes ∧
        (∀ a, (a < offset ∨ offset + bytes.length ≤ a) → Memory.readByte t.host.held a = Memory.readByte s.host.held a) ∧
        t = { s with host := { s.host with held := t.host.held }, outbox := s.outbox ++ [.credit port] }) ∧
    (s.num 0x207005 < offset + bytes.length → exec (.saveFrameReceive port offset bytes) s = .next s) := by
  have hexec : exec (.saveFrameReceive port offset bytes) s = .next (saveFrameReceive port offset bytes s) := rfl
  obtain ⟨-, -, -, -, -, hheld⟩ := hs
  refine ⟨fun hcur hup hroom => ⟨_, hexec, ?_⟩, fun hfull => ?_⟩
  · rw [saveFrameReceive, if_pos (by simp [hcur, hup, hroom])]
    exact ⟨Memory.readBytes_writeBytes_same _ _ hheld, fun a ha => Memory.readByte_writeBytes_other _ _ ha, rfl⟩
  · rw [hexec, saveFrameReceive, if_neg (by simp; omega)]

theorem ledgerHold (h : HarvestRun) (s : State) (hh : s.harvest = some h) (hphase : h.phase = .holding) :
    exec .ledgerHoldExpiry s = .next { s with harvest := some { h with phase := .scrubbing } } := by
  have hexec : exec .ledgerHoldExpiry s = .next (ledgerHoldExpiry s) := rfl
  rw [hexec, ledgerHoldExpiry, hh]
  exact congrArg _ (if_pos hphase)

/-- The state after the scrub, before the device rests in Tilled (R368). -/
def scrubbed (s : State) : State := { s.scrub with harvest := none }

theorem scrubEnds (h : HarvestRun) (s : State) (hh : s.harvest = some h) (hphase : h.phase = .scrubbing) (hcur : s.ctl.cur = .harvest) :
    ∃ t, exec .scrubDone s = .next t ∧ t.ctl.cur = .tilled ∧ t.ctl.tgt = .tilled ∧ t.harvest = none ∧ t.job = none ∧
      t.host.window = [] ∧ t.plots = [] ∧ t.pool = [] ∧ t.hopper = s.hopper ∧ t.host.tier = s.host.tier ∧
      (∀ k, isJobEntry k = true → t.num k = dfltNum k) ∧ ∀ k, isJobEntry k = false → k ≠ eventCause → t.num k = s.num k := by
  have hexec : exec .scrubDone s = .next (scrubDone s) := rfl
  have hdone : scrubDone s = (scrubbed s).moveTo .tilled .tilled := by
    rw [scrubDone, hh]
    exact if_pos hphase
  have hmoved : ∀ u : State, u.ctl.cur = .harvest →
      u.moveTo .tilled .tilled = (u.mapCtl fun c => { c with cur := .tilled, tgt := .tilled }).raise .state := by
    intro u hu
    rw [State.moveTo, if_neg (by simp [hu])]
  have hnum : ∀ k, s.scrub.num k = if isJobEntry k then dfltNum k else s.num k := fun k => get_dropKeys (dfltNum k) isJobEntry s.nums k
  refine ⟨_, hexec, ?_⟩
  rw [hdone, hmoved (scrubbed s) hcur]
  refine ⟨by simp, by simp, ?_, ?_, ?_, ?_, ?_, ?_, ?_, fun k hk => ?_, fun k hk hne => ?_⟩
  · rw [State.raise_frame]; rfl
  · rw [State.raise_frame]; rfl
  · rw [State.raise_frame]; rfl
  · rw [State.raise_frame]; rfl
  · rw [State.raise_frame]; rfl
  · rw [State.raise_frame]; rfl
  · rw [State.raise_frame]; rfl
  · have hne : eventCause ≠ k := fun he => absurd (he ▸ hk) (by decide +kernel)
    rw [State.num_raise_other _ _ hne]
    exact (hnum k).trans (if_pos hk)
  · rw [State.num_raise_other _ _ hne.symm]
    exact (hnum k).trans (if_neg (by simp [hk]))

/-- Settles O44: each clause is the effect of one command; the end of the job is the same record and event after either end of the
save. -/
theorem harvestEnds : Obligations.HarvestEnds := by
  refine ⟨fun h c j it s hs hh hphase hstop hj hserv heval hqueue hpending hbatches hassigned hout =>
      latestStopClaim h c j it s hh hphase hstop hj ⟨heval, hqueue, hpending, hbatches, hassigned⟩ hout,
    fun h s hs hh hphase => ⟨fun hback => ?_, saveEnds h s hs hh hphase⟩, fun port offset bytes s hs => saveFrames port offset bytes s hs,
    fun h s hh => ⟨ledgerHold h s hh, scrubEnds h s hh⟩⟩
  have hexec : exec .saveDone s = .next (saveDone s) := rfl
  rw [hexec, saveDone_held_back hh hback]

end Sys2Proof.Proofs

/-! ## The end of an undo, the restart and HALT (R146, R190, R463) -/

namespace Sys2Proof.Proofs

open Sys2Proof Machine

/-- A plot as the end of an undo of a training step sets it back (R146). -/
def setBack (floor : Nat) (pl : Plot) : Plot := restartPlot (BitVec.ofNat 64 floor) false 0 pl

theorem setBack_fields (floor : Nat) (pl : Plot) :
    (setBack floor pl).pc = pl.entry ∧ (setBack floor pl).loops = [] ∧ (setBack floor pl).arrived = false ∧
      (setBack floor pl).halted = false ∧ (setBack floor pl).crib = pl.crib := ⟨rfl, rfl, rfl, rfl, rfl⟩

/-- The state after an undo of a training step is complete, before its report (R146). -/
def undoDone (j : Job) (s : State) : State :=
  ((State.clearTokens (s.mapPlots fun pl => if pl.stopped then setBack j.undoFloor pl else pl)).bump 0x205003).mapJob fun j =>
    { j with undone := true }

section
variable {j : Job} {s : State}

theorem undoComplete_eq (hq : QuietTraining s j) (hundoing : j.undoing = true) (hundone : j.undone = false)
    (hout : s.plots.any requestsOut = false) (hrepairs : s.recovery.repairs = []) : undoComplete s = (undoDone j s).tryReport := by
  obtain ⟨hj, hserv, heval, -⟩ := hq
  have hentry : s.undoEntry = 0 := by simp [State.undoEntry, hj, hserv, heval]
  rw [undoComplete, hj]
  dsimp only
  rw [if_neg (by simp [hundoing, hundone, hout]), hentry, hserv]
  have hlost : ((undoDone j s).recovery.repairs.any fun x => x.asked == (undoDone j s).rank) = false := by
    rw [undoDone, State.mapJob_recovery, State.bump_recovery]
    change s.recovery.repairs.any _ = false
    rw [hrepairs]
    rfl
  exact congrArg State.tryReport (if_neg (by
    change ¬ ((undoDone j s).recovery.repairs.any fun x => x.asked == (undoDone j s).rank) = true
    rw [hlost]
    decide))

theorem undoDone_frame (j : Job) (s : State) :
    undoDone j s = { s with nums := (undoDone j s).nums, plots := (undoDone j s).plots, tokens := [], aheadTokens := []
                            job := (undoDone j s).job
                            tiers := { s.tiers with fired := [], waiting := [], firedAhead := [] } } := rfl

theorem num_undoDone {k : Nat} (hk : k ≠ 0x205003) : (undoDone j s).num k = s.num k := State.num_bump_other _ _ hk.symm

theorem num_undoDone_counted (hs : Canonical s) : (undoDone j s).num 0x205003 = min (s.num 0x205003 + 1) (2 ^ 32 - 1) := by
  have hcan : Canonical (State.clearTokens (s.mapPlots fun pl => if pl.stopped then setBack j.undoFloor pl else pl)) := hs
  rw [undoDone]
  exact num_bump_counter hcan (by decide +kernel)

theorem undoReportable_undoDone (j : Job) (s : State) : (undoDone j s).undoReportable = s.undoReportable := by
  have hformed : (undoDone j s).formed = s.formed := by rw [State.formed, num_undoDone (by decide)]; rfl
  have hlead : (undoDone j s).isLead = s.isLead := by
    rw [State.isLead, State.isLead, hformed, num_undoDone (by decide), State.rank, num_undoDone (by decide)]
    rfl
  rw [State.undoReportable, State.undoReportable, num_undoDone (by decide), hformed, hlead]
  rfl

/-- The undo report of a device that is alone fixes the restart cycle (R190). -/
theorem arrive_undoArrival {u : State} (hjob : u.job = some j) (hundoing : j.undoing = true) (hheld : u.held = false)
    (hformed : u.formed = false) (hlost : u.fabric.portsLost = false) (hnone : u.fabric.collects = []) :
    u.arrive (u.undoArrival j.undoFloor) = (u.mapFabric fun f => { f with collects := [] }).mapJob fun j =>
      { j with restartAt := some (u.cycle + BitVec.ofNat 64 u.margin) } := by
  have hcollect : u.collectFor (u.undoArrival j.undoFloor) =
      { barrier := undoBarrier, stepLo := BitVec.ofNat 32 j.undoFloor, attempt := BitVec.ofNat 4 (u.num 0x205003), first := u.cycle } := by
    rw [State.collectFor, hnone]
    rfl
  have hcount : (addArrival (u.collectFor (u.undoArrival j.undoFloor)) (u.undoArrival j.undoFloor)).count = 1 := by
    rw [hcollect]
    rfl
  have hports : (addArrival (u.collectFor (u.undoArrival j.undoFloor)) (u.undoArrival j.undoFloor)).portsLost = false := by
    rw [hcollect]
    exact hlost
  have hdevices : u.devices = 1 := by rw [State.devices, if_neg (by simp [hformed])]
  have hdropped : (u.mapFabric fun f => { f with collects := f.collects.filter fun x => x.barrier != undoBarrier }) =
      u.mapFabric fun f => { f with collects := [] } := by
    simp only [State.mapFabric, hnone, List.filter_nil]
  have hundo : (u.undoArrival j.undoFloor).barrier = undoBarrier := by rw [State.undoArrival]
  rw [State.arrive, if_pos (by simp [State.isLead, hformed]), State.leadTake, if_pos hundo, State.takeUndoReport, hjob]
  dsimp only
  rw [if_neg (by simp [hundoing, hheld, State.undoArrival]), if_neg (by simp [hports]), if_pos (Nat.le_of_eq (by rw [hcount, hdevices])), hdropped]
  exact if_neg (by
    change ¬ u.formed = true
    simp [hformed])

/-- The state after an undo is complete and reported, on a device alone. -/
def undoReported (j : Job) (s : State) : State :=
  (((undoDone j s).mapJob fun j => { j with undoReported := true }).mapFabric fun f => { f with collects := [] }).mapJob fun j =>
    { j with restartAt := some (s.cycle + BitVec.ofNat 64 s.margin) }

theorem num_undoReported (k : Nat) : (undoReported j s).num k = (undoDone j s).num k := rfl

theorem undoReported_frame (j : Job) (s : State) :
    undoReported j s = { s with nums := (undoReported j s).nums, plots := (undoReported j s).plots, tokens := [], aheadTokens := []
                                job := (undoReported j s).job, tiers := (undoReported j s).tiers
                                fabric := (undoReported j s).fabric } := by
  rw [undoReported, undoDone_frame]
  rfl

theorem plots_undoReported (j : Job) (s : State) :
    (undoReported j s).plots = s.plots.map fun pl => if pl.stopped then setBack j.undoFloor pl else pl := rfl

theorem tryReport_undoDone (hq : QuietTraining s j) (hundoing : j.undoing = true)
    (hreported : j.undoReported = false) (hformed : s.formed = false) (hreport : s.undoReportable = true)
    (hlost : s.fabric.portsLost = false) (hnone : s.fabric.collects = []) :
    (undoDone j s).tryReport = undoReported j s := by
  obtain ⟨hj, -, -, -, -, -, hrun, -, -, -, hheld, -⟩ := hq
  have hjob : (undoDone j s).job = some { j with undone := true } := by
    rw [undoDone, State.mapJob]
    change (s.job.map _) = _
    rw [hj]
    rfl
  have hheld' : (undoDone j s).held = false := by rw [← hheld, State.held, num_undoDone (by decide), ← State.held]
  have hformed' : (undoDone j s).formed = false := by rw [← hformed, State.formed, num_undoDone (by decide), ← State.formed]
  have hmargin : (undoDone j s).margin = s.margin := by
    rw [State.margin, State.margin, hformed, hformed', num_undoDone (by decide), num_undoDone (by decide)]
  have harrive := arrive_undoArrival (u := (undoDone j s).mapJob fun j => { j with undoReported := true })
    (j := { j with undone := true, undoReported := true }) (by rw [State.mapJob, hjob]; rfl) hundoing hheld' hformed' hlost hnone
  rw [State.tryReport, hjob]
  dsimp only
  rw [if_neg (by simp [hundoing, hreported]), if_neg (by simp [hrun]), if_neg (by simp [hheld']),
    if_pos (by rw [undoReportable_undoDone, hreport])]
  refine harrive.trans ?_
  rw [undoReported, ← hmargin]
  rfl

theorem undoEnds (hs : Canonical s) (hq : QuietTraining s j) (hundoing : j.undoing = true) (hundone : j.undone = false)
    (hreported : j.undoReported = false) (hout : s.plots.any requestsOut = false) (hformed : s.formed = false)
    (hrepairs : s.recovery.repairs = []) (hreport : s.undoReportable = true) (hlost : s.fabric.portsLost = false)
    (hnone : s.fabric.collects = []) :
    ∃ t, exec .undoComplete s = .next t ∧ t.num 0x205003 = min (s.num 0x205003 + 1) (2 ^ 32 - 1) ∧ t.tokens = [] ∧ t.aheadTokens = [] ∧
      (t.job.bind (·.restartAt)) = some (s.cycle + BitVec.ofNat 64 s.margin) ∧
      (∀ p pl, s.plotAt p = some pl → pl.stopped = true →
        ∃ q, t.plotAt p = some q ∧ q.pc = pl.entry ∧ q.loops = [] ∧ q.arrived = false ∧ q.halted = false ∧ q.crib = pl.crib) ∧
      (∀ k, k ≠ 0x205003 → t.num k = s.num k) ∧
      t = { s with nums := t.nums, plots := t.plots, tokens := [], aheadTokens := [], job := t.job, tiers := t.tiers, fabric := t.fabric } := by
  have hexec : exec .undoComplete s = .next (undoComplete s) := rfl
  refine ⟨_, hexec, ?_⟩
  rw [undoComplete_eq hq hundoing hundone hout hrepairs, tryReport_undoDone hq hundoing hreported hformed hreport hlost hnone]
  refine ⟨?_, rfl, rfl, ?_, fun p pl hp hstopped => ⟨setBack j.undoFloor pl, ?_, setBack_fields _ _⟩, fun k hk => ?_,
    undoReported_frame j s⟩
  · rw [num_undoReported, num_undoDone_counted hs]
  · simp only [undoReported, undoDone, State.mapJob, State.mapFabric, State.bump_job]
    change ((((s.job.map _).map _).map _).bind _) = _
    rw [hq.1]
    rfl
  · have hget : s.plots[p]? = some pl := hp
    rw [State.plotAt, plots_undoReported, List.getElem?_map, hget, Option.map_some, if_pos hstopped]
  · rw [num_undoReported, num_undoDone hk]

end

/-! ### The restart -/

theorem noteAnchor_frame (s : State) (b : W32) (t : Cycle) :
    s.noteAnchor b t = { s with power := (s.noteAnchor b t).power, fabric := (s.noteAnchor b t).fabric } := by
  rw [State.noteAnchor]
  rw [notePhase_frame]
  rfl

theorem beginEpoch_frame (s : State) : s.beginEpoch = { s with fabric := s.beginEpoch.fabric } := rfl

/-- A plot with the intake tile of its work, where it has one. -/
def withIntakeTile (s : State) (region : Nat) (pl : Plot) : Plot :=
  match s.intakeFor pl with
  | some t => placeIntake region t pl
  | none => pl

theorem withIntakeTile_eq (s : State) (region : Nat) (pl : Plot) :
    withIntakeTile s region pl = { pl with crib := (withIntakeTile s region pl).crib } := by
  unfold withIntakeTile
  split <;> rfl

theorem writeIntake_of_job {s : State} {j : Job} (hj : s.job = some j) :
    s.writeIntake = { s with plots := s.plots.map (withIntakeTile s j.binary.intakeRegion) } := by
  rw [State.writeIntake, hj]
  rfl

/-- A state whose table lists no posted record takes none. -/
theorem sweep_of_none_posted {s : State} (h : ∀ k, (SMap.get ({} : Slot) s.hopper k).state ≠ 1) : s.sweep = s :=
  sweep_of_not_takeable (not_takeable_of_state (h _) _) true

/-- The state at the restart cycle of a training job, the plots let go (R190). -/
def letGo (s : State) (r : Cycle) : State :=
  ((s.upTo r).mapJob fun j => { j with undoing := false, restartAt := none }).mapPlots fun pl => { pl with stopped := false }

theorem restart_eq {s : State} {j : Job} {r : Cycle} (hq : QuietTraining s j) (hundoing : j.undoing = true)
    (hr : j.restartAt = some r) : restart s = (letGo s r).writeIntake.beginEpoch.noteAnchor undoBarrier r := by
  obtain ⟨hj, hserv, heval, -, -, -, hrun, -, -, -, hheld, hposted⟩ := hq
  have hjob : (letGo s r).job = some { j with undoing := false, restartAt := none } := by
    rw [letGo, State.mapPlots, State.mapJob]
    change s.job.map _ = _
    rw [hj]
    rfl
  have hserving : ((letGo s r).writeIntake.beginEpoch.noteAnchor undoBarrier r).serving = false := by
    rw [State.serving, noteAnchor_frame, beginEpoch_frame, writeIntake_of_job hjob]
    change (letGo s r).job.elim false _ = _
    rw [hjob]
    exact hserv
  have hsweep : ((letGo s r).writeIntake.beginEpoch.noteAnchor undoBarrier r).sweep =
      (letGo s r).writeIntake.beginEpoch.noteAnchor undoBarrier r := by
    refine sweep_of_none_posted ?_
    rw [noteAnchor_frame, beginEpoch_frame, writeIntake_of_job hjob]
    exact hposted
  rw [restart, hj]
  dsimp only
  rw [hr]
  dsimp only
  rw [if_neg (by simp [hundoing, hrun, hheld])]
  change (if ((letGo s r).writeIntake.beginEpoch.noteAnchor undoBarrier r).serving then
    (letGo s r).writeIntake.beginEpoch.noteAnchor undoBarrier r
    else ((letGo s r).writeIntake.beginEpoch.noteAnchor undoBarrier r).sweep) = _
  rw [hsweep, ite_self]

theorem restartRuns {s : State} {j : Job} (hq : QuietTraining s j) (hundoing : j.undoing = true) (r : Cycle) (hr : j.restartAt = some r) :
    ∃ t, exec .restart s = .next t ∧ t.cycle = later s.cycle r ∧ (t.job.map fun x => (x.undoing, x.restartAt)) = some (false, none) ∧
      (∀ pl ∈ t.plots, pl.stopped = false) ∧ (t.plots.map fun pl => (pl.pc, pl.entry)) = s.plots.map fun pl => (pl.pc, pl.entry) := by
  have hexec : exec .restart s = .next (restart s) := rfl
  have hjob : (letGo s r).job = some { j with undoing := false, restartAt := none } := by
    rw [letGo, State.mapPlots, State.mapJob]
    change s.job.map _ = _
    rw [hq.1]
    rfl
  have hplots : (restart s).plots = (s.plots.map fun pl => { pl with stopped := false }).map
      (withIntakeTile (letGo s r) j.binary.intakeRegion) := by
    rw [restart_eq hq hundoing hr, noteAnchor_frame, beginEpoch_frame, writeIntake_of_job hjob]
    rfl
  refine ⟨_, hexec, ?_, ?_, fun pl hpl => ?_, ?_⟩
  · rw [restart_eq hq hundoing hr, noteAnchor_frame, beginEpoch_frame, writeIntake_of_job hjob]
    rfl
  · rw [restart_eq hq hundoing hr, noteAnchor_frame, beginEpoch_frame, writeIntake_of_job hjob]
    change ((letGo s r).job.map _) = _
    rw [hjob]
    rfl
  · rw [hplots] at hpl
    obtain ⟨x, hx, rfl⟩ := List.mem_map.mp hpl
    obtain ⟨y, -, rfl⟩ := List.mem_map.mp hx
    rw [withIntakeTile_eq]
  · rw [hplots, List.map_map, List.map_map]
    refine List.map_congr_left fun pl _ => ?_
    simp only [Function.comp]
    rw [withIntakeTile_eq]

theorem hbmTimeoutFaults {s : State} {j : Job} (hs : Canonical s) (hj : s.job = some j) (hundoing : j.undoing = true)
    (hwait : (s.plots.any fun pl => pl.stopped && pl.tines.any fun t => t.2.stale != 0 || t.2.xfer.any fun x =>
      x.done < x.next && (tineDesc x.desc).space == 1) = true) :
    ∃ t, exec .hbmTimeout s = .next t ∧ t.ctl.cur = .faulted ∧ t.ctl.tgt = .faulted ∧
      (t.ctl.faultLog.head?.map fun r => (r.cause, r.state)) = some (5, s.ctl.cur) ∧ (t.num 0x102001).testBit 5 = true := by
  have hexec : exec .hbmTimeout s = .next (hbmTimeout s) := rfl
  have hlog := enterFaulted_faultLog (s := s) (cause := 5) (domain := 0) (sig := 0)
  refine ⟨_, hexec, ?_⟩
  rw [hbmTimeout, hj]
  rw [if_pos (by rw [hwait]; simp [hundoing])]
  refine ⟨enterFaulted_state.1, enterFaulted_state.2, ?_, enterFaulted_raises hs⟩
  cases hhead : (s.enterFaulted 5 0).ctl.faultLog.head? with
  | none =>
    rw [hhead] at hlog
    cases hlog
  | some x =>
    rw [hhead] at hlog
    simp only [Option.map_some, Option.some.injEq, Prod.mk.injEq] at hlog ⊢
    exact ⟨hlog.1, hlog.2.2⟩

theorem undoAndRestart : Claims.UndoAndRestart := by
  intro j s hs hq hundoing
  exact ⟨fun hundone hreported hout hformed hrepairs hreport hlost hnone =>
      undoEnds hs hq hundoing hundone hreported hout hformed hrepairs hreport hlost hnone,
    fun r hr => restartRuns hq hundoing r hr, fun hwait _ => hbmTimeoutFaults hs hq.1 hundoing hwait⟩

/-! ### HALT (R123, R463) -/

/-- What the end of drills leaves in a training job: the state of the device, its Harvest and its place in the team (R346). -/
def KeepsPlace (s t : State) : Prop :=
  t.ctl.cur = s.ctl.cur ∧ t.ctl.tgt = s.ctl.tgt ∧ t.harvest = s.harvest ∧ t.job = s.job ∧ t.isLead = s.isLead

theorem isLead_of_nums {s t : State} (h : ∀ k, k ∈ [0x400003, 0x400006, 0x400007] → t.num k = s.num k) : t.isLead = s.isLead := by
  rw [State.isLead, State.isLead, State.formed, State.formed, State.rank, State.rank, h 0x400003 (by decide), h 0x400006 (by decide),
    h 0x400007 (by decide)]

theorem KeepsPlace.trans {s t u : State} (h : KeepsPlace s t) (h' : KeepsPlace t u) : KeepsPlace s u := by
  obtain ⟨hcur, htgt, hharvest, hjob, hlead⟩ := h
  obtain ⟨hcur', htgt', hharvest', hjob', hlead'⟩ := h'
  exact ⟨hcur'.trans hcur, htgt'.trans htgt, hharvest'.trans hharvest, hjob'.trans hjob, hlead'.trans hlead⟩

theorem keepsPlace_complete (s : State) (ticket : W64) (c : Completion) : KeepsPlace s (s.complete ticket c) := by
  refine ⟨complete_cur s ticket c, ?_, ?_, ?_, isLead_of_nums fun k hk => num_complete s ticket c ?_⟩
  · rw [State.complete, raise_ctl_tgt]
  · rw [complete_frame]
  · rw [complete_frame]
  · simp only [List.mem_cons, List.not_mem_nil, or_false] at hk
    rcases hk with rfl | rfl | rfl <;> decide

theorem foldl_invalidate_frame (l : List Nat) (s : State) :
    l.foldl State.invalidate s = { s with host := (l.foldl State.invalidate s).host } := by
  induction l generalizing s with
  | nil => rfl
  | cons a l ih =>
    rw [List.foldl_cons, ih]
    rfl

/-- A state without a drill. -/
def withoutDrill (s : State) (d : Drill) : State :=
  { s with tiers := { s.tiers with drills := s.tiers.drills.filter fun x => !(x.copy == d.copy && x.queued == d.queued) } }

theorem keepsPlace_endDrill {s : State} (hserving : s.serving = false) (d : Drill) (status : Nat) : KeepsPlace s (s.endDrill d status) := by
  have hbegun : ∀ u : State, KeepsPlace s u → KeepsPlace s (if d.member then u else u.complete d.ticket { status := status, tally := d.tally }) := by
    intro u hu
    split
    · exact hu
    · exact hu.trans (keepsPlace_complete _ _ _)
  have hdropped : KeepsPlace s (withoutDrill s d) := ⟨rfl, rfl, rfl, rfl, rfl⟩
  have hinvalid : ∀ u : State, KeepsPlace s u → KeepsPlace s (d.written.foldl State.invalidate (u.bump 0x206105)) := by
    intro u hu
    refine hu.trans ?_
    rw [foldl_invalidate_frame]
    refine ⟨rfl, rfl, rfl, rfl, isLead_of_nums fun k hk => State.num_bump_other _ _ ?_⟩
    simp only [List.mem_cons, List.not_mem_nil, or_false] at hk
    rcases hk with rfl | rfl | rfl <;> decide
  have hended : KeepsPlace s (if status = 0 then withoutDrill s d else d.written.foldl State.invalidate ((withoutDrill s d).bump 0x206105)) := by
    split
    · exact hdropped
    · exact hinvalid _ hdropped
  have hquiet : ∀ u : State, KeepsPlace s u → (if u.serving && !d.queued then u.setNum (copyKey d.copy) (if status = 0 then 2 else 0) else u) = u := by
    intro u hu
    have hno : u.serving = false := by
      rw [State.serving, hu.2.2.2.1]
      exact hserving
    rw [if_neg (by simp [hno])]
  refine hbegun _ ?_
  exact (hquiet _ hended).symm ▸ hended

theorem keepsPlace_abandonDrills {s : State} (hserving : s.serving = false) : KeepsPlace s s.abandonDrills := by
  rw [State.abandonDrills]
  have hfold : ∀ (l : List Drill) (u : State), KeepsPlace s u → KeepsPlace s (l.foldl (fun s d => s.endDrill d 0x00630009) u) := by
    intro l
    induction l with
    | nil => exact fun u hu => hu
    | cons d l ih =>
      intro u hu
      refine ih _ (hu.trans (keepsPlace_endDrill ?_ d _))
      rw [State.serving, hu.2.2.2.1]
      exact hserving
  exact hfold _ s ⟨rfl, rfl, rfl, rfl, rfl⟩

theorem tryStop_keeps (s : State) :
    s.tryStop.ctl.cur = s.ctl.cur ∧ s.tryStop.ctl.tgt = s.ctl.tgt ∧ s.tryStop.harvest.isSome = s.harvest.isSome := by
  obtain ⟨-, hcur, htgt, hharvest⟩ := stopsJob_stopJob s
  rw [State.tryStop]
  split
  · split
    · exact ⟨hcur, htgt, hharvest⟩
    · exact ⟨rfl, rfl, rfl⟩
  · exact ⟨rfl, rfl, rfl⟩

/-- The lead device's fixing of the latest stop keeps the state of the device, and its Harvest runs on. -/
theorem fixStop_keeps {s : State} (h : s.harvest.isSome = true) :
    s.fixStop.ctl.cur = s.ctl.cur ∧ s.fixStop.ctl.tgt = s.ctl.tgt ∧ s.fixStop.harvest.isSome = true := by
  obtain ⟨r, hr⟩ := Option.isSome_iff_exists.mp h
  rw [State.fixStop, hr]
  dsimp only
  split
  · obtain ⟨hcur, htgt, hharvest⟩ := tryStop_keeps _
    refine ⟨hcur.trans ?_, htgt.trans ?_, hharvest.trans ?_⟩
    all_goals
      repeat' split
    all_goals rfl
  · exact ⟨rfl, rfl, h⟩

/-- A device that enters a Harvest, with its drills ended. -/
theorem enterHarvest_place {s : State} (hserving : s.serving = false) (hnone : s.harvest = none)
    (deadline : Cycle) (save hold : Nat) :
    (s.enterHarvest deadline save hold).ctl.cur = .harvest ∧ (s.enterHarvest deadline save hold).ctl.tgt = .tilled ∧
      (s.enterHarvest deadline save hold).harvest.isSome = true ∧ (s.enterHarvest deadline save hold).isLead = s.isLead := by
  have hentered : s.enterHarvest deadline save hold = ({ s with harvest := some { deadline := deadline, save := save, holdCycles := cyclesOfMs hold } }.moveTo
      .harvest .tilled).abandonDrills := by
    rw [State.enterHarvest, hnone]
  rw [hentered]
  generalize hu : State.moveTo _ _ _ = u
  have hmoved : u.ctl.cur = .harvest ∧ u.ctl.tgt = .tilled ∧ u.harvest.isSome = true ∧ u.job = s.job ∧ u.isLead = s.isLead := by
    rw [← hu]
    refine ⟨by simp, by simp, by simp, by simp, isLead_of_nums fun k hk => ?_⟩
    rw [State.moveTo]
    split
    · rfl
    · refine State.num_raise_other _ _ ?_
      simp only [List.mem_cons, List.not_mem_nil, or_false] at hk
      rcases hk with rfl | rfl | rfl <;> decide
  obtain ⟨hucur, hutgt, huharvest, hujob, hulead⟩ := hmoved
  obtain ⟨hkcur, hktgt, hkharvest, -, hklead⟩ := keepsPlace_abandonDrills (s := u) (by rw [State.serving, hujob]; exact hserving)
  exact ⟨hkcur.trans hucur, hktgt.trans hutgt, by rw [hkharvest, huharvest], hklead.trans hulead⟩

/-- The Harvest of a HALT in a Growing device that leads (R463). -/
theorem takeHarvest_enters {s : State} (hserving : s.serving = false) (hcur : s.ctl.cur = .growing) (hnone : s.harvest = none)
    (hlead : s.isLead = true) (v : Nat) :
    (s.takeHarvest v).ctl.cur = .harvest ∧ (s.takeHarvest v).ctl.tgt = .tilled ∧ (s.takeHarvest v).harvest.isSome = true := by
  rw [State.takeHarvest]
  rw [if_neg (by simp [hcur]), State.askHarvest, if_neg (by simp [State.harvestable, hcur])]
  obtain ⟨hecur, hetgt, heharvest, helead⟩ := enterHarvest_place hserving hnone
    (s.cycle + BitVec.ofNat 64 (cyclesOfMs (min (max (bitsOf 63 32 v) 100) 600000))) (bitsOf 31 24 v) (bitsOf 15 0 v)
  generalize s.enterHarvest _ _ _ = u at *
  rw [if_pos (by rw [helead, hlead])]
  obtain ⟨hfcur, hftgt, hfharvest⟩ := fixStop_keeps heharvest
  exact ⟨hfcur.trans hecur, hftgt.trans hetgt, hfharvest⟩

theorem haltHarvest_enters {s : State} (hserving : s.serving = false) (hcur : s.ctl.cur = .growing) (hnone : s.harvest = none)
    (hlead : s.isLead = true) :
    s.haltHarvest.ctl.cur = .harvest ∧ s.haltHarvest.ctl.tgt = .tilled ∧ s.haltHarvest.harvest.isSome = true := by
  have hserving' : (s.mapJob fun j => { j with haltRecord := none }).serving = false := by
    rw [← hserving, State.serving, State.serving, State.mapJob]
    cases s.job <;> rfl
  have hlead' : (s.mapJob fun j => { j with haltRecord := none }).isLead = s.isLead := isLead_of_nums fun _ _ => rfl
  have hcur' : (s.mapJob fun j => { j with haltRecord := none }).ctl.cur = .growing := hcur
  have hnone' : (s.mapJob fun j => { j with haltRecord := none }).harvest = none := hnone
  rw [State.haltHarvest]
  generalize (s.mapJob fun j => { j with haltRecord := none }) = u at *
  exact takeHarvest_enters hserving' hcur' hnone' (hlead'.trans hlead) _

theorem isLead_mapPlot (s : State) (p : Nat) (f : Plot → Plot) : (s.mapPlot p f).isLead = s.isLead := isLead_of_nums fun _ _ => rfl

theorem haltOfAPlot : Claims.HaltOfAPlot := by
  intro p pl j s hi hj hserv heval
  have hexec : exec (.halt p) s = .next (halt p s) := rfl
  have hserving : s.serving = false := by rw [State.serving, hj]; exact hserv
  have hevaluating : s.evaluating = none := by rw [State.evaluating, hj]; exact heval
  have houtside : (s.mapPlot p fun q => { q with halted := true }).haltNumber pl = none →
      halt p s = (s.mapPlot p fun q => { q with halted := true }).haltHarvest := by
    intro h
    rw [halt, hi]
    dsimp only
    rw [h]
  have hinside : ∀ n, (s.mapPlot p fun q => { q with halted := true }).haltNumber pl = some n →
      halt p s = (s.mapPlot p fun q => { q with halted := true }).mapJob fun j => { j with haltRecord := some (j.haltRecord.elim n (min n)) } := by
    intro n h
    rw [halt, hi]
    dsimp only
    rw [h]
  have hnumber : pl.arrived = false → (s.mapPlot p fun q => { q with halted := true }).haltNumber pl =
      if pl.entered then some (s.num 0x205001 + 1) else none := by
    intro harr
    rw [State.haltNumber]
    change (if s.serving then _ else if s.evaluating.isSome then _ else _) = _
    rw [if_neg (by simp [hserving]), if_neg (by simp [hevaluating]), if_neg (by simp [harr])]
    rfl
  refine ⟨fun harr hentered hrecord => ?_, fun harr hentered hcur hnone hlead => ⟨_, hexec, ?_⟩⟩
  · rw [hexec, hinside _ (by rw [hnumber harr, if_pos hentered]), State.mapJob, State.mapPlot_job, hj, Option.map_some, hrecord]
    rfl
  · rw [houtside (by rw [hnumber harr, if_neg (by simp [hentered])])]
    exact haltHarvest_enters hserving hcur hnone ((isLead_mapPlot s p _).trans hlead)

/-- Settles O37: by the report of an undo that is complete, by the restart, and by how a Harvest begins at a HALT. -/
theorem undoAndHalt : Obligations.UndoAndHalt := ⟨undoAndRestart, haltOfAPlot⟩

/-! ## The succession (R254 to R256, R260) -/

/-- The port towards the parent that the tree made anew notes, if it notes one (R243). -/
def notedParent (s : State) : Option Nat :=
  if s.leads then some 0xFF else s.bestParent.orElse fun _ => if s.forming then some 0xFF else none

/-- The state with a parent noted. -/
def withParent (s : State) (p : Option Nat) : State := p.elim s fun n => s.setNum 0x40000C n

theorem settleTree_eq (s : State) :
    s.settleTree = (withParent s (notedParent s)).mapFabric fun f =>
      { f with children := (withParent s (notedParent s)).childPeers.map (·.1) } := by
  have hparent : withParent s (notedParent s) = if s.leads then s.setNum 0x40000C 0xFF
      else match s.bestParent with
        | some n => s.setNum 0x40000C n
        | none => if s.forming then s.setNum 0x40000C 0xFF else s := by
    unfold withParent notedParent
    cases hlead : s.leads with
    | true => rfl
    | false =>
      cases s.bestParent with
      | some n => rfl
      | none => cases s.forming <;> rfl
  rw [hparent]
  rfl

theorem num_withParent (s : State) (p : Option Nat) {k : Nat} (hk : 0x40000C ≠ k) : (withParent s p).num k = s.num k := by
  cases p with
  | none => rfl
  | some n => exact State.num_setNum_other _ _ hk

theorem withParent_frame (s : State) (p : Option Nat) : withParent s p = { s with nums := (withParent s p).nums } := by
  cases p <;> rfl

theorem num_settleTree (s : State) {k : Nat} (hk : 0x40000C ≠ k) : s.settleTree.num k = s.num k := by
  rw [settleTree_eq, num_mapFabric, num_withParent _ _ hk]

theorem settleTree_frame (s : State) :
    s.settleTree = { s with nums := s.settleTree.nums, fabric := { s.fabric with children := s.settleTree.fabric.children } } := by
  rw [settleTree_eq, withParent_frame]
  rfl

theorem sendIdentities_frame (s : State) : s.sendIdentities = { s with outbox := s.sendIdentities.outbox } := by
  unfold State.sendIdentities
  split <;> rfl

theorem toParent_frame (s : State) (m : ArrivalMsg) : s.toParent m = { s with outbox := (s.toParent m).outbox } := by
  unfold State.toParent
  dsimp only
  split <;> rfl

theorem foldl_toParent_frame (l : List ArrivalMsg) (s : State) :
    l.foldl (fun s m => s.toParent m) s = { s with outbox := (l.foldl (fun s m => s.toParent m) s).outbox } := by
  induction l generalizing s with
  | nil => rfl
  | cons m l ih =>
    rw [List.foldl_cons, ih, toParent_frame]

theorem resendArrivals_frame (s : State) :
    s.resendArrivals = { s with fabric := { s.fabric with collects := [], subtrees := s.resendArrivals.fabric.subtrees }
                                outbox := s.resendArrivals.outbox } := by
  rw [State.resendArrivals]
  rw [foldl_toParent_frame]
  rfl

/-- The state after a new lead is noted, before the tree is made anew (R255). -/
def leadNoted (s : State) (n : Nat) (h : Heartbeat) : State :=
  (((s.setNum 0x400008 h.generation).setNum 0x400007 h.sender).setNum 0x40000C n).mapFabric fun f =>
    { f with heardSuccessor := h.successorIndex, heartbeatBout := 0, children := [], judgeRollback := [] }

section
variable {s : State} {n : Nat} {h : Heartbeat}

theorem followLead_num {k : Nat} (hk : 0x40000C ≠ k) : (s.followLead n h).num k = (leadNoted s n h).num k := by
  have heq : s.followLead n h = (leadNoted s n h).settleTree.resendArrivals.sendIdentities := rfl
  rw [heq, sendIdentities_num, resendArrivals_frame]
  exact num_settleTree _ hk

theorem followLead_fabric :
    (s.followLead n h).fabric.ports = s.fabric.ports ∧ (s.followLead n h).fabric.heartbeatBout = 0 ∧
      (s.followLead n h).cycle = s.cycle := by
  have heq : s.followLead n h = (leadNoted s n h).settleTree.resendArrivals.sendIdentities := rfl
  rw [heq, sendIdentities_frame, resendArrivals_frame, settleTree_frame]
  exact ⟨rfl, rfl, rfl⟩

theorem num_leadNoted_other {k : Nat} (h1 : 0x400008 ≠ k) (h2 : 0x400007 ≠ k) (h3 : 0x40000C ≠ k) : (leadNoted s n h).num k = s.num k := by
  rw [leadNoted, num_mapFabric, State.num_setNum_other _ _ h3, State.num_setNum_other _ _ h2, State.num_setNum_other _ _ h1]

theorem num_leadNoted (hs : Canonical s) :
    (leadNoted s n h).num 0x400008 = h.generation ∧ (leadNoted s n h).num 0x400007 = h.sender := by
  have h1 : Canonical (s.setNum 0x400008 h.generation) := (Keeps.refl s).setNum.canonical hs
  constructor
  · rw [leadNoted, num_mapFabric, State.num_setNum_other _ _ (by decide), State.num_setNum_other _ _ (by decide),
      State.num_setNum_same hs]
  · rw [leadNoted, num_mapFabric, State.num_setNum_other _ _ (by decide), State.num_setNum_same h1]

theorem teamPorts_congr {s t : State} (hports : t.fabric.ports = s.fabric.ports) (hteam : t.num 0x400001 = s.num 0x400001) :
    t.teamPorts = s.teamPorts := by
  have hport : ∀ m, t.portAt m = s.portAt m := fun m => by rw [State.portAt, State.portAt, hports]
  rw [State.teamPorts, State.teamPorts]
  refine List.filter_congr fun m _ => ?_
  rw [hport, State.sameTeam, State.sameTeam, hteam]

/-- A heartbeat of the present lead, heard for the first time, is passed on and answered (R254). -/
def heardHeartbeat (s : State) (h : Heartbeat) : State :=
  let u := s.mapFabric fun f => { f with lastHeartbeat := s.cycle, heartbeatBout := h.bout, leadSilent := false }
  (u.sendAll (u.teamPorts.map fun p => .heartbeat p h)).send (.heartbeatReply (u.num 0x40000C) u.rank h.generation)

theorem heardHeartbeat_num (k : Nat) : (heardHeartbeat s h).num k = s.num k := rfl

theorem heardHeartbeat_last : (heardHeartbeat s h).fabric.lastHeartbeat = s.cycle := rfl

theorem heardHeartbeat_outbox : (heardHeartbeat s h).outbox = s.outbox ++ (s.teamPorts.map fun p => .heartbeat p h) ++
    [.heartbeatReply (s.num 0x40000C) s.rank h.generation] := by
  have hports : (s.mapFabric fun f => { f with lastHeartbeat := s.cycle, heartbeatBout := h.bout, leadSilent := false }).teamPorts =
      s.teamPorts := teamPorts_congr rfl rfl
  rw [← hports]
  rfl

theorem heartbeatReceive_known (hformed : s.formed = true) (hup : (s.portAt n).up = true) (hsender : h.sender ≠ s.rank)
    (hgen : h.generation = s.num 0x400008) (hindex : h.successorIndex = s.fabric.heardSuccessor) (hlead : s.leads = false)
    (hbout : s.fabric.heartbeatBout < h.bout) : heartbeatReceive n h s = heardHeartbeat s h := by
  have hnew : s.newLead h = false := by simp [State.newLead, hgen, hindex]
  rw [heartbeatReceive]
  rw [if_neg (by simp [hformed, hup, hsender]), hnew, if_neg (by simp [hgen, hindex])]
  exact if_neg (by simp [hlead, hbout])

theorem heartbeatReceive_new (hformed : s.formed = true) (hup : (s.portAt n).up = true) (hsender : h.sender ≠ s.rank)
    (hgen : s.num 0x400008 < h.generation) (hbout : 0 < h.bout) (hs : Canonical s) :
    heartbeatReceive n h s = heardHeartbeat (s.followLead n h) h := by
  have hnew : s.newLead h = true := by simp [State.newLead, hgen]
  have hlead : (s.followLead n h).leads = false := by
    rw [State.leads, State.rank, followLead_num (by decide), followLead_num (by decide), (num_leadNoted hs).2,
      num_leadNoted_other (by decide) (by decide) (by decide)]
    exact beq_eq_false_iff_ne.mpr hsender
  rw [heartbeatReceive]
  rw [if_neg (by simp [hformed, hup, hsender]), hnew, if_neg (by simp)]
  exact if_neg (by simp [hlead, followLead_fabric.2.1]; omega)

end

theorem heartbeats (n : Nat) (h : Heartbeat) (s : State) (hs : Canonical s) (hformed : s.formed = true) (hup : (s.portAt n).up = true)
    (hsender : h.sender ≠ s.rank) :
    (h.generation = s.num 0x400008 → h.successorIndex = s.fabric.heardSuccessor → s.leads = false → s.fabric.heartbeatBout < h.bout →
      ∃ t, exec (.heartbeatReceive n h) s = .next t ∧
        t.outbox = s.outbox ++ (s.teamPorts.map fun p => .heartbeat p h) ++
          [.heartbeatReply (s.num 0x40000C) s.rank h.generation] ∧
        t.fabric.lastHeartbeat = s.cycle ∧ t.fabric.leadSilent = false ∧
        t = { s with fabric := t.fabric, outbox := t.outbox }) ∧
    (s.num 0x400008 < h.generation → 0 < h.bout →
      ∃ t, exec (.heartbeatReceive n h) s = .next t ∧ t.num 0x400008 = h.generation ∧ t.num 0x400007 = h.sender ∧
        t.fabric.lastHeartbeat = s.cycle ∧ ∀ p ∈ s.teamPorts, OutMsg.heartbeat p h ∈ t.outbox) ∧
    (h.generation < s.num 0x400008 → exec (.heartbeatReceive n h) s = .next s) := by
  have hexec : exec (.heartbeatReceive n h) s = .next (heartbeatReceive n h s) := rfl
  refine ⟨fun hgen hindex hlead hbout => ⟨_, hexec, ?_⟩, fun hgen hbout => ⟨_, hexec, ?_⟩, fun hgen => ?_⟩
  · rw [heartbeatReceive_known hformed hup hsender hgen hindex hlead hbout]
    exact ⟨heardHeartbeat_outbox, rfl, rfl, rfl⟩
  · rw [heartbeatReceive_new hformed hup hsender hgen hbout hs]
    have hnums := num_leadNoted (n := n) (h := h) hs
    have hports : (s.followLead n h).teamPorts = s.teamPorts :=
      teamPorts_congr followLead_fabric.1 ((followLead_num (by decide)).trans (num_leadNoted_other (by decide) (by decide) (by decide)))
    rw [heardHeartbeat_num, heardHeartbeat_num, heardHeartbeat_last, heardHeartbeat_outbox, followLead_num (by decide),
      followLead_num (by decide), hports]
    exact ⟨hnums.1, hnums.2, followLead_fabric.2.2, fun p hp =>
      List.mem_append_left _ (List.mem_append_right _ (List.mem_map_of_mem hp))⟩
  · have hnew : s.newLead h = false := by
      simp only [State.newLead]
      simp; omega
    rw [hexec, heartbeatReceive]
    rw [if_neg (by simp [hformed, hup, hsender]), hnew, if_pos (by simp [hgen])]

/-! ### Silence, takeover and lost links -/

/-- The state after a successor's lead is noted, at the cycle of the takeover (R255). -/
def tookLead (s : State) (i : Nat) : State :=
  ((s.upTo (s.fabric.lastHeartbeat + BitVec.ofNat 64 (s.num 0x400102 * (i + 1) / 2))).setNum 0x400008 (s.num 0x400008 + 1)).setNum
    0x400007 s.rank

/-- A successor that leads, before the tree is made anew. -/
def leadTaken (s : State) (i : Nat) : State :=
  (tookLead s i).mapFabric fun f => { f with heardSuccessor := i, leadSilent := false, subtrees := [], collects := [], judgeRollback := [] }

theorem leadTakeover_eq {s : State} {i : Nat} (hformed : s.formed = true) (hlead : s.leads = false) (hi : s.successorIndex = some i)
    (hj : s.job = none) (hnone : s.fabric.subtrees = []) :
    leadTakeover s = (leadTaken s i).settleTree.renewOutcomes.sendIdentities := by
  have hworks : (tookLead s i).openWorks = [] := by
    have hjob : (tookLead s i).job = none := hj
    rw [State.openWorks, hjob]
  have hpending : (tookLead s i).pendingSeals = [] := by rw [State.pendingSeals, hworks]; rfl
  have hmsgs : (((tookLead s i).fabric.subtrees.filter (·.own)).map (·.msg)) = [] := by
    have hsub : (tookLead s i).fabric.subtrees = [] := hnone
    rw [hsub]
    rfl
  rw [leadTakeover, hi]
  dsimp only
  rw [if_neg (by simp [hformed, hlead])]
  change (((tookLead s i).openWorks.filter _).map _).foldl _ ((((tookLead s i).fabric.subtrees.filter (·.own)).map (·.msg)).foldl _
    (State.sendIdentities (State.renewOutcomes (State.settleTree ((tookLead s i).mapFabric fun f =>
      { f with heardSuccessor := i, leadSilent := false, subtrees := [], collects := []
               judgeRollback := (tookLead s i).pendingSeals }))))) = _
  rw [hworks, hmsgs, hpending]
  rfl

theorem renewOutcomes_num (s : State) (k : Nat) : s.renewOutcomes.num k = s.num k := rfl

theorem num_leadTaken {s : State} (hs : Canonical s) (i : Nat) :
    (leadTaken s i).num 0x400008 = s.num 0x400008 + 1 ∧ (leadTaken s i).num 0x400007 = s.rank ∧ (leadTaken s i).rank = s.rank := by
  have hup : Canonical (s.upTo (s.fabric.lastHeartbeat + BitVec.ofNat 64 (s.num 0x400102 * (i + 1) / 2))) := hs
  have hset := (Keeps.refl _).setNum (k := 0x400008) (v := s.num 0x400008 + 1) |>.canonical hup
  refine ⟨?_, ?_, ?_⟩
  · rw [leadTaken, num_mapFabric, tookLead, State.num_setNum_other _ _ (by decide), State.num_setNum_same hup]
  · rw [leadTaken, num_mapFabric, tookLead, State.num_setNum_same hset]
  · rw [State.rank, leadTaken, num_mapFabric, tookLead, State.num_setNum_other _ _ (by decide), State.num_setNum_other _ _ (by decide)]
    rfl

theorem sendIdentities_cycle (s : State) : s.sendIdentities.cycle = s.cycle := by rw [sendIdentities_frame]

theorem renewOutcomes_cycle (s : State) : s.renewOutcomes.cycle = s.cycle := rfl

theorem settleTree_cycle (s : State) : s.settleTree.cycle = s.cycle := by rw [settleTree_frame]

theorem leadTaken_cycle (s : State) (i : Nat) :
    (leadTaken s i).cycle = later s.cycle (s.fabric.lastHeartbeat + BitVec.ofNat 64 (s.num 0x400102 * (i + 1) / 2)) := rfl

theorem takesLead {s : State} {i : Nat} (hs : Canonical s) (hformed : s.formed = true) (hlead : s.leads = false)
    (hi : s.successorIndex = some i) (hj : s.job = none) (hnone : s.fabric.subtrees = []) :
    ∃ t, exec .leadTakeover s = .next t ∧ t.num 0x400008 = s.num 0x400008 + 1 ∧ t.num 0x400007 = s.rank ∧ t.num 0x40000C = 0xFF ∧
      t.cycle = later s.cycle (s.fabric.lastHeartbeat + BitVec.ofNat 64 (s.num 0x400102 * (i + 1) / 2)) := by
  have hexec : exec .leadTakeover s = .next (leadTakeover s) := rfl
  obtain ⟨hgen, hrank, hsame⟩ := num_leadTaken hs i
  have hleads : (leadTaken s i).leads = true := by rw [State.leads, hrank, hsame, beq_self_eq_true]
  have hparent : notedParent (leadTaken s i) = some 0xFF := if_pos hleads
  have hcan : Canonical (leadTaken s i) := (Keeps.refl s).upTo.setNum.setNum.mapFabric.canonical hs
  have hset : (leadTaken s i).settleTree.num 0x40000C = 0xFF := by
    rw [settleTree_eq, num_mapFabric, hparent]
    exact State.num_setNum_same hcan _ _
  refine ⟨_, hexec, ?_⟩
  rw [leadTakeover_eq hformed hlead hi hj hnone]
  refine ⟨?_, ?_, ?_, ?_⟩
  · rw [sendIdentities_num, renewOutcomes_num, num_settleTree _ (by decide), hgen]
  · rw [sendIdentities_num, renewOutcomes_num, num_settleTree _ (by decide), hrank]
  · rw [sendIdentities_num, renewOutcomes_num, hset]
  · rw [sendIdentities_cycle, renewOutcomes_cycle, settleTree_cycle, leadTaken_cycle]

/-- The hold of a job whose team has lost a device (R256). -/
def lostHold (s : State) : SealOutcome :=
  { code := .hold, status := 0x00610006, attempt := BitVec.ofNat 4 (s.attemptNumber s.currentWork)
    stepLo := BitVec.ofNat 32 (s.numberOf s.currentWork), release := s.cycle + BitVec.ofNat 64 s.margin }

theorem fabricHold_lead {s : State} {j : Job} (hj : s.job = some j) (hrun : j.running = true) (hheld : s.held = false)
    (hout : j.outcomes = []) (hlead : s.isLead = true) (hformed : s.formed = true) :
    s.fabricHold 0x00610006 = { s.mapJob (fun j => { j with outcomes := j.outcomes ++ [lostHold s] }) with
      outbox := s.outbox ++ [.release (.outcome (lostHold s))] } := by
  have hopen : (s.job.elim true fun j => !j.running || s.held || j.outcomes.any fun o => o.status == 0x00610006) = false := by
    rw [hj]
    simp [hrun, hheld, hout]
  rw [State.fabricHold]
  rw [hopen]
  simp only [hlead, if_true]
  exact if_pos hformed

theorem tryReport_of_not_undone {s : State} {j : Job} (hj : s.job = some j) (h : j.undone = false) : s.tryReport = s := by
  rw [State.tryReport, hj]
  simp [h]

/-- Settles O49: a heartbeat is heard on the state that follows its lead, and a takeover is the tree made anew by the successor. -/
theorem succession : Obligations.Succession := by
  refine ⟨heartbeats, fun s hformed hlead => ?_, fun i s hs hformed hlead hi hj hnone => ?_, fun rank s hformed hcur => ?_,
    fun rank j s hformed hcur hlead hj hrun hheld hout => ?_, fun j s hj hundoing hundone hlost => ?_⟩
  · have hexec : exec .leadSilence s = .next (leadSilence s) := rfl
    refine ⟨_, hexec, ?_⟩
    rw [leadSilence, if_pos (by simp [hformed, hlead])]
    exact ⟨rfl, rfl, rfl⟩
  · exact takesLead hs hformed hlead hi hj hnone
  · have hexec : exec (.linkWaitExpiry (some rank)) s = .next (linkWaitExpiry (some rank) s) := rfl
    rw [hexec, linkWaitExpiry]
    rw [if_neg (by simp [hformed]), if_pos (by simpa using hcur)]
  · have hexec : exec (.linkWaitExpiry (some rank)) s = .next (linkWaitExpiry (some rank) s) := rfl
    have hheldFor : linkWaitExpiry (some rank) s = s.fabricHold 0x00610006 := by
      rw [linkWaitExpiry]
      rw [if_neg (by simp [hformed]), if_neg (by simp [hcur])]
    have hmargin : s.margin = s.num 0x40000B := by rw [State.margin, if_pos hformed]
    refine ⟨_, lostHold s, hexec, ?_⟩
    rw [hheldFor, fabricHold_lead hj hrun hheld hout hlead hformed]
    refine ⟨?_, rfl, rfl, ?_, rfl⟩
    · rw [State.mapJob, hj]
      exact congrArg (fun l => some (l ++ [_])) hout
    · rw [← hmargin]
      rfl
  · have hexec : exec (.linkWaitExpiry none) s = .next (linkWaitExpiry none s) := rfl
    rw [hexec, linkWaitExpiry]
    rw [if_pos (by rw [hlost, hj]; simp [hundoing])]
    refine congrArg _ ?_
    exact tryReport_of_not_undone (j := j) hj hundone

/-! ## What a slot position carries (R237, R240) -/

theorem takeQueued_none {e : SlotEntry} {l : List (Tile × Nat)} (h : ∀ y ∈ l, ofEntry e y.1 = false) : takeQueued e l = none := by
  induction l with
  | nil => rfl
  | cons x l ih =>
    rw [takeQueued, if_neg (by simp [h x List.mem_cons_self]), ih fun y hy => h y (List.mem_cons_of_mem _ hy)]
    rfl

/-- The queue after its first piece of an entry has left (R237). -/
def queueAfter (before : List (Tile × Nat)) (x : Tile) (piece : Nat) (after : List (Tile × Nat)) : List (Tile × Nat) :=
  before ++ if piece + 1 = pieceCount x then after else (x, piece + 1) :: after

theorem takeQueued_first {e : SlotEntry} {before after : List (Tile × Nat)} {x : Tile} {piece : Nat}
    (h : ∀ y ∈ before, ofEntry e y.1 = false) (hx : ofEntry e x = true) :
    takeQueued e (before ++ (x, piece) :: after) = some (x, piece, queueAfter before x piece after) := by
  induction before with
  | nil =>
    rw [List.nil_append, takeQueued, if_pos hx]
    rfl
  | cons y l ih =>
    rw [List.cons_append, takeQueued, if_neg (by simp [h y List.mem_cons_self]), ih fun z hz => h z (List.mem_cons_of_mem _ hz)]
    rfl

/-- The state at a slot position. -/
def atSlot (s : State) (slot : Nat) : State := s.upTo (slotStart slot)

section
variable {n slot : Nat} {s : State}

theorem slotPositionStart_owned {e : SlotEntry} (hstate : (s.portAt n).state = .upScheduled)
    (hown : (s.entriesOf n true).find? (fun e => s.owns e slot) = some e) (hroom : (s.portAt n).retryBuffer.length < 160) :
    slotPositionStart n slot s = ((atSlot s slot).sendPiece e slot false).getD (atSlot s slot) := by
  have hown' : ((s.upTo (slotStart slot)).entriesOf n true).find? (fun e => (s.upTo (slotStart slot)).owns e slot) = some e := hown
  have hroom' : (s.upTo (slotStart slot)).bufferFree n = true := decide_eq_true hroom
  rw [slotPositionStart]
  rw [if_neg (by simp [Port.up, hstate]), hown']
  exact if_pos (by simp [hstate, hroom'])

/-- An unowned slot position: a frame asked for again, else a late piece, else a best-effort frame (R237, R240). -/
def unownedPosition (n slot : Nat) (s : State) : State :=
  match s.retransmit n slot with
  | some s => s
  | none =>
    if !s.bufferFree n then s
    else match (if (s.portAt n).state == .upScheduled then s.sendLate n slot else none) with
      | some s => s
      | none => s.sendBestEffort n

theorem slotPositionStart_unowned (hup : (s.portAt n).up = true) (hown : (s.entriesOf n true).find? (fun e => s.owns e slot) = none) :
    slotPositionStart n slot s = unownedPosition n slot (atSlot s slot) := by
  have hown' : ((s.upTo (slotStart slot)).entriesOf n true).find? (fun e => (s.upTo (slotStart slot)).owns e slot) = none := hown
  rw [slotPositionStart]
  rw [if_neg (by simp [hup]), hown', unownedPosition]
  rfl

theorem retransmit_none (h : (s.portAt n).resend = []) : s.retransmit n slot = none := by
  rw [State.retransmit, h]

theorem unownedPosition_again {t : State} (h : s.retransmit n slot = some t) : unownedPosition n slot s = t := by
  rw [unownedPosition, h]

theorem unownedPosition_full (h : (s.portAt n).resend = []) (hfull : 160 ≤ (s.portAt n).retryBuffer.length) :
    unownedPosition n slot s = s := by
  have hroom : s.bufferFree n = false := decide_eq_false (by omega)
  rw [unownedPosition, retransmit_none h]
  exact if_pos (by simp [hroom])

theorem unownedPosition_late {t : State} (h : (s.portAt n).resend = []) (hroom : (s.portAt n).retryBuffer.length < 160)
    (hstate : (s.portAt n).state = .upScheduled) (hlate : s.sendLate n slot = some t) : unownedPosition n slot s = t := by
  have hroom' : s.bufferFree n = true := decide_eq_true hroom
  rw [unownedPosition, retransmit_none h]
  dsimp only
  rw [if_neg (by simp [hroom']), if_pos (by simp [hstate]), hlate]

theorem unownedPosition_best (h : (s.portAt n).resend = []) (hroom : (s.portAt n).retryBuffer.length < 160)
    (hlate : (s.portAt n).state = .upScheduled → s.sendLate n slot = none) : unownedPosition n slot s = s.sendBestEffort n := by
  have hroom' : s.bufferFree n = true := decide_eq_true hroom
  have hnone : (if (s.portAt n).state == .upScheduled then s.sendLate n slot else none) = none := by
    split
    · next hs => exact hlate (beq_iff_eq.mp hs)
    · rfl
  rw [unownedPosition, retransmit_none h]
  dsimp only
  rw [if_neg (by simp [hroom']), hnone]

/-- The state after a queued piece of an entry has left its plot. -/
def pieceTaken (s : State) (e : SlotEntry) (queue : List (Tile × Nat)) : State :=
  (s.mapPlot e.plot fun q => { q with sendQueue := queue }).mapFabric fun f => { f with sent := countUp f.sent (entryKey e) }

theorem sendPiece_none {e : SlotEntry} {pl : Plot} {late : Bool} (hrelay : s.relayedBy e = false) (hp : s.plotAt e.plot = some pl)
    (hnone : ∀ y ∈ pl.sendQueue, ofEntry e y.1 = false) : s.sendPiece e slot late = none := by
  rw [State.sendPiece]
  rw [if_neg (by simp [hrelay]), hp, Option.bind_some, takeQueued_none hnone]

theorem sendPiece_first {e : SlotEntry} {pl : Plot} {late : Bool} {before after : List (Tile × Nat)} {x : Tile} {piece : Nat}
    (hrelay : s.relayedBy e = false) (hp : s.plotAt e.plot = some pl) (hq : pl.sendQueue = before ++ (x, piece) :: after)
    (hbefore : ∀ y ∈ before, ofEntry e y.1 = false) (hx : ofEntry e x = true) :
    s.sendPiece e slot late =
      some ((pieceTaken s e (queueAfter before x piece after)).sendFrame e.port (pieceFrame e slot piece late x)) := by
  rw [State.sendPiece]
  rw [if_neg (by simp [hrelay]), hp, Option.bind_some, hq, takeQueued_first hbefore hx]
  rfl

/-- A frame that leaves takes the port's next sequence and stays in its retry buffer (R224, R234). -/
theorem sendFrame_fields (hn : n < s.fabric.ports.length) (f : SlotFrame) :
    (s.sendFrame n f).outbox = s.outbox ++ [.frame n (checkedFrame { f with sequence := (s.portAt n).sendSeq })] ∧
      ((s.sendFrame n f).portAt n).sendSeq = (s.portAt n).sendSeq + 1 ∧
      ((s.sendFrame n f).portAt n).retryBuffer.length = (s.portAt n).retryBuffer.length + 1 ∧
      s.sendFrame n f = { s with fabric := { s.fabric with ports := (s.sendFrame n f).fabric.ports }, outbox := (s.sendFrame n f).outbox } := by
  have hport : (s.sendFrame n f).portAt n = { s.portAt n with
      sendSeq := (s.portAt n).sendSeq + 1
      retryBuffer := (s.portAt n).retryBuffer ++ [{ sequence := (checkedFrame { f with sequence := (s.portAt n).sendSeq }).sequence
                                                    frame := .slot (checkedFrame { f with sequence := (s.portAt n).sendSeq }) }] } :=
    portAt_mapPort_same _ hn
  refine ⟨rfl, ?_, ?_, rfl⟩
  · rw [hport]
  · rw [hport]
    exact List.length_append

/-- A port's frame asked for again, as it leaves (R234, R264). -/
theorem retransmit_slot {q : BitVec 24} {rest : List (BitVec 24)} {f : SlotFrame} {k : Nat} (hn : n < s.fabric.ports.length)
    (hq : (s.portAt n).resend = q :: rest)
    (hfind : (s.portAt n).retryBuffer.find? (fun r => r.sequence == q) = some { sequence := q, frame := .slot f, fails := k }) :
    s.retransmit n slot = some ((State.bump (s.mapPort n fun p => { p with resend := rest }) 0x404002).send
      (.frame n (checkedFrame { f with retry := true, slot := slot }))) := by
  have hbuffer : ((s.mapPort n fun p => { p with resend := rest }).portAt n).retryBuffer = (s.portAt n).retryBuffer := by
    rw [portAt_mapPort_same _ hn]
  rw [State.retransmit, hq]
  dsimp only
  rw [hbuffer, hfind]

theorem retransmit_best {q : BitVec 24} {rest : List (BitVec 24)} {f : BeFrame} {k : Nat} (hn : n < s.fabric.ports.length)
    (hq : (s.portAt n).resend = q :: rest)
    (hfind : (s.portAt n).retryBuffer.find? (fun r => r.sequence == q) = some { sequence := q, frame := .best f, fails := k }) :
    s.retransmit n slot = some ((State.bump (s.mapPort n fun p => { p with resend := rest }) 0x404002).send
      (.bestEffort n { sequence := q, retry := true } f)) := by
  have hbuffer : ((s.mapPort n fun p => { p with resend := rest }).portAt n).retryBuffer = (s.portAt n).retryBuffer := by
    rw [portAt_mapPort_same _ hn]
  rw [State.retransmit, hq]
  dsimp only
  rw [hbuffer, hfind]

/-- What a retransmission leaves: its message, the request gone, and one count (R264). -/
theorem retransmitted (hs : Canonical s) (hn : n < s.fabric.ports.length) (rest : List (BitVec 24)) (m : OutMsg) :
    ((State.bump (s.mapPort n fun p => { p with resend := rest }) 0x404002).send m).outbox = s.outbox ++ [m] ∧
      (((State.bump (s.mapPort n fun p => { p with resend := rest }) 0x404002).send m).portAt n).resend = rest ∧
      ((State.bump (s.mapPort n fun p => { p with resend := rest }) 0x404002).send m).num 0x404002 =
        min (s.num 0x404002 + 1) (2 ^ 32 - 1) ∧
      ∀ k, k ≠ 0x404002 → ((State.bump (s.mapPort n fun p => { p with resend := rest }) 0x404002).send m).num k = s.num k := by
  have hcan : Canonical (s.mapPort n fun p => { p with resend := rest }) := hs
  have hport : ((s.mapPort n fun p => { p with resend := rest }).portAt n).resend = rest := by rw [portAt_mapPort_same _ hn]
  have hcount := num_bump_counter hcan (k := 0x404002) (by decide +kernel)
  generalize hu : (s.mapPort n fun p => { p with resend := rest }) = u at *
  have hnums : ∀ k, u.num k = s.num k := fun k => by rw [← hu]; rfl
  refine ⟨?_, hport, ?_, fun k hk => ?_⟩
  · rw [← hu]
    rfl
  · rw [hnums] at hcount
    exact hcount
  · exact (State.num_bump_other u 1 hk.symm).trans (hnums k)

/-- A port after its next best-effort frame has left under a credit (R240). -/
def bestSent (f : BeFrame) (rest : List BeFrame) (p : Port) : Port :=
  { p with beQueue := rest, credits := p.credits - 1, sendSeq := p.sendSeq + 1
           retryBuffer := p.retryBuffer ++ [{ sequence := p.sendSeq, frame := .best f }] }

theorem sendBestEffort_none (f : BeFrame) (rest : List BeFrame) (hq : (s.portAt n).beQueue = f :: rest)
    (hcredits : (s.portAt n).credits = 0) : s.sendBestEffort n = s := by
  rw [State.sendBestEffort]
  rw [hq]
  exact if_pos hcredits

theorem sendBestEffort_first (f : BeFrame) (rest : List BeFrame)
    (hq : (s.portAt n).beQueue = f :: rest) (hcredits : (s.portAt n).credits ≠ 0) :
    s.sendBestEffort n = (s.mapPort n (bestSent f rest)).send (.bestEffort n { sequence := (s.portAt n).sendSeq } f) := by
  rw [State.sendBestEffort]
  rw [hq]
  exact if_neg hcredits

theorem sendLate_none (h : ∀ e ∈ s.entriesOf n true, s.slotsPast e slot = true → e.slotCount ≤ countOf s.fabric.sent (entryKey e)) :
    s.sendLate n slot = none := by
  have hnone : ((s.entriesOf n true).filter fun e => s.slotsPast e slot && countOf s.fabric.sent (entryKey e) < e.slotCount) = [] := by
    refine List.filter_eq_nil_iff.mpr fun e he => ?_
    by_cases hpast : s.slotsPast e slot = true
    · have hle := h e he hpast
      simp [hpast, hle]
    · simp [hpast]
  rw [State.sendLate, hnone]
  rfl

theorem sendLate_first {e : SlotEntry} {t : State} (hone : s.entriesOf n true = [e]) (hpast : s.slotsPast e slot = true)
    (hleft : countOf s.fabric.sent (entryKey e) < e.slotCount) (hsent : s.sendPiece e slot true = some t) :
    s.sendLate n slot = some (t.bump 0x404007) := by
  rw [State.sendLate, hone, List.filter_cons, if_pos (by simp [hpast, hleft]), List.filter_nil]
  simp only [List.findSome?_cons, hsent, Option.map_some]

end

/-- An owned slot position (R237, R239). -/
theorem ownedPositions {n slot : Nat} {s : State} (hn : n < s.fabric.ports.length) {e : SlotEntry} {pl : Plot}
    (hstate : (s.portAt n).state = .upScheduled) (hown : (s.entriesOf n true).find? (fun e => s.owns e slot) = some e)
    (hrelay : s.relayedBy e = false) (he : e.port = n) (hroom : (s.portAt n).retryBuffer.length < 160) (hp : s.plotAt e.plot = some pl) :
    ((∀ y ∈ pl.sendQueue, ofEntry e y.1 = false) → slotPositionStart n slot s = atSlot s slot) ∧
      ∀ before x piece after, pl.sendQueue = before ++ (x, piece) :: after → (∀ y ∈ before, ofEntry e y.1 = false) →
        ofEntry e x = true →
        (slotPositionStart n slot s).outbox = s.outbox ++
            [.frame n (checkedFrame { pieceFrame e slot piece false x with sequence := (s.portAt n).sendSeq })] ∧
          ((slotPositionStart n slot s).portAt n).sendSeq = (s.portAt n).sendSeq + 1 ∧
          ((slotPositionStart n slot s).portAt n).retryBuffer.length = (s.portAt n).retryBuffer.length + 1 ∧
          ((slotPositionStart n slot s).plotAt e.plot).map (·.sendQueue) = some (queueAfter before x piece after) ∧
          slotPositionStart n slot s = { s with cycle := (atSlot s slot).cycle, plots := (slotPositionStart n slot s).plots
                                                fabric := (slotPositionStart n slot s).fabric
                                                outbox := (slotPositionStart n slot s).outbox } := by
  have hp' : (atSlot s slot).plotAt e.plot = some pl := hp
  have hrelay' : (atSlot s slot).relayedBy e = false := hrelay
  rw [slotPositionStart_owned hstate hown hroom]
  refine ⟨fun hnone => ?_, fun before x piece after hq hbefore hx => ?_⟩
  · rw [sendPiece_none hrelay' hp' hnone]
    rfl
  · rw [sendPiece_first hrelay' hp' hq hbefore hx, he, Option.getD_some]
    obtain ⟨hout, hseq, hbuffer, hframe⟩ := sendFrame_fields (s := pieceTaken (atSlot s slot) e (queueAfter before x piece after)) (n := n) hn
      (pieceFrame e slot piece false x)
    have hplot : (pieceTaken (atSlot s slot) e (queueAfter before x piece after)).plotAt e.plot =
        some { pl with sendQueue := queueAfter before x piece after } :=
      State.plotAt_mapPlot_same hp' _
    refine ⟨hout, hseq, hbuffer, ?_, ?_⟩
    · rw [hframe]
      exact congrArg (Option.map (·.sendQueue)) hplot
    · rw [hframe]
      rfl

theorem latePosition {n slot : Nat} {s : State} (hn : n < s.fabric.ports.length) {e : SlotEntry} {pl : Plot}
    {before after : List (Tile × Nat)} {x : Tile} {piece : Nat} (hs : Canonical s) (hstate : (s.portAt n).state = .upScheduled)
    (hone : s.entriesOf n true = [e]) (hown : s.owns e slot = false) (hpast : s.slotsPast e slot = true)
    (hleft : countOf s.fabric.sent (entryKey e) < e.slotCount) (hrelay : s.relayedBy e = false) (he : e.port = n)
    (hresend : (s.portAt n).resend = []) (hroom : (s.portAt n).retryBuffer.length < 160) (hp : s.plotAt e.plot = some pl)
    (hq : pl.sendQueue = before ++ (x, piece) :: after) (hbefore : ∀ y ∈ before, ofEntry e y.1 = false) (hx : ofEntry e x = true) :
    (slotPositionStart n slot s).outbox = s.outbox ++
        [.frame n (checkedFrame { pieceFrame e slot piece true x with sequence := (s.portAt n).sendSeq })] ∧
      (slotPositionStart n slot s).num 0x404007 = min (s.num 0x404007 + 1) (2 ^ 32 - 1) ∧
      ∀ k, k ≠ 0x404007 → (slotPositionStart n slot s).num k = s.num k := by
  have hup : (s.portAt n).up = true := by simp [Port.up, hstate]
  have hnone : (s.entriesOf n true).find? (fun e => s.owns e slot) = none := by simp [hone, hown]
  have hsent := sendPiece_first (s := atSlot s slot) (slot := slot) (late := true) hrelay hp hq hbefore hx
  rw [he] at hsent
  have hlate := sendLate_first (s := atSlot s slot) hone hpast hleft hsent
  rw [slotPositionStart_unowned hup hnone, unownedPosition_late (s := atSlot s slot) hresend hroom hstate hlate]
  obtain ⟨hout, -, -, hframe⟩ := sendFrame_fields (s := pieceTaken (atSlot s slot) e (queueAfter before x piece after)) (n := n) hn
    (pieceFrame e slot piece true x)
  have hcan : Canonical ((pieceTaken (atSlot s slot) e (queueAfter before x piece after)).sendFrame n (pieceFrame e slot piece true x)) := by
    rw [hframe]
    exact hs
  have hnums : ∀ k, ((pieceTaken (atSlot s slot) e (queueAfter before x piece after)).sendFrame n (pieceFrame e slot piece true x)).num k =
      s.num k := fun k => by
    rw [hframe]
    rfl
  have hcount := num_bump_counter hcan (k := 0x404007) (by decide +kernel)
  generalize State.sendFrame _ n _ = u at *
  refine ⟨hout, ?_, fun k hk => ?_⟩
  · rw [hcount, hnums]
  · rw [State.num_bump_other _ _ hk.symm, hnums]

/-- Settles O50: by the case of the slot position: owned, a frame asked for again, a late piece, a best-effort frame. -/
theorem slotPositions : Obligations.SlotPositions := by
  intro n slot s hn
  have hexec : exec (.slotPositionStart n slot) s = .next (slotPositionStart n slot s) := rfl
  refine ⟨fun hdown => ?_, fun e pl hstate hown hrelay he hroom hp => ?_,
    fun e pl before x piece after hs hstate hone hown hpast hleft hrelay he hresend hroom hp hq hbefore hx =>
      ⟨_, hexec, latePosition hn hs hstate hone hown hpast hleft hrelay he hresend hroom hp hq hbefore hx⟩, fun hup hown => ?_⟩
  · rw [hexec, slotPositionStart]
    rw [if_pos (by simp [hdown])]
    rfl
  · obtain ⟨hnone, hfirst⟩ := ownedPositions hn hstate hown hrelay he hroom hp
    refine ⟨fun hq => ?_, fun before x piece after hq hbefore hx => ⟨_, hexec, hfirst before x piece after hq hbefore hx⟩⟩
    rw [hexec, hnone hq]
    rfl
  · have hfree := slotPositionStart_unowned (slot := slot) hup hown
    refine ⟨fun q rest f k hs hresend hfind => ⟨_, hexec, ?_⟩, fun q rest f k hs hresend hfind => ⟨_, hexec, ?_⟩, fun hresend hfull => ?_,
      fun f rest hresend hroom hqueue hnolate => ?_⟩
    · rw [hfree, unownedPosition_again (retransmit_slot (s := atSlot s slot) hn hresend hfind)]
      exact retransmitted (s := atSlot s slot) hs hn rest _
    · rw [hfree, unownedPosition_again (retransmit_best (s := atSlot s slot) hn hresend hfind)]
      exact retransmitted (s := atSlot s slot) hs hn rest _
    · rw [hexec, hfree, unownedPosition_full (s := atSlot s slot) hresend hfull]
      rfl
    · have hlate : (s.portAt n).state = .upScheduled → (atSlot s slot).sendLate n slot = none := by
        intro hstate
        refine sendLate_none (s := atSlot s slot) ?_
        rcases hnolate with hbest | hnone
        · exact absurd (hstate.symm.trans hbest) (by decide)
        · exact hnone
      have hbest := unownedPosition_best (s := atSlot s slot) (slot := slot) hresend hroom hlate
      refine ⟨fun hcredits => ?_, fun hcredits => ⟨_, hexec, ?_⟩⟩
      · rw [hexec, hfree, hbest, sendBestEffort_none (s := atSlot s slot) f rest hqueue hcredits]
        rfl
      · have hport : ((atSlot s slot).mapPort n (bestSent f rest)).portAt n = bestSent f rest (s.portAt n) :=
          portAt_mapPort_same (s := atSlot s slot) _ hn
        rw [hfree, hbest, sendBestEffort_first (s := atSlot s slot) f rest hqueue hcredits]
        refine ⟨rfl, congrArg Port.credits hport, congrArg Port.sendSeq hport, congrArg Port.beQueue hport,
          fun m hm => portAt_mapPort_other (atSlot s slot) _ hm, rfl⟩

/-! ## Scheduled frames as they arrive (R234, R238) -/

section
variable {s t : State} (hjob : t.job = s.job) (hstep : t.num 0x205001 = s.num 0x205001) (hattempt : t.num 0x205003 = s.num 0x205003)

include hjob in
theorem attemptOf_congr : t.attemptOf = s.attemptOf := by
  funext w
  rw [State.attemptOf, State.attemptOf, hjob]

include hstep in
theorem numberOf_congr : t.numberOf = s.numberOf := by
  funext w
  cases w with
  | step => rw [State.numberOf, State.numberOf, hstep]
  | ahead => rw [State.numberOf, State.numberOf, hstep]
  | eval => rw [State.numberOf, State.numberOf, hstep]
  | batch x => rfl

include hjob hattempt in
theorem attemptNumber_congr : t.attemptNumber = s.attemptNumber := by
  funext w
  have h := attemptOf_congr hjob
  cases w with
  | step => exact hattempt
  | ahead => rfl
  | eval => exact congrArg (fun a : Attempt => a.count - 1) (congrFun h .eval)
  | batch x => exact congrArg (fun a : Attempt => a.count - 1) (congrFun h (.batch x))

include hjob hstep hattempt in
theorem carries_congr : t.carries = s.carries := by
  funext step attempt w
  rw [State.carries, State.carries, numberOf_congr hstep, attemptNumber_congr hjob hattempt]

include hjob in
theorem openWorks_congr : t.openWorks = s.openWorks := by rw [State.openWorks, State.openWorks, hjob]

include hjob in
theorem undoSet_congr : t.undoSet = s.undoSet := by rw [State.undoSet, State.undoSet, hjob]

include hjob hstep hattempt in
theorem whoseOf_congr : t.whoseOf = s.whoseOf := by
  funext step attempt
  rw [State.whoseOf, State.whoseOf, carries_congr hjob hstep hattempt, hjob]

include hjob in
theorem currentWork_congr : t.currentWork = s.currentWork := by rw [State.currentWork, State.currentWork, hjob]

include hjob hstep hattempt in
theorem staleTag_congr (g : Tag) : t.staleTag g = s.staleTag g := by
  rw [State.staleTag, State.staleTag, openWorks_congr hjob, undoSet_congr hjob,
    numberOf_congr hstep, attemptNumber_congr hjob hattempt, State.serving, State.serving, State.evaluating,
    State.evaluating, hjob]

include hjob hstep hattempt in
theorem workOfTag_congr (g : Tag) : t.workOfTag g = s.workOfTag g := by
  rw [State.workOfTag, State.workOfTag, whoseOf_congr hjob hstep hattempt, currentWork_congr hjob]

end

section
variable {n : Nat} {f : SlotFrame} {s : State}

theorem execSlotFrame_of_none_held (h : (s.portAt n).up = true → (s.portAt n).held = []) :
    exec (.slotFrameReceive n f) s = .next (slotFrameReceive n f s) := by
  have hexec : exec (.slotFrameReceive n f) s = execSlotFrameReceive n f s := rfl
  rw [hexec, execSlotFrameReceive]
  refine congrArg _ (if_neg fun hboth => ?_)
  obtain ⟨hup, hheld⟩ := Bool.and_eq_true_iff.mp hboth
  simp [h hup] at hheld

/-- The state after the next frame's codewords are counted and its sequence is taken. -/
def frameTaken (n : Nat) (f : SlotFrame) (ok : Bool) (s : State) : State :=
  (s.bump 0x404001 f.corrected).mapPort n (sequenced f.sequence ok)

theorem num_frameTaken {ok : Bool} {k : Nat} (hk : 0x404001 ≠ k) : (frameTaken n f ok s).num k = s.num k := State.num_bump_other _ _ hk

theorem takeSequence_frame (hseq : f.sequence = (s.portAt n).expectSeq) (hmissing : (s.portAt n).missing = []) (ok : Bool) :
    (s.bump 0x404001 f.corrected).takeSequence n f.sequence ok = (frameTaken n f ok s, ok) :=
  takeSequence_next (s := s.bump 0x404001 f.corrected) ok hseq.symm (by
    change f.sequence ∉ (s.portAt n).missing
    simp [hmissing])

theorem slotFrameReceive_bad (hup : (s.portAt n).up = true) (hseq : f.sequence = (s.portAt n).expectSeq)
    (hmissing : (s.portAt n).missing = []) (hbad : frameGood f = false) : slotFrameReceive n f s = frameTaken n f false s := by
  rw [slotFrameReceive]
  rw [if_neg (by simp [hup]), hbad, takeSequence_frame hseq hmissing]
  rfl

theorem takeSequence_far {q : BitVec 24} (hnew : q ∉ (s.portAt n).missing) (hfar : ¬ (q - (s.portAt n).expectSeq).toNat < 2 ^ 23)
    (ok : Bool) : s.takeSequence n q ok = (s, false) := by
  rw [State.takeSequence]
  rw [if_neg (by simpa using hnew), if_neg hfar]

/-- A frame far from the expected one, and not a missing one, is a duplicate (R238). -/
theorem slotFrameReceive_far (hup : (s.portAt n).up = true) (hnew : f.sequence ∉ (s.portAt n).missing)
    (hfar : ¬ (f.sequence - (s.portAt n).expectSeq).toNat < 2 ^ 23) : slotFrameReceive n f s = s.bump 0x404001 f.corrected := by
  have htake : (s.bump 0x404001 f.corrected).takeSequence n f.sequence (frameGood f) = (s.bump 0x404001 f.corrected, false) :=
    takeSequence_far (s := s.bump 0x404001 f.corrected) (n := n) (q := f.sequence) hnew hfar (frameGood f)
  rw [slotFrameReceive]
  rw [if_neg (by simp [hup]), htake]
  rfl

section
variable {j : Job} (hup : (s.portAt n).up = true) (hseq : f.sequence = (s.portAt n).expectSeq) (hmissing : (s.portAt n).missing = [])
  (hgood : frameGood f = true) (hj : s.job = some j) (hrun : j.running = true) (hfresh : s.staleTag f.tag = false)
include hup hseq hmissing hgood hj hrun hfresh

/-- A good frame in a slot where its entry allows it is accepted (R238). -/
theorem slotFrameReceive_accepted {e : SlotEntry} (hfind : (s.entriesOf n false).find? (fun e => e.entryId == f.tag.linkSlot) = some e)
    (hallowed : s.owns e f.slot = true) : slotFrameReceive n f s = (frameTaken n f true s).acceptFrame e f := by
  have hstale : (frameTaken n f true s).staleTag f.tag = false :=
    (staleTag_congr (t := frameTaken n f true s) (s := s) rfl (num_frameTaken (by decide)) (num_frameTaken (by decide)) f.tag).trans hfresh
  have hjob : (frameTaken n f true s).job = some j := hj
  have hfind' : ((frameTaken n f true s).entriesOf n false).find? (fun e => e.entryId == f.tag.linkSlot) = some e := hfind
  have howns : (frameTaken n f true s).owns e f.slot = true := hallowed
  have hframe : (frameTaken n f true s).frameAllowed e f = true := by rw [State.frameAllowed, howns, Bool.true_or]
  rw [slotFrameReceive]
  rw [if_neg (by simp [hup]), hgood, takeSequence_frame hseq hmissing]
  dsimp only
  rw [if_neg (by simp [hstale, hjob, hrun]), hfind', Option.filter_some, if_pos hframe]

/-- A good frame that no entry expects is a fault (R238, R264). -/
theorem slotFrameReceive_unexpected (hfind : (s.entriesOf n false).find? (fun e => e.entryId == f.tag.linkSlot) = none) :
    slotFrameReceive n f s = (frameTaken n f true s).meetFault (s.workOfTag f.tag) 0x06 0xFFFF 0xFFFF 0xFFFF := by
  have hstale : (frameTaken n f true s).staleTag f.tag = false :=
    (staleTag_congr (t := frameTaken n f true s) (s := s) rfl (num_frameTaken (by decide)) (num_frameTaken (by decide)) f.tag).trans hfresh
  have hwork := workOfTag_congr (t := frameTaken n f true s) (s := s) rfl (num_frameTaken (by decide)) (num_frameTaken (by decide)) f.tag
  have hjob : (frameTaken n f true s).job = some j := hj
  have hfind' : ((frameTaken n f true s).entriesOf n false).find? (fun e => e.entryId == f.tag.linkSlot) = none := hfind
  rw [slotFrameReceive]
  rw [if_neg (by simp [hup]), hgood, takeSequence_frame hseq hmissing]
  dsimp only
  rw [if_neg (by simp [hstale, hjob, hrun]), hfind', Option.filter_none, State.slotFault, hwork]

end

end

/-! ### A whole tile in one frame -/

/-- The state after a tile is begun in its region (R233, R235). -/
def tileBegun (s : State) (e : SlotEntry) (g : Tag) : State :=
  (s.mapFabric fun x => { x with begun := countUp x.begun (entryKey e) }).setRegion e.plot (.crib (s.nextRegion e))
    { tile := { tag := { g with valid := true, linkSlot := 0 } }, ready := false }

theorem assemblyOf_none {s : State} (h : s.fabric.assembling = []) (e : SlotEntry) (g : Tag) :
    s.assemblyOf e g = ({ entry := entryKey e, plot := e.plot, region := s.nextRegion e, tag := g }, tileBegun s e g) := by
  rw [State.assemblyOf, h]
  rfl

theorem takePiece_whole {s : State} {f : SlotFrame} (hnone : s.fabric.assembling = []) (hlast : f.lastPiece = true) (hpiece : f.piece = 0)
    (e : SlotEntry) :
    s.takePiece e f false = ((tileBegun s e f.tag).mapFabric fun x => { x with assembling := [] }).landFrame e (s.nextRegion e)
      { tag := f.tag, payload := f.payload } false := by
  have hbegun : (tileBegun s e f.tag).fabric.assembling = [] := hnone
  have hpieces : putPair ([] : List (Nat × List Byte)) 0 f.payload = [(0, f.payload)] := rfl
  have hpayload : ((List.range ((some 0 : Option Nat).getD 0 + 1)).flatMap fun k =>
      (([(0, f.payload)].find? fun p => p.1 == k).map (·.2)).getD []) = f.payload := by simp [List.range_succ]
  rw [State.takePiece, assemblyOf_none hnone]
  dsimp -zeta only
  rw [hbegun, hpiece, hlast, hpieces, if_pos rfl]
  simp only [hpayload]
  rw [if_pos (by simp)]
  rfl

/-- A tile whose check holds lands in its region, ready (R235). -/
theorem landFrame_ok {s : State} {x : Tile} (hok : tileCheckOk x = true) (e : SlotEntry) (r : Nat) :
    ∃ g, s.landFrame e r x false = s.setRegion e.plot (.crib r) { tile := { x with tag := g }, ready := true } ∧
      g.poison = x.tag.poison ∧ g.linkSlot = 0 := by
  refine ⟨_, by rw [State.landFrame, hok, Bool.not_true, if_neg Bool.false_ne_true], ?_, rfl⟩
  simp

theorem acceptFrame_single {s : State} {e : SlotEntry} {f : SlotFrame} (hkind : e.kind = 1) (hid : f.tag.tensorId = e.tensorId)
    (hshard : f.tag.shard = e.shard) (hpacked : f.packed = false) :
    s.acceptFrame e f = (s.mapFabric fun x => { x with arrived := countUp x.arrived (entryKey e) }).takePiece e f false := by
  have hbad : (f.tag.tensorId != e.tensorId || f.tag.shard != e.shard) = false := by simp [hid, hshard]
  rw [State.acceptFrame]
  simp only [hbad]
  rw [if_neg (by rw [hkind]; decide), hpacked]
  rfl

/-- The state after a frame of an entry is counted as arrived. -/
def frameArrived (n : Nat) (f : SlotFrame) (e : SlotEntry) (s : State) : State :=
  (frameTaken n f true s).mapFabric fun x => { x with arrived := countUp x.arrived (entryKey e) }

/-- The state after a whole tile of the next frame stands in its region. -/
def landedFrame (n : Nat) (f : SlotFrame) (e : SlotEntry) (g : Tag) (r : Nat) (s : State) : State :=
  ((tileBegun (frameArrived n f e s) e f.tag).mapFabric
    fun x => { x with assembling := [] }).setRegion e.plot (.crib r) { tile := { tag := g, payload := f.payload }, ready := true }

theorem landedFrame_region {s : State} {n : Nat} {e : SlotEntry} {pl : Plot} (hp : s.plotAt e.plot = some pl) (f : SlotFrame) (g : Tag)
    (r : Nat) : (landedFrame n f e g r s).regionAt e.plot (.crib r) = { tile := { tag := g, payload := f.payload }, ready := true } := by
  obtain ⟨q, hq, -⟩ := plotAt_setRegion (s := (frameTaken n f true s).mapFabric fun x => { x with
    arrived := countUp x.arrived (entryKey e), begun := countUp x.begun (entryKey e) }) (p := e.plot) (pl := pl) hp
    (.crib ((frameTaken n f true s).nextRegion e)) { tile := { tag := { f.tag with valid := true, linkSlot := 0 } }, ready := false }
  have hland : (landedFrame n f e g r s).plotAt e.plot =
      some { q with crib := SMap.set {} q.crib r { tile := { tag := g, payload := f.payload }, ready := true } } :=
    State.plotAt_mapPlot_same hq _
  rw [regionAt_crib hland, get_set_ready]

theorem setRegion_crib_frame (s : State) (p r : Nat) (g : Region) :
    s.setRegion p (.crib r) g = { s with plots := (s.setRegion p (.crib r) g).plots } := rfl

theorem tileBegun_frame (s : State) (e : SlotEntry) (g : Tag) :
    tileBegun s e g = { s with plots := (tileBegun s e g).plots, fabric := (tileBegun s e g).fabric } := rfl

theorem frameArrived_frame (n : Nat) (f : SlotFrame) (e : SlotEntry) (s : State) :
    frameArrived n f e s = { s.bump 0x404001 f.corrected with fabric := (frameArrived n f e s).fabric } := rfl

theorem landed_frame {v w x y : State} (hw : w = { v with fabric := w.fabric }) (hx : x = { w with plots := x.plots, fabric := x.fabric })
    (hy : y = { x with plots := y.plots, fabric := y.fabric }) : y = { v with plots := y.plots, fabric := y.fabric } := by
  rw [hy, hx, hw]

theorem landedFrame_frame (n : Nat) (f : SlotFrame) (e : SlotEntry) (g : Tag) (r : Nat) (s : State) :
    landedFrame n f e g r s = { s.bump 0x404001 f.corrected with
      plots := (landedFrame n f e g r s).plots, fabric := (landedFrame n f e g r s).fabric } := by
  refine landed_frame (frameArrived_frame n f e s) (tileBegun_frame (frameArrived n f e s) e f.tag) ?_
  rw [landedFrame, setRegion_crib_frame]
  rfl

/-- Settles O51: the sequence taken, and then what the frame is. -/
theorem slotFrames : Obligations.SlotFrames := by
  intro n f s hn p v u
  refine ⟨fun hup => ?_, fun hup hheld hmissing hfar => ?_, fun hup hheld hseq hmissing => ⟨fun hbad => ?_, ?_, ?_⟩⟩
  · rw [execSlotFrame_of_none_held (fun h => absurd (hup.symm.trans h) Bool.false_ne_true), slotFrameReceive, if_pos (by simp [show (s.portAt n).up = false from hup])]
  · have hnew : f.sequence ∉ (s.portAt n).missing := fun hin => absurd (List.contains_iff_mem.mpr hin) (by rw [hmissing]; decide)
    rw [execSlotFrame_of_none_held (fun _ => hheld), slotFrameReceive_far hup hnew (Nat.not_lt.mpr hfar)]
  · rw [execSlotFrame_of_none_held (fun _ => hheld), slotFrameReceive_bad hup hseq hmissing hbad]
    refine congrArg _ (mapPort_congr (s := v) hn ?_)
    rw [show v.portAt n = s.portAt n from rfl, sequenced, hmissing]
    rfl
  · intro e j pl hgood hj hrun hfresh hfind hkind howns hid hshard hpacked hlast hpiece hnone hp hok
    obtain ⟨g, hland, hpoison, hlink⟩ := landFrame_ok
      (s := (tileBegun (frameArrived n f e s) e f.tag).mapFabric
        fun x => { x with assembling := [] }) hok e (s.nextRegion e)
    have hregion := landedFrame_region (s := s) (n := n) hp f g (s.nextRegion e)
    refine ⟨landedFrame n f e g (s.nextRegion e) s, ?_, ?_⟩
    · rw [execSlotFrame_of_none_held (fun _ => hheld), slotFrameReceive_accepted hup hseq hmissing hgood hj hrun hfresh hfind howns,
        acceptFrame_single hkind hid hshard hpacked]
      exact congrArg _ ((takePiece_whole (s := frameArrived n f e s) hnone hlast hpiece e).trans hland)
    · rw [hregion]
      exact ⟨rfl, rfl, hpoison, hlink, landedFrame_frame n f e g (s.nextRegion e) s⟩
  · intro j hs hgood hj hrun hserving heval hfault harrived hfresh hwork hfind
    have hu : frameTaken n f true s = u := mapPort_congr (s := v) hn (by
      rw [show v.portAt n = s.portAt n from rfl, sequenced, hmissing]
      simp)
    have hsu : Canonical u := State.canonical_of_eq (State.canonical_bump hs _ _) rfl rfl rfl
    refine ⟨_, ?_, firstFault_meetFault hsu ⟨j, hj, hfault, harrived⟩ 0x06 0xFFFF 0xFFFF 0xFFFF⟩
    rw [execSlotFrame_of_none_held (fun _ => hheld), slotFrameReceive_unexpected hup hseq hmissing hgood hj hrun hfresh hfind, hwork, hu]

end Sys2Proof.Proofs

/-! ## The seal of a training step and the gate release (R189, R191, R201, R214) -/

namespace Sys2Proof.Proofs

open Sys2Proof Machine

/-- The state after a seal is taken and the field has moved. -/
def sealMoved (s : State) (o : SealOutcome) : State :=
  (s.takeOutcome o).moveField (s.num 0x205001 + 1) (s.attemptOf .step).q

/-- The record of a sealed step (R214, R215). -/
def sealRecord (s : State) (o : SealOutcome) : LedgerRecord :=
  { (sealMoved s o).attemptRecord 1 (s.num 0x205001 + 1) (s.num 0x302001) (s.attemptOf .step) o with
    hasTables := true, q := (s.attemptOf .step).q.toNat
    stepCycles := (o.release - (sealMoved s o).job.elim 0 (·.lastRelease)).toNat, batchTag := (sealMoved s o).headTag }

/-- The state after the record of a sealed step. -/
def sealRecorded (s : State) (o : SealOutcome) : State := (sealMoved s o).appendLedger (sealRecord s o)

/-- The state after the step's own record has completed. -/
def sealCompleted (s : State) (o : SealOutcome) : State :=
  (sealRecorded s o).completeHead 0 (s.num 0x205001 + 1) (sealRecorded s o).lastLedger (s.attemptOf .step)

/-- What a seal does to the job and to the tables of the step, once its record has completed. -/
def sealClosed (s : State) (o : SealOutcome) : State :=
  let s := s.mapJob fun j => { j with lastRelease := o.release }
  { s with records := { s.records with current := {} } }

/-- What a seal does to the work, once its record has completed. -/
def sealShifted (s : State) (o : SealOutcome) : State :=
  ((sealClosed s o).shiftWork.takeAhead.settlePlan).noteAnchor sealBarrier o.release

theorem lastBoundary_of_no_seasons {s : State} (h : s.num 0x500001 = 0) : s.lastBoundary = none := by
  have hoff : s.seasonsOn = false := by simp [State.seasonsOn, h]
  unfold State.lastBoundary
  cases s.job with
  | none => rfl
  | some j => simp [hoff]

theorem commitOf_of_no_seasons {s : State} (h : s.num 0x500001 = 0) (n : Nat) : s.commitOf n = none := by
  rw [State.commitOf, if_neg]
  rw [State.isCommitStep, lastBoundary_of_no_seasons h]
  simp

theorem afterSeason_of_no_seasons {s : State} (h : s.num 0x500001 = 0) (n : Nat) : s.afterSeason n none = s := by
  have hoff : s.seasonsOn = false := by simp [State.seasonsOn, h]
  rw [State.afterSeason, State.sealBoundary]
  rw [if_neg (by simp [hoff])]

theorem sealSeason_of_no_seasons {s : State} (h : s.num 0x500001 = 0) (n : Nat) : s.sealSeason n = s := by
  rw [State.sealSeason, commitOf_of_no_seasons h]

theorem sealStep_eq {s : State} {o : SealOutcome} (hstop : s.stopKnown = false) (hmoved : (sealMoved s o).num 0x500001 = 0)
    (hrecorded : (sealRecorded s o).num 0x500001 = 0) (htaken : (s.takeOutcome o).num 0x500001 = 0) :
    s.sealStep o = (((sealShifted (sealCompleted s o) o).settleHalt (s.num 0x205001 + 1)).beginEvaluations).writeIntake.sweep := by
  have hseason : ((s.takeOutcome o).moveField (s.num 0x205001 + 1) (s.attemptOf .step).q).sealSeason (s.num 0x205001 + 1) = sealMoved s o :=
    sealSeason_of_no_seasons hmoved _
  have hafter := afterSeason_of_no_seasons hrecorded (s.num 0x205001 + 1)
  rw [State.sealStep]
  rw [hstop]
  rw [commitOf_of_no_seasons htaken]
  rw [hseason]
  have hrecord : (sealMoved s o).appendLedger { (sealMoved s o).attemptRecord 1 (s.num 0x205001 + 1) (s.num 0x302001) (s.attemptOf .step) o with
    hasTables := true, q := (s.attemptOf .step).q.toNat
    stepCycles := (o.release - (sealMoved s o).job.elim 0 (·.lastRelease)).toNat, batchTag := (sealMoved s o).headTag } =
      sealRecorded s o := rfl
  rw [hrecord, hafter, sealShifted, sealClosed, sealCompleted]
  rw [if_neg Bool.false_ne_true]

/-! ### What the field's move and the loss scale leave (R64, R191) -/

theorem scaleSeal_counts {s : State} (h : s.num 0x302002 = 0 ∨ s.num 0x302005 + 1 < s.num 0x302002) :
    s.scaleSeal = s.setNum 0x302005 (stick 32 (s.num 0x302005) 1) := by
  rw [State.scaleSeal]
  rw [if_neg (by omega)]

theorem scaleSeal_grows {s : State} (hgrowth : s.num 0x302002 ≠ 0) (hrun : s.num 0x302002 ≤ s.num 0x302005 + 1)
    (hmax : ofPattern 32 (s.num 0x302001) < ofPattern 32 (s.num 0x302004)) :
    s.scaleSeal = (s.setNum 0x302005 0).setNum 0x302001 (toPattern 32 (ofPattern 32 (s.num 0x302001) + 1)) := by
  have hnum : (s.setNum 0x302005 0).num 0x302004 = s.num 0x302004 := State.num_setNum_other _ _ (by decide)
  rw [State.scaleSeal]
  rw [if_pos ⟨hgrowth, hrun⟩]
  dsimp only
  rw [hnum, if_pos hmax]

theorem num_scaleSeal (s : State) {k : Nat} (hscale : 0x302001 ≠ k) (hrun : 0x302005 ≠ k) : s.scaleSeal.num k = s.num k := by
  unfold State.scaleSeal
  dsimp only
  split
  · split
    · rw [State.num_setNum_other _ _ hscale, State.num_setNum_other _ _ hrun]
    · rw [State.num_setNum_other _ _ hrun]
  · rw [State.num_setNum_other _ _ hrun]

theorem scaleSeal_frame (s : State) : s.scaleSeal = { s with nums := s.scaleSeal.nums } := by
  unfold State.scaleSeal
  dsimp only
  split
  · split <;> rfl
  · rfl

/-- The step entries a move of the field writes, before the loss scale and after it. -/
def fieldMoved (s : State) (n : Nat) : State := (s.setNum 0x205001 n).setNum 0x205002 (if s.singleField then 0 else n % 2)

theorem canonical_fieldMoved {s : State} (hs : Canonical s) (n : Nat) : Canonical (fieldMoved s n) :=
  State.canonical_setNum (State.canonical_setNum hs _ _) _ _

theorem canonical_scaleSeal {s : State} (hs : Canonical s) : Canonical s.scaleSeal := (Keeps.refl s).scaleSeal.canonical hs

theorem moveField_eq (s : State) (n : Nat) (q : W32) :
    s.moveField n q = (((fieldMoved s n).scaleSeal).setNum 0x205003 0).setNum 0x205007 q.toNat := rfl

theorem num_fieldMoved (s : State) (n : Nat) {k : Nat} (hstep : 0x205001 ≠ k) (hfield : 0x205002 ≠ k) : (fieldMoved s n).num k = s.num k := by
  rw [fieldMoved, State.num_setNum_other _ _ hfield, State.num_setNum_other _ _ hstep]

theorem num_moveField_scale (s : State) (n : Nat) (q : W32) {k : Nat} (hattempt : 0x205003 ≠ k) (hq : 0x205007 ≠ k) :
    (s.moveField n q).num k = (fieldMoved s n).scaleSeal.num k := by
  rw [moveField_eq, State.num_setNum_other _ _ hq, State.num_setNum_other _ _ hattempt]

/-- The entries that a move of the field writes. -/
def fieldKeys : List Nat := [0x205001, 0x205002, 0x205003, 0x205007, 0x302001, 0x302005]

theorem num_moveField_other (s : State) (n : Nat) (q : W32) {k : Nat} (hk : k ∉ fieldKeys) : (s.moveField n q).num k = s.num k := by
  simp only [fieldKeys, List.mem_cons, List.not_mem_nil, or_false, not_or] at hk
  obtain ⟨hstep, hfield, hattempt, hq, hscale, hrun⟩ := hk
  rw [num_moveField_scale _ _ _ (Ne.symm hattempt) (Ne.symm hq), num_scaleSeal _ (Ne.symm hscale) (Ne.symm hrun),
    num_fieldMoved _ _ (Ne.symm hstep) (Ne.symm hfield)]

theorem moveField_step {s : State} (hs : Canonical s) (n : Nat) (q : W32) : (s.moveField n q).num 0x205001 = n := by
  rw [num_moveField_scale _ _ _ (by decide) (by decide), num_scaleSeal _ (by decide) (by decide), fieldMoved,
    State.num_setNum_other _ _ (by decide), State.num_setNum_same hs]

theorem moveField_field {s : State} (hs : Canonical s) (n : Nat) (q : W32) : (s.moveField n q).num 0x205002 = if s.singleField then 0 else n % 2 := by
  rw [num_moveField_scale _ _ _ (by decide) (by decide), num_scaleSeal _ (by decide) (by decide), fieldMoved, State.num_setNum_same (State.canonical_setNum hs _ _)]

theorem moveField_attempt {s : State} (hs : Canonical s) (n : Nat) (q : W32) : (s.moveField n q).num 0x205003 = 0 := by
  rw [moveField_eq, State.num_setNum_other _ _ (by decide), State.num_setNum_same (canonical_scaleSeal (canonical_fieldMoved hs n))]

theorem moveField_seed {s : State} (hs : Canonical s) (n : Nat) (q : W32) : (s.moveField n q).num 0x205007 = q.toNat := by
  rw [moveField_eq, State.num_setNum_same (State.canonical_setNum (canonical_scaleSeal (canonical_fieldMoved hs n)) _ _)]

theorem moveField_counts {s : State} (hs : Canonical s) (h : s.num 0x302002 = 0 ∨ s.num 0x302005 + 1 < s.num 0x302002) (n : Nat) (q : W32) :
    (s.moveField n q).num 0x302005 = min (s.num 0x302005 + 1) (2 ^ 32 - 1) ∧ (s.moveField n q).num 0x302001 = s.num 0x302001 := by
  have hk : ∀ {k}, 0x205001 ≠ k → 0x205002 ≠ k → (fieldMoved s n).num k = s.num k := num_fieldMoved s n
  rw [num_moveField_scale _ _ _ (by decide) (by decide), num_moveField_scale _ _ _ (by decide) (by decide),
    scaleSeal_counts (by rwa [hk (by decide) (by decide), hk (by decide) (by decide)]), State.num_setNum_same (canonical_fieldMoved hs n),
    State.num_setNum_other _ _ (by decide), hk (by decide) (by decide), hk (by decide) (by decide)]
  exact ⟨rfl, rfl⟩

theorem moveField_grows {s : State} (hs : Canonical s) (hgrowth : s.num 0x302002 ≠ 0) (hrun : s.num 0x302002 ≤ s.num 0x302005 + 1)
    (hmax : ofPattern 32 (s.num 0x302001) < ofPattern 32 (s.num 0x302004)) (n : Nat) (q : W32) :
    (s.moveField n q).num 0x302005 = 0 ∧ (s.moveField n q).num 0x302001 = toPattern 32 (ofPattern 32 (s.num 0x302001) + 1) := by
  have hk : ∀ {k}, 0x205001 ≠ k → 0x205002 ≠ k → (fieldMoved s n).num k = s.num k := num_fieldMoved s n
  rw [num_moveField_scale _ _ _ (by decide) (by decide), num_moveField_scale _ _ _ (by decide) (by decide),
    scaleSeal_grows (by rwa [hk (by decide) (by decide)]) (by rwa [hk (by decide) (by decide), hk (by decide) (by decide)])
      (by rwa [hk (by decide) (by decide), hk (by decide) (by decide)]),
    State.num_setNum_other _ _ (by decide), State.num_setNum_same (canonical_fieldMoved hs n),
    State.num_setNum_same (State.canonical_setNum (canonical_fieldMoved hs n) _ _), hk (by decide) (by decide)]
  exact ⟨rfl, rfl⟩

theorem moveField_frame (s : State) (n : Nat) (q : W32) : s.moveField n q = { s with nums := (s.moveField n q).nums } := by
  rw [moveField_eq, scaleSeal_frame]
  rfl

/-! ### What a seal does to the work -/

theorem shiftWork_frame (s : State) : s.shiftWork = { s with
    plots := s.shiftWork.plots, pool := s.shiftWork.pool, tokens := s.aheadTokens, aheadTokens := [], tiers := s.shiftWork.tiers
    fabric := s.shiftWork.fabric } := rfl

/-- A job after an early abort of its training step is the same job, the attempt marked or not. -/
theorem sendAbort_step_job (s : State) (rises : Bool) :
    ∃ g : Attempt → Attempt, (s.sendAbort .step rises).job = s.job.map fun j => { j with attempt := g j.attempt } := by
  unfold State.sendAbort
  dsimp only
  split
  · exact ⟨id, Option.map_id'.symm⟩
  · refine ⟨fun a : Attempt => { a with aborted := true }, ?_⟩
    split
    · rfl
    · split <;> rfl

/-- A job whose work is the next step's (R145). -/
def aheadTaken (g : Attempt → Attempt) (n : Nat) (j : Job) : Job := { j with attempt := g { j.ahead with tapStart := n }, ahead := {} }

theorem takeAhead_job (s : State) : ∃ g, s.takeAhead.job = s.job.map (aheadTaken g s.records.taps.length) := by
  unfold State.takeAhead
  dsimp only
  split
  · obtain ⟨g, hg⟩ := sendAbort_step_job ((s.mapJob fun j => { j with attempt := j.ahead, ahead := {} }).mapAttempt fun a =>
      { a with tapStart := s.records.taps.length }) false
    refine ⟨g, hg.trans ?_⟩
    simp only [State.mapAttempt, State.mapJob, Option.map_map]
    rfl
  · refine ⟨id, ?_⟩
    simp only [State.mapAttempt, State.mapJob, Option.map_map]
    rfl

theorem takeAhead_frame (s : State) : s.takeAhead = { s with job := s.takeAhead.job, fabric := s.takeAhead.fabric, outbox := s.takeAhead.outbox } := by
  unfold State.takeAhead
  dsimp only
  split
  · rw [sendAbort_frame]
    rfl
  · rfl

theorem settlePlan_frame (s : State) : s.settlePlan = { s with fabric := s.settlePlan.fabric } := rfl

theorem shifted_frame {s u v w x y : State} (hu : u = { s with job := u.job, records := { s.records with current := {} } })
    (hv : v = { u with plots := v.plots, pool := v.pool, tokens := u.aheadTokens, aheadTokens := [], tiers := v.tiers, fabric := v.fabric })
    (hw : w = { v with job := w.job, fabric := w.fabric, outbox := w.outbox }) (hx : x = { w with fabric := x.fabric })
    (hy : y = { x with power := y.power, fabric := y.fabric }) :
    y = { s with job := w.job, records := { s.records with current := {} }, plots := v.plots, pool := v.pool, tokens := s.aheadTokens
                 aheadTokens := [], tiers := v.tiers, fabric := y.fabric, outbox := w.outbox, power := y.power } := by
  rw [hy, hx, hw, hv, hu]

theorem sealClosed_frame (s : State) (o : SealOutcome) :
    sealClosed s o = { s with job := (sealClosed s o).job, records := { s.records with current := {} } } := rfl

theorem sealShifted_frame (s : State) (o : SealOutcome) :
    sealShifted s o = { s with
      job := (sealClosed s o).shiftWork.takeAhead.job, records := { s.records with current := {} }, plots := (sealClosed s o).shiftWork.plots
      pool := (sealClosed s o).shiftWork.pool, tokens := s.aheadTokens, aheadTokens := [], tiers := (sealClosed s o).shiftWork.tiers
      fabric := (sealShifted s o).fabric, outbox := (sealClosed s o).shiftWork.takeAhead.outbox, power := (sealShifted s o).power } :=
  shifted_frame (sealClosed_frame s o) (shiftWork_frame _) (takeAhead_frame _) (settlePlan_frame _) (noteAnchor_frame _ _ _)

theorem sealShifted_hopper (s : State) (o : SealOutcome) : (sealShifted s o).hopper = s.hopper := by rw [sealShifted_frame]

theorem sealShifted_job {s : State} {j : Job} (hj : s.job = some j) (o : SealOutcome) :
    ∃ (g : Attempt → Attempt) (n : Nat), (sealShifted s o).job = some (aheadTaken g n { j with lastRelease := o.release }) := by
  have hclosed : (sealClosed s o).shiftWork.job = some { j with lastRelease := o.release } := by
    have h : (sealClosed s o).shiftWork.job = s.job.map fun j => { j with lastRelease := o.release } := rfl
    rw [h, hj]
    rfl
  obtain ⟨g, hg⟩ := takeAhead_job (sealClosed s o).shiftWork
  rw [hclosed] at hg
  refine ⟨g, (sealClosed s o).shiftWork.records.taps.length, ?_⟩
  rw [sealShifted_frame]
  exact hg

/-! ### The seal, put together -/

theorem quietTraining_upTo {s : State} {j : Job} (hq : QuietTraining s j) (c : Cycle) : QuietTraining (s.upTo c) j := hq

theorem sealMoved_frame (s : State) (o : SealOutcome) :
    sealMoved s o = { s with job := (s.takeOutcome o).job, fabric := (s.takeOutcome o).fabric, nums := (sealMoved s o).nums } := by
  rw [sealMoved, moveField_frame]
  rfl

theorem num_sealMoved_other (s : State) (o : SealOutcome) {k : Nat} (hk : k ∉ fieldKeys) : (sealMoved s o).num k = s.num k :=
  num_moveField_other _ _ _ hk

theorem canonical_sealMoved {s : State} (hs : Canonical s) (o : SealOutcome) : Canonical (sealMoved s o) :=
  (Keeps.refl s).takeOutcome.moveField.canonical hs

theorem appended_sealRecorded {s : State} (hs : Canonical s) (o : SealOutcome) :
    Appended (sealMoved s o) (sealRecorded s o) (sealRecord s o) := appended (canonical_sealMoved hs o) _

theorem num_sealRecorded {s : State} (hs : Canonical s) (o : SealOutcome) {k : Nat} (hindex : 0x801002 ≠ k) (hptr : 0x801003 ≠ k)
    (hgap : 0x801004 ≠ k) (hcause : eventCause ≠ k) : (sealRecorded s o).num k = (sealMoved s o).num k :=
  (appended_sealRecorded hs o).num k hindex hptr hgap hcause

/-- A job after its only outcome is taken. -/
def outcomeTaken (o : SealOutcome) (j : Job) : Job := { j with outcomes := j.outcomes.erase o, lastOutcome := some o }

theorem sealRecorded_job {s : State} (hs : Canonical s) {j : Job} (hj : s.job = some j) (o : SealOutcome) :
    (sealRecorded s o).job = some (outcomeTaken o j) := by
  rw [(appended_sealRecorded hs o).frame, sealMoved_frame]
  change s.job.map (outcomeTaken o) = _
  rw [hj]
  rfl

/-- The completion of the step's own record. -/
def sealCompletion (s : State) (o : SealOutcome) : Completion :=
  { status := 0, step := s.num 0x205001 + 1, ledger := some (sealRecorded s o).lastLedger, attempts := (s.attemptOf .step).count
    signature := (s.attemptOf .step).lastSignature }

/-- The state whose first assigned record is about to complete. -/
def headDropped (s : State) : State := s.mapJob fun j => { j with assigned := j.assigned.drop 1 }

theorem sealCompleted_eq {s : State} (hs : Canonical s) {j : Job} (hj : s.job = some j) {it : Intake} {rest : List Intake}
    (hassigned : j.assigned = it :: rest) (o : SealOutcome) :
    sealCompleted s o = (headDropped (sealRecorded s o)).complete it.ticket (sealCompletion s o) := by
  have hhead : ((sealRecorded s o).job.bind (·.assigned.head?)) = some it := by
    rw [sealRecorded_job hs hj]
    change j.assigned.head? = some it
    rw [hassigned]
    rfl
  rw [sealCompleted, State.completeHead, hhead]
  rfl

/-- A state with the intake tiles of its works written (R176). -/
def withIntakes (s : State) (region : Nat) : State := { s with plots := s.plots.map (withIntakeTile s region) }

theorem withIntakes_frame (s : State) (region : Nat) : withIntakes s region = { s with plots := (withIntakes s region).plots } := rfl

theorem writeIntake_eq {s : State} {j : Job} (hj : s.job = some j) : s.writeIntake = withIntakes s j.binary.intakeRegion :=
  writeIntake_of_job hj

theorem withIntakes_hopper (s : State) (region : Nat) : (withIntakes s region).hopper = s.hopper := rfl

/-- The state after a seal's work, the intake tiles of the next step written (R176). -/
def sealed (s : State) (o : SealOutcome) (j : Job) : State := withIntakes (sealShifted (sealCompleted s o) o) j.binary.intakeRegion

theorem num_headDropped (s : State) (k : Nat) : (headDropped s).num k = s.num k := rfl

theorem headDropped_hopper (s : State) : (headDropped s).hopper = s.hopper := rfl

theorem num_takeOutcome (s : State) (o : SealOutcome) (k : Nat) : (s.takeOutcome o).num k = s.num k := rfl

theorem droppedHead_frame {s u : State} (hu : u = { headDropped s with hopper := u.hopper, ctl := u.ctl, outbox := u.outbox, nums := u.nums }) :
    u = { s with job := u.job, hopper := u.hopper, ctl := u.ctl, outbox := u.outbox, nums := u.nums } := by
  rw [hu]
  rfl

section
variable {s : State} {j : Job} {it : Intake} {rest : List Intake} (hs : Canonical s) (hj : s.job = some j) (hassigned : j.assigned = it :: rest)
  (o : SealOutcome)
include hs hj hassigned

theorem sealCompleted_job : (sealCompleted s o).job = some { outcomeTaken o j with assigned := rest } := by
  rw [sealCompleted_eq hs hj hassigned, complete_frame]
  change (sealRecorded s o).job.map _ = _
  rw [sealRecorded_job hs hj]
  have hdrop : (outcomeTaken o j).assigned.drop 1 = rest := by
    change j.assigned.drop 1 = rest
    rw [hassigned]
    rfl
  rw [← hdrop]
  rfl

theorem sealShifted_jobs : ∃ k, (sealShifted (sealCompleted s o) o).job = some k ∧ k.assigned = rest ∧ k.haltRecord = j.haltRecord ∧
    k.evalPending = j.evalPending ∧ k.binary = j.binary := by
  obtain ⟨g, n, hjob⟩ := sealShifted_job (sealCompleted_job hs hj hassigned o) o
  exact ⟨_, hjob, rfl, rfl, rfl, rfl⟩

theorem num_sealCompleted {k : Nat} (hcause : eventCause ≠ k) : (sealCompleted s o).num k = (sealRecorded s o).num k := by
  rw [sealCompleted_eq hs hj hassigned, num_complete _ _ _ hcause, num_headDropped]

theorem sealCompleted_frame : sealCompleted s o = { sealRecorded s o with
    job := (sealCompleted s o).job, hopper := (sealCompleted s o).hopper, ctl := (sealCompleted s o).ctl, outbox := (sealCompleted s o).outbox
    nums := (sealCompleted s o).nums } := by
  refine droppedHead_frame ?_
  rw [sealCompleted_eq hs hj hassigned]
  exact complete_frame _ _ _

omit hj hassigned in
theorem sealRecorded_hopper : (sealRecorded s o).hopper = s.hopper := by
  rw [(appended_sealRecorded hs o).frame, sealMoved_frame]

theorem sealCompleted_not_posted (hposted : ∀ k, (SMap.get ({} : Slot) s.hopper k).state ≠ 1) (k : Nat) :
    (SMap.get ({} : Slot) (sealCompleted s o).hopper k).state ≠ 1 := by
  rw [sealCompleted_eq hs hj hassigned]
  by_cases hk : slotOfTicket it.ticket = k
  · have hdone := (completed_complete (headDropped (sealRecorded s o)) it.ticket (c := sealCompletion s o) (by change 0 < 2 ^ 32; decide)).1
    rw [← hk]
    intro h
    rw [hdone] at h
    exact absurd h (by decide)
  · rw [complete_slot_other _ _ _ hk, headDropped_hopper, sealRecorded_hopper hs]
    exact hposted k

theorem completed_sealCompleted : Completed (sealCompleted s o) it.ticket 0 := by
  rw [sealCompleted_eq hs hj hassigned]
  exact completed_complete _ it.ticket (c := sealCompletion s o) (by change 0 < 2 ^ 32; decide)

end

theorem sealStep_quiet {s : State} {j : Job} {it : Intake} {rest : List Intake} (hs : Canonical s) (hq : QuietTraining s j)
    (hassigned : j.assigned = it :: rest) (o : SealOutcome) : s.sealStep o = sealed s o j := by
  obtain ⟨hj, -, -, hpending, -, -, -, hhalt, hharvest, hseason, -, hposted⟩ := hq
  have hmoved : (sealMoved s o).num 0x500001 = 0 := (num_sealMoved_other s o (by decide)).trans hseason
  have hrecorded : (sealRecorded s o).num 0x500001 = 0 :=
    (num_sealRecorded hs o (by decide) (by decide) (by decide) (by decide)).trans hmoved
  obtain ⟨k, hk, -, hkhalt, hkpending, hkbinary⟩ := sealShifted_jobs hs hj hassigned o
  have hsettle : (sealShifted (sealCompleted s o) o).settleHalt (s.num 0x205001 + 1) = sealShifted (sealCompleted s o) o := by
    rw [State.settleHalt, hk, Option.bind_some, hkhalt, hhalt]
  have hbegin : (sealShifted (sealCompleted s o) o).beginEvaluations = sealShifted (sealCompleted s o) o := by
    rw [State.beginEvaluations, hk, Option.bind_some, hkpending, hpending]
    rfl
  have hstop : s.stopKnown = false := by rw [State.stopKnown, hharvest]; rfl
  rw [sealStep_eq hstop hmoved hrecorded ((num_takeOutcome s o _).trans hseason), hsettle, hbegin, writeIntake_eq hk, hkbinary, ← sealed]
  refine sweep_of_none_posted fun k => ?_
  rw [sealed, withIntakes_hopper, sealShifted_hopper]
  exact sealCompleted_not_posted hs hj hassigned o hposted k

/-! ### What stands after a seal -/

theorem recorded_rest {s m r c : State} {job : Option Job} {fabric : Fabric}
    (hm : m = { s with job := job, fabric := fabric, nums := m.nums })
    (hr : r = { m with records := r.records, host := r.host, nums := r.nums, ctl := r.ctl, outbox := r.outbox })
    (hc : c = { r with job := c.job, hopper := c.hopper, ctl := c.ctl, outbox := c.outbox, nums := c.nums }) :
    c.cycle = s.cycle ∧ c.aheadTokens = s.aheadTokens ∧ c.fuses = s.fuses ∧ c.flash = s.flash ∧ c.host = r.host ∧ c.records = r.records := by
  rw [hc, hr, hm]
  exact ⟨rfl, rfl, rfl, rfl, rfl, rfl⟩

theorem sealShifted_rest (s : State) (o : SealOutcome) (region : Nat) :
    (withIntakes (sealShifted s o) region).cycle = s.cycle ∧ (withIntakes (sealShifted s o) region).tokens = s.aheadTokens ∧
      (withIntakes (sealShifted s o) region).fuses = s.fuses ∧ (withIntakes (sealShifted s o) region).flash = s.flash ∧
      (withIntakes (sealShifted s o) region).host = s.host ∧ (withIntakes (sealShifted s o) region).records.ledger = s.records.ledger ∧
      (withIntakes (sealShifted s o) region).job = (sealShifted s o).job := by
  rw [withIntakes_frame, sealShifted_frame]
  exact ⟨rfl, rfl, rfl, rfl, rfl, rfl, rfl⟩

theorem num_sealShifted (s : State) (o : SealOutcome) (region k : Nat) : (withIntakes (sealShifted s o) region).num k = s.num k := by
  refine num_of_nums ?_ _
  rw [withIntakes_frame, sealShifted_frame]

theorem completed_of_hopper {s t : State} (h : t.hopper = s.hopper) {ticket : W64} {status : Nat} (hs : Completed s ticket status) :
    Completed t ticket status := by
  rw [Completed, h]
  exact hs

theorem attemptRecord_kind (s : State) (kind n scale : Nat) (a : Attempt) (o : SealOutcome) :
    ((s.attemptRecord kind n scale a o).kind, (s.attemptRecord kind n scale a o).step, (s.attemptRecord kind n scale a o).attempts) =
      (kind, n, min a.count 255) := rfl

theorem sealRecord_kind (s : State) (o : SealOutcome) : ((sealRecord s o).kind, (sealRecord s o).step, (sealRecord s o).attempts) =
    (1, s.num 0x205001 + 1, min (s.attemptOf .step).count 255) := attemptRecord_kind (sealMoved s o) 1 _ (s.num 0x302001) _ o

theorem sameRecord_kind {r x : LedgerRecord} (h : sameRecord r x) : (x.kind, x.step, x.attempts) = (r.kind, r.step, r.attempts) := by
  rw [h]

section
variable {s : State} {j : Job} {it : Intake} {rest : List Intake} (hs : Canonical s) (hj : s.job = some j) (hassigned : j.assigned = it :: rest)
  (o : SealOutcome)
include hs hj hassigned

theorem num_sealed {k : Nat} (hindex : 0x801002 ≠ k) (hptr : 0x801003 ≠ k) (hgap : 0x801004 ≠ k) (hcause : eventCause ≠ k) :
    (sealed s o j).num k = (sealMoved s o).num k := by
  rw [sealed, num_sealShifted, num_sealCompleted hs hj hassigned o hcause, num_sealRecorded hs o hindex hptr hgap hcause]

theorem sealed_index : (sealed s o j).num 0x801002 = s.num 0x801002 + 1 := by
  rw [sealed, num_sealShifted, num_sealCompleted hs hj hassigned o (by decide), (appended_sealRecorded hs o).index,
    num_sealMoved_other _ _ (by decide)]

theorem sealed_rest : (sealed s o j).cycle = s.cycle ∧ (sealed s o j).tokens = s.aheadTokens ∧ (sealed s o j).fuses = s.fuses ∧
    (sealed s o j).flash = s.flash ∧ (sealed s o j).host = (sealRecorded s o).host ∧
    (sealed s o j).records.ledger = (sealRecorded s o).records.ledger := by
  obtain ⟨hcycle, htokens, hfuses, hflash, hhost, hrecords⟩ := recorded_rest (sealMoved_frame s o) (appended_sealRecorded hs o).frame
    (sealCompleted_frame hs hj hassigned o)
  obtain ⟨hcycle', htokens', hfuses', hflash', hhost', hledger', -⟩ := sealShifted_rest (sealCompleted s o) o j.binary.intakeRegion
  exact ⟨hcycle'.trans hcycle, htokens'.trans htokens, hfuses'.trans hfuses, hflash'.trans hflash, hhost'.trans hhost,
    hledger'.trans (congrArg Records.ledger hrecords)⟩

theorem sealed_job : ((sealed s o j).job.map (·.assigned)) = some rest := by
  obtain ⟨k, hk, hrest, -⟩ := sealShifted_jobs hs hj hassigned o
  rw [sealed, (sealShifted_rest _ _ _).2.2.2.2.2.2, hk, Option.map_some, hrest]

theorem completed_sealed : Completed (sealed s o j) it.ticket 0 := by
  refine completed_of_hopper ?_ (completed_sealCompleted hs hj hassigned o)
  rw [sealed, withIntakes_hopper, sealShifted_hopper]

end

theorem nextRecordAt_sealMoved (s : State) (o : SealOutcome) : nextRecordAt (sealMoved s o) = nextRecordAt s ∧
    nextDigestsAt (sealMoved s o) = nextDigestsAt s ∧ nextTalliesAt (sealMoved s o) = nextTalliesAt s := by
  rw [nextRecordAt, nextDigestsAt, nextTalliesAt, num_sealMoved_other s o (by decide)]
  exact ⟨rfl, rfl, rfl⟩

theorem sealMoved_host (s : State) (o : SealOutcome) : (sealMoved s o).host = s.host := by rw [sealMoved_frame]

/-- The record of a sealed step, in the Ledger and in its slot of the ring, and what the window keeps. -/
theorem sealRecorded_ledger {s : State} (hs : Canonical s) (o : SealOutcome) :
    (∃ r, (sealRecorded s o).records.ledger.getLast? = some r ∧ (r.kind, r.step, r.attempts, r.index) =
      (1, s.num 0x205001 + 1, min (s.attemptOf .step).count 255, s.num 0x801002) ∧
      Memory.readBytes (sealRecorded s o).host.window (nextRecordAt s) 256 = ledgerBytes r) ∧
    (∀ a, (a < nextRecordAt s ∨ nextRecordAt s + 256 ≤ a) → (a < nextDigestsAt s ∨ nextDigestsAt s + 65536 ≤ a) →
      (a < nextTalliesAt s ∨ nextTalliesAt s + 65536 ≤ a) →
      Memory.readByte (sealRecorded s o).host.window a = Memory.readByte s.host.window a) ∧
    (sealRecorded s o).host = { s.host with window := (sealRecorded s o).host.window } := by
  have h := appended_sealRecorded hs o
  obtain ⟨hrecord, hdigests, htallies⟩ := nextRecordAt_sealMoved s o
  obtain ⟨x, hx, hsame, hindex, hbytes⟩ := h.last
  have hoff := h.outside
  have hhost := h.host
  rw [hrecord, hdigests, htallies, sealMoved_host] at hoff
  rw [hrecord] at hbytes
  rw [num_sealMoved_other s o (by decide)] at hindex
  rw [sealMoved_host] at hhost
  have hkind := (sameRecord_kind hsame).trans (sealRecord_kind s o)
  simp only [Prod.mk.injEq] at hkind
  obtain ⟨hk, hstep, hcount⟩ := hkind
  exact ⟨⟨x, hx, by rw [hk, hstep, hcount, hindex], hbytes⟩, hoff, hhost⟩

theorem sealRelease_step {s : State} {j : Job} {o : SealOutcome} (hj : s.job = some j) (hserving : j.binary.serving = false)
    (heval : j.evalRunning = none) (hout : j.outcomes = [o]) (hcode : o.code = .seal) (hgate : o.gate = false) :
    sealRelease s = (s.upTo o.release).sealStep o := by
  have hnext : s.nextOutcome s.endsWork = some o := by
    have hends : s.endsWork o = true := by simp [State.endsWork, hcode, hgate]
    rw [State.nextOutcome, hj, Option.bind_some, hout, List.find?_cons_of_pos hends]
  have hserv : (s.upTo o.release).serving = false := by
    change s.job.elim false (·.binary.serving) = false
    rw [hj]
    exact hserving
  have hnone : (s.upTo o.release).evaluating = none := by
    change s.job.bind (·.evalRunning) = none
    rw [hj]
    exact heval
  rw [sealRelease, hnext]
  dsimp only
  rw [hserv, hnone]
  rfl

theorem attemptOf_step {s : State} {j : Job} (hj : s.job = some j) : s.attemptOf .step = j.attempt := by
  rw [State.attemptOf, hj]

/-- What the seal of a step leaves in the entries of the step and of the loss scale, in the state at its release. -/
theorem sealMoved_nums {s : State} (hs : Canonical s) (o : SealOutcome) :
    (sealMoved s o).num 0x205001 = s.num 0x205001 + 1 ∧
    (sealMoved s o).num 0x205002 = (if s.singleField then 0 else (s.num 0x205001 + 1) % 2) ∧ (sealMoved s o).num 0x205003 = 0 ∧
    (sealMoved s o).num 0x205007 = (s.attemptOf .step).q.toNat ∧
    (s.num 0x302002 = 0 ∨ s.num 0x302005 + 1 < s.num 0x302002 →
      (sealMoved s o).num 0x302005 = min (s.num 0x302005 + 1) (2 ^ 32 - 1) ∧ (sealMoved s o).num 0x302001 = s.num 0x302001) ∧
    (s.num 0x302002 ≠ 0 → s.num 0x302002 ≤ s.num 0x302005 + 1 → ofPattern 32 (s.num 0x302001) < ofPattern 32 (s.num 0x302004) →
      (sealMoved s o).num 0x302005 = 0 ∧ (sealMoved s o).num 0x302001 = toPattern 32 (ofPattern 32 (s.num 0x302001) + 1)) := by
  have ht : Canonical (s.takeOutcome o) := (Keeps.refl s).takeOutcome.canonical hs
  have hsingle : (s.takeOutcome o).singleField = s.singleField := by
    rw [State.singleField, State.singleField, show (s.takeOutcome o).job = s.job.map (outcomeTaken o) from rfl]
    cases s.job <;> rfl
  refine ⟨moveField_step ht _ _, ?_, moveField_attempt ht _ _, moveField_seed ht _ _, fun h => moveField_counts ht h _ _,
    fun hg hr hm => moveField_grows ht hg hr hm _ _⟩
  rw [sealMoved, moveField_field ht, hsingle]

/-! ### The gate release (R201) -/

/-- The state at a gate release, its outcome taken. -/
def gateTaken (s : State) (o : SealOutcome) : State :=
  (((s.upTo o.release).takeOutcome o).mapAttempt fun a => { a with gatePassed := true }).noteAnchor gateBarrier o.release

/-- A state whose harrow passes may write (R201). -/
def gateOpened (s : State) : State :=
  ({ s with plots := s.plots.map (releaseSealWait s) } : State).mapPlots fun pl => { pl with gateDone := false }

theorem gateTaken_frame (s : State) (o : SealOutcome) : gateTaken s o = { s with
    cycle := later s.cycle o.release, job := (gateTaken s o).job, fabric := (gateTaken s o).fabric, power := (gateTaken s o).power } := by
  rw [gateTaken, noteAnchor_frame]
  rfl

theorem gateTaken_job (s : State) (o : SealOutcome) :
    (gateTaken s o).job = s.job.map fun j => { outcomeTaken o j with attempt := { j.attempt with gatePassed := true } } := by
  rw [gateTaken, noteAnchor_frame]
  change ((s.job.map (outcomeTaken o)).map _) = _
  rw [Option.map_map]
  rfl

theorem gateOpened_frame (s : State) : gateOpened s = { s with plots := (gateOpened s).plots } := rfl

theorem gateOpened_done (s : State) : ∀ pl ∈ (gateOpened s).plots, pl.gateDone = false := by
  intro pl hpl
  obtain ⟨q, -, rfl⟩ := List.mem_map.mp hpl
  rfl

theorem gateRelease_eq {s : State} {j : Job} {o : SealOutcome} (hq : QuietTraining s j) (hout : j.outcomes = [o]) (hcode : o.code = .seal)
    (hgate : o.gate = true) : gateRelease s = gateOpened (gateTaken s o) := by
  obtain ⟨hj, -, -, -, -, -, -, -, -, -, -, hposted⟩ := hq
  have hnext : s.nextOutcome (fun o => o.gate && o.code == .seal) = some o := by
    rw [State.nextOutcome, hj, Option.bind_some, hout, List.find?_cons_of_pos (by simp [hgate, hcode])]
  have hhopper : (gateOpened (gateTaken s o)).hopper = s.hopper := by
    rw [gateOpened_frame, gateTaken_frame]
  rw [gateRelease, hnext]
  exact sweep_of_none_posted fun k => by
    rw [← gateTaken, ← gateOpened, hhopper]
    exact hposted k

theorem opened_frame {s u v : State} {c : Cycle} (hu : u = { s with cycle := c, job := u.job, fabric := u.fabric, power := u.power })
    (hv : v = { u with plots := v.plots }) :
    v = { s with cycle := v.cycle, job := v.job, plots := v.plots, fabric := v.fabric, power := v.power } ∧ v.cycle = c ∧ v.job = u.job := by
  rw [hv, hu]
  exact ⟨rfl, rfl, rfl⟩

theorem gateOfAStep {s : State} {j : Job} {o : SealOutcome} (hq : QuietTraining s j) (hout : j.outcomes = [o]) (hcode : o.code = .seal)
    (hgate : o.gate = true) :
    ∃ t, exec .gateRelease s = .next t ∧ t.cycle = later s.cycle o.release ∧
      (t.job.map fun x => (x.attempt.gatePassed, x.outcomes)) = some (true, []) ∧ (∀ pl ∈ t.plots, pl.gateDone = false) ∧
      t = { s with cycle := t.cycle, job := t.job, plots := t.plots, fabric := t.fabric, power := t.power } := by
  have hexec : exec .gateRelease s = .next (gateRelease s) := rfl
  obtain ⟨hframe, hcycle, hjob⟩ := opened_frame (gateTaken_frame s o) (gateOpened_frame (gateTaken s o))
  refine ⟨_, hexec.trans (congrArg _ (gateRelease_eq hq hout hcode hgate)), hcycle, ?_, gateOpened_done _, hframe⟩
  rw [hjob, gateTaken_job, hq.1]
  change some (true, j.outcomes.erase o) = _
  rw [hout, List.erase_cons_head]

/-- Settles O35: the seal's parts in turn, then what each leaves. -/
theorem sealOfAStep : Obligations.SealOfAStep := by
  intro j o s hs hq hout hcode record digests tallies
  refine ⟨fun hgate it rest hassigned => ?_, gateOfAStep hq hout hcode⟩
  have hexec : exec .sealRelease s = .next (sealRelease s) := rfl
  have hquiet := hq
  obtain ⟨hj, hserving, heval, -⟩ := hq
  have hsu : Canonical (s.upTo o.release) := (Keeps.refl s).upTo.canonical hs
  have hju : (s.upTo o.release).job = some j := hj
  have hstep := sealStep_quiet hsu (quietTraining_upTo hquiet o.release) hassigned o
  obtain ⟨hsealed, hfield, hattempt, hq', hcounts, hgrows⟩ := sealMoved_nums hsu o
  obtain ⟨hcycle, htokens, hfuses, hflash, hhost, hledger⟩ := sealed_rest hsu hju hassigned o
  obtain ⟨⟨r, hr, hkind, hbytes⟩, hoff, hwindow⟩ := sealRecorded_ledger hsu o
  rw [attemptOf_step hju] at hq' hkind
  have hnum : ∀ {k}, 0x801002 ≠ k → 0x801003 ≠ k → 0x801004 ≠ k → eventCause ≠ k →
      (sealed (s.upTo o.release) o j).num k = (sealMoved (s.upTo o.release) o).num k := num_sealed hsu hju hassigned o
  refine ⟨_, hexec.trans (congrArg _ ((sealRelease_step hj hserving heval hout hcode hgate).trans hstep)), hcycle, ?_, ?_, ?_, ?_,
    sealed_index hsu hju hassigned o, ⟨r, by rw [hledger, hr], hkind, by rw [hhost]; exact hbytes⟩, fun a hrec hdig htal => ?_,
    completed_sealed hsu hju hassigned o, sealed_job hsu hju hassigned o, htokens, fun h => ?_, fun hg hrun hmax => ?_, hfuses, hflash, ?_⟩
  · rw [hnum (by decide) (by decide) (by decide) (by decide)]
    exact hsealed
  · rw [hnum (by decide) (by decide) (by decide) (by decide)]
    exact hfield
  · rw [hnum (by decide) (by decide) (by decide) (by decide)]
    exact hattempt
  · rw [hnum (by decide) (by decide) (by decide) (by decide)]
    exact hq'
  · rw [hhost]
    exact hoff a hrec hdig htal
  · rw [hnum (by decide) (by decide) (by decide) (by decide), hnum (by decide) (by decide) (by decide) (by decide)]
    exact hcounts h
  · rw [hnum (by decide) (by decide) (by decide) (by decide), hnum (by decide) (by decide) (by decide) (by decide)]
    exact hgrows hg hrun hmax
  · rw [hhost]
    exact hwindow

/-! ## Records of a job that act (R398, R459) -/

theorem takeDirect_eq {s : State} {kind : Nat} {r : RecordIn} (hsw : s.sweeps = true) (hstay : s.staysBehind (posted s kind r) false = false)
    (keys : Bool) : s.takeDirect kind r keys = s.takeRecord (posted s kind r) false keys := by
  rw [State.takeDirect]
  rw [if_neg (by simp [hsw]), ← posted, if_neg (by simp [hstay])]

theorem takeDirect_stays {s : State} {kind : Nat} {r : RecordIn} (hsw : s.sweeps = true) (hstay : s.staysBehind (posted s kind r) false = true)
    (keys : Bool) : s.takeDirect kind r keys = { s with hopper := SMap.set {} s.hopper ((s.num 0x201004 - 1) % 4096) (posted s kind r) } := by
  rw [State.takeDirect]
  rw [if_neg (by simp [hsw]), ← posted, if_pos hstay]

theorem takeRecord_acts {s : State} {kind : Nat} {r : RecordIn}
    (hjudge : (taken s kind r).judge (BitVec.ofNat 8 kind).toNat r.body.toNat false false = none) (keys : Bool) :
    s.takeRecord (posted s kind r) false keys =
      (taken s kind r).actOn (BitVec.ofNat 8 kind).toNat (BitVec.ofNat 64 (s.num 0x201004)) r.userTag r.body.toNat keys := by
  have hj : (taken s kind r).judge (posted s kind r).kind.toNat (posted s kind r).body.toNat ((posted s kind r).reserved != 0) false = none :=
    hjudge
  rw [State.takeRecord]
  rw [← taken, hj]
  rfl

/-- A record that its state accepts, of a body that is well formed, passes the first steps of R459. -/
theorem judge_none {s : State} {kind body : Nat} (hpos : 0 < kind) (hkind : kind ≤ 7) (hacc : s.kindAccepted kind false = true)
    (hheld : s.held = false ∨ kind < 3) (hbody : s.bodyMalformed kind body = false) : s.judge kind body false false = none := by
  rw [State.judge]
  have hlets : ¬((s.held && (decide (kind = 3) || decide (kind = 4) || decide (kind = 5))) = true) := by
    rcases hheld with h | h
    · simp [h]
    · simp; omega
  rw [if_neg (by simp; omega), if_neg (by simp [hacc]), if_neg hlets, if_neg (by simp [hbody])]

theorem staysBehind_of_judge {s : State} {kind : Nat} {r : RecordIn}
    (hjudge : s.judge (BitVec.ofNat 8 kind).toNat r.body.toNat false false = none) :
    s.staysBehind (posted s kind r) false = s.recordWaits (BitVec.ofNat 8 kind).toNat := by
  have hj : s.judge (posted s kind r).kind.toNat (posted s kind r).body.toNat ((posted s kind r).reserved != 0) false = none := hjudge
  rw [State.staysBehind, hj]
  rfl

/-- A state with another Hopper table. -/
def withTable (s : State) (h : SMap Slot) : State := { s with hopper := h }

theorem num_withTable (s : State) (h : SMap Slot) (k : Nat) : (withTable s h).num k = s.num k := rfl

theorem canonical_withTable {s : State} (hs : Canonical s) (h : SMap Slot) : Canonical (withTable s h) := hs

theorem numbered_frame (s : State) (h : SMap Slot) (k v : Nat) :
    (withTable s h).setNum k v = { s with hopper := h, nums := ((withTable s h).setNum k v).nums } := rfl

section
variable (s : State) (kind : Nat) (r : RecordIn)

/-- The table of a state whose slot of the next ticket reads 0x02. -/
def tableTaken : SMap Slot := SMap.set {} s.hopper ((s.num 0x201004 - 1) % 4096) { posted s kind r with state := 2 }

theorem taken_eq : taken s kind r = (withTable s (tableTaken s kind r)).setNum 0x201004 (s.num 0x201004 + 1) := rfl

theorem num_taken {k : Nat} (h : 0x201004 ≠ k) : (taken s kind r).num k = s.num k := by
  rw [taken_eq, State.num_setNum_other _ _ h, num_withTable]

theorem taken_next {s : State} (hs : Canonical s) : (taken s kind r).num 0x201004 = s.num 0x201004 + 1 := by
  rw [taken_eq, State.num_setNum_same (canonical_withTable hs _)]

theorem canonical_taken {s : State} (hs : Canonical s) : Canonical (taken s kind r) := by
  rw [taken_eq]
  exact State.canonical_setNum (canonical_withTable hs _) _ _

theorem taken_frame : taken s kind r = { s with hopper := tableTaken s kind r, nums := (taken s kind r).nums } := by
  rw [taken_eq]
  exact numbered_frame _ _ _ _

theorem taken_job : (taken s kind r).job = s.job := by rw [taken_frame]

theorem taken_held : (taken s kind r).held = s.held := by rw [State.held, State.held, num_taken _ _ _ (by decide)]

theorem taken_kindAccepted (k : Nat) : (taken s kind r).kindAccepted k false = s.kindAccepted k false := rfl

theorem taken_intakeOk (k body : Nat) : (taken s kind r).intakeOk k body = s.intakeOk k body := by
  have hoffset : (taken s kind r).offsetOk = s.offsetOk := by
    funext offs x
    unfold State.offsetOk
    rw [num_taken _ _ _ (by decide)]
  rw [State.intakeOk, State.intakeOk, hoffset]
  rfl

/-- The slot of the ticket that is taken. -/
theorem taken_slot {s : State} (hpos : 0 < s.num 0x201004) (hlt : s.num 0x201004 < 2 ^ 64 - 1) :
    SMap.get {} (taken s kind r).hopper (slotOfTicket (BitVec.ofNat 64 (s.num 0x201004))) = { posted s kind r with state := 2 } := by
  have hticket : (BitVec.ofNat 64 (s.num 0x201004)).toNat = s.num 0x201004 := by
    rw [BitVec.toNat_ofNat, Nat.mod_eq_of_lt (by omega)]
  rw [slotOfTicket_of_toNat hticket hpos]
  exact get_set_slot _ _ (show (2 : BitVec 8) ≠ 0 by decide)

theorem taken_slot_other {s : State} (hpos : 0 < s.num 0x201004) (hlt : s.num 0x201004 < 2 ^ 64 - 1) {k : Nat}
    (hk : slotOfTicket (BitVec.ofNat 64 (s.num 0x201004)) ≠ k) :
    SMap.get ({} : Slot) (taken s kind r).hopper k = SMap.get {} s.hopper k := by
  have hticket : (BitVec.ofNat 64 (s.num 0x201004)).toNat = s.num 0x201004 := by
    rw [BitVec.toNat_ofNat, Nat.mod_eq_of_lt (by omega)]
  rw [slotOfTicket_of_toNat hticket hpos] at hk
  exact SMap.get_set_other _ _ s.hopper _ hk

end

theorem moveTo_cur (s : State) (cur tgt : DevState) : (s.moveTo cur tgt).ctl.cur = cur ∧ (s.moveTo cur tgt).ctl.tgt = tgt := by
  unfold State.moveTo
  split
  · next h =>
    obtain ⟨hcur, htgt⟩ := Bool.and_eq_true_iff.mp h
    exact ⟨of_decide_eq_true hcur, of_decide_eq_true htgt⟩
  · rw [raise_ctl_cur, raise_ctl_tgt]
    exact ⟨rfl, rfl⟩

/-- A device that comes to rest in a state and completes a record. -/
theorem restIn_complete (s : State) (d : DevState) (ticket : W64) {c : Completion} (h : c.status < 2 ^ 32) :
    ((s.restIn d).complete ticket c).ctl.cur = d ∧ ((s.restIn d).complete ticket c).ctl.tgt = d ∧
      ((s.restIn d).complete ticket c).job = s.job ∧ ((s.restIn d).complete ticket c).plots = s.plots ∧
      (∀ k, eventCause ≠ k → ((s.restIn d).complete ticket c).num k = s.num k) ∧
      (∀ k, slotOfTicket ticket ≠ k → SMap.get {} ((s.restIn d).complete ticket c).hopper k = SMap.get {} s.hopper k) ∧
      Completed ((s.restIn d).complete ticket c) ticket c.status := by
  obtain ⟨hcur, htgt⟩ := moveTo_cur s d d
  refine ⟨?_, ?_, ?_, ?_, fun k hk => ?_, fun k hk => ?_, completed_complete _ _ h⟩
  · rw [complete_cur]
    exact hcur
  · rw [State.complete, raise_ctl_tgt]
    exact htgt
  · rw [complete_frame, restIn_eq_moveTo, moveTo_job]
  · rw [complete_frame, restIn_eq_moveTo, moveTo_plots]
  · rw [num_complete _ _ _ hk, restIn_eq_moveTo, State.num_moveTo_other _ _ _ hk]
  · rw [complete_slot_other _ _ _ hk, restIn_eq_moveTo, moveTo_hopper]

/-! ### Load and Start (R163, R166) -/

/-- A device whose save holder has discarded what it held (R367). -/
def noneHeld (s : State) : State := { s with host := { s.host with held := [] } }

theorem noneHeld_eq {s t : State} (h : t.host = s.host) : noneHeld t = { t with host := { s.host with held := [] } } := by rw [noneHeld, h]

theorem taken_host (s : State) (kind : Nat) (r : RecordIn) : (taken s kind r).host = s.host := by rw [taken_frame]

/-- A state whose load is accepted, before its record completes. -/
def loadAccepted (v : State) : State := v.setNum 0x204001 0

theorem takeLoad_accepted {s v : State} {b : Binary} {body : Nat} (hb : (noneHeld s).binaryAt (bitsOf 63 0 body) (bitsOf 127 64 body) = some b)
    (hcheck : (noneHeld s).loadCheck b = none)
    (hload : (noneHeld s).loadContents b (bitsOf 199 192 body) (bitsOf 191 128 body) = .ok v) (ticket : W64) :
    s.takeLoad ticket body = ((loadAccepted v).restIn .sown).complete ticket {} := by
  rw [State.takeLoad]
  rw [← noneHeld, hb]
  dsimp only
  rw [hcheck]
  dsimp only
  rw [hload, loadAccepted]

theorem recordWaits_of_kind {s : State} {kind : Nat} (h3 : kind ≠ 3) (h4 : kind ≠ 4) : s.recordWaits kind = false := by
  rw [State.recordWaits]
  cases s.job with
  | none => rfl
  | some j => simp [h3, h4]

theorem loadRecord_nil (r : RecordIn) (s : State) : loadRecord r [] s = s.takeDirect 1 r := rfl

theorem loadTaken {s : State} {r : RecordIn} (hsw : s.sweeps = true) (htilled : s.ctl.cur = .tilled) (hbody : s.bodyMalformed 1 r.body.toNat = false) :
    loadRecord r [] s = (taken s 1 r).takeLoad (BitVec.ofNat 64 (s.num 0x201004)) r.body.toNat := by
  have hjudge : ∀ u : State, u.ctl.cur = .tilled → u.judge 1 r.body.toNat false false = none := fun u hu =>
    judge_none (by decide) (by decide) (by simp [State.kindAccepted, hu]) (.inr (by decide)) hbody
  have htaken : (taken s 1 r).ctl.cur = .tilled := by rw [taken_frame]; exact htilled
  have hstay : s.staysBehind (posted s 1 r) false = false :=
    (staysBehind_of_judge (kind := 1) (hjudge s htilled)).trans (recordWaits_of_kind (by decide) (by decide))
  rw [loadRecord_nil, takeDirect_eq hsw hstay, takeRecord_acts (kind := 1) (hjudge _ htaken)]
  rfl

/-- The state after an accepted Start, before the device comes to rest. -/
def startRun (s : State) : State :=
  (({ (s.mapJob fun j => { j with
      running := true, lastRelease := s.cycle, firstStep := s.num 0x205001, attempt := {}, ahead := {} }).mapPlots fun pl =>
        { pl with stopped := false } with
    records := { s.records with current := {} } } : State).mapSeasons fun x => { x with nextBoundary := s.num 0x205001 + s.num 0x500004 }).beginEpoch

theorem takeStart_runs {s : State} {j : Job} (hj : s.job = some j) (hcap : j.binary.yokePeak ≤ s.num 0x700001) (ticket : W64) :
    s.takeStart ticket true = ((startRun s).restIn .growing).complete ticket {} := by
  rw [State.takeStart, hj]
  dsimp only
  rw [if_neg (by omega), if_neg (by decide)]
  rfl

theorem startRun_frame (s : State) : startRun s = { s with
    job := (startRun s).job, plots := (startRun s).plots, records := (startRun s).records, seasons := (startRun s).seasons
    fabric := (startRun s).fabric } := rfl

theorem startRun_job {s : State} {j : Job} (hj : s.job = some j) : ((startRun s).job.map (·.running)) = some true := by
  have h : (startRun s).job = s.job.map fun j => { j with
      running := true, lastRelease := s.cycle, firstStep := s.num 0x205001, attempt := {}, ahead := {} } := rfl
  rw [h, hj]
  rfl

theorem startRun_plots (s : State) : ∀ pl ∈ (startRun s).plots, pl.stopped = false := by
  intro pl hpl
  obtain ⟨q, -, rfl⟩ := List.mem_map.mp (show pl ∈ s.plots.map fun q => ({ q with stopped := false } : Plot) from hpl)
  rfl

theorem startTaken {s : State} {r : RecordIn} {j : Job} (hsw : s.sweeps = true) (hj : s.job = some j) (hsown : s.ctl.cur = .sown)
    (hbody : r.body.toNat = 0) (hcap : j.binary.yokePeak ≤ s.num 0x700001) :
    s.takeDirect 2 r true = ((startRun (taken s 2 r)).restIn .growing).complete (BitVec.ofNat 64 (s.num 0x201004)) {} := by
  have hjudge : ∀ u : State, u.ctl.cur = .sown → u.judge 2 r.body.toNat false false = none := fun u hu =>
    judge_none (by decide) (by decide) (by simp [State.kindAccepted, hu]) (.inr (by decide)) (by simp [State.bodyMalformed, hbody])
  have htaken : (taken s 2 r).ctl.cur = .sown := by rw [taken_frame]; exact hsown
  have hstay : s.staysBehind (posted s 2 r) false = false :=
    (staysBehind_of_judge (kind := 2) (hjudge s hsown)).trans (recordWaits_of_kind (by decide) (by decide))
  have hcap' : j.binary.yokePeak ≤ (taken s 2 r).num 0x700001 := by rwa [num_taken _ _ _ (by decide)]
  rw [takeDirect_eq hsw hstay, takeRecord_acts (kind := 2) (hjudge _ htaken)]
  exact takeStart_runs ((taken_job s 2 r).trans hj) hcap' _

/-! ### Steps, batches and evaluations (R176, R203, R336) -/

theorem judge_intake {s : State} {kind body : Nat} (hkind : kind = 3 ∨ kind = 4 ∨ kind = 5) (hacc : s.kindAccepted kind false = true)
    (hheld : s.held = false) (hok : s.intakeOk kind body = true) : s.judge kind body false false = none := by
  refine judge_none (by omega) (by omega) hacc (.inl hheld) ?_
  rcases hkind with rfl | rfl | rfl <;> simp [State.bodyMalformed, hok]

theorem judge_intake_taken {s : State} {kind body : Nat} (hkind : kind = 3 ∨ kind = 4 ∨ kind = 5) (hacc : s.kindAccepted kind false = true)
    (hheld : s.held = false) (hok : s.intakeOk kind body = true) (k : Nat) (r : RecordIn) : (taken s k r).judge kind body false false = none :=
  judge_intake hkind ((taken_kindAccepted s k r kind).trans hacc) ((taken_held s k r).trans hheld) ((taken_intakeOk s k r kind body).trans hok)

theorem assignStep_eq {s : State} {j : Job} (hj : s.job = some j) (hroom : s.num 0x205001 + 1 + j.assigned.length < 2 ^ 64) (it : Intake) :
    s.assignStep it = ((s.mapJob fun j => { j with assigned := j.assigned ++ [it] }).bump 0x205004).writeIntake := by
  rw [State.assignStep, hj]
  dsimp only
  rw [if_neg (by omega)]

/-- A bumped entry of 64 bits. -/
theorem num_bump_wide {s : State} (hs : Canonical s) {k : Nat} (hk : widthOf k = 64) : (s.bump k).num k = min (s.num k + 1) (2 ^ 64 - 1) := by
  rw [State.num_bump_same hs, hk, stick]

/-- What follows a job's new record in its table (R176, R336): the job's change, the count and the intake tiles. -/
theorem admitted {s : State} {j : Job} (hs : Canonical s) (hj : s.job = some j) (f : Job → Job) :
    ∃ t, ((s.mapJob f).bump 0x205004).writeIntake = t ∧ t.job = some (f j) ∧ t.num 0x205004 = min (s.num 0x205004 + 1) (2 ^ 64 - 1) ∧
      (∀ k, 0x205004 ≠ k → t.num k = s.num k) ∧ t = { s with nums := t.nums, job := t.job, plots := t.plots } := by
  have hsm : Canonical (s.mapJob f) := hs
  have hjob : ((s.mapJob f).bump 0x205004).job = some (f j) := by
    change s.job.map f = _
    rw [hj]
    rfl
  refine ⟨_, writeIntake_eq hjob, hjob, ?_, fun k hk => ?_, rfl⟩
  · exact num_bump_wide hsm (by decide +kernel)
  · exact State.num_bump_other _ _ hk

/-- Without a drill, the copies settle in their own entries alone (R337). -/
theorem settleCopy_nums {s : State} (h : s.tiers.drills = []) {c : Nat} (hc : c ≤ 1) :
    s.settleCopy c = { s with nums := (s.settleCopy c).nums } ∧ ∀ k, k ∉ [0x206002, 0x206003, 0x206004, 0x206005] → (s.settleCopy c).num k = s.num k := by
  have hheld : ∀ k, k ∉ [0x206002, 0x206003, 0x206004, 0x206005] → (s.setNum (0x206004 + c) (s.copyHolders c)).num k = s.num k := fun k hk =>
    State.num_setNum_other _ _ (by simp only [List.mem_cons, List.not_mem_nil, or_false, not_or] at hk; omega)
  have hnone : (s.setNum (0x206004 + c) (s.copyHolders c)).queuedDrill c = none := by
    rw [State.queuedDrill, show (s.setNum (0x206004 + c) (s.copyHolders c)).tiers = s.tiers from rfl, h]
    rfl
  rw [State.settleCopy]
  dsimp only
  rw [hnone]
  split
  · refine ⟨rfl, fun k hk => ?_⟩
    rw [State.num_setNum_other, hheld k hk]
    simp only [List.mem_cons, List.not_mem_nil, or_false, not_or] at hk
    unfold copyKey
    omega
  · exact ⟨rfl, hheld⟩

theorem settleCopies_nums {s : State} (h : s.tiers.drills = []) :
    s.settleCopies = { s with nums := s.settleCopies.nums } ∧ ∀ k, k ∉ [0x206002, 0x206003, 0x206004, 0x206005] → s.settleCopies.num k = s.num k := by
  obtain ⟨hframe, hnum⟩ := settleCopy_nums h (c := 0) (by decide)
  have hdrills : (s.settleCopy 0).tiers.drills = [] := by rw [hframe]; exact h
  obtain ⟨hframe', hnum'⟩ := settleCopy_nums hdrills (c := 1) (by decide)
  unfold State.settleCopies
  split
  · refine ⟨?_, fun k hk => (hnum' k hk).trans (hnum k hk)⟩
    rw [hframe', hframe]
  · exact ⟨rfl, fun _ _ => rfl⟩

theorem admittedBatch {s : State} {j : Job} (hs : Canonical s) (hj : s.job = some j) (hdrills : s.tiers.drills = []) (f : Job → Job) :
    ∃ t, (((s.mapJob f).bump 0x205004).settleCopies).writeIntake = t ∧ t.job = some (f j) ∧
      t.num 0x205004 = min (s.num 0x205004 + 1) (2 ^ 64 - 1) ∧ t = { s with nums := t.nums, job := t.job, plots := t.plots } := by
  obtain ⟨hframe, hnum⟩ := settleCopies_nums (s := (s.mapJob f).bump 0x205004) hdrills
  have hjob : (((s.mapJob f).bump 0x205004).settleCopies).job = some (f j) := by
    rw [hframe]
    change s.job.map f = _
    rw [hj]
    rfl
  have hcount : ((s.mapJob f).bump 0x205004).num 0x205004 = min (s.num 0x205004 + 1) (2 ^ 64 - 1) :=
    num_bump_wide (s := s.mapJob f) hs (by decide +kernel)
  refine ⟨_, writeIntake_eq hjob, hjob, (hnum _ (by decide)).trans hcount, ?_⟩
  rw [withIntakes_frame, hframe]
  rfl

theorem admittedTaken_frame {s u t : State} {h : SMap Slot} (hu : u = { s with hopper := h, nums := u.nums })
    (ht : t = { u with nums := t.nums, job := t.job, plots := t.plots }) :
    t.hopper = h ∧ t = { s with hopper := t.hopper, nums := t.nums, job := t.job, plots := t.plots } := by
  rw [ht, hu]
  exact ⟨rfl, rfl⟩

theorem recordWaits_step {s : State} {j : Job} (hj : s.job = some j) : s.recordWaits 3 = decide (2 ≤ j.assigned.length) := by
  rw [State.recordWaits, hj]
  simp

theorem recordWaits_batch {s : State} {j : Job} (hj : s.job = some j) : s.recordWaits 4 = decide (4 ≤ j.batches.length) := by
  rw [State.recordWaits, hj]
  simp

theorem serving_of {s : State} {j : Job} (hj : s.job = some j) : s.serving = j.binary.serving := by
  rw [State.serving, hj]
  rfl

section
variable {s : State} {r : RecordIn} {j : Job} (hs : Canonical s) (hpos : 0 < s.num 0x201004) (hlt : s.num 0x201004 < 2 ^ 64 - 1)
  (hsw : s.sweeps = true) (hj : s.job = some j) (hgrow : s.ctl.cur = .growing) (hheld : s.held = false)

include hsw hj hgrow hheld in
theorem stepTaken (hserving : j.binary.serving = false) (hok : s.intakeOk 3 r.body.toNat = true) (hroom : j.assigned.length < 2) :
    stepRecord r s = (taken s 3 r).assignStep (intakeOf (BitVec.ofNat 64 (s.num 0x201004)) r.userTag r.body.toNat) := by
  have hacc : s.kindAccepted 3 false = true := by simp [State.kindAccepted, hgrow, serving_of hj, hserving]
  have hstay : s.staysBehind (posted s 3 r) false = false := by
    rw [staysBehind_of_judge (kind := 3) (judge_intake (.inl rfl) hacc hheld hok)]
    exact (recordWaits_step hj).trans (decide_eq_false (by omega))
  rw [stepRecord, takeDirect_eq hsw hstay, takeRecord_acts (kind := 3) (judge_intake_taken (.inl rfl) hacc hheld hok 3 r)]
  rfl

include hsw hj hgrow hheld in
theorem batchTaken (hserving : j.binary.serving = true) (hok : s.intakeOk 4 r.body.toNat = true) (hroom : j.batches.length < 4) :
    batchRecord r s = (taken s 4 r).admitBatch (intakeOf (BitVec.ofNat 64 (s.num 0x201004)) r.userTag r.body.toNat) := by
  have hacc : s.kindAccepted 4 false = true := by simp [State.kindAccepted, hgrow, serving_of hj, hserving]
  have hstay : s.staysBehind (posted s 4 r) false = false := by
    rw [staysBehind_of_judge (kind := 4) (judge_intake (.inr (.inl rfl)) hacc hheld hok)]
    exact (recordWaits_batch hj).trans (decide_eq_false (by omega))
  rw [batchRecord, takeDirect_eq hsw hstay, takeRecord_acts (kind := 4) (judge_intake_taken (.inr (.inl rfl)) hacc hheld hok 4 r)]
  rfl

include hsw hj hgrow hheld in
theorem evaluationTaken (hserving : j.binary.serving = false) (hok : s.intakeOk 5 r.body.toNat = true) :
    evaluationRecord r s = (taken s 5 r).admitEvaluation (intakeOf (BitVec.ofNat 64 (s.num 0x201004)) r.userTag r.body.toNat) := by
  have hacc : s.kindAccepted 5 false = true := by simp [State.kindAccepted, hgrow, serving_of hj, hserving]
  have hstay : s.staysBehind (posted s 5 r) false = false := by
    rw [staysBehind_of_judge (kind := 5) (judge_intake (.inr (.inr rfl)) hacc hheld hok)]
    exact recordWaits_of_kind (by decide) (by decide)
  rw [evaluationRecord, takeDirect_eq hsw hstay, takeRecord_acts (kind := 5) (judge_intake_taken (.inr (.inr rfl)) hacc hheld hok 5 r)]
  rfl

include hsw hj hgrow hheld in
/-- A third step record waits in the table (R176, R398). -/
theorem stepWaits (hserving : j.binary.serving = false) (hok : s.intakeOk 3 r.body.toNat = true) (hfull : 2 ≤ j.assigned.length) :
    stepRecord r s = { s with hopper := SMap.set {} s.hopper ((s.num 0x201004 - 1) % 4096) (posted s 3 r) } := by
  have hacc : s.kindAccepted 3 false = true := by simp [State.kindAccepted, hgrow, serving_of hj, hserving]
  have hstay : s.staysBehind (posted s 3 r) false = true := by
    rw [staysBehind_of_judge (kind := 3) (judge_intake (.inl rfl) hacc hheld hok)]
    exact (recordWaits_step hj).trans (decide_eq_true hfull)
  rw [stepRecord, takeDirect_stays hsw hstay]

end

theorem assignStep_full {s : State} {j : Job} (hj : s.job = some j) (hfull : 2 ^ 64 ≤ s.num 0x205001 + 1 + j.assigned.length) (it : Intake) :
    s.assignStep it = s.complete it.ticket { status := 0x00620003 } := by
  rw [State.assignStep, hj]
  dsimp only
  rw [if_pos hfull]

theorem admitEvaluation_eq {s : State} {j : Job} (hj : s.job = some j) (hroom : j.evalSeq + j.evalQueue.length + j.evalPending.length < 2 ^ 32 - 1)
    (it : Intake) : ∃ t, s.admitEvaluation it = t ∧ t.job = some { j with evalPending := j.evalPending ++ [it] } ∧ t = { s with job := t.job } := by
  refine ⟨s.mapJob fun j => { j with evalPending := j.evalPending ++ [it] }, ?_, ?_, rfl⟩
  · rw [State.admitEvaluation, hj]
    dsimp only
    rw [if_neg (by omega)]
  · rw [State.mapJob, hj]
    rfl

theorem queuedTaken_frame {s u t : State} {h : SMap Slot} (hu : u = { s with hopper := h, nums := u.nums })
    (ht : t = { u with job := t.job }) : t.hopper = h ∧ t = { s with hopper := t.hopper, nums := t.nums, job := t.job } := by
  rw [ht, hu]
  exact ⟨rfl, rfl⟩

/-- Settles O39: the record taken from its slot, then what its kind does. -/
theorem recordsOfAJob : Obligations.RecordsOfAJob := by
  intro r s hs hmay body ticket it u
  obtain ⟨hsw, hpos, hlt⟩ := hmay
  refine ⟨fun b v htilled hbody hb hcheck hload => ?_, fun j hj hsown hbody hcap hnone => ?_, fun j hj hgrow hserving hheld hok =>
    ⟨fun hroom hstep => ?_, fun hfull => ?_, fun hlast hroom => ?_⟩, fun j hj hgrow hserving hheld hok hroom hdrills => ?_,
    fun j hj hgrow hserving hheld hok hroom => ?_⟩
  · have hexec : exec (.load r []) s = .next (loadRecord r [] s) := rfl
    have hu : noneHeld (taken s 1 r) = u := noneHeld_eq (taken_host s 1 r)
    have hload := (loadTaken hsw htilled hbody).trans (takeLoad_accepted (v := v) (by rw [hu]; exact hb) (by rw [hu]; exact hcheck)
      (by rw [hu]; exact hload) ticket)
    obtain ⟨hcur, htgt, hjob, hplots, hnum, -, hdone⟩ := restIn_complete (loadAccepted v) .sown ticket (c := {}) (by decide)
    refine ⟨_, hexec.trans (congrArg _ hload), hcur, htgt, hjob, hplots, fun hv => ?_, hdone⟩
    rw [hnum _ (by decide), loadAccepted, State.num_setNum_same hv]
  · have hexec : exec (.start r true) s = .next (startRecord r true s) := rfl
    obtain ⟨hcur, htgt, hjob, hplots, hnum, hslots, hdone⟩ := restIn_complete (startRun (taken s 2 r)) .growing ticket (c := {}) (by decide)
    have hstart := startTaken (r := r) hsw hj hsown hbody hcap
    refine ⟨_, ?_, hcur, htgt, ?_, ?_, hdone, ?_⟩
    · rw [hexec, startRecord, hstart, hcur, hsown]
      refine congrArg _ ((if_pos rfl).trans (sweep_of_none_posted fun k => ?_))
      by_cases hk : slotOfTicket ticket = k
      · rw [← hk, hdone.1]
        decide
      · rw [hslots k hk, startRun_frame]
        change (SMap.get ({} : Slot) (taken s 2 r).hopper k).state ≠ 1
        rw [taken_slot_other 2 r hpos hlt hk]
        exact hnone k
    · rw [hjob]
      exact startRun_job ((taken_job s 2 r).trans hj)
    · rw [hplots]
      exact startRun_plots _
    · rw [hnum _ (by decide), ← taken_next 2 r hs, startRun_frame]
      rfl
  · have hexec : exec (.step r) s = .next (stepRecord r s) := rfl
    obtain ⟨t, ht, hjob, hcount, hnum, hframe⟩ := admitted (canonical_taken 3 r hs) ((taken_job s 3 r).trans hj)
      fun j => { j with assigned := j.assigned ++ [it] }
    obtain ⟨hhopper, hframe⟩ := admittedTaken_frame (taken_frame s 3 r) hframe
    refine ⟨t, ?_, by rw [hjob]; rfl, ?_, ?_, ?_, hframe⟩
    · rw [hexec, stepTaken hsw hj hgrow hheld hserving hok hroom, assignStep_eq ((taken_job s 3 r).trans hj)
        (by rwa [num_taken _ _ _ (by decide)]), ht]
    · rw [hcount, num_taken _ _ _ (by decide)]
    · rw [hnum _ (by decide), taken_next 3 r hs]
    · rw [hhopper]
      exact congrArg Slot.state (taken_slot 3 r hpos hlt)
  · have hexec : exec (.step r) s = .next (stepRecord r s) := rfl
    rw [hexec, stepWaits hsw hj hgrow hheld hserving hok hfull]
  · have hexec : exec (.step r) s = .next (stepRecord r s) := rfl
    refine ⟨_, ?_, completed_complete (taken s 3 r) ticket (c := { status := 0x00620003 }) (by decide), ?_⟩
    · rw [hexec, stepTaken hsw hj hgrow hheld hserving hok hroom, assignStep_full ((taken_job s 3 r).trans hj)
        (by rwa [num_taken _ _ _ (by decide)])]
      rfl
    · rw [complete_frame]
      exact taken_job s 3 r
  · have hexec : exec (.batch r) s = .next (batchRecord r s) := rfl
    obtain ⟨t, ht, hjob, hcount, hframe⟩ := admittedBatch (canonical_taken 4 r hs) ((taken_job s 4 r).trans hj)
      (show (taken s 4 r).tiers.drills = [] by rw [taken_frame]; exact hdrills)
      fun j => { j with batches := j.batches ++ [{ intake := it, copy := (taken s 4 r).num 0x206001 }] }
    obtain ⟨hhopper, hframe⟩ := admittedTaken_frame (taken_frame s 4 r) hframe
    refine ⟨t, ?_, ?_, ?_, ?_, hframe⟩
    · rw [hexec, batchTaken hsw hj hgrow hheld hserving hok hroom]
      exact congrArg _ ht
    · rw [hjob, num_taken _ _ _ (by decide)]
      rfl
    · rw [hcount, num_taken _ _ _ (by decide)]
    · rw [hhopper]
      exact congrArg Slot.state (taken_slot 4 r hpos hlt)
  · have hexec : exec (.evaluation r) s = .next (evaluationRecord r s) := rfl
    obtain ⟨t, ht, hjob, hframe⟩ := admitEvaluation_eq ((taken_job s 5 r).trans hj) hroom it
    obtain ⟨hhopper, hframe⟩ := queuedTaken_frame (taken_frame s 5 r) hframe
    refine ⟨t, ?_, by rw [hjob]; rfl, ?_, hframe⟩
    · rw [hexec, evaluationTaken hsw hj hgrow hheld hserving hok]
      exact congrArg _ ht
    · rw [hhopper]
      exact congrArg Slot.state (taken_slot 5 r hpos hlt)

end Sys2Proof.Proofs

/-! ## What sending leaves as it is (R240, R289 to R295) -/

namespace Sys2Proof.Proofs

open Sys2Proof Machine

/-- What a sending on the Acre ports or on the fabric touches: the transport, the ports, what has left, the free values drawn and the
counter of dropped frames. -/
structure Spreads (s t : State) : Prop where
  frame : t = { s with acre := t.acre, outbox := t.outbox, freeCount := t.freeCount, fabric := t.fabric, nums := t.nums }
  free : s.freeCount ≤ t.freeCount
  outbox : s.outbox ⊆ t.outbox
  num : ∀ k, 0x404008 ≠ k → t.num k = s.num k

namespace Spreads

variable {s t u : State}

theorem refl (s : State) : Spreads s s := ⟨rfl, Nat.le_refl _, List.Subset.refl _, fun _ _ => rfl⟩

theorem trans (h : Spreads s t) (h' : Spreads t u) : Spreads s u := by
  refine ⟨?_, Nat.le_trans h.free h'.free, List.Subset.trans h.outbox h'.outbox, fun k hk => (h'.num k hk).trans (h.num k hk)⟩
  rw [h'.frame, h.frame]

theorem ite {p : Prop} [Decidable p] (ht : Spreads s t) (hu : Spreads s u) : Spreads s (if p then t else u) := by
  split
  · exact ht
  · exact hu

theorem foldl {α : Type} {f : State → α → State} (hf : ∀ t a, Spreads s t → Spreads s (f t a)) {l : List α} (h : Spreads s t) :
    Spreads s (l.foldl f t) := by
  induction l generalizing t with
  | nil => exact h
  | cons a l ih => exact ih (hf t a h)

theorem withAcre (h : Spreads s t) {a : Acre} : Spreads s { t with acre := a } :=
  h.trans ⟨rfl, Nat.le_refl _, List.Subset.refl _, fun _ _ => rfl⟩

theorem mapFabric (h : Spreads s t) {f : Fabric → Fabric} : Spreads s (t.mapFabric f) :=
  h.trans ⟨rfl, Nat.le_refl _, List.Subset.refl _, fun _ _ => rfl⟩

theorem mapPort (h : Spreads s t) {n : Nat} {f : Port → Port} : Spreads s (t.mapPort n f) :=
  h.trans ⟨rfl, Nat.le_refl _, List.Subset.refl _, fun _ _ => rfl⟩

theorem send (h : Spreads s t) {m : OutMsg} : Spreads s (t.send m) :=
  h.trans ⟨rfl, Nat.le_refl _, List.subset_append_left _ _, fun _ _ => rfl⟩

theorem useFree (h : Spreads s t) : Spreads s t.useFree :=
  h.trans ⟨rfl, Nat.le_succ _, List.Subset.refl _, fun _ _ => rfl⟩

theorem bumpDropped (h : Spreads s t) : Spreads s (t.bump 0x404008) :=
  h.trans ⟨rfl, Nat.le_refl _, List.Subset.refl _, fun _ hk => State.num_bump_other _ _ hk⟩

theorem mapSession (h : Spreads s t) {i : Nat} {f : Session → Session} : Spreads s (t.mapSession i f) := h.withAcre

theorem beginAgreement (h : Spreads s t) {team endpoint : Nat} : Spreads s (t.beginAgreement team endpoint) := by
  unfold State.beginAgreement
  split
  · exact h
  · exact .ite h h.useFree.withAcre.send

theorem moveEpoch (h : Spreads s t) {i : Nat} : Spreads s (t.moveEpoch i) := .ite h.mapSession.beginAgreement h.mapSession

theorem sendAcre (h : Spreads s t) {i : Nat} {x : AcreHeader} {bytes : List Byte} : Spreads s (t.sendAcre i x bytes) := by
  unfold State.sendAcre
  dsimp only
  split
  · exact h
  · exact .ite h (.ite h.send.mapSession.moveEpoch h.send.mapSession)

theorem sendChunk (h : Spreads s t) {i : Nat} {x : SentStripe} {j : Nat} : Spreads s (t.sendChunk i x j) := h.sendAcre

theorem paceChunk (h : Spreads s t) {i : Nat} {c : HeldChunk} : Spreads s (t.paceChunk i c) := by
  unfold State.paceChunk
  dsimp only
  split
  · exact h
  · exact .ite h.withAcre h.sendChunk.withAcre

theorem pace (h : Spreads s t) {i : Nat} : Spreads s (t.pace i) := .ite h (h.withAcre.foldl fun _ _ hu => hu.paceChunk)

theorem sendStripe (h : Spreads s t) {i : Nat} {x : SentStripe} : Spreads s (t.sendStripe i x) := h.withAcre.pace

theorem sendObject (h : Spreads s t) {i type : Nat} {id : W64} {bytes : List Byte} : Spreads s (t.sendObject i type id bytes) :=
  h.foldl fun _ _ hu => hu.sendStripe

theorem flush (h : Spreads s t) : Spreads s t.flush := by
  refine .ite h (.foldl (fun u o hu => ?_) h.withAcre)
  split
  · exact .ite hu.sendAcre hu.sendObject
  · exact hu.withAcre.beginAgreement

theorem sendTo (h : Spreads s t) {team endpoint type : Nat} {id : W64} {bytes : List Byte} :
    Spreads s (t.sendTo team endpoint type id bytes) := h.withAcre.flush

theorem sendToTeams (h : Spreads s t) {chooser type : Nat} {id : W64} {bytes : List Byte} :
    Spreads s (t.sendToTeams chooser type id bytes) := h.foldl fun _ _ hu => hu.sendTo

theorem sendBest (h : Spreads s t) {dest : Nat} {c : BestEffort} : Spreads s (t.sendBest dest c) := by
  unfold State.sendBest State.routeBest
  split
  · exact h.mapPort
  · exact h.bumpDropped

theorem job (h : Spreads s t) : t.job = s.job := by rw [h.frame]

theorem seasons (h : Spreads s t) : t.seasons = s.seasons := by rw [h.frame]

theorem host (h : Spreads s t) : t.host = s.host := by rw [h.frame]

end Spreads

/-! ### Best-effort frames alone (R240) -/

theorem routeBest_frame (s : State) (f : BeFrame) : s.routeBest f = { s with fabric := (s.routeBest f).fabric, nums := (s.routeBest f).nums } := by
  unfold State.routeBest
  split <;> rfl

theorem sendBest_frame (s : State) (dest : Nat) (c : BestEffort) :
    s.sendBest dest c = { s with fabric := (s.sendBest dest c).fabric, nums := (s.sendBest dest c).nums } := routeBest_frame s _

theorem foldl_sendBest_frame {α : Type} (l : List α) (g : α → Nat) (c : State → α → BestEffort) (s : State) :
    l.foldl (fun s a => s.sendBest (g a) (c s a)) s = { s with
      fabric := (l.foldl (fun s a => s.sendBest (g a) (c s a)) s).fabric, nums := (l.foldl (fun s a => s.sendBest (g a) (c s a)) s).nums } := by
  induction l generalizing s with
  | nil => rfl
  | cons a l ih =>
    rw [List.foldl_cons, ih, sendBest_frame]

/-- A device alone has no other to tell. -/
theorem others_alone {s : State} (h : s.formed = false) : s.others = [] := by
  rw [State.others, h]
  rfl

/-! ## Rosters published (R309, R314) -/

/-- What the handling of a roster leaves: the job, which rosters were published, what has left, and every roster held. -/
structure KeepsRosters (s t : State) : Prop where
  job : t.job = s.job
  published : t.seasons.published = s.seasons.published
  outbox : s.outbox ⊆ t.outbox
  rosters : s.seasons.rosters ⊆ t.seasons.rosters

namespace KeepsRosters

variable {s t u : State}

theorem refl (s : State) : KeepsRosters s s := ⟨rfl, rfl, List.Subset.refl _, List.Subset.refl _⟩

theorem trans (h : KeepsRosters s t) (h' : KeepsRosters t u) : KeepsRosters s u :=
  ⟨h'.job.trans h.job, h'.published.trans h.published, List.Subset.trans h.outbox h'.outbox, List.Subset.trans h.rosters h'.rosters⟩

theorem of_spreads (h : Spreads s t) : KeepsRosters s t := ⟨h.job, by rw [h.seasons], h.outbox, by rw [h.seasons]; exact List.Subset.refl _⟩

theorem ite {p : Prop} [Decidable p] (ht : KeepsRosters s t) (hu : KeepsRosters s u) : KeepsRosters s (if p then t else u) := by
  split
  · exact ht
  · exact hu

theorem mapSeasons (h : KeepsRosters s t) {f : Seasons → Seasons} (hf : (f t.seasons).published = t.seasons.published)
    (hr : t.seasons.rosters ⊆ (f t.seasons).rosters) : KeepsRosters s (t.mapSeasons f) := h.trans ⟨rfl, hf, List.Subset.refl _, hr⟩

theorem setNum (h : KeepsRosters s t) {k v : Nat} : KeepsRosters s (t.setNum k v) := h.trans ⟨rfl, rfl, List.Subset.refl _, List.Subset.refl _⟩

theorem askAnchor (h : KeepsRosters s t) : KeepsRosters s t.askAnchor := by
  unfold State.askAnchor
  split
  · exact h
  · exact (h.mapSeasons rfl (List.Subset.refl _)).trans (.of_spreads (Spreads.refl _).sendTo)

theorem checkFork (h : KeepsRosters s t) {r : Roster} : KeepsRosters s (t.checkFork r) := by
  have hd : KeepsRosters s (t.mapSeasons fun x => { x with anchorDigest := some (t.seasons.anchorDigest.getD t.digestAnchor) }) :=
    h.mapSeasons rfl (List.Subset.refl _)
  exact .ite h (.ite (.ite hd (hd.mapSeasons rfl (List.Subset.refl _)).setNum.askAnchor)
    (.ite hd (hd.setNum.mapSeasons rfl (List.Subset.refl _)).setNum.askAnchor))

theorem askBales (h : KeepsRosters s t) {r : Roster} : KeepsRosters s (t.askBales r) :=
  .ite (h.trans (.of_spreads ((Spreads.refl _).foldl fun _ _ hu => hu.send))) h

theorem takeRoster (h : KeepsRosters s t) {r : Roster} : KeepsRosters s (t.takeRoster r) :=
  .ite h (h.mapSeasons rfl (List.subset_append_left _ _)).checkFork.askBales

theorem spreadRoster (h : KeepsRosters s t) {r : Roster} : KeepsRosters s (t.spreadRoster r) :=
  h.takeRoster.trans (.of_spreads ((Spreads.refl _).foldl fun _ _ hu => hu.sendBest))

end KeepsRosters

theorem publish_published (s : State) (season index : Nat) :
    (s.publish season index).seasons.published = s.seasons.published ++ [season] ∧ (s.publish season index).job = s.job := by
  have hkeeps : ∀ (t : State) (r : Roster) (bytes : List Byte), KeepsRosters t ((t.spreadRoster r).sendToTeams season 4 (BitVec.ofNat 64 season) bytes) :=
    fun t r bytes => (KeepsRosters.refl t).spreadRoster.trans (.of_spreads (Spreads.refl _).sendToTeams)
  obtain ⟨hjob, hpublished, -, -⟩ := hkeeps (s.mapSeasons fun x => { x with
    published := x.published ++ [season]
    named := x.named ++ (s.rosterEntries season).map fun e => (e.team, e.baleSeason, e.late) }) _ _
  exact ⟨hpublished, hjob⟩

theorem has_eq_false {l : List Nat} {n : Nat} (h : n ∉ l) : has l n = false := by
  simp only [has, List.any_eq_false, beq_iff_eq]
  exact fun x hx he => h (he ▸ hx)

theorem rostersPublished : Claims.RostersPublished := by
  intro now s
  have hdeadline : exec (.seasonDeadline now) s = .next (seasonDeadline now s) := rfl
  have hsuccessor : exec (.successorPublish now) s = .next (successorPublish now s) := rfl
  refine ⟨fun hnone => ?_, fun i season hi hseason => ⟨fun hstay => ?_, ?_⟩, ?_⟩
  · rw [hdeadline, hsuccessor, seasonDeadline, successorPublish, hnone]
    exact ⟨rfl, rfl⟩
  · have hby : s.seasonBy now 0 = season := hseason.symm
    rw [hdeadline, seasonDeadline, hi]
    dsimp only
    rw [hby, if_neg]
    rcases hstay with h | h | h | h
    · simp [has, h]
    · simp [h]
    · simp [State.mayDecide, h]
    · simp [State.mayDecide, State.seasonsOn, h]
  · intro j hlead hj hon htime hwarden hne hnew
    have hby : s.seasonBy now 0 = season := hseason.symm
    have hfresh : has s.seasons.published season = false := has_eq_false hnew
    refine ⟨_, hdeadline, ?_⟩
    rw [seasonDeadline, hi]
    dsimp only
    rw [hby, if_pos (by simp [State.mayDecide, State.seasonsOn, hlead, hj, hon, htime, hwarden, hne, hfresh])]
    exact publish_published s season i
  · intro i j season hi hi0 hseason hlead hj hon htime hne hnew
    have hby : s.seasonBy now (i * s.num 0x50000C) = season := hseason.symm
    have hfresh : has s.seasons.published season = false := has_eq_false hnew
    refine ⟨fun hquiet => ⟨_, hsuccessor, ?_⟩, fun ⟨r, hr, hrs, hri⟩ => ?_⟩
    · have hheard : (s.seasons.rosters.any fun r => r.season == season && decide (r.successorIndex < i)) = false := by
        rw [List.any_eq_false]
        intro r hr
        have := hquiet r hr
        simp only [Bool.and_eq_true, beq_iff_eq, decide_eq_true_eq, not_and]
        intro hrs
        have := this hrs
        omega
      rw [successorPublish, hi]
      dsimp only
      rw [hby, hheard, if_pos (by simp [State.mayDecide, State.seasonsOn, hlead, hj, hon, htime, hne, hi0, hfresh])]
      exact publish_published s season i
    · have hheard : (s.seasons.rosters.any fun r => r.season == season && decide (r.successorIndex < i)) = true :=
        List.any_eq_true.mpr ⟨r, hr, by simp [hrs, hri]⟩
      rw [hsuccessor, successorPublish, hi]
      dsimp only
      rw [hby, hheard, if_neg (by simp)]

/-! ## The commit mode (R310, R316, R322) -/

/-- A device on which a mode is chosen, with its write cycle (R310). -/
def modeChosen (s : State) (x : SeasonTile) : State := s.mapSeasons fun y => { y with chosen := some x, writeAt := some (s.cycle + 1000) }

theorem fixMode_eq (s : State) (x : SeasonTile) : s.fixMode x =
    s.others.foldl (fun t r => t.sendBest r (.seasonTile x (s.cycle + 1000))) (modeChosen s x) := rfl

/-- A mode fixed: the season block, and what tells the other devices of it (R310). -/
theorem fixMode_fixed (s : State) (x : SeasonTile) :
    s.fixMode x = { s with seasons := { s.seasons with chosen := some x, writeAt := some (s.cycle + 1000) }
                           fabric := (s.fixMode x).fabric, nums := (s.fixMode x).nums } ∧
      (s.formed = false → s.fixMode x = { s with seasons := (s.fixMode x).seasons }) := by
  refine ⟨?_, fun halone => ?_⟩
  · rw [fixMode_eq, foldl_sendBest_frame _ (fun r => r) fun _ _ => .seasonTile x (s.cycle + 1000)]
    rfl
  · rw [fixMode_eq, others_alone halone]
    rfl

theorem allReady_iff (s : State) (season : Nat) (mode : CommitMode) : s.allReady season mode = true ↔
    ∀ r ∈ (if s.formed = true then List.range s.teamSize else [s.rank]), (r, season, mode) ∈ s.seasons.ready := by
  rw [State.allReady, List.all_eq_true]
  simp

theorem readyTile_timed {s : State} (htime : s.num 0x503002 ≠ 0) :
    s.readyTile = if s.joinAhead then s.joinTile else s.mergeTile := by
  rw [State.readyTile, if_neg (by simp [htime])]

theorem commitModes : Claims.CommitModes := by
  have hchoice : ∀ s, exec .commitModeChoice s = .next (commitModeChoice s) := fun _ => rfl
  have hexpiry : ∀ now s, exec (.rosterWaitExpiry now) s = .next (rosterWaitExpiry now s) := fun _ _ => rfl
  have hwrite : ∀ s, exec .seasonTileWrite s = .next (seasonTileWrite s) := fun _ => rfl
  refine ⟨fun now s hno => ?_, fun s hch => ⟨fun x hx => ?_, fun f htime hjoin hf hall => ?_, fun hnone => ?_, fun htime hcap => ?_,
    fun d htime hjoin hd hall => ?_, fun now hs htime hnone hnow => ⟨fun hcap => ?_, fun hcap => ?_⟩⟩, fun x c s hx hc => ?_, fun s hnone => ?_⟩
  · rw [hchoice, hexpiry, commitModeChoice, rosterWaitExpiry, hno]
    exact ⟨rfl, rfl⟩
  · refine ⟨_, hchoice s, ?_⟩
    rw [commitModeChoice, if_pos hch, hx]
    exact fixMode_fixed s x
  · rw [readyTile_timed htime, if_pos hjoin, State.joinTile, hf, Option.bind_some, if_pos ((allReady_iff s f .join).mpr hall)]
  · rw [hchoice, commitModeChoice, if_pos hch, hnone]
    rfl
  · rw [State.readyTile, if_pos (by simp [State.mayIsolate, htime, hcap])]
    rfl
  · rw [readyTile_timed htime, if_neg (by simp [hjoin]), State.mergeTile, hd, Option.bind_some,
      if_pos ((allReady_iff s (s.committed + 1) .merge).mpr hall)]
    rfl
  · have hwait : (!s.choosing || decide (s.num 0x503002 = 0) || decide (now < s.deadlineOf (s.committed + 1) + s.num 0x50000B)) = false := by
      have : ¬ now < s.deadlineOf (s.committed + 1) + s.num 0x50000B := Nat.not_lt.mpr hnow
      simp [hch, htime, this]
    refine ⟨_, hexpiry now s, ?_⟩
    rw [rosterWaitExpiry, hwait, if_neg Bool.false_ne_true, hnone]
    dsimp only
    rw [if_pos (by simp [State.mayIsolate, hcap])]
    exact fixMode_fixed s _
  · have hwait : (!s.choosing || decide (s.num 0x503002 = 0) || decide (now < s.deadlineOf (s.committed + 1) + s.num 0x50000B)) = false := by
      have : ¬ now < s.deadlineOf (s.committed + 1) + s.num 0x50000B := Nat.not_lt.mpr hnow
      simp [hch, htime, this]
    rw [hexpiry, rosterWaitExpiry, hwait, if_neg Bool.false_ne_true, hnone]
    dsimp only
    rw [if_neg (by simp [State.mayIsolate]; omega)]
  · rw [hwrite, seasonTileWrite, hx, hc]
    rfl
  · rw [hwrite, seasonTileWrite, hnone]
    split
    · next h => cases h
    · rfl

/-- Settles O57: what a publication keeps, and the modes by the readiness held. -/
theorem rostersAndModes : Obligations.RostersAndModes := ⟨rostersPublished, commitModes⟩

/-! ## Chunks of bales, rosters and anchors (R292, R293, R305, R307) -/

theorem find?_put_same {α : Type} (m : SMap α) (k : Nat) (v : α) : SMap.find? (SMap.put m k v) k = some v := by
  induction m with
  | nil => simp [SMap.put, SMap.find?]
  | cons e m ih =>
    obtain ⟨j, a⟩ := e
    rw [SMap.put]
    split
    · next h => rw [SMap.find?, if_neg (by omega), ih]
    · split
      · rw [SMap.find?, if_pos rfl]
      · rw [SMap.find?, if_pos rfl]

section
variable {s : State} {h : AcreHeader} {i : Nat} {bytes : List Byte}

/-- A chunk that is here already is dropped and counted (R294). -/
theorem takeChunk_here {x : Stripe} {c : List Byte} (hx : s.acre.stripes.find? (fun y => Stripe.named y h) = some x)
    (hc : SMap.find? x.chunks h.chunk = some c) : s.takeChunk i h bytes = (s.bump 0x504004, false) := by
  rw [State.takeChunk, hx, Option.getD_some]
  dsimp only
  rw [hc, if_pos Option.isSome_some]
  rfl

/-- The stripe that a datagram opens. -/
def openedStripe (h : AcreHeader) : Stripe :=
  { objectId := h.objectId, stripe := h.stripe, senderTeam := h.senderTeam.toNat, senderRank := h.senderRank.toNat, k := h.k, m := h.m }

theorem takeChunk_first (hx : s.acre.stripes.find? (fun y => Stripe.named y h) = none) (hk : 2 ≤ h.k) :
    s.takeChunk i h bytes = (s.putStripe h (Stripe.take (openedStripe h) h.chunk bytes), false) ∧
      (Stripe.take (openedStripe h) h.chunk bytes).decoded = false := by
  have hdecoded : (Stripe.take (openedStripe h) h.chunk bytes).decoded = false := by
    simp [Stripe.take, openedStripe, SMap.put]
    omega
  refine ⟨?_, hdecoded⟩
  rw [State.takeChunk, hx, Option.getD_none, ← openedStripe]
  dsimp only
  rw [if_neg (by simp [openedStripe, SMap.find?]), if_neg (by simp [openedStripe]), if_neg (by simp [hdecoded])]

theorem named_take (x : Stripe) (c : Nat) : Stripe.named (Stripe.take x c bytes) h = Stripe.named x h := rfl

theorem find_putStripe {y : Stripe} (hy : Stripe.named y h = true) :
    (s.putStripe h y).acre.stripes.find? (fun y => Stripe.named y h) = some y := by
  change ((s.acre.stripes.filter fun y => !Stripe.named y h) ++ [y]).find? _ = _
  rw [List.find?_append, List.find?_eq_none.mpr, Option.none_or]
  · exact List.find?_cons_of_pos (p := fun y => Stripe.named y h) hy
  intro x hx
  simpa using (List.mem_filter.mp hx).2

/-- A chunk with which its stripe is decoded: the stripe is put, and acknowledged (R293, R294). -/
theorem takeChunk_whole {u : State} (hu : s.takeChunk i h bytes = (u, true))
    (hsame : ∀ y ∈ s.acre.stripes, Stripe.named y h = true → y.k = h.k ∧ y.m = h.m) :
    ∃ v : State, u = v.sendAcre i { type := 2, objectId := h.objectId, stripe := h.stripe, k := h.k, m := h.m } [0] ∧
      v = { s with acre := { s.acre with stripes := v.acre.stripes }, nums := v.nums } ∧ ∀ k, 0x504005 ≠ k → v.num k = s.num k := by
  have hshape : ((s.acre.stripes.find? fun y => Stripe.named y h).getD (openedStripe h)).k = h.k ∧
      ((s.acre.stripes.find? fun y => Stripe.named y h).getD (openedStripe h)).m = h.m := by
    cases hfind : s.acre.stripes.find? fun y => Stripe.named y h with
    | none => exact ⟨rfl, rfl⟩
    | some x => exact hsame x (List.mem_of_find?_eq_some hfind) (List.find?_some (p := fun y => Stripe.named y h) hfind)
  rw [State.takeChunk, ← openedStripe] at hu
  generalize ((s.acre.stripes.find? fun y => Stripe.named y h).getD (openedStripe h)) = x at hshape hu
  obtain ⟨hk, hm⟩ := hshape
  have hk' : (Stripe.take x h.chunk bytes).k = h.k := hk
  have hm' : (Stripe.take x h.chunk bytes).m = h.m := hm
  dsimp only at hu
  rw [hk', hm'] at hu
  split at hu
  · exact absurd (congrArg Prod.snd hu) Bool.false_ne_true
  · split at hu
    · exact absurd (congrArg Prod.snd hu) Bool.false_ne_true
    · split at hu
      · refine ⟨_, (congrArg Prod.fst hu).symm, ?_⟩
        split
        · exact ⟨rfl, fun _ _ => rfl⟩
        · exact ⟨rfl, fun _ hk => State.num_bump_other _ _ hk⟩
      · exact absurd (congrArg Prod.snd hu) Bool.false_ne_true

end

/-- What a datagram's sending reads is the same where the sessions, the ports and the entries that it reads are. -/
theorem datagramSent_of_put {s v t : State} (hv : v = { s with acre := { s.acre with stripes := v.acre.stripes }, nums := v.nums })
    (hrank : v.num 0x400003 = s.num 0x400003) (hteam : v.num 0x500002 = s.num 0x500002) (hudp : v.num 0x501300 = s.num 0x501300) {i : Nat}
    {h : AcreHeader} {payload : List Byte} (hsent : DatagramSent v t i h payload) : DatagramSent s t i h payload := by
  have hport : v.acrePort = s.acrePort := by rw [hv]; rfl
  have hsession : v.sessionAt i = s.sessionAt i := by rw [hv]; rfl
  have hoct : v.oct = s.oct := by rw [hv]; rfl
  have hpath : v.udpPath = s.udpPath := by
    funext p team endpoint
    rw [State.udpPath, State.udpPath, hoct, hudp]
  rw [DatagramSent, DatagramLeft, hport, hsession, State.rank, hrank, hpath, hteam] at hsent
  exact hsent

theorem maySend_of_put {s v : State} (hv : v = { s with acre := { s.acre with stripes := v.acre.stripes }, nums := v.nums }) {i : Nat}
    (h : MaySend s i) : MaySend v i := by
  rw [hv]
  exact h

/-- What has left stays, and the session's counter with it. -/
theorem datagramSent_mono {s u t : State} {i : Nat} {h : AcreHeader} {payload : List Byte} (hsent : DatagramSent s u i h payload)
    (hout : u.outbox ⊆ t.outbox) (hacre : t.acre = u.acre) : DatagramSent s t i h payload := by
  obtain ⟨⟨p, hp, hmem⟩, hcount⟩ := hsent
  refine ⟨⟨p, hp, hout hmem⟩, ?_⟩
  rw [← hcount, State.sessionAt, State.sessionAt, hacre]

theorem datagramLeft_mono {s u t : State} {i : Nat} {h : AcreHeader} {payload : List Byte} (hleft : DatagramLeft s u i h payload)
    (hout : u.outbox ⊆ t.outbox) : DatagramLeft s t i h payload := by
  obtain ⟨p, hp, hmem⟩ := hleft
  exact ⟨p, hp, hout hmem⟩

/-- The chunk with which a stripe is whole is acknowledged (R294). -/
theorem takeChunk_acknowledged {s u : State} {h : AcreHeader} {i : Nat} {bytes : List Byte} (hu : s.takeChunk i h bytes = (u, true))
    (hmay : MaySend s i) (hsame : ∀ y ∈ s.acre.stripes, Stripe.named y h = true → y.k = h.k ∧ y.m = h.m) :
    DatagramSent s u i { type := 2, objectId := h.objectId, stripe := h.stripe, k := h.k, m := h.m } [0] ∧ u.seasons = s.seasons ∧
      ∀ k, 0x504005 ≠ k → 0x404008 ≠ k → u.num k = s.num k := by
  obtain ⟨v, rfl, hv, hnum⟩ := takeChunk_whole hu hsame
  have hspread : Spreads v (v.sendAcre i { type := 2, objectId := h.objectId, stripe := h.stripe, k := h.k, m := h.m } [0]) :=
    (Spreads.refl v).sendAcre
  refine ⟨datagramSent_of_put hv (hnum _ (by decide)) (hnum _ (by decide)) (hnum _ (by decide)) (datagramSent_sendAcre (maySend_of_put hv hmay) _ _), ?_, fun k hk hk' => (hspread.num k hk').trans (hnum k hk)⟩
  rw [hspread.seasons, hv]

/-! ### Bales that come whole (R305, R306) -/

theorem storeBale_mem {s : State} {b : Bale} (hb : baleVerifies b = true) : b ∈ (s.storeBale b).seasons.store := by
  rw [State.storeBale, hb]
  split
  · next h => simpa using h
  · exact List.mem_append_right _ (List.mem_singleton.mpr rfl)

theorem storeBale_frame (s : State) (b : Bale) :
    s.storeBale b = { s with seasons := { s.seasons with store := (s.storeBale b).seasons.store } } := by
  unfold State.storeBale
  split <;> rfl

theorem spreadBale_frame (s : State) (b : Bale) : s.spreadBale b = { s with
    seasons := { s.seasons with store := (s.storeBale b).seasons.store }, fabric := (s.spreadBale b).fabric, nums := (s.spreadBale b).nums } := by
  rw [State.spreadBale]
  rw [foldl_sendBest_frame _ (fun r => r) fun _ _ => .bale b, storeBale_frame]

section
variable {s u : State} {h : AcreHeader} {i : Nat} {bytes : List Byte}

theorem baleChunk_of_taken {b : Bool} (hin : LetIn s h i) (hu : s.takeChunk i h bytes = (u, b)) (hb : b = false) :
    baleChunk h bytes s = u := by
  rw [baleChunk, letIn_of_letIn hin]
  dsimp only
  rw [hu, hb]

theorem rosterChunk_of_taken {b : Bool} (hin : LetIn s h i) (hu : s.takeChunk i h bytes = (u, b)) (hb : b = false) (ok : Bool) :
    rosterChunk h bytes ok s = u := by
  rw [rosterChunk, letIn_of_letIn hin]
  dsimp only
  rw [hu, hb]

theorem anchorChunk_of_taken {b : Bool} (hin : LetIn s h i) (hu : s.takeChunk i h bytes = (u, b)) (hb : b = false)
    (hasked : s.seasons.fetchAsked = true) (hnumber : h.objectId.toNat / 2 ^ 16 = s.seasons.fetchNumber) (season : Nat) :
    anchorChunk h bytes season s = u := by
  rw [anchorChunk, letIn_of_letIn hin]
  dsimp only
  rw [hasked, hnumber, hu, hb]
  simp

/-- What a device does with the bytes of a whole bale, where it has them (R305). -/
def balePlaced (u : State) (l : Option (List Byte)) : State :=
  l.elim u fun l => if baleVerifies (baleOfBytes l) then u.spreadBale (baleOfBytes l) else u

theorem baleChunk_whole (hin : LetIn s h i) (hu : s.takeChunk i h bytes = (u, true)) :
    baleChunk h bytes s = balePlaced u (u.objectBytes h fun l => 64 + bitsOf 383 352 (leNat (l.take 64))) := by
  rw [baleChunk, letIn_of_letIn hin]
  dsimp only
  rw [hu]
  dsimp only
  cases u.objectBytes h fun l => 64 + bitsOf 383 352 (leNat (l.take 64)) <;> rfl

theorem balePlaced_keeps (u : State) (l : Option (List Byte)) : (balePlaced u l).outbox = u.outbox ∧ (balePlaced u l).acre = u.acre := by
  unfold balePlaced
  cases l with
  | none => exact ⟨rfl, rfl⟩
  | some l =>
    rw [Option.elim_some]
    split
    · rw [spreadBale_frame]
      exact ⟨rfl, rfl⟩
    · exact ⟨rfl, rfl⟩

theorem balePlaced_store {l : List Byte} (hl : baleVerifies (baleOfBytes l) = true) :
    baleOfBytes l ∈ (balePlaced u (some l)).seasons.store := by
  rw [balePlaced, Option.elim_some, if_pos hl, spreadBale_frame]
  exact storeBale_mem hl

/-- What a device does with the bytes of a whole roster, where it has them (R307, R309). -/
def rosterPlaced (u : State) (ok : Bool) (l : Option (List Byte)) : State :=
  l.elim u fun l => if u.rosterOk (rosterOf l ok) then u.spreadRoster (rosterOf l ok) else u.bump 0x504009

theorem rosterChunk_whole (hin : LetIn s h i) (hu : s.takeChunk i h bytes = (u, true)) (ok : Bool) :
    rosterChunk h bytes ok s = rosterPlaced u ok (u.objectBytes h rosterSize) := by
  rw [rosterChunk, letIn_of_letIn hin]
  dsimp only
  rw [hu]
  dsimp only
  cases u.objectBytes h rosterSize <;> rfl

theorem rosterPlaced_outbox (u : State) (ok : Bool) (l : Option (List Byte)) : u.outbox ⊆ (rosterPlaced u ok l).outbox := by
  unfold rosterPlaced
  cases l with
  | none => exact List.Subset.refl _
  | some l =>
    rw [Option.elim_some]
    split
    · exact (KeepsRosters.refl u).spreadRoster.outbox
    · exact List.Subset.refl _

/-- A roster taken is held, by its digest. -/
theorem takeRoster_held (u : State) (r : Roster) : ((u.takeRoster r).seasons.rosters.any fun x => x.digest == r.digest) = true := by
  by_cases hhere : (u.seasons.rosters.any fun x => x.digest == r.digest) = true
  · rw [State.takeRoster, if_pos hhere]
    exact hhere
  · have hkeeps : ∀ (f : Seasons → Seasons), r ∈ (f u.seasons).rosters →
        r ∈ (((u.mapSeasons f).checkFork r).askBales r).seasons.rosters := fun f hr =>
      (KeepsRosters.refl (u.mapSeasons f)).checkFork.askBales.rosters hr
    rw [State.takeRoster, if_neg hhere, List.any_eq_true]
    exact ⟨r, hkeeps _ (List.mem_append_right _ (List.mem_singleton.mpr rfl)), by simp⟩

theorem spreadRoster_held (u : State) (r : Roster) : ((u.spreadRoster r).seasons.rosters.any fun x => x.digest == r.digest) = true := by
  have hspread : Spreads (u.takeRoster r) (u.spreadRoster r) := (Spreads.refl _).foldl fun _ _ hu => hu.sendBest
  rw [hspread.seasons]
  exact takeRoster_held u r

end

/-- Settles O54: the chunk put to its stripe, then what the whole object is. -/
theorem baleAndRosterChunks : Obligations.BaleAndRosterChunks := by
  intro h bytes ok i s hin
  have hbale : exec (.baleChunk h bytes) s = .next (baleChunk h bytes s) := rfl
  have hroster : exec (.rosterChunk h bytes ok) s = .next (rosterChunk h bytes ok s) := rfl
  have hanchor : ∀ season, exec (.anchorChunk h bytes season) s = .next (anchorChunk h bytes season s) := fun _ => rfl
  refine ⟨fun x c hx hc => ?_, fun season c hc hasked hnumber hx hk => ?_, fun u hu hmay hsame => ?_⟩
  · have htake := takeChunk_here (i := i) (bytes := bytes) hx hc
    refine ⟨by rw [hbale, baleChunk_of_taken hin htake rfl], by rw [hroster, rosterChunk_of_taken hin htake rfl], fun hasked hnumber season => ?_⟩
    rw [hanchor, anchorChunk_of_taken hin htake rfl hasked hnumber]
  · obtain ⟨htake, hdecoded⟩ := takeChunk_first (i := i) (bytes := bytes) hx hk
    have hall : exec c s = .next (s.putStripe h (Stripe.take (openedStripe h) h.chunk bytes)) := by
      simp only [List.mem_cons, List.not_mem_nil, or_false] at hc
      rcases hc with rfl | rfl | rfl
      · rw [hbale, baleChunk_of_taken hin htake rfl]
      · rw [hroster, rosterChunk_of_taken hin htake rfl]
      · rw [hanchor, anchorChunk_of_taken hin htake rfl hasked hnumber]
    refine ⟨_, _, hall, find_putStripe ?_, find?_put_same _ _ _, hdecoded, rfl⟩
    rw [named_take]
    simp [Stripe.named, openedStripe]
  · obtain ⟨hsent, hseasons, hnum⟩ := takeChunk_acknowledged hu hmay hsame
    refine ⟨⟨_, hbale.trans (congrArg _ (baleChunk_whole hin hu)), ?_, fun l hl hver => ?_⟩,
      ⟨_, hroster.trans (congrArg _ (rosterChunk_whole hin hu ok)), ?_, fun l hl => ⟨fun hbad hs => ?_, fun hgood => ?_⟩⟩⟩
    · obtain ⟨hout, hacre⟩ := balePlaced_keeps u (u.objectBytes h fun l => 64 + bitsOf 383 352 (leNat (l.take 64)))
      exact datagramSent_mono hsent (by rw [hout]; exact List.Subset.refl _) hacre
    · rw [hl]
      exact balePlaced_store hver
    · exact datagramLeft_mono hsent.1 (rosterPlaced_outbox _ _ _)
    · have hsu : Canonical u := ((congrArg Prod.fst hu) ▸ (Keeps.refl s).takeChunk.canonical hs : Canonical (u, true).1)
      rw [hl, rosterPlaced, Option.elim_some, if_neg (by simp [hbad])]
      refine ⟨?_, hseasons⟩
      rw [num_bump_counter hsu (by decide +kernel), hnum _ (by decide) (by decide)]
    · rw [hl, rosterPlaced, Option.elim_some, if_pos hgood]
      exact spreadRoster_held u _

/-! ## Samples and pacing (R295) -/

section
variable (x : Session) (now : Cycle) (rtt srtt rate : Nat)

theorem sample_srtt : (Session.sample x now rtt srtt rate).srtt = srtt := by
  unfold Session.sample
  dsimp only
  repeat' split
  all_goals rfl

theorem sample_rates : (Session.sample x now rtt srtt rate).rates = rate :: x.rates.take 9 := by
  unfold Session.sample
  dsimp only
  repeat' split
  all_goals rfl

/-- A sample is kept, except where min_rtt is discarded with all of them. -/
theorem sample_kept (h : (Session.sample x now rtt srtt rate).resetLeft ≠ 3) :
    (now, rtt) ∈ (Session.sample x now rtt srtt rate).samples := by
  have hmem : ∀ l : List (Cycle × Nat), (now, rtt) ∈ l ++ [(now, rtt)] := fun l => List.mem_append_right _ (List.mem_singleton.mpr rfl)
  revert h
  unfold Session.sample
  dsimp only
  repeat' split
  · exact fun _ => hmem _
  · exact fun _ => hmem _
  · exact fun h => absurd rfl h
  · exact fun _ => hmem _
  · exact fun h => absurd rfl h
  · exact fun _ => hmem _

end

/-- What pacing leaves of the stripes kept and of the rates of the sessions. -/
structure Paces (s t : State) : Prop where
  stripes : ∀ x ∈ t.acre.sentStripes, ∃ y ∈ s.acre.sentStripes, x = { y with flying := x.flying }
  rates : ∀ k, (t.sessionAt k).rates = (s.sessionAt k).rates

namespace Paces

variable {s t u : State}

theorem refl (s : State) : Paces s s := ⟨fun x hx => ⟨x, hx, rfl⟩, fun _ => rfl⟩

theorem trans (h : Paces s t) (h' : Paces t u) : Paces s u := by
  refine ⟨fun x hx => ?_, fun k => (h'.rates k).trans (h.rates k)⟩
  obtain ⟨y, hy, hxy⟩ := h'.stripes x hx
  obtain ⟨z, hz, hyz⟩ := h.stripes y hy
  refine ⟨z, hz, ?_⟩
  rw [hxy, hyz]

theorem ite {p : Prop} [Decidable p] (ht : Paces s t) (hu : Paces s u) : Paces s (if p then t else u) := by
  split
  · exact ht
  · exact hu

theorem foldl {α : Type} {f : State → α → State} (hf : ∀ t a, Paces s t → Paces s (f t a)) {l : List α} (h : Paces s t) :
    Paces s (l.foldl f t) := by
  induction l generalizing t with
  | nil => exact h
  | cons a l ih => exact ih (hf t a h)

/-- A change of what is neither a stripe kept nor a session. -/
theorem of_same (h : Paces s t) (hs : u.acre.sentStripes = t.acre.sentStripes) (hx : u.acre.sessions = t.acre.sessions) : Paces s u := by
  refine h.trans ⟨fun x hx => ⟨x, hs ▸ hx, rfl⟩, fun k => ?_⟩
  rw [State.sessionAt, State.sessionAt, hx]

theorem mapSession (h : Paces s t) {i : Nat} {f : Session → Session} (hf : ∀ x, (f x).rates = x.rates) : Paces s (t.mapSession i f) := by
  refine h.trans ⟨fun x hx => ⟨x, hx, rfl⟩, fun k => ?_⟩
  rw [State.sessionAt, State.sessionAt, nth_eq_getD, nth_eq_getD]
  by_cases hk : k = i
  · rw [hk, State.mapSession, getElem?_modifyNth_same]
    cases t.acre.sessions[i]? with
    | none => rfl
    | some x => exact hf x
  · rw [State.mapSession, getElem?_modifyNth_other f _ hk]

theorem nextEpoch_rates (x : Session) : (Session.nextEpoch x).rates = x.rates := by
  unfold Session.nextEpoch
  split <;> rfl

theorem beginAgreement (h : Paces s t) {team endpoint : Nat} : Paces s (t.beginAgreement team endpoint) := by
  unfold State.beginAgreement
  split
  · exact h
  · exact .ite h (h.of_same rfl rfl)

theorem sendAcre (h : Paces s t) {i : Nat} {x : AcreHeader} {bytes : List Byte} : Paces s (t.sendAcre i x bytes) := by
  unfold State.sendAcre
  dsimp only
  split
  · exact h
  · have hsent : ∀ m, Paces s ((t.send m).mapSession i fun x => { x with sendCounter := x.sendCounter + 1 }) := fun m =>
      (h.of_same (u := t.send m) rfl rfl).mapSession fun _ => rfl
    exact .ite h (.ite (.ite ((hsent _).mapSession nextEpoch_rates).beginAgreement ((hsent _).mapSession nextEpoch_rates)) (hsent _))

theorem paceChunk (h : Paces s t) {i : Nat} {c : HeldChunk} : Paces s (t.paceChunk i c) := by
  unfold State.paceChunk
  dsimp only
  split
  · exact h
  · refine .ite (h.of_same rfl rfl) ?_
    refine (h.sendAcre (i := i)).trans ⟨fun x hx => ?_, fun _ => rfl⟩
    obtain ⟨y, hy, rfl⟩ := List.mem_map.mp hx
    refine ⟨y, hy, ?_⟩
    split <;> rfl

theorem pace (h : Paces s t) {i : Nat} : Paces s (t.pace i) :=
  .ite h (.foldl (fun _ _ hu => hu.paceChunk) (h.of_same rfl rfl))

end Paces

/-- The session of a sample, whatever the pacing before it (R295). -/
def sampled (s : State) (i rtt : Nat) : Session := Session.sample (s.sessionAt i) s.cycle rtt s.fresh s.useFree.fresh

/-- A state with a sample taken, before anything leaves for it. -/
def sampleNoted (s : State) (i rtt : Nat) : State := s.useFree.useFree.mapSession i fun _ => sampled s i rtt

theorem takeSample_eq (s : State) (i rtt : Nat) : s.takeSample i rtt =
    State.pace (if ((s.sessionAt i).resetLeft = 0 && (sampled s i rtt).resetLeft = 3) = true then (sampleNoted s i rtt).bump (acreCount 8)
      else sampleNoted s i rtt) i := rfl

theorem sampleNoted_session {s : State} {i : Nat} (hi : i < s.acre.sessions.length) (rtt : Nat) :
    (sampleNoted s i rtt).sessionAt i = sampled s i rtt :=
  sessionAt_mapSession_same (s := s.useFree.useFree) (fun _ => sampled s i rtt) hi

theorem sampleNoted_frame (s : State) (i rtt : Nat) :
    sampleNoted s i rtt = { s with acre := (sampleNoted s i rtt).acre, freeCount := s.freeCount + 2 } := rfl

theorem sampleNoted_stripes (s : State) (i rtt : Nat) : (sampleNoted s i rtt).acre.sentStripes = s.acre.sentStripes := rfl

theorem bumped_frame (s : State) (k : Nat) : s.bump k = { s with nums := (s.bump k).nums } := rfl

/-- A state without the stripes that a datagram names (R294). -/
def stripesDropped (h : AcreHeader) (s : State) : State :=
  { s with acre := { s.acre with sentStripes := s.acre.sentStripes.filter fun x => !SentStripe.named x h } }

theorem stripeAck_eq {s : State} {h : AcreHeader} {i : Nat} (hin : LetIn s h i) (sample : Nat) :
    stripeAck h sample s = (stripesDropped h s).takeSample i sample := by
  rw [stripeAck, letIn_of_letIn hin]
  rfl

theorem stripesDropped_frame (h : AcreHeader) (s : State) : stripesDropped h s = { s with acre := (stripesDropped h s).acre } := rfl

theorem acknowledged_frame {s u v w : State} (hu : u = { s with acre := u.acre })
    (hv : v = { u with acre := v.acre, freeCount := u.freeCount + 2 }) (hw : w = { v with nums := w.nums }) :
    w.acre = v.acre ∧ w = { s with acre := w.acre, freeCount := s.freeCount + 2, nums := w.nums } := by
  rw [hw, hv, hu]
  exact ⟨rfl, rfl⟩

section
variable {s : State} {h : AcreHeader} {i : Nat} (hin : LetIn s h i)
include hin

theorem stripeAck_keeps (sample : Nat) : (∀ x ∈ (stripeAck h sample s).acre.sentStripes, SentStripe.named x h = false) ∧
    ((stripeAck h sample s).sessionAt i).rates.length ≤ 10 := by
  have hi : i < (stripesDropped h s).acre.sessions.length := sessionWith_lt hin.2.1
  have hpaces : Paces (sampleNoted (stripesDropped h s) i sample) ((stripesDropped h s).takeSample i sample) := by
    rw [takeSample_eq]
    refine Paces.pace ?_
    split
    · exact (Paces.refl _).of_same rfl rfl
    · exact .refl _
  rw [stripeAck_eq hin]
  refine ⟨fun x hx => ?_, ?_⟩
  · obtain ⟨y, hy, hxy⟩ := hpaces.stripes x hx
    have hnamed : SentStripe.named y h = false := by simpa using (List.mem_filter.mp (show y ∈ s.acre.sentStripes.filter fun x =>
      !SentStripe.named x h from hy)).2
    rw [hxy]
    exact hnamed
  · rw [hpaces.rates i, sampleNoted_session hi, sampled, sample_rates, List.length_cons, List.length_take]
    omega

theorem stripeAck_unheld (hheld : s.acre.held = []) (sample : Nat) :
    ∃ t, exec (.stripeAck h sample) s = .next t ∧
      t.acre.sentStripes = s.acre.sentStripes.filter (fun x => !SentStripe.named x h) ∧
      (t.sessionAt i).srtt = Config.freeValue s.freeCount ∧
      ((t.sessionAt i).resetLeft ≠ 3 → (s.cycle, sample) ∈ (t.sessionAt i).samples) ∧
      t = { s with acre := t.acre, freeCount := s.freeCount + 2, nums := t.nums } := by
  have hi : i < (stripesDropped h s).acre.sessions.length := sessionWith_lt hin.2.1
  have hexec : exec (.stripeAck h sample) s = .next (stripeAck h sample s) := rfl
  have hsession := sampleNoted_session hi sample
  have hfree : (stripesDropped h s).fresh = Config.freeValue s.freeCount := rfl
  have hcycle : (stripesDropped h s).cycle = s.cycle := rfl
  have hleft : ∀ w : State, w = { sampleNoted (stripesDropped h s) i sample with nums := w.nums } →
      w.acre.sentStripes = s.acre.sentStripes.filter (fun x => !SentStripe.named x h) ∧ (w.sessionAt i).srtt = Config.freeValue s.freeCount ∧
        ((w.sessionAt i).resetLeft ≠ 3 → (s.cycle, sample) ∈ (w.sessionAt i).samples) ∧
        w = { s with acre := w.acre, freeCount := s.freeCount + 2, nums := w.nums } := by
    intro w hw
    obtain ⟨hacre, hframe⟩ := acknowledged_frame (stripesDropped_frame h s) (sampleNoted_frame (stripesDropped h s) i sample) hw
    have hw' : w.sessionAt i = sampled (stripesDropped h s) i sample := by
      rw [State.sessionAt, hacre]
      exact hsession
    refine ⟨by rw [hacre, sampleNoted_stripes]; rfl, ?_, ?_, hframe⟩
    · rw [hw', sampled, sample_srtt, hfree]
    · rw [hw', sampled, hcycle]
      exact sample_kept _ _ _ _ _
  refine ⟨_, hexec.trans (congrArg _ ((stripeAck_eq hin sample).trans (takeSample_eq _ _ _))), ?_⟩
  split
  · rw [pace_of_none_held (by exact hheld)]
    exact hleft _ (bumped_frame _ _)
  · rw [pace_of_none_held (by exact hheld)]
    exact hleft _ rfl

/-! ### NACKs (R292, R294) -/

theorem stripeNack_sends (hmay : MaySend s i) {x : SentStripe} {j : Nat}
    (hx : s.acre.sentStripes.find? (fun x => SentStripe.named x h) = some x) (hj : j < x.k) :
    ∃ t, exec (.stripeNack h [j]) s = .next t ∧
      DatagramSent s t i { type := BitVec.ofNat 8 x.type, objectId := x.objectId, stripe := x.stripe, chunk := j, k := x.k, m := x.m }
        (usedChunk x.inUse j (nth [] x.data j)) ∧ t.acre.sentStripes = s.acre.sentStripes := by
  have hexec : exec (.stripeNack h [j]) s = .next (stripeNack h [j] s) := rfl
  have hchunk : SentStripe.chunk x j = usedChunk x.inUse j (nth [] x.data j) := by rw [SentStripe.chunk, if_pos hj]
  have hnack : stripeNack h [j] s = (s.bump 0x504006).sendAcre i
      { type := BitVec.ofNat 8 x.type, objectId := x.objectId, stripe := x.stripe, chunk := j, k := x.k, m := x.m }
      (usedChunk x.inUse j (nth [] x.data j)) := by
    rw [stripeNack, letIn_of_letIn hin]
    dsimp only
    rw [hx]
    dsimp only
    rw [List.filter_cons_of_pos (by simp [hj]), List.filter_nil, List.foldl_cons, List.foldl_nil, State.sendChunk, hchunk]
    rfl
  obtain ⟨p, hp⟩ := Option.isSome_iff_exists.mp hmay.1
  have hnum : ∀ {k}, 0x504006 ≠ k → (s.bump 0x504006).num k = s.num k := fun hk => State.num_bump_other _ _ hk
  have hsent := datagramSent_sendAcre (s := s.bump 0x504006) hmay
    { type := BitVec.ofNat 8 x.type, objectId := x.objectId, stripe := x.stripe, chunk := j, k := x.k, m := x.m }
    (usedChunk x.inUse j (nth [] x.data j))
  refine ⟨_, hexec.trans (congrArg _ hnack), datagramSent_of_put rfl (hnum (by decide)) (hnum (by decide)) (hnum (by decide)) hsent, ?_⟩
  rw [sendAcre_eq (s := s.bump 0x504006) hp hmay.2.2]
  rfl

end

section
variable {s : State} {team rank n : Nat} {obj : W64} {x : Stripe}
  (hx : s.acre.stripes.find? (fun x => x.senderTeam == team && x.senderRank == rank && x.objectId == obj && x.stripe == n &&
    !x.decoded && !x.abandoned) = some x)
include hx

/-- The header by which a stripe is asked for again (R294). -/
def askedHeader (obj : W64) (n : Nat) (x : Stripe) : AcreHeader :=
  { type := 3, objectId := obj, stripe := n, senderTeam := BitVec.ofNat 16 x.senderTeam, senderRank := BitVec.ofNat 32 x.senderRank
    k := x.k, m := x.m }

theorem nackTimer_abandons (hmany : 8 ≤ x.nacks) (hs : Canonical s) :
    ∃ t, exec (.nackTimer team rank obj n) s = .next t ∧ t.num 0x504007 = min (s.num 0x504007 + 1) (2 ^ 32 - 1) ∧
      { x with abandoned := true } ∈ t.acre.stripes ∧ (∀ k, k ≠ 0x504007 → t.num k = s.num k) := by
  have hexec : exec (.nackTimer team rank obj n) s = .next (nackTimer team rank obj n s) := rfl
  have hput : nackTimer team rank obj n s = (s.putStripe (askedHeader obj n x) { x with abandoned := true }).bump 0x504007 := by
    rw [nackTimer, hx]
    dsimp only
    rw [if_pos hmany]
    rfl
  have hcount : ((s.putStripe (askedHeader obj n x) { x with abandoned := true }).bump 0x504007).num 0x504007 =
      min (s.num 0x504007 + 1) (2 ^ 32 - 1) :=
    num_bump_counter (s := s.putStripe (askedHeader obj n x) { x with abandoned := true }) hs (by decide +kernel)
  exact ⟨_, hexec.trans (congrArg _ hput), hcount, List.mem_append_right _ (List.mem_singleton.mpr rfl),
    fun k hk => State.num_bump_other _ _ (Ne.symm hk)⟩

theorem nackTimer_asks {i : Nat} (hfew : x.nacks < 8) (hwith : s.sessionWith team rank = some i) (hmay : MaySend s i) :
    ∃ t, exec (.nackTimer team rank obj n) s = .next t ∧ { x with nacks := x.nacks + 1 } ∈ t.acre.stripes ∧
      DatagramSent s t i { type := 3, objectId := obj, stripe := n, k := x.k, m := x.m } ((Stripe.lacks x).map (BitVec.ofNat 8)) := by
  have hexec : exec (.nackTimer team rank obj n) s = .next (nackTimer team rank obj n s) := rfl
  have hfound := List.find?_some hx
  simp only [Bool.and_eq_true, beq_iff_eq] at hfound
  obtain ⟨⟨⟨⟨⟨hteam, hrank⟩, -⟩, -⟩, -⟩, -⟩ := hfound
  have hsession : (s.putStripe (askedHeader obj n x) { x with nacks := x.nacks + 1 }).sessionWith x.senderTeam x.senderRank = some i := by
    rw [hteam, hrank]
    exact hwith
  have hput : nackTimer team rank obj n s = (s.putStripe (askedHeader obj n x) { x with nacks := x.nacks + 1 }).sendAcre i
      (askedHeader obj n x) ((Stripe.lacks x).map (BitVec.ofNat 8)) := by
    rw [nackTimer, hx]
    dsimp only
    rw [if_neg (by omega), ← askedHeader, hsession]
  obtain ⟨p, hp⟩ := Option.isSome_iff_exists.mp hmay.1
  have hsent := datagramSent_sendAcre (s := s.putStripe (askedHeader obj n x) { x with nacks := x.nacks + 1 }) hmay (askedHeader obj n x)
    ((Stripe.lacks x).map (BitVec.ofNat 8))
  refine ⟨_, hexec.trans (congrArg _ hput), ?_, datagramSent_of_put rfl rfl rfl rfl hsent⟩
  rw [sendAcre_eq (s := s.putStripe (askedHeader obj n x) { x with nacks := x.nacks + 1 }) hp hmay.2.2]
  exact List.mem_append_right _ (List.mem_singleton.mpr rfl)

end

/-! ## Replies to fetch requests (R318) -/

theorem foldl_setLine_frame {α : Type} (l : List α) (a : α → Nat) (v : α → BitVec 36) (s : State) :
    l.foldl (fun s e => s.setLine (a e) (v e)) s =
      { s with host := { s.host with lineMeta := (l.foldl (fun s e => s.setLine (a e) (v e)) s).host.lineMeta } } := by
  induction l generalizing s with
  | nil => rfl
  | cons e l ih =>
    rw [List.foldl_cons, ih]
    rfl

theorem healLines_frame (s : State) (ids : List W32) :
    s.healLines ids = { s with host := { s.host with lineMeta := (s.healLines ids).host.lineMeta } } :=
  foldl_setLine_frame _ _ _ s

theorem reportReady_frame (s : State) (season : Nat) (mode : CommitMode) : s.reportReady season mode = { s with
    seasons := { s.seasons with ready := (s.reportReady season mode).seasons.ready }, fabric := (s.reportReady season mode).fabric
    nums := (s.reportReady season mode).nums } := by
  unfold State.reportReady
  split
  · rfl
  · rw [sendBest_frame]

theorem anchorChunk_other {s : State} {h : AcreHeader} {i : Nat} (hin : LetIn s h i)
    (hother : s.seasons.fetchAsked = false ∨ h.objectId.toNat / 2 ^ 16 ≠ s.seasons.fetchNumber) (bytes : List Byte) (season : Nat) :
    anchorChunk h bytes season s = s := by
  rw [anchorChunk, letIn_of_letIn hin]
  dsimp only
  refine if_pos ?_
  rcases hother with hno | hne
  · rw [hno]
    rfl
  · rw [decide_eq_true hne, Bool.or_true]

theorem anchorChunk_whole {s u : State} {h : AcreHeader} {i : Nat} {bytes : List Byte} (hin : LetIn s h i)
    (hu : s.takeChunk i h bytes = (u, true)) (hasked : s.seasons.fetchAsked = true)
    (hnumber : h.objectId.toNat / 2 ^ 16 = s.seasons.fetchNumber) (season : Nat) :
    anchorChunk h bytes season s = (u.wholeReply h).elim u (u.layReply season) := by
  rw [anchorChunk, letIn_of_letIn hin]
  dsimp only
  rw [hasked, hnumber, hu, if_neg (by simp)]
  dsimp only
  cases u.wholeReply h <;> rfl

/-- The pending copies of a share after a reply is laid into them (R310). -/
def laidShare (odd : Bool) (x : SeasonTensor) (w : List W32 × List W32) : SeasonTensor :=
  SeasonTensor.zeroResidual (SeasonTensor.fetch x odd x.decl.base w.1 w.2) odd

/-- The shares after a reply whose parts are drilled. -/
def laidTensors (s : State) (bs : List Byte) : List SeasonTensor :=
  (replyParts s.anchorArrays bs).map fun p => laidShare (!s.seasons.ptr) p.1 ((s.drillReply p.1 p.2.1 p.2.2).getD ([], []))

theorem layReply_eq {s : State} {bs : List Byte}
    (hall : ∀ p ∈ replyParts s.anchorArrays bs, (s.drillReply p.1 p.2.1 p.2.2).isSome = true) (season : Nat) :
    ∃ ids, s.layReply season bs = ((s.mapSeasons fun x => { x with tensors := laidTensors s bs, fetched := some season }).healLines ids).reportReady
      season .join := by
  have hnone : (((replyParts s.anchorArrays bs).map fun p => (p.1, s.drillReply p.1 p.2.1 p.2.2)).any (·.2.isNone)) = false := by
    rw [List.any_eq_false]
    intro q hq
    obtain ⟨p, hp, rfl⟩ := List.mem_map.mp hq
    have hp := hall p hp
    simpa [Option.isSome_iff_ne_none] using hp
  refine ⟨s.seasons.tensors.flatMap fun x =>
    [copyId (!s.seasons.ptr) x.decl.anchors, copyId (!s.seasons.ptr) x.decl.momenta, copyId (!s.seasons.ptr) x.decl.residuals], ?_⟩
  rw [State.layReply]
  dsimp only
  rw [hnone, if_neg Bool.false_ne_true, List.map_map]
  rfl

theorem layReply_keeps {s : State} {bs : List Byte}
    (hall : ∀ p ∈ replyParts s.anchorArrays bs, (s.drillReply p.1 p.2.1 p.2.2).isSome = true) (season : Nat) :
    (s.layReply season bs).outbox = s.outbox ∧ (s.layReply season bs).acre = s.acre ∧
      (s.layReply season bs).seasons.fetched = some season ∧ (s.layReply season bs).seasons.tensors = laidTensors s bs := by
  obtain ⟨ids, heq⟩ := layReply_eq hall season
  rw [heq, reportReady_frame, healLines_frame]
  exact ⟨rfl, rfl, rfl, rfl⟩

theorem anchorReplies {s : State} {h : AcreHeader} {i : Nat} (hin : LetIn s h i) (bytes : List Byte) (season : Nat) {u : State}
    (hu : s.takeChunk i h bytes = (u, true)) (hmay : MaySend s i)
    (hsame : ∀ y ∈ s.acre.stripes, Stripe.named y h = true → y.k = h.k ∧ y.m = h.m) (hasked : s.seasons.fetchAsked = true)
    (hnumber : h.objectId.toNat / 2 ^ 16 = s.seasons.fetchNumber) :
    ∃ t, exec (.anchorChunk h bytes season) s = .next t ∧
      DatagramSent s t i { type := 2, objectId := h.objectId, stripe := h.stripe, k := h.k, m := h.m } [0] ∧
      (u.wholeReply h = none → t = u) ∧
      ∀ l, u.wholeReply h = some l → (∀ p ∈ replyParts u.anchorArrays l, (u.drillReply p.1 p.2.1 p.2.2).isSome = true) →
        t.seasons.fetched = some season ∧
        ∀ p ∈ replyParts u.anchorArrays l, ∀ w, u.drillReply p.1 p.2.1 p.2.2 = some w →
          SeasonTensor.zeroResidual (SeasonTensor.fetch p.1 (!s.seasons.ptr) p.1.decl.base w.1 w.2) (!s.seasons.ptr) ∈ t.seasons.tensors := by
  have hexec : exec (.anchorChunk h bytes season) s = .next (anchorChunk h bytes season s) := rfl
  obtain ⟨hsent, hseasons, -⟩ := takeChunk_acknowledged hu hmay hsame
  have hwhole := anchorChunk_whole hin hu hasked hnumber season
  have hkeeps : ∀ bs, u.outbox ⊆ (u.layReply season bs).outbox ∧ (u.layReply season bs).acre = u.acre := by
    intro bs
    by_cases hall : ∀ p ∈ replyParts u.anchorArrays bs, (u.drillReply p.1 p.2.1 p.2.2).isSome = true
    · obtain ⟨hout, hacre, -, -⟩ := layReply_keeps hall season
      exact ⟨by rw [hout]; exact List.Subset.refl _, hacre⟩
    · have hany : (((replyParts u.anchorArrays bs).map fun p => (p.1, u.drillReply p.1 p.2.1 p.2.2)).any (·.2.isNone)) = true := by
        simp only [Classical.not_forall] at hall
        obtain ⟨p, hp, hnone⟩ := hall
        rw [List.any_eq_true]
        refine ⟨_, List.mem_map_of_mem hp, ?_⟩
        simpa using hnone
      rw [State.layReply]
      dsimp only
      rw [if_pos hany]
      exact ⟨List.Subset.refl _, rfl⟩
  refine ⟨_, hexec.trans (congrArg _ hwhole), ?_, fun hnone => by rw [hnone]; rfl, fun l hl hall => ?_⟩
  · cases u.wholeReply h with
    | none => exact hsent
    | some l => exact datagramSent_mono hsent (hkeeps l).1 (hkeeps l).2
  · obtain ⟨-, -, hfetched, htensors⟩ := layReply_keeps hall season
    rw [hl, Option.elim_some, htensors, ← hseasons]
    refine ⟨hfetched, fun p hp w hw => List.mem_map.mpr ⟨p, hp, ?_⟩⟩
    rw [hw]
    rfl

/-! ## Fetch requests (R318) -/

theorem fetchRequest_empty {s : State} {h : AcreHeader} {i : Nat} (hin : LetIn s h i) (hempty : s.anchorReply = []) :
    fetchRequest h s = s.useFree := by
  rw [fetchRequest, letIn_of_letIn hin]
  dsimp only
  rw [hempty]
  rfl

theorem runsAux_nil {α : Type} (fuel n : Nat) : runsAux fuel n ([] : List α) = [] := by
  cases fuel <;> rfl

/-- What fits into one run is one. -/
theorem runs_single {α : Type} {n : Nat} {l : List α} (hne : l ≠ []) (hlen : l.length ≤ n) : runs n l = [l] := by
  cases l with
  | nil => exact absurd rfl hne
  | cons a l =>
    rw [runs, List.length_cons, runsAux, List.take_of_length_le hlen, List.drop_of_length_le hlen, runsAux_nil]
    exact fun h => nomatch h

/-- The stripe of an object that fits into one. -/
def onlyStripe (s : State) (i type : Nat) (objectId : W64) (bytes : List Byte) : SentStripe :=
  { team := (s.sessionAt i).peerTeam, rank := (s.sessionAt i).peerRank, type := type, objectId := objectId, stripe := 0, k := s.codeShape.1
    m := s.codeShape.2
    data := (List.range s.codeShape.1).map fun j => padChunk ((bytes.drop (j * chunkBytes)).take chunkBytes), inUse := bytes.length }

theorem sendObject_single {s : State} {bytes : List Byte} (hne : bytes ≠ []) (hlen : bytes.length ≤ max s.codeShape.1 1 * chunkBytes)
    (i type : Nat) (objectId : W64) : s.sendObject i type objectId bytes = s.sendStripe i (onlyStripe s i type objectId bytes) := by
  rw [State.sendObject]
  dsimp only
  rw [runs_single hne hlen]
  rfl

/-- The chunks of a stripe that has just been given to the transport. -/
def chunksHeld (x : SentStripe) : List HeldChunk :=
  (List.range (x.k + x.m)).map fun j => { team := x.team, rank := x.rank, objectId := x.objectId, stripe := x.stripe, chunk := j }

/-- A state that keeps a stripe until it is acknowledged, nothing held back. -/
def stripeKept (s : State) (x : SentStripe) : State :=
  { s with acre := { s.acre with
    sentStripes := (s.acre.sentStripes.filter fun y => !(y.team == x.team && y.rank == x.rank && y.objectId == x.objectId && y.stripe == x.stripe)) ++ [x]
    held := [] } }

theorem sendStripe_unheld {s : State} (hport : s.acrePort.isSome = true) (hheld : s.acre.held = []) (i : Nat) (x : SentStripe) :
    s.sendStripe i x = (chunksHeld x).foldl (fun s c => s.paceChunk i c) (stripeKept s x) := by
  have hsome : s.acrePort.isNone = false := by rw [Option.isNone_eq_false_iff]; exact hport
  rw [State.sendStripe, State.pace]
  rw [if_neg (by
    change ¬ s.acrePort.isNone = true
    simp [hsome]), hheld]
  rfl

theorem stripeKept_find (s : State) (x : SentStripe) (j : Nat) :
    (stripeKept s x).acre.sentStripes.find? (HeldChunk.of
      { team := x.team, rank := x.rank, objectId := x.objectId, stripe := x.stripe, chunk := j }) = some x := by
  change ((s.acre.sentStripes.filter _) ++ [x]).find? _ = _
  rw [List.find?_append, List.find?_eq_none.mpr, Option.none_or]
  · exact List.find?_cons_of_pos (by simp [HeldChunk.of])
  · intro y hy
    have hne := (List.mem_filter.mp hy).2
    rw [Bool.not_eq_true'] at hne
    rw [HeldChunk.of, hne]
    exact Bool.false_ne_true

/-- A chunk of a stripe of a session without a limit leaves at once (R295). -/
theorem paceChunk_leaves {s : State} {i : Nat} {x : SentStripe} (hteam : x.team = (s.sessionAt i).peerTeam)
    (hrank : x.rank = (s.sessionAt i).peerRank) (hmin : (s.sessionAt i).minRtt = none) (j : Nat) :
    ∃ u, (stripeKept s x).paceChunk i { team := x.team, rank := x.rank, objectId := x.objectId, stripe := x.stripe, chunk := j } = u ∧
      u.outbox = ((stripeKept s x).sendChunk i x j).outbox := by
  have hwindow : Session.window (s.sessionAt i) = none := by rw [Session.window, hmin]; rfl
  have hsession : (stripeKept s x).sessionAt i = s.sessionAt i := rfl
  have hnone : (stripeKept s x).acre.held = [] := rfl
  refine ⟨_, rfl, ?_⟩
  rw [State.paceChunk, stripeKept_find]
  dsimp only
  rw [hsession, hwindow, hnone, hteam, hrank, if_neg (by simp)]

theorem chunk_single {i type : Nat} {s : State} {objectId : W64} {bytes : List Byte} (hk : 0 < s.codeShape.1) (hlen : bytes.length ≤ chunkBytes)
    (hne : bytes ≠ []) : (SentStripe.chunk (onlyStripe s i type objectId bytes) 0).length = bytes.length := by
  have hpos : 0 < bytes.length := List.length_pos_iff.mpr hne
  have hdata : nth [] (onlyStripe s i type objectId bytes).data 0 = padChunk bytes := by
    rw [nth_eq_getD, onlyStripe]
    simp [hk, List.take_of_length_le hlen]
  have hlt : 0 < (onlyStripe s i type objectId bytes).k := hk
  rw [SentStripe.chunk, if_pos hlt, hdata, usedChunk, padChunk]
  have huse : (onlyStripe s i type objectId bytes).inUse = bytes.length := rfl
  rw [huse, List.length_take, List.length_append, List.length_replicate]
  omega

theorem fetchRequest_single {s : State} {h : AcreHeader} {i : Nat} (hin : LetIn s h i) (hlen : s.anchorReply.length ≤ chunkBytes)
    (hne : s.anchorReply ≠ []) : fetchRequest h s =
      s.useFree.sendStripe i (onlyStripe s.useFree i 5 (BitVec.ofNat 64 (h.objectId.toNat / 2 ^ 16 * 2 ^ 16)) s.anchorReply) := by
  have hseg : chunkBytes ≤ segmentBytes s.codeShape.1 := by
    have hpos : 1 ≤ max s.codeShape.1 1 := Nat.le_max_right _ _
    calc chunkBytes = 1 * 1 * chunkBytes := by rw [Nat.one_mul]
      _ ≤ 65536 * max s.codeShape.1 1 * chunkBytes := Nat.mul_le_mul_right _ (Nat.mul_le_mul (by decide) hpos)
  have hroom : s.anchorReply.length ≤ max s.useFree.codeShape.1 1 * chunkBytes :=
    calc s.anchorReply.length ≤ 1 * chunkBytes := by rwa [Nat.one_mul]
      _ ≤ max s.useFree.codeShape.1 1 * chunkBytes := Nat.mul_le_mul_right _ (Nat.le_max_right _ _)
  rw [fetchRequest, letIn_of_letIn hin]
  dsimp only
  rw [runs_single hne (Nat.le_trans hlen hseg), List.zipIdx_singleton, List.foldl_cons, List.foldl_nil]
  dsimp only
  rw [Nat.add_zero, sendObject_single hne hroom]

theorem chunksHeld_cons {x : SentStripe} (hk : 0 < x.k) :
    ∃ rest, chunksHeld x = { team := x.team, rank := x.rank, objectId := x.objectId, stripe := x.stripe, chunk := 0 } :: rest := by
  obtain ⟨n, hn⟩ : ∃ n, x.k + x.m = n + 1 := ⟨x.k + x.m - 1, by omega⟩
  rw [chunksHeld, hn, List.range_succ_eq_map]
  exact ⟨_, rfl⟩

/-- The first chunk of a stripe given to a session without a limit has left (R293, R295). -/
theorem sendStripe_first {s : State} {i p : Nat} {x : SentStripe} (hport : s.acrePort = some p) (hheld : s.acre.held = []) (hk : 0 < x.k)
    (hcount : (s.sessionAt i).sendCounter + 1 < 2 ^ 32) (hteam : x.team = (s.sessionAt i).peerTeam)
    (hrank : x.rank = (s.sessionAt i).peerRank) (hmin : (s.sessionAt i).minRtt = none) :
    datagram s p i { type := BitVec.ofNat 8 x.type, objectId := x.objectId, stripe := x.stripe, chunk := 0, k := x.k, m := x.m }
      (SentStripe.chunk x 0) ∈ (s.sendStripe i x).outbox := by
  obtain ⟨rest, hchunks⟩ := chunksHeld_cons hk
  obtain ⟨u, hu, hout⟩ := paceChunk_leaves hteam hrank hmin 0
  have hrest : Spreads u (rest.foldl (fun s c => s.paceChunk i c) u) := .foldl (fun _ _ hv => hv.paceChunk) (.refl u)
  rw [sendStripe_unheld (by rw [hport]; rfl) hheld, hchunks, List.foldl_cons, hu]
  refine hrest.outbox ?_
  rw [hout, State.sendChunk, sendAcre_eq (s := stripeKept s x) hport hcount]
  exact List.mem_append_right _ (List.mem_singleton.mpr rfl)

theorem datagram_form (s : State) (p i : Nat) (h : AcreHeader) (payload : List Byte) :
    ∃ b, datagram s p i h payload = .acre (s.udpPath p (s.sessionAt i).peerTeam (s.sessionAt i).endpoint) (s.sessionAt i).peerTeam
      (s.sessionAt i).peerRank
      { h with epoch := BitVec.ofNat 32 (s.sessionAt i).sendEpoch, counter := BitVec.ofNat 32 (s.sessionAt i).sendCounter
               senderRank := BitVec.ofNat 32 s.rank, senderTeam := BitVec.ofNat 16 (s.num 0x500002), length := payload.length
               intact := true } b := ⟨_, rfl⟩

theorem fetchReplies {s : State} {h : AcreHeader} {i : Nat} (hin : LetIn s h i) (hmay : MaySend s i) (hk : 0 < s.codeShape.1)
    (hlen : s.anchorReply.length ≤ 8192) (hne : s.anchorReply ≠ []) (hheld : s.acre.held = []) (hmin : (s.sessionAt i).minRtt = none) :
    ∃ t, exec (.fetchRequest h) s = .next t ∧
      ∃ p, s.acrePort = some p ∧
        ∃ b, OutMsg.acre (s.udpPath p (s.sessionAt i).peerTeam (s.sessionAt i).endpoint) (s.sessionAt i).peerTeam
          (s.sessionAt i).peerRank
          { type := 5, objectId := BitVec.ofNat 64 (h.objectId.toNat / 2 ^ 16 * 2 ^ 16), stripe := 0, chunk := 0, k := s.codeShape.1
            m := s.codeShape.2, epoch := BitVec.ofNat 32 (s.sessionAt i).sendEpoch
            counter := BitVec.ofNat 32 (s.sessionAt i).sendCounter, senderRank := BitVec.ofNat 32 s.rank
            senderTeam := BitVec.ofNat 16 (s.num 0x500002), length := s.anchorReply.length } b ∈ t.outbox := by
  have hexec : exec (.fetchRequest h) s = .next (fetchRequest h s) := rfl
  obtain ⟨p, hp⟩ := Option.isSome_iff_exists.mp hmay.1
  have hfirst := sendStripe_first (s := s.useFree) (i := i)
    (x := onlyStripe s.useFree i 5 (BitVec.ofNat 64 (h.objectId.toNat / 2 ^ 16 * 2 ^ 16)) s.anchorReply) hp hheld hk hmay.2.2 rfl rfl hmin
  have hlength := chunk_single (s := s.useFree) (i := i) (type := 5) (objectId := BitVec.ofNat 64 (h.objectId.toNat / 2 ^ 16 * 2 ^ 16)) hk hlen hne
  obtain ⟨b, hb⟩ := datagram_form s.useFree p i
    { type := 5, objectId := BitVec.ofNat 64 (h.objectId.toNat / 2 ^ 16 * 2 ^ 16), stripe := 0, chunk := 0, k := s.codeShape.1
      m := s.codeShape.2 }
    (SentStripe.chunk (onlyStripe s.useFree i 5 (BitVec.ofNat 64 (h.objectId.toNat / 2 ^ 16 * 2 ^ 16)) s.anchorReply) 0)
  rw [hlength] at hb
  exact ⟨_, hexec.trans (congrArg _ (fetchRequest_single hin hlen hne)), p, hp, b, hb ▸ hfirst⟩

/-- Settles O55: acknowledgements, NACKs, the timer, anchor replies and fetch requests in turn. -/
theorem acreStripes : Obligations.AcreStripes := by
  intro h i s
  refine ⟨fun hin sample => ⟨_, rfl, stripeAck_keeps hin sample⟩, fun hin hheld sample => stripeAck_unheld hin hheld sample,
    fun hin hmay x j hx hj => stripeNack_sends hin hmay hx hj, fun team rank obj n x hx _ _ => ⟨fun hmany hs => nackTimer_abandons hx hmany hs,
      fun hfew hwith hmay => nackTimer_asks hx hfew hwith hmay⟩, fun hin bytes season => ⟨fun hother => ?_, fun u hu hmay hsame hasked hnumber =>
        anchorReplies hin bytes season hu hmay hsame hasked hnumber⟩, fun hin hempty => ?_, fun hin hmay hk _ hlen hne hheld hmin =>
          fetchReplies hin hmay hk hlen hne hheld hmin⟩
  · have hexec : exec (.anchorChunk h bytes season) s = .next (anchorChunk h bytes season s) := rfl
    rw [hexec, anchorChunk_other hin hother]
  · have hexec : exec (.fetchRequest h) s = .next (fetchRequest h s) := rfl
    rw [hexec, fetchRequest_empty hin hempty]
    rfl

end Sys2Proof.Proofs

/-! ## The merge sum (R310, R311) -/

namespace Sys2Proof.Proofs

open Sys2Proof Machine

/-- A state with other season state and other line metadata. -/
def withSeasons (s : State) (x : Seasons) (m : SMap (BitVec 36)) : State := { s with seasons := x, host := { s.host with lineMeta := m } }

/-- A share with its merge sum (R311). -/
def merged (s : State) (r : Roster) (x : SeasonTensor) : SeasonTensor :=
  { x with merge := (List.range x.decl.count).map fun i => mergedElement (s.namedBlocks r x.decl.weight) r.meanFactor (x.decl.base + i) }

/-- A state whose merge sums stand, before the lead device hears of it. -/
def sumsWritten (s : State) (r : Roster) : State :=
  (((s.mapTensors (merged s r)).healLines ((s.mapTensors (merged s r)).seasons.tensors.map (·.decl.merge)))).mapSeasons fun x =>
    { x with mergedRoster := some r.digest }

theorem sumsWritten_eq (s : State) (r : Roster) : ∃ m, sumsWritten s r = withSeasons s
    { s.seasons with tensors := s.seasons.tensors.map (merged s r), mergedRoster := some r.digest } m := by
  refine ⟨((s.mapTensors (merged s r)).healLines ((s.mapTensors (merged s r)).seasons.tensors.map (·.decl.merge))).host.lineMeta, ?_⟩
  rw [sumsWritten, healLines_frame]
  rfl

theorem mergeSumWritten_eq {s : State} {r : Roster} {j : Job} (hr : s.mergeRoster = some r) (hj : s.job = some j) (hon : s.num 0x500001 ≠ 0)
    (hdue : s.seasons.winnowDue = false) (hstage : s.seasons.winnowStage ≠ 1) (hall : r.entries.all s.holdsSet = true) :
    mergeSumWritten s = (sumsWritten s r).reportReady (s.committed + 1) .merge := by
  rw [mergeSumWritten, hr]
  dsimp only
  have hcommitted : ((s.mapTensors (merged s r)).healLines ((s.mapTensors (merged s r)).seasons.tensors.map (·.decl.merge))).committed =
      s.committed := by
    rw [healLines_frame]
    rfl
  rw [if_neg (by simp [State.seasonsOn, hon, hj, hdue, hstage, hall])]
  exact congrArg (fun n => (sumsWritten s r).reportReady (n + 1) .merge) hcommitted

theorem mergeSumWritten_waits {s : State} {r : Roster} (hr : s.mergeRoster = some r)
    (hwait : s.seasons.winnowDue = true ∨ s.seasons.winnowStage = 1 ∨ r.entries.all s.holdsSet = false) : mergeSumWritten s = s := by
  rw [mergeSumWritten, hr]
  dsimp only
  rw [if_pos]
  rcases hwait with h | h | h
  · simp [h]
  · simp [h]
  · rw [h]
    simp

/-! ### Telling the lead device -/

section
variable (s : State) (x : Seasons) (m : SMap (BitVec 36))

theorem withSeasons_nums : (withSeasons s x m).nums = s.nums := rfl

theorem withSeasons_isLead : (withSeasons s x m).isLead = s.isLead := rfl

theorem withSeasons_rank : (withSeasons s x m).rank = s.rank := rfl

theorem withSeasons_leadRank : (withSeasons s x m).leadRank = s.leadRank := rfl

theorem withSeasons_routePort (n : Nat) : (withSeasons s x m).routePort n = s.routePort n := rfl

theorem withSeasons_bump (k : Nat) : ((withSeasons s x m).bump k).nums = (s.bump k).nums := rfl

theorem reportReady_lead (hlead : s.isLead = true) (season : Nat) (mode : CommitMode) :
    (withSeasons s x m).reportReady season mode = (withSeasons s x m).noteReady s.rank season mode := by
  rw [State.reportReady, withSeasons_isLead, if_pos hlead, withSeasons_rank]

theorem noteReady_mem (u : State) (rank season : Nat) (mode : CommitMode) : (rank, season, mode) ∈ (u.noteReady rank season mode).seasons.ready :=
  List.mem_append_right _ (List.mem_singleton.mpr rfl)

theorem noteReady_rest (u : State) (rank season : Nat) (mode : CommitMode) : (u.noteReady rank season mode).fabric = u.fabric ∧
    (u.noteReady rank season mode).nums = u.nums := ⟨rfl, rfl⟩

theorem reportReady_unrouted (hlead : s.isLead = false) (hroute : s.routePort s.leadRank = none) (season : Nat) (mode : CommitMode) :
    ((withSeasons s x m).reportReady season mode).nums = (s.bump 0x404008).nums := by
  rw [State.reportReady, withSeasons_isLead, hlead, if_neg Bool.false_ne_true, State.sendBest, State.routeBest]
  dsimp only
  rw [withSeasons_routePort, withSeasons_leadRank, hroute]
  exact withSeasons_bump s x m _

theorem reportReady_routed (hlead : s.isLead = false) {p : Nat} (hroute : s.routePort s.leadRank = some p) (season : Nat) (mode : CommitMode) :
    (withSeasons s x m).reportReady season mode = (withSeasons s x m).mapPort p fun q =>
      { q with beQueue := q.beQueue ++ [{ dest := s.leadRank, source := s.rank, content := .ready s.rank season mode }] } := by
  rw [State.reportReady, withSeasons_isLead, hlead, if_neg Bool.false_ne_true, State.sendBest, State.routeBest]
  dsimp only
  rw [withSeasons_routePort, withSeasons_leadRank, hroute]
  rfl

theorem portAt_withSeasons (n : Nat) : (withSeasons s x m).portAt n = s.portAt n := rfl

end

/-- A queue that grows at a port that is there, and nothing at one that is not. -/
theorem beQueue_mapPort (s : State) (p : Nat) (f : BeFrame) :
    ((s.mapPort p fun q => { q with beQueue := q.beQueue ++ [f] }).portAt p).beQueue =
      (s.portAt p).beQueue ++ (if p < s.fabric.ports.length then [f] else []) := by
  by_cases hp : p < s.fabric.ports.length
  · rw [portAt_mapPort_same _ hp, if_pos hp]
  · have hnone : s.fabric.ports[p]? = none := List.getElem?_eq_none (Nat.not_lt.mp hp)
    have hmapped : (s.mapPort p fun q => { q with beQueue := q.beQueue ++ [f] }).fabric.ports[p]? = none := by
      rw [State.mapPort]
      exact (getElem?_modifyNth_same _ _ _).trans (by rw [hnone]; rfl)
    rw [if_neg hp, List.append_nil, State.portAt, State.portAt, nth_eq_getD, nth_eq_getD, hnone, hmapped]

/-! ### The sums themselves -/

theorem healLines_of_good {s : State} {ids : List W32} (hgood : s.tensorsPoisoned ids = false) : s.healLines ids = s := by
  have hnone : (s.host.lineMeta.filter fun e => e.2.getLsbD 35 && s.lineOf ids e.1) = [] := by
    rw [List.filter_eq_nil_iff]
    exact List.any_eq_false.mp hgood
  rw [State.healLines, hnone]
  rfl

theorem mapTensors_poisoned (s : State) (f : SeasonTensor → SeasonTensor) (ids : List W32) :
    (s.mapTensors f).tensorsPoisoned ids = s.tensorsPoisoned ids := rfl

theorem merged_ids (s : State) (r : Roster) :
    (s.mapTensors (merged s r)).seasons.tensors.map (·.decl.merge) = s.seasons.tensors.map (·.decl.merge) := by
  change (s.seasons.tensors.map (merged s r)).map _ = _
  rw [List.map_map]
  rfl

theorem sumsWritten_host {s : State} {r : Roster} (hgood : s.tensorsPoisoned (s.seasons.tensors.map (·.decl.merge)) = false) :
    (sumsWritten s r).host = s.host := by
  rw [sumsWritten, merged_ids, healLines_of_good (by rw [mapTensors_poisoned]; exact hgood)]
  rfl

/-- With an empty roster every sum is 0 (R311). -/
theorem merged_empty {s : State} {r : Roster} (hempty : r.entries = []) (hmean : r.meanFactor = 0x3F800000) (x : SeasonTensor) :
    ∀ w ∈ (merged s r x).merge, w = 0 := by
  have hblocks : s.namedBlocks r x.decl.weight = [] := by rw [State.namedBlocks, hempty]; rfl
  intro w hw
  rw [merged, hblocks, hmean] at hw
  obtain ⟨i, -, rfl⟩ := List.mem_map.mp hw
  have hzero : BitVec.ofNat 32 (fp32Mul (mergeElement []) (0x3F800000 : W32).toNat) = 0 := by decide +kernel
  exact hzero

theorem reported_frame {s u v : State} {x : Seasons} {m : SMap (BitVec 36)} (hu : u = withSeasons s x m)
    (hv : v = { u with seasons := { u.seasons with ready := v.seasons.ready }, fabric := v.fabric, nums := v.nums }) :
    v.seasons = { x with ready := v.seasons.ready } ∧ v.host = u.host ∧
      v = { s with seasons := { x with ready := v.seasons.ready }, host := { s.host with lineMeta := v.host.lineMeta }, fabric := v.fabric
                   nums := v.nums } := by
  rw [hv, hu]
  exact ⟨rfl, rfl, rfl⟩

theorem mergeSum : Claims.MergeSum := by
  intro s
  have hexec : exec .mergeSumWritten s = .next (mergeSumWritten s) := rfl
  refine ⟨fun hnone => ?_, fun r hr hwait => ?_, fun r j hr hj hon hdue hstage hall => ?_⟩
  · rw [hexec, mergeSumWritten, hnone]
  · rw [hexec, mergeSumWritten_waits hr hwait]
  · obtain ⟨m, hm⟩ := sumsWritten_eq s r
    obtain ⟨hseasons, hhost, hframe⟩ := reported_frame hm (reportReady_frame (sumsWritten s r) (s.committed + 1) .merge)
    refine ⟨_, hexec.trans (congrArg _ (mergeSumWritten_eq hr hj hon hdue hstage hall)), by rw [hseasons], fun hlead => ?_, fun hlead hroute => ?_,
      fun p hlead hroute => ?_, fun hgood => by rw [hhost, sumsWritten_host hgood], by rw [hseasons]; rfl, fun hempty hmean x hx => ?_, ?_⟩
    · rw [hm, reportReady_lead _ _ _ hlead]
      exact ⟨noteReady_mem _ _ _ _, noteReady_rest _ _ _ _⟩
    · rw [hm, reportReady_unrouted _ _ _ hlead hroute]
    · rw [hm, reportReady_routed _ _ _ hlead hroute, beQueue_mapPort, portAt_withSeasons]
      exact ⟨rfl, rfl⟩
    · rw [hseasons] at hx
      obtain ⟨y, -, rfl⟩ := List.mem_map.mp hx
      exact merged_empty hempty hmean y
    · rw [hseasons]
      exact hframe

/-! ## Winnow (R300 to R304) -/

/-! ### What its inputs are read from -/

theorem find?_map_of {α : Type} (f : α → α) (p : α → Bool) (hp : ∀ x, p (f x) = p x) (l : List α) : (l.map f).find? p = (l.find? p).map f := by
  rw [List.find?_map]
  exact congrArg _ (congrArg (fun q => l.find? q) (funext hp))

theorem ownTensors_map {s v : State} (hjob : v.job = s.job) {f : SeasonTensor → SeasonTensor} (hdecl : ∀ x, (f x).decl = x.decl)
    (htensors : v.seasons.tensors = s.seasons.tensors.map f) : v.ownTensors = s.ownTensors.map f := by
  rw [State.ownTensors, State.ownTensors, hjob]
  cases s.job with
  | none => rfl
  | some j =>
    dsimp only
    rw [List.map_filterMap]
    refine congrArg (fun g => j.binary.tensors.filterMap g) (funext fun t => ?_)
    rw [htensors, find?_map_of]
    intro x
    rw [hdecl]

theorem ownTensors_sub {s : State} {x : SeasonTensor} (hx : x ∈ s.ownTensors) : x ∈ s.seasons.tensors ∧ x.decl.primary = true ∧
    s.seasons.tensors.find? (fun y => y.decl.primary && y.decl.weight == x.decl.weight) = some x := by
  rw [State.ownTensors] at hx
  cases hj : s.job with
  | none =>
    rw [hj] at hx
    exact absurd hx List.not_mem_nil
  | some j =>
    rw [hj] at hx
    obtain ⟨t, -, hfind⟩ := List.mem_filterMap.mp hx
    obtain ⟨hprimary, hweight⟩ := Bool.and_eq_true_iff.mp (List.find?_some (p := fun y : SeasonTensor => y.decl.primary && y.decl.weight == t.tensorId) hfind)
    refine ⟨List.mem_of_find?_eq_some hfind, hprimary, ?_⟩
    rw [eq_of_beq hweight]
    exact hfind

theorem winnowPoisoned_congr {s v : State} {f : SeasonTensor → SeasonTensor} (hown : v.ownTensors = s.ownTensors.map f)
    (hdecl : ∀ x, (f x).decl = x.decl) (hptr : v.seasons.ptr = s.seasons.ptr) (hlines : v.tensorsPoisoned = s.tensorsPoisoned) :
    v.winnowPoisoned = s.winnowPoisoned := by
  rw [State.winnowPoisoned, State.winnowPoisoned, hown, hptr, hlines, List.any_map]
  refine congrArg (fun g => s.ownTensors.any g) (funext fun x => ?_)
  rw [Function.comp, hdecl]

/-! ### A pass that fails (R301, R303) -/

/-- A state whose Winnow has failed, before the other devices hear of it. -/
def winnowFailedHere (s : State) : State :=
  (s.mapSeasons fun x => { x with winnowFailed := true, winnowStage := 2, winnowDue := false }).bump (acreCount 10)

theorem failWinnow_eq (s : State) : s.failWinnow true = s.others.foldl (fun (t : State) r =>
    t.sendBest r (.histogram 0 t.seasons.winnowSeason 4 t.rank [])) (winnowFailedHere s) := rfl

theorem spreads_failWinnow (s : State) : Spreads (winnowFailedHere s) (s.failWinnow true) := by
  rw [failWinnow_eq]
  exact (Spreads.refl _).foldl fun _ _ hu => hu.sendBest

theorem failWinnow_counts {s : State} (hs : Canonical s) : (s.failWinnow true).num 0x50400A = min (s.num 0x50400A + 1) (2 ^ 32 - 1) := by
  have hcount : (winnowFailedHere s).num 0x50400A = min (s.num 0x50400A + 1) (2 ^ 32 - 1) :=
    num_bump_counter (s := s.mapSeasons fun x => { x with winnowFailed := true, winnowStage := 2, winnowDue := false }) hs (by decide +kernel)
  exact ((spreads_failWinnow s).num _ (by decide)).trans hcount

theorem failWinnow_seasons (s : State) : (s.failWinnow true).seasons =
    { s.seasons with winnowFailed := true, winnowStage := 2, winnowDue := false } := (spreads_failWinnow s).seasons

theorem failWinnow_job (s : State) : (s.failWinnow true).job = s.job := (spreads_failWinnow s).job

theorem failWinnow_free (s : State) : (s.failWinnow true).freeCount = s.freeCount := by
  rw [failWinnow_eq, foldl_sendBest_frame _ (fun r => r) fun t _ => .histogram 0 t.seasons.winnowSeason 4 t.rank []]
  rfl

/-- What a failed pass leaves, of a state that a free value has been drawn from. -/
theorem failWinnow_failed {s v : State} (hs : Canonical v) (hnums : v.nums = s.nums) (hjob : v.job = s.job)
    (hstore : v.seasons.store = s.seasons.store) (hfree : v.freeCount = s.freeCount + 1) :
    (v.failWinnow true).seasons.winnowStage = 2 ∧ (v.failWinnow true).seasons.winnowFailed = true ∧
      (v.failWinnow true).seasons.winnowDue = false ∧ (v.failWinnow true).num 0x50400A = min (s.num 0x50400A + 1) (2 ^ 32 - 1) ∧
      (v.failWinnow true).seasons.store = s.seasons.store ∧ (v.failWinnow true).freeCount = s.freeCount + 1 ∧
      (v.failWinnow true).job = s.job := by
  rw [failWinnow_seasons, failWinnow_counts hs, failWinnow_free, failWinnow_job, num_of_nums hnums]
  exact ⟨rfl, rfl, rfl, rfl, hstore, hfree, hjob⟩

/-! ### The first pass (R301, R302) -/

/-- What the exchange of histograms leaves of a state: the job, the free values drawn, and of each share its declaration and keys. -/
structure Counts (s t : State) : Prop where
  job : t.job = s.job
  free : t.freeCount = s.freeCount
  seasons : t.seasons = { s.seasons with tensors := t.seasons.tensors, keyCounts := t.seasons.keyCounts }
  keys : t.seasons.tensors.map (fun x => (x.decl, x.keys)) = s.seasons.tensors.map fun x => (x.decl, x.keys)

namespace Counts

variable {s t u : State}

theorem refl (s : State) : Counts s s := ⟨rfl, rfl, rfl, rfl⟩

theorem trans (h : Counts s t) (h' : Counts t u) : Counts s u := by
  refine ⟨h'.job.trans h.job, h'.free.trans h.free, ?_, h'.keys.trans h.keys⟩
  rw [h'.seasons, h.seasons]

theorem foldl {α : Type} {f : State → α → State} (hf : ∀ t a, Counts s t → Counts s (f t a)) {l : List α} (h : Counts s t) :
    Counts s (l.foldl f t) := by
  induction l generalizing t with
  | nil => exact h
  | cons a l ih => exact ih (hf t a h)

theorem ite {p : Prop} [Decidable p] (ht : Counts s t) (hu : Counts s u) : Counts s (if p then t else u) := by
  split
  · exact ht
  · exact hu

theorem sendBest (h : Counts s t) {dest : Nat} {c : BestEffort} : Counts s (t.sendBest dest c) := by
  refine h.trans ?_
  rw [sendBest_frame]
  exact ⟨rfl, rfl, rfl, rfl⟩

theorem noteCounts (h : Counts s t) {k : KeyCounts} : Counts s (t.noteCounts k) := .ite h (h.trans ⟨rfl, rfl, rfl, rfl⟩)

theorem shareCounts (h : Counts s t) {id : W32} {part : Nat} {c : SMap Nat} : Counts s (t.shareCounts id part c) :=
  h.noteCounts.foldl fun _ _ hu => hu.sendBest

/-- A threshold found, of shares of one weight. -/
def withTau (id : W32) (n : Nat) (x : SeasonTensor) : SeasonTensor := if x.decl.weight == id then { x with tau := some n } else x

theorem withTau_keys (id : W32) (n : Nat) (x : SeasonTensor) : ((withTau id n x).decl, (withTau id n x).keys) = (x.decl, x.keys) := by
  unfold withTau
  split <;> rfl

theorem mapTau (h : Counts s t) {id : W32} {n : Nat} : Counts s (t.mapTensors (withTau id n)) := by
  refine h.trans ⟨rfl, rfl, rfl, ?_⟩
  change (t.seasons.tensors.map _).map _ = _
  rw [List.map_map]
  exact List.map_congr_left fun x _ => withTau_keys id n x

theorem settleTau (h : Counts s t) {x : SeasonTensor} : Counts s (t.settleTau x) := by
  unfold State.settleTau
  dsimp only
  split
  · exact h
  · split
    · exact h
    · split
      · exact h.shareCounts
      · exact h.shareCounts.mapTau

theorem settleTaus (h : Counts s t) : Counts s t.settleTaus := .ite (h.foldl fun _ _ hu => hu.settleTau) h

end Counts

/-- A share without keys and threshold. -/
def unkeyed (x : SeasonTensor) : SeasonTensor := { x with tau := none, keys := [] }

/-- A state whose first pass begins (R301, R323). -/
def passBegun (s : State) (late : Bool) : State :=
  s.useFree.mapSeasons fun x =>
    { x with winnowStage := 1, winnowSeason := s.committed + 1, winnowLate := late, winnowFailed := false, tensors := x.tensors.map unkeyed }

/-- The keys of the blocks of a share (R301). -/
def passKeys (s : State) (late : Bool) (x : SeasonTensor) : Option (List Nat) := (s.passBlocks x late s.fresh).map fun l => l.map blockKey

/-- A share with the keys of its blocks. -/
def keyed (s : State) (late : Bool) (x : SeasonTensor) : SeasonTensor :=
  if x.decl.primary then { x with keys := (passKeys s late x).getD [] } else x

theorem passBlocks_begun (s : State) (late : Bool) (x : SeasonTensor) (set : Bool) (zero : Int) :
    (passBegun s late).passBlocks x set zero = s.passBlocks x set zero := rfl

theorem passBlocks_unkeyed (s : State) (x : SeasonTensor) (set : Bool) (zero : Int) :
    s.passBlocks (unkeyed x) set zero = s.passBlocks x set zero := rfl

theorem passBegun_own (s : State) (late : Bool) : (passBegun s late).ownTensors = s.ownTensors.map unkeyed :=
  ownTensors_map (s := s) (v := passBegun s late) (f := unkeyed) rfl (fun _ => rfl) rfl

theorem passBegun_poisoned (s : State) (late : Bool) : (passBegun s late).winnowPoisoned = s.winnowPoisoned :=
  winnowPoisoned_congr (s := s) (v := passBegun s late) (passBegun_own s late) (fun _ => rfl) rfl rfl

theorem passOne_eq (s : State) (late : Bool) : s.passOne late =
    if s.winnowPoisoned || s.ownTensors.any fun x => (passKeys s late x).isNone then (passBegun s late).failWinnow true
    else (((passBegun s late).mapTensors (keyed s late)).ownTensors.foldl (fun (t : State) x =>
      t.shareCounts x.decl.weight 0 (histogram (x.keys.map (· / 4096)))) ((passBegun s late).mapTensors (keyed s late))).settleTaus := by
  have hcond : ((passBegun s late).winnowPoisoned || (passBegun s late).ownTensors.any fun x => (passKeys s late x).isNone) =
      (s.winnowPoisoned || s.ownTensors.any fun x => (passKeys s late x).isNone) := by
    rw [passBegun_poisoned, passBegun_own, List.any_map]
    rfl
  rw [← hcond]
  rfl

theorem canonical_passBegun {s : State} (hs : Canonical s) (late : Bool) : Canonical (passBegun s late) :=
  (Keeps.refl s).useFree.mapSeasons.canonical hs

theorem keyed_decl (s : State) (late : Bool) (x : SeasonTensor) : (keyed s late x).decl = x.decl := by
  unfold keyed
  split <;> rfl

theorem keyed_unkeyed {s : State} {late : Bool} {x : SeasonTensor} {bl : List FrameBlock} (hprimary : x.decl.primary = true)
    (hbl : s.passBlocks x late s.fresh = some bl) : (keyed s late (unkeyed x)).keys = bl.map blockKey := by
  have hkeys : passKeys s late (unkeyed x) = some (bl.map blockKey) := by
    rw [passKeys, passBlocks_unkeyed, hbl]
    rfl
  have hown : (unkeyed x).decl.primary = true := hprimary
  rw [keyed, if_pos hown]
  change (passKeys s late (unkeyed x)).getD [] = _
  rw [hkeys]
  rfl

/-- A first pass on good inputs (R301, R302). -/
theorem passOne_keys {s : State} {late : Bool} (hgood : s.winnowPoisoned = false)
    (hall : ∀ x ∈ s.ownTensors, (s.passBlocks x late s.fresh).isSome = true) :
    Counts ((passBegun s late).mapTensors (keyed s late)) (s.passOne late) := by
  have hnone : (s.ownTensors.any fun x => (passKeys s late x).isNone) = false := by
    rw [List.any_eq_false]
    intro x hx
    have := hall x hx
    rw [passKeys]
    simpa [Option.isSome_iff_ne_none] using this
  rw [passOne_eq, hgood, hnone, if_neg (by simp)]
  exact ((Counts.refl _).foldl fun _ _ hu => hu.shareCounts).settleTaus

theorem passOne_fails {s : State} {late : Bool} (hbad : s.winnowPoisoned = true ∨ ∃ x ∈ s.ownTensors, s.passBlocks x late s.fresh = none) :
    s.passOne late = (passBegun s late).failWinnow true := by
  rw [passOne_eq, if_pos]
  rcases hbad with h | ⟨x, hx, hnone⟩
  · rw [h, Bool.true_or]
  · rw [Bool.or_eq_true]
    refine .inr (List.any_eq_true.mpr ⟨x, hx, ?_⟩)
    rw [passKeys, hnone]
    rfl

theorem keyedTensors (s : State) (late : Bool) :
    ((passBegun s late).mapTensors (keyed s late)).seasons.tensors = s.seasons.tensors.map fun x => keyed s late (unkeyed x) := by
  change (s.seasons.tensors.map unkeyed).map (keyed s late) = _
  rw [List.map_map]
  rfl

/-- What a first pass on good inputs leaves, share by share (R301). -/
theorem passOne_done {s : State} {late : Bool} (hgood : s.winnowPoisoned = false)
    (hall : ∀ x ∈ s.ownTensors, (s.passBlocks x late s.fresh).isSome = true) :
    (s.passOne late).seasons.winnowStage = 1 ∧ (s.passOne late).seasons.winnowSeason = s.num 0x50000F + 1 ∧
      (s.passOne late).seasons.winnowFailed = false ∧ (s.passOne late).seasons.winnowLate = late ∧
      (s.passOne late).freeCount = s.freeCount + 1 ∧ (s.passOne late).seasons.store = s.seasons.store ∧ (s.passOne late).job = s.job ∧
      ∀ x ∈ s.seasons.tensors, ∀ bl, x.decl.primary = true → s.passBlocks x late s.fresh = some bl →
        ∃ y ∈ (s.passOne late).seasons.tensors, y.decl = x.decl ∧ y.keys = bl.map blockKey := by
  obtain ⟨hjob, hfree, hseasons, hkeys⟩ := passOne_keys hgood hall
  refine ⟨by rw [hseasons]; rfl, by rw [hseasons]; rfl, by rw [hseasons]; rfl, by rw [hseasons]; rfl, hfree, by rw [hseasons]; rfl, hjob,
    fun x hx bl hprimary hbl => ?_⟩
  have hmem : (x.decl, bl.map blockKey) ∈ (s.passOne late).seasons.tensors.map fun x => (x.decl, x.keys) := by
    rw [hkeys, keyedTensors, List.map_map]
    refine List.mem_map.mpr ⟨x, hx, ?_⟩
    change ((keyed s late (unkeyed x)).decl, (keyed s late (unkeyed x)).keys) = _
    rw [keyed_decl, keyed_unkeyed hprimary hbl]
    rfl
  obtain ⟨y, hy, heq⟩ := List.mem_map.mp hmem
  obtain ⟨hdecl, hk⟩ := Prod.mk.inj heq
  exact ⟨y, hy, hdecl, hk⟩

theorem passOne_failed {s : State} {late : Bool} (hs : Canonical s)
    (hbad : s.winnowPoisoned = true ∨ ∃ x ∈ s.ownTensors, s.passBlocks x late s.fresh = none) :
    ((s.passOne late).seasons.winnowStage = 2 ∧ (s.passOne late).seasons.winnowFailed = true ∧ (s.passOne late).seasons.winnowDue = false ∧
      (s.passOne late).num 0x50400A = min (s.num 0x50400A + 1) (2 ^ 32 - 1) ∧ (s.passOne late).seasons.store = s.seasons.store ∧
      (s.passOne late).freeCount = s.freeCount + 1 ∧ (s.passOne late).job = s.job) ∧
      (s.passOne late).seasons.winnowSeason = s.num 0x50000F + 1 := by
  rw [passOne_fails hbad]
  refine ⟨failWinnow_failed (canonical_passBegun hs late) rfl rfl rfl rfl, ?_⟩
  rw [failWinnow_seasons]
  rfl

/-! ### The second pass (R303, R304) -/

/-- What a set's sending leaves of a state: the job, the season state but the store, and every entry but one counter. -/
structure Offers (s t : State) : Prop where
  job : t.job = s.job
  free : s.freeCount ≤ t.freeCount
  seasons : t.seasons = { s.seasons with store := t.seasons.store }
  num : ∀ k, 0x404008 ≠ k → t.num k = s.num k

namespace Offers

variable {s t u : State}

theorem refl (s : State) : Offers s s := ⟨rfl, Nat.le_refl _, rfl, fun _ _ => rfl⟩

theorem trans (h : Offers s t) (h' : Offers t u) : Offers s u := by
  refine ⟨h'.job.trans h.job, Nat.le_trans h.free h'.free, ?_, fun k hk => (h'.num k hk).trans (h.num k hk)⟩
  rw [h'.seasons, h.seasons]

theorem of_spreads (h : Spreads s t) : Offers s t := ⟨h.job, h.free, by rw [h.seasons], h.num⟩

theorem foldl {α : Type} {f : State → α → State} (hf : ∀ t a, Offers s t → Offers s (f t a)) {l : List α} (h : Offers s t) :
    Offers s (l.foldl f t) := by
  induction l generalizing t with
  | nil => exact h
  | cons a l ih => exact ih (hf t a h)

theorem offerBale (h : Offers s t) {b : Bale} : Offers s (t.offerBale b) := by
  have hstore : Offers t (t.storeBale b) := by
    rw [storeBale_frame]
    exact ⟨rfl, Nat.le_refl _, rfl, fun _ _ => rfl⟩
  have hspread : Offers t (t.spreadBale b) := hstore.trans (.of_spreads ((Spreads.refl _).foldl fun _ _ hu => hu.sendBest))
  exact (h.trans hspread).trans (.of_spreads (Spreads.refl _).sendToTeams)

end Offers

/-- The parts that a second pass makes of the own shares (R303). -/
def packedShares (s : State) : List (SeasonTensor × Option (List Packed)) := s.ownTensors.map fun x => (x, s.packTensor x s.fresh)

/-- A share with the residual of a second pass in its pending copy (R303). -/
def pendingShare (s : State) (x : SeasonTensor) : SeasonTensor :=
  match (packedShares s).find? fun p => p.1.decl.weight == x.decl.weight && x.decl.primary with
  | none => x
  | some p =>
    let r := (p.2.getD []).flatMap fun b => residualBlock b.delta b.kept
    if !s.seasons.ptr then { x with residual1 := r } else { x with residual0 := r }

/-- The bales of a second pass, in part order (R304). -/
def packedBales (s : State) : List Bale :=
  ((packedShares s).flatMap fun p => s.useFree.balesOf p.1 (p.2.getD [])).zipIdx.map fun b =>
    { b.1 with header := { b.1.header with part := (if s.rank = 0 then 0 else Config.firstPart s.rank) + b.2 } }

/-- A state whose pending residuals stand, before its bales leave. -/
def residualsPending (s : State) : State :=
  ((s.useFree.mapTensors (pendingShare s)).healLines (s.ownTensors.map fun x => copyId (!s.seasons.ptr) x.decl.residuals)).mapSeasons fun x =>
    { x with winnowStage := 2, winnowDue := false }

theorem passTwo_eq (s : State) : s.passTwo =
    if s.winnowPoisoned || (packedShares s).any fun p => p.2.isNone then s.useFree.failWinnow true
    else ((packedBales s).foldl State.offerBale (residualsPending s)).endLate := rfl

theorem packedShares_of {s : State} {x : SeasonTensor} (hx : x ∈ s.ownTensors) :
    (packedShares s).find? (fun p => p.1.decl.weight == x.decl.weight && x.decl.primary) = some (x, s.packTensor x s.fresh) := by
  obtain ⟨-, hprimary, hfirst⟩ := ownTensors_sub hx
  have hsame : ∀ y ∈ s.ownTensors, y.decl.weight = x.decl.weight → y = x := by
    intro y hy hw
    obtain ⟨-, -, hfirst'⟩ := ownTensors_sub hy
    rw [hw, hfirst] at hfirst'
    exact (Option.some.inj hfirst').symm
  have hsome : ((packedShares s).find? fun p => p.1.decl.weight == x.decl.weight && x.decl.primary).isSome = true := by
    rw [List.find?_isSome]
    exact ⟨(x, s.packTensor x s.fresh), List.mem_map.mpr ⟨x, hx, rfl⟩, by simp [hprimary]⟩
  obtain ⟨p, hp⟩ := Option.isSome_iff_exists.mp hsome
  obtain ⟨y, hy, rfl⟩ := List.mem_map.mp (List.mem_of_find?_eq_some hp)
  have hweight := List.find?_some (p := fun p : SeasonTensor × Option (List Packed) => p.1.decl.weight == x.decl.weight && x.decl.primary) hp
  have hy' : y = x := hsame y hy (eq_of_beq (Bool.and_eq_true_iff.mp hweight).1)
  rw [hp, hy']

theorem pendingShare_own {s : State} {x : SeasonTensor} {l : List Packed} (hx : x ∈ s.ownTensors) (hl : s.packTensor x s.fresh = some l) :
    (if s.seasons.ptr = true then (pendingShare s x).residual0 else (pendingShare s x).residual1) =
      l.flatMap fun b => residualBlock b.delta b.kept := by
  rw [pendingShare, packedShares_of hx, hl]
  dsimp only
  cases s.seasons.ptr <;> rfl

/-- A second pass writes no share but its pending residual. -/
theorem pendingShare_rest (s : State) (x : SeasonTensor) : (pendingShare s x).decl = x.decl ∧
    ((pendingShare s x).anchor0, (pendingShare s x).anchor1, (pendingShare s x).momentum0, (pendingShare s x).momentum1) =
      (x.anchor0, x.anchor1, x.momentum0, x.momentum1) := by
  unfold pendingShare
  split
  · exact ⟨rfl, rfl⟩
  · dsimp only
    split <;> exact ⟨rfl, rfl⟩

theorem residualsPending_seasons (s : State) : (residualsPending s).seasons =
    { s.seasons with tensors := s.seasons.tensors.map (pendingShare s), winnowStage := 2, winnowDue := false } := by
  rw [residualsPending, healLines_frame]
  rfl

theorem residualsPending_rest (s : State) : (residualsPending s).job = s.job ∧ (residualsPending s).freeCount = s.freeCount + 1 ∧
    (residualsPending s).nums = s.nums := by
  rw [residualsPending, healLines_frame]
  exact ⟨rfl, rfl, rfl⟩

/-- A state whose request for an anchor is noted (R318). -/
def requestNoted (n : Nat) (asked : Bool) (f : Option Nat) (s : State) : State :=
  s.mapSeasons fun x => { x with fetchNumber := n, fetchAsked := asked, fetched := f }

theorem askAnchor_spreads (s : State) : ∃ n asked f, Spreads (requestNoted n asked f s) s.askAnchor := by
  unfold State.askAnchor
  split
  · exact ⟨s.seasons.fetchNumber, s.seasons.fetchAsked, s.seasons.fetched, .refl s⟩
  · exact ⟨(s.seasons.fetchNumber + 1) % 2 ^ 48, true, none, (Spreads.refl _).sendTo⟩

/-- A state in which a late set is offered and the team is to join, before it asks for an anchor (R317). -/
def lateOffered (s : State) : State :=
  ((s.bump (acreCount 12)).mapSeasons fun x => { x with lateOffered := true }).setNum 0x500010 3

theorem endLate_eq (s : State) : s.endLate = if s.seasons.winnowLate then (lateOffered s).askAnchor else s := rfl

theorem requestNoted_seasons (n : Nat) (asked : Bool) (f : Option Nat) (s : State) :
    (requestNoted n asked f (lateOffered s)).seasons =
      { s.seasons with lateOffered := true, fetchNumber := n, fetchAsked := asked, fetched := f } := rfl

theorem requestNoted_rest (n : Nat) (asked : Bool) (f : Option Nat) (s : State) :
    (requestNoted n asked f (lateOffered s)).job = s.job ∧ (requestNoted n asked f (lateOffered s)).freeCount = s.freeCount := ⟨rfl, rfl⟩

theorem requestNoted_num (n : Nat) (asked : Bool) (f : Option Nat) (s : State) (k : Nat) :
    (requestNoted n asked f s).num k = s.num k := rfl

/-- What a join after a late set leaves. -/
theorem endLate_keeps (s : State) : s.endLate.job = s.job ∧ s.freeCount ≤ s.endLate.freeCount ∧ s.endLate.seasons.tensors = s.seasons.tensors ∧
    s.endLate.seasons.winnowStage = s.seasons.winnowStage ∧ s.endLate.seasons.winnowDue = s.seasons.winnowDue ∧
    s.endLate.seasons.winnowFailed = s.seasons.winnowFailed := by
  rw [endLate_eq]
  split
  · obtain ⟨n, asked, f, hspread⟩ := askAnchor_spreads (lateOffered s)
    obtain ⟨hjob, hfree⟩ := requestNoted_rest n asked f s
    rw [hspread.job, hspread.seasons, requestNoted_seasons, hjob]
    exact ⟨rfl, hfree ▸ hspread.free, rfl, rfl, rfl, rfl⟩
  · exact ⟨rfl, Nat.le_refl _, rfl, rfl, rfl, rfl⟩

theorem endLate_late {s : State} (hs : Canonical s) (hlate : s.seasons.winnowLate = true) :
    s.endLate.num 0x500010 = 3 ∧ s.endLate.seasons.lateOffered = true ∧ s.endLate.num 0x50400C = min (s.num 0x50400C + 1) (2 ^ 32 - 1) := by
  have hbump : Canonical ((s.bump (acreCount 12)).mapSeasons fun x => { x with lateOffered := true }) := (Keeps.refl s).bump.mapSeasons.canonical hs
  obtain ⟨n, asked, f, hspread⟩ := askAnchor_spreads (lateOffered s)
  have hcount : (s.bump (acreCount 12)).num 0x50400C = min (s.num 0x50400C + 1) (2 ^ 32 - 1) := num_bump_counter hs (by decide +kernel)
  rw [endLate_eq, if_pos hlate, hspread.num _ (by decide), hspread.num _ (by decide), hspread.seasons, requestNoted_seasons, requestNoted_num,
    requestNoted_num, lateOffered, State.num_setNum_same hbump, State.num_setNum_other _ _ (by decide)]
  exact ⟨rfl, rfl, hcount⟩

/-- A second pass on good inputs (R303, R304, R317). -/
theorem passTwo_good {s : State} (hgood : s.winnowPoisoned = false) (hall : ∀ x ∈ s.ownTensors, (s.packTensor x s.fresh).isSome = true) :
    s.passTwo = ((packedBales s).foldl State.offerBale (residualsPending s)).endLate := by
  have hnone : ((packedShares s).any fun p => p.2.isNone) = false := by
    rw [List.any_eq_false]
    intro p hp
    obtain ⟨x, hx, rfl⟩ := List.mem_map.mp hp
    simpa [Option.isSome_iff_ne_none] using hall x hx
  rw [passTwo_eq, hgood, hnone, if_neg (by simp)]

theorem passTwo_fails {s : State} (hbad : s.winnowPoisoned = true ∨ ∃ x ∈ s.ownTensors, s.packTensor x s.fresh = none) :
    s.passTwo = s.useFree.failWinnow true := by
  rw [passTwo_eq, if_pos]
  rcases hbad with h | ⟨x, hx, hnone⟩
  · rw [h, Bool.true_or]
  · rw [Bool.or_eq_true]
    exact .inr (List.any_eq_true.mpr ⟨_, List.mem_map.mpr ⟨x, hx, rfl⟩, by rw [hnone]; rfl⟩)

/-- What a second pass on good inputs leaves. -/
theorem passTwo_done {s : State} (hs : Canonical s) (hgood : s.winnowPoisoned = false)
    (hall : ∀ x ∈ s.ownTensors, (s.packTensor x s.fresh).isSome = true) :
    s.passTwo.seasons.winnowStage = 2 ∧ s.passTwo.seasons.winnowDue = false ∧ s.passTwo.seasons.winnowFailed = s.seasons.winnowFailed ∧
      s.passTwo.freeCount ≥ s.freeCount + 1 ∧ s.passTwo.seasons.tensors = s.seasons.tensors.map (pendingShare s) ∧ s.passTwo.job = s.job ∧
      (s.seasons.winnowLate = true → s.passTwo.num 0x500010 = 3 ∧ s.passTwo.seasons.lateOffered = true ∧
        s.passTwo.num 0x50400C = min (s.num 0x50400C + 1) (2 ^ 32 - 1)) := by
  have hoffers : Offers (residualsPending s) ((packedBales s).foldl State.offerBale (residualsPending s)) :=
    (Offers.refl _).foldl fun _ _ hu => hu.offerBale
  have hpending : Canonical (residualsPending s) := (Keeps.refl s).useFree.mapSeasons.healLines.mapSeasons.canonical hs
  have hcanonical : Canonical ((packedBales s).foldl State.offerBale (residualsPending s)) :=
    ((Keeps.refl _).foldl fun _ _ hu => hu.offerBale).canonical hpending
  obtain ⟨hjob, hfree, hnums⟩ := residualsPending_rest s
  have hseasons := residualsPending_seasons s
  rw [passTwo_good hgood hall]
  generalize (packedBales s).foldl State.offerBale (residualsPending s) = u at hoffers hcanonical
  have hkept := hoffers.seasons
  rw [hseasons] at hkept
  obtain ⟨ejob, efree, etensors, estage, edue, efailed⟩ := endLate_keeps u
  have hfree' : s.freeCount + 1 ≤ u.freeCount := hfree ▸ hoffers.free
  refine ⟨by rw [estage, hkept], by rw [edue, hkept], by rw [efailed, hkept], Nat.le_trans hfree' efree, by rw [etensors, hkept],
    by rw [ejob, hoffers.job, hjob], fun hlate => ?_⟩
  obtain ⟨hmode, hoffered, hcount⟩ := endLate_late hcanonical (show u.seasons.winnowLate = true by rw [hkept]; exact hlate)
  refine ⟨hmode, hoffered, ?_⟩
  rw [hcount, hoffers.num _ (by decide), num_of_nums hnums]

/-! ### Winnow's commands (R300, R317, R323) -/

theorem winnowMay_of {s : State} {j : Job} (hgrow : s.ctl.cur = .growing) (hon : s.num 0x500001 ≠ 0) (hj : s.job = some j) :
    s.winnowMay = true := by
  simp [State.winnowMay, State.seasonsOn, hgrow, hon, hj]

theorem winnowMay_not {s : State} (h : s.ctl.cur ≠ .growing ∨ s.num 0x500001 = 0 ∨ s.job = none) : s.winnowMay = false := by
  rcases h with h | h | h
  · simp [State.winnowMay, h]
  · simp [State.winnowMay, State.seasonsOn, h]
  · simp [State.winnowMay, h]

theorem winnowPassOne_of {s : State} (hmay : s.winnowMay = true) {set : Bool}
    (hset : (set = false ∧ s.seasons.winnowDue = true ∧ s.seasons.winnowStage = 0) ∨
      (set = true ∧ ¬(s.seasons.winnowDue = true ∧ s.seasons.winnowStage = 0) ∧
        s.lateDue = true ∧ ¬(s.seasons.winnowLate = true ∧ s.seasons.winnowStage = 1))) : winnowPassOne s = s.passOne set := by
  rw [winnowPassOne, hmay]
  rcases hset with ⟨rfl, hdue, hstage⟩ | ⟨rfl, hnot, hlate, hfirst⟩
  · rw [if_neg (by simp), if_pos (by simp [hdue, hstage])]
  · rw [if_neg (by simp), if_neg (by simpa using hnot), if_pos]
    rw [hlate, Bool.true_and, Bool.not_eq_true', ← Bool.not_eq_true, Bool.and_eq_true, decide_eq_true_eq]
    exact hfirst

theorem winnowPassOne_idle {s : State} (hdue : ¬(s.seasons.winnowDue = true ∧ s.seasons.winnowStage = 0))
    (hlate : ¬(s.lateDue = true ∧ ¬(s.seasons.winnowLate = true ∧ s.seasons.winnowStage = 1))) : winnowPassOne s = s := by
  rw [winnowPassOne]
  split
  · rfl
  · rw [if_neg (by simpa using hdue), if_neg]
    intro h
    rw [Bool.and_eq_true, Bool.not_eq_true', ← Bool.not_eq_true, Bool.and_eq_true, decide_eq_true_eq] at h
    exact hlate h

theorem winnowPassTwo_idle {s : State} (h : s.seasons.winnowStage ≠ 1 ∨ s.ownTensors.any (fun x => x.tau.isNone) = true) :
    winnowPassTwo s = s := by
  rw [winnowPassTwo, if_neg]
  rcases h with h | h
  · simp [h]
  · obtain ⟨x, hx, hnone⟩ := List.any_eq_true.mp h
    intro hall
    have hsome := List.all_eq_true.mp (Bool.and_eq_true_iff.mp hall).2 x hx
    rw [Option.isNone_iff_eq_none.mp hnone] at hsome
    exact Bool.false_ne_true hsome

theorem winnowPassTwo_runs {s : State} (hmay : s.winnowMay = true) (hstage : s.seasons.winnowStage = 1)
    (hall : s.ownTensors.all (fun x => x.tau.isSome) = true) : winnowPassTwo s = s.passTwo := by
  rw [winnowPassTwo, hmay, hstage, hall]
  rfl

theorem winnowPasses : Claims.WinnowPasses := by
  have hone : ∀ s, exec .winnowPassOne s = .next (winnowPassOne s) := fun _ => rfl
  have htwo : ∀ s, exec .winnowPassTwo s = .next (winnowPassTwo s) := fun _ => rfl
  refine ⟨fun s hno => ?_, fun j s hs hgrow hon hj => ?_⟩
  · have hmay := winnowMay_not hno
    rw [hone, htwo, winnowPassOne, winnowPassTwo, hmay]
    exact ⟨rfl, rfl⟩
  · have hmay := winnowMay_of hgrow hon hj
    refine ⟨fun set hset => ⟨fun hgood hall => ?_, fun hbad => ?_⟩, fun hdue hlate => ?_, fun hstage => ?_, fun _ hnone => ?_,
      fun hstage hall => ⟨fun hgood hpack => ?_, fun hbad => ?_⟩⟩
    · exact ⟨_, (hone s).trans (congrArg _ (winnowPassOne_of hmay hset)), passOne_done hgood hall⟩
    · exact ⟨_, (hone s).trans (congrArg _ (winnowPassOne_of hmay hset)), passOne_failed hs hbad⟩
    · rw [hone, winnowPassOne_idle hdue hlate]
    · rw [htwo, winnowPassTwo_idle (.inl hstage)]
    · rw [htwo, winnowPassTwo_idle (.inr hnone)]
    · obtain ⟨hdone, hdue, hfailed, hfree, htensors, hjob, hlate⟩ := passTwo_done hs hgood hpack
      refine ⟨_, (htwo s).trans (congrArg _ (winnowPassTwo_runs hmay hstage hall)), hdone, hdue, hfailed, hfree, ?_, hjob, fun x hx l hl => ?_, hlate⟩
      · rw [htensors, List.map_map]
        exact List.map_congr_left fun x _ => (pendingShare_rest s x).2
      · rw [htensors]
        exact ⟨_, List.mem_map_of_mem (ownTensors_sub hx).1, (pendingShare_rest s x).1, pendingShare_own hx hl⟩
    · refine ⟨_, (htwo s).trans (congrArg _ (winnowPassTwo_runs hmay hstage hall)), ?_⟩
      rw [passTwo_fails hbad]
      exact failWinnow_failed ((Keeps.refl s).useFree.canonical hs) rfl rfl rfl rfl

/-- Settles O56: what a pass leaves by what its inputs are, and the merge sum. -/
theorem seasons : Obligations.Seasons := ⟨winnowPasses, mergeSum⟩

end Sys2Proof.Proofs

/-! ## Recovery: the Gleaner's sweep, the patrol and repair from a peer (R347 to R360, R431) -/

namespace Sys2Proof.Proofs

open Sys2Proof Machine

/-! ### The domains of a sweep (R359) -/

theorem gleanSelected_eq (v : Nat) : gleanSelected v = gleanDomains.filter fun d => v == 0 || v.testBit (d - 1) := by
  unfold gleanSelected
  by_cases hv : v = 0
  · rw [if_pos hv, hv]
    rfl
  · rw [if_neg hv, beq_false_of_ne hv]
    simp only [Bool.false_or]

theorem nodup_gleanSelected (v : Nat) : (gleanSelected v).Nodup := by
  rw [gleanSelected_eq]
  exact List.Pairwise.filter _ (by decide : gleanDomains.Nodup)

/-- Every bit of the mask stands for a domain that the Gleaner tests. -/
theorem mem_gleanDomains_of_testBit {i : Nat} (h : gleanMask.testBit i = true) : i + 1 ∈ gleanDomains := by
  have hbits : ∀ i < 19, gleanMask.testBit i = true → i + 1 ∈ gleanDomains := by decide
  refine hbits i ?_ h
  refine Decidable.byContradiction fun hi => ?_
  have hlt : gleanMask < 2 ^ i := Nat.lt_of_lt_of_le (by decide : gleanMask < 2 ^ 19) (Nat.pow_le_pow_right (by decide) (by omega))
  rw [Nat.testBit_lt_two_pow hlt] at h
  exact Bool.noConfusion h

/-- An operand without a bit outside the mask selects a domain. -/
theorem gleanSelected_ne_nil {v : Nat} (h : v ||| gleanMask = gleanMask) : gleanSelected v ≠ [] := by
  by_cases hv : v = 0
  · rw [gleanSelected, if_pos hv]
    decide
  · obtain ⟨i, hi⟩ := Nat.exists_testBit_of_ne_zero hv
    have hmask : gleanMask.testBit i = true := by rw [← h, Nat.testBit_or, hi, Bool.true_or]
    rw [gleanSelected, if_neg hv]
    exact List.ne_nil_of_mem (List.mem_filter.mpr ⟨mem_gleanDomains_of_testBit hmask, hi⟩)

/-! ### A domain's test begins and a sweep ends (R31, R359) -/

theorem mapHeadland_frame (s : State) (d : Nat) (f : Port → Port) :
    s.mapHeadland d f = { s with fabric := (s.mapHeadland d f).fabric } := by
  unfold State.mapHeadland
  induction headlandPorts d generalizing s with
  | nil => rfl
  | cons n ns ih =>
    rw [List.foldl_cons, ih]
    rfl

theorem num_mapHeadland (s : State) (d : Nat) (f : Port → Port) (k : Nat) : (s.mapHeadland d f).num k = s.num k := by
  rw [mapHeadland_frame]
  rfl

theorem downForTest_frame (s : State) (d : Nat) :
    s.downForTest d = { s with fabric := (s.downForTest d).fabric, nums := (s.downForTest d).nums } := by
  unfold State.downForTest
  dsimp only
  rw [mapHeadland_frame]
  rfl

/-- The test of a domain begins: the domain leaves the list of those to come, and the device state stays. -/
theorem beginGlean_frame (s : State) (d : Nat) :
    s.beginGlean d = { s with
      fabric := (s.beginGlean d).fabric, nums := (s.beginGlean d).nums
      recovery := { s.recovery with gleanDomain := some d, gleanLeft := s.recovery.gleanLeft.filter (· != d) } } := by
  unfold State.beginGlean
  rw [downForTest_frame]
  rfl

theorem num_beginGlean (s : State) (d : Nat) {k : Nat} (hk : 0x404003 ≠ k) : (s.beginGlean d).num k = s.num k := by
  change (s.downForTest d).num k = _
  unfold State.downForTest
  dsimp only
  rw [State.num_bump_other _ _ hk, num_mapHeadland]

/-- The next domain of a sweep that goes on. -/
theorem nextGlean_of_cons {s : State} {d : Nat} {l : List Nat} (hleft : s.recovery.gleanLeft = d :: l)
    (hstop : s.recovery.gleanStop = false) : s.nextGlean = s.beginGlean d := by
  rw [State.nextGlean, hleft]
  simp [hstop]

theorem nextGlean_of_end {s : State} (h : s.recovery.gleanLeft = [] ∨ s.recovery.gleanStop = true) : s.nextGlean = s.endGlean := by
  unfold State.nextGlean
  split
  · next d l hleft =>
    rw [if_pos (h.resolve_left (by simp [hleft]))]
  · rfl

/-- The state in which a sweep is over and the device still says Gleaning. -/
def sweepClosed (s : State) : State :=
  let t := (s.mapHeadland (s.recovery.gleanDomain.getD 0) fun p => if p.state = .down then { p with state := .training } else p).mapRecovery
    fun r => { r with gleanDomain := none, gleanLeft := [], gleanStop := false }
  t.setNum 0x607002 t.gnssNow

theorem endGlean_eq (s : State) : s.endGlean = ((sweepClosed s).restIn .tilled).raise .verbDone := rfl

theorem keeps_sweepClosed (s : State) : Keeps s (sweepClosed s) := (Keeps.refl s).mapHeadland.mapRecovery.setNum

theorem sweepClosed_ctl (s : State) : (sweepClosed s).ctl = s.ctl := by
  unfold sweepClosed
  rw [mapHeadland_frame]
  rfl

theorem num_sweepClosed (s : State) {k : Nat} (hk : 0x607002 ≠ k) : (sweepClosed s).num k = s.num k := by
  rw [sweepClosed, State.num_setNum_other _ _ hk]
  exact num_mapHeadland _ _ _ _

/-- What the end of a sweep leaves: the device Tilled without a domain under test, vector 7, and the results as they were. -/
theorem endGlean_ends {s : State} (hs : Canonical s) :
    s.endGlean.ctl.cur = .tilled ∧ s.endGlean.recovery.gleanDomain = none ∧ s.endGlean.recovery.gleanLeft = [] ∧
      (s.endGlean.num 0x102001).testBit 7 = true ∧ s.endGlean.ctl.mirror = s.ctl.mirror ∧
      ∀ k, 0x607002 ≠ k → eventCause ≠ k → s.endGlean.num k = s.num k := by
  have hcanon : Canonical ((sweepClosed s).restIn .tilled) := (keeps_sweepClosed s).restIn.canonical hs
  rw [endGlean_eq]
  refine ⟨?_, ?_, ?_, State.raise_sets hcanon .verbDone, ?_, fun k htime hcause => ?_⟩
  · rw [raise_ctl_cur]
    exact (moveTo_cur _ _ _).1
  · rw [raise_recovery, restIn_eq_moveTo, moveTo_recovery]
    rfl
  · rw [raise_recovery, restIn_eq_moveTo, moveTo_recovery]
    rfl
  · rw [raise_ctl_mirror, restIn_eq_moveTo, moveTo_ctl, sweepClosed_ctl]
  · rw [State.num_raise_other _ _ hcause, restIn_eq_moveTo, State.num_moveTo_other _ _ _ hcause, num_sweepClosed s htime]

/-! ### The verb (R359, R360, R431) -/

/-- The selected results read untested. -/
def resultsCleared (ds : List Nat) (s : State) : State := ds.foldl (fun s d => s.setNum (0x607100 + d) 0) s

theorem resultsCleared_frame (ds : List Nat) (s : State) : resultsCleared ds s = { s with nums := (resultsCleared ds s).nums } := by
  unfold resultsCleared
  induction ds generalizing s with
  | nil => rfl
  | cons d ds ih =>
    rw [List.foldl_cons, ih]
    rfl

theorem keeps_resultsCleared (ds : List Nat) (s : State) : Keeps s (resultsCleared ds s) := (Keeps.refl s).foldl fun _ _ hu => hu.setNum

/-- A result that reads untested stays so while others are cleared. -/
theorem num_resultsCleared_zero {s : State} (hs : Canonical s) (ds : List Nat) {k : Nat} (h : s.num k = 0) :
    (resultsCleared ds s).num k = 0 := by
  unfold resultsCleared
  induction ds generalizing s with
  | nil => exact h
  | cons d ds ih =>
    refine ih (State.canonical_setNum hs _ _) ?_
    rw [State.num_setNum hs, h, ite_self]

theorem num_resultsCleared {s : State} (hs : Canonical s) {ds : List Nat} {d : Nat} (hd : d ∈ ds) :
    (resultsCleared ds s).num (0x607100 + d) = 0 := by
  induction ds generalizing s with
  | nil => exact absurd hd List.not_mem_nil
  | cons e ds ih =>
    have hset : Canonical (s.setNum (0x607100 + e) 0) := State.canonical_setNum hs _ _
    rcases List.mem_cons.mp hd with rfl | hmem
    · exact num_resultsCleared_zero (ds := ds) hset (State.num_setNum_same hs _ _)
    · exact ih hset hmem

/-- A sweep whose results read untested, before the pattern set is looked at. -/
def sweepOpened (v : Nat) (s : State) : State :=
  (resultsCleared (gleanSelected v) { s with host := { s.host with held := [] } }).restIn .gleaning

section

variable {s : State} {v : Nat}

theorem startSweep_eq (s : State) (v : Nat) : s.startSweep v =
    if (sweepOpened v s).patternsOk then
      ((sweepOpened v s).mapRecovery fun c => { c with gleanLeft := gleanSelected v, gleanStop := false }).nextGlean
    else (sweepOpened v s).endGlean := rfl

theorem canonical_heldCleared (hs : Canonical s) : Canonical { s with host := { s.host with held := [] } } := by
  obtain ⟨hnums, hocts, hwindow, htier, hholder, -⟩ := hs
  exact ⟨hnums, hocts, hwindow, htier, hholder, rfl⟩

theorem canonical_sweepOpened (hs : Canonical s) : Canonical (sweepOpened v s) :=
  (keeps_resultsCleared _ _).restIn.canonical (canonical_heldCleared hs)

theorem sweepOpened_held : (sweepOpened v s).host.held = [] := by
  rw [sweepOpened, restIn_eq_moveTo, moveTo_host, resultsCleared_frame]

theorem sweepOpened_ctl : (sweepOpened v s).ctl.cur = .gleaning ∧ (sweepOpened v s).ctl.mirror = s.ctl.mirror ∧
    (sweepOpened v s).ctl.flashOwn = s.ctl.flashOwn := by
  refine ⟨(moveTo_cur _ _ _).1, ?_, ?_⟩
  · rw [sweepOpened, restIn_eq_moveTo, moveTo_ctl, resultsCleared_frame]
  · rw [sweepOpened, restIn_eq_moveTo, moveTo_ctl, resultsCleared_frame]

theorem sweepOpened_patternsOk : (sweepOpened v s).patternsOk = s.patternsOk := by
  have hflash : (sweepOpened v s).flash = s.flash := by rw [sweepOpened, restIn_eq_moveTo, moveTo_flash, resultsCleared_frame]
  have hfuses : (sweepOpened v s).fuses = s.fuses := by rw [sweepOpened, restIn_eq_moveTo, moveTo_fuses, resultsCleared_frame]
  obtain ⟨-, -, hown⟩ := sweepOpened_ctl (s := s) (v := v)
  rw [State.patternsOk, State.patternsOk, hown, hflash, hfuses]

theorem num_sweepOpened (hs : Canonical s) {d : Nat} (hd : d ∈ gleanSelected v) : (sweepOpened v s).num (0x607100 + d) = 0 := by
  rw [sweepOpened, restIn_eq_moveTo, State.num_moveTo_other _ _ _ (by simp only [eventCause]; omega)]
  exact num_resultsCleared (canonical_heldCleared hs) hd

/-- A sweep whose pattern set verifies tests its first domain; the others follow. -/
theorem startSweep_sweeps (hs : Canonical s) (hv : v ||| gleanMask = gleanMask) (hpatterns : s.patternsOk = true) :
    (s.startSweep v).ctl.cur = .gleaning ∧
      (∃ d l, gleanSelected v = d :: l ∧ (s.startSweep v).recovery.gleanDomain = some d ∧ (s.startSweep v).recovery.gleanLeft = l) ∧
      (∀ d ∈ gleanSelected v, (s.startSweep v).num (0x607100 + d) = 0) ∧ (s.startSweep v).host.held = [] ∧
      (s.startSweep v).ctl.mirror = s.ctl.mirror := by
  obtain ⟨d, l, hds⟩ := List.exists_cons_of_ne_nil (gleanSelected_ne_nil hv)
  have hstart : s.startSweep v =
      ((sweepOpened v s).mapRecovery fun c => { c with gleanLeft := gleanSelected v, gleanStop := false }).beginGlean d := by
    rw [startSweep_eq, sweepOpened_patternsOk, if_pos hpatterns]
    exact nextGlean_of_cons hds rfl
  obtain ⟨hcur, hmirror, -⟩ := sweepOpened_ctl (s := s) (v := v)
  have hrest : (d :: l).filter (· != d) = l := by
    obtain ⟨hnot, -⟩ := List.nodup_cons.mp (hds ▸ nodup_gleanSelected v)
    rw [List.filter_cons_of_neg (by simp), List.filter_eq_self]
    intro e he
    exact bne_iff_ne.mpr fun heq => hnot (heq ▸ he)
  rw [hstart]
  refine ⟨?_, ⟨d, l, hds, ?_, ?_⟩, fun e he => ?_, ?_, ?_⟩
  · rw [beginGlean_frame]
    exact hcur
  · rw [beginGlean_frame]
  · rw [beginGlean_frame]
    exact hds ▸ hrest
  · rw [num_beginGlean _ _ (by omega)]
    exact num_sweepOpened hs he
  · rw [beginGlean_frame]
    exact sweepOpened_held
  · rw [beginGlean_frame]
    exact hmirror

/-- Without a verifying pattern set a sweep is over as it begins. -/
theorem startSweep_ends (hs : Canonical s) (hpatterns : s.patternsOk = false) :
    (s.startSweep v).ctl.cur = .tilled ∧ (s.startSweep v).recovery.gleanDomain = none ∧
      (∀ d ∈ gleanSelected v, (s.startSweep v).num (0x607100 + d) = 0) ∧ ((s.startSweep v).num 0x102001).testBit 7 = true ∧
      (s.startSweep v).ctl.mirror = s.ctl.mirror := by
  have hstart : s.startSweep v = (sweepOpened v s).endGlean := by
    rw [startSweep_eq, sweepOpened_patternsOk, if_neg (by simp [hpatterns])]
  obtain ⟨hcur, hdomain, -, hvector, hmirror, hnum⟩ := endGlean_ends (canonical_sweepOpened hs (v := v))
  obtain ⟨-, hopened, -⟩ := sweepOpened_ctl (s := s) (v := v)
  rw [hstart]
  refine ⟨hcur, hdomain, fun d hd => ?_, hvector, hmirror.trans hopened⟩
  rw [hnum _ (by omega) (by simp only [eventCause]; omega)]
  exact num_sweepOpened hs hd

end

section

variable {r : Req} {s : State}

theorem glean_of_tilled (h : VerbAsked s r) (hcur : s.ctl.cur = .tilled) (hv : leNat r.data ||| gleanMask = gleanMask) :
    glean r s = (answeredTo r none [] s).startSweep (leNat r.data) :=
  takeVerb_eq (operandOk := fun v => v ||| gleanMask == gleanMask) (effect := fun v s => s.startSweep v) h (by rw [hcur]; rfl)
    (by simpa using hv)

theorem answeredTo_patternsOk : (answeredTo r none [] s).patternsOk = s.patternsOk := by
  rw [State.patternsOk, State.patternsOk, answeredTo_flashOwn, answeredTo_flash, answeredTo_fuses]

end

section

variable {r : Req} {s : State}

/-- An operand that the verb does not accept. -/
theorem takeVerb_of_outOfRange {accepted : DevState → Bool} {operandOk : Nat → Bool} {effect : Nat → State → State} (h : VerbAsked s r)
    (hstate : accepted s.ctl.cur = true) (hoperand : operandOk (leNat r.data) = false) :
    s.takeVerb r accepted operandOk effect = answeredTo r (some Abort.outOfRange.code) [] s := by
  obtain ⟨hasked, hres, hgate, hop, hoffset, hlen⟩ := h
  rw [State.takeVerb, receive_eq_execute hasked, execute_of_error hres (gate_reached.trans hgate) hop, id, answeredTo]
  simp [hoffset, hlen, hstate, verbOperand, hoperand]

/-- The Glean verb (R359, R360, R431). -/
theorem glean_verb (hs : Canonical s) (h : VerbAsked s r) {ds : List Nat} (hds : gleanSelected (leNat r.data) = ds) :
    (s.ctl.cur = .tilled → leNat r.data ||| gleanMask = gleanMask → s.patternsOk = true →
      ∃ t, exec (.glean r) s = .next t ∧ HasAnswer r none [] t ∧ t.ctl.cur = .gleaning ∧
        (∃ d l, ds = d :: l ∧ t.recovery.gleanDomain = some d ∧ t.recovery.gleanLeft = l) ∧
        (∀ d ∈ ds, t.num (0x607100 + d) = 0) ∧ t.host.held = []) ∧
    (s.ctl.cur = .tilled → leNat r.data ||| gleanMask = gleanMask → s.patternsOk = false →
      ∃ t, exec (.glean r) s = .next t ∧ HasAnswer r none [] t ∧ t.ctl.cur = .tilled ∧ t.recovery.gleanDomain = none ∧
        (∀ d ∈ ds, t.num (0x607100 + d) = 0) ∧ (t.num 0x102001).testBit 7 = true) ∧
    (s.ctl.cur ≠ .tilled → ∃ t, exec (.glean r) s = .next t ∧ HasAnswer r (some 0x00640002) [] t ∧ OnlyAnswers s t) ∧
    (s.ctl.cur = .tilled → leNat r.data ||| gleanMask ≠ gleanMask →
      ∃ t, exec (.glean r) s = .next t ∧ HasAnswer r (some 0x00640003) [] t ∧ OnlyAnswers s t) := by
  have hexec : exec (.glean r) s = .next (glean r s) := rfl
  have hanswered : Canonical (answeredTo r none [] s) := canonical_answeredTo hs
  subst hds
  refine ⟨fun hcur hv hpatterns => ?_, fun hcur hv hpatterns => ?_, fun hcur => ?_, fun hcur hv => ?_⟩
  · obtain ⟨hstate, hdomain, hresults, hheld, hmirror⟩ := startSweep_sweeps hanswered hv (answeredTo_patternsOk.trans hpatterns)
    rw [hexec, glean_of_tilled h hcur hv]
    exact ⟨_, rfl, hasAnswer_keep (hasAnswer_answeredTo h.1) (.startSweep (.refl _)) hmirror, hstate, hdomain, hresults, hheld⟩
  · obtain ⟨hstate, hdomain, hresults, hvector, hmirror⟩ :=
      startSweep_ends (v := leNat r.data) hanswered (answeredTo_patternsOk.trans hpatterns)
    rw [hexec, glean_of_tilled h hcur hv]
    exact ⟨_, rfl, hasAnswer_keep (hasAnswer_answeredTo h.1) (.startSweep (.refl _)) hmirror, hstate, hdomain, hresults, hvector⟩
  · have hrefused : glean r s = answeredTo r (some Abort.wrongState.code) [] s :=
      takeVerb_of_wrongState h (by simp [tilledOnly, hcur])
    rw [hexec, hrefused]
    exact ⟨_, rfl, hasAnswer_answeredTo h.1, onlyAnswers_answeredTo⟩
  · have hrefused : glean r s = answeredTo r (some Abort.outOfRange.code) [] s :=
      takeVerb_of_outOfRange (operandOk := fun v => v ||| gleanMask == gleanMask) (effect := fun v s => s.startSweep v) h
        (by rw [hcur]; rfl) (beq_false_of_ne hv)
    rw [hexec, hrefused]
    exact ⟨_, rfl, hasAnswer_answeredTo h.1, onlyAnswers_answeredTo⟩

end

/-! ### The end of a domain's test (R359, R360) -/

/-- The state in which a domain's result is noted and no domain is under test. -/
def domainNoted (d : Nat) (g : GleanResult) (s : State) : State :=
  ((s.noteGlean d g).mapHeadland d fun p => if p.state = .down then { p with state := .training } else p).mapRecovery
    fun c => { c with gleanDomain := none }

section

variable {s : State} {d : Nat} {g : GleanResult}

theorem gleanDomainDone_eq (hcur : s.ctl.cur = .gleaning) (hdomain : s.recovery.gleanDomain = some d) :
    gleanDomainDone g s = (domainNoted d g s).nextGlean := by
  rw [gleanDomainDone, hdomain]
  exact if_neg (by rw [hcur]; decide)

theorem noteGlean_keeps (s : State) (d : Nat) (g : GleanResult) :
    (s.noteGlean d g).ctl = s.ctl ∧ (s.noteGlean d g).recovery.gleanLeft = s.recovery.gleanLeft ∧
      (s.noteGlean d g).recovery.gleanStop = s.recovery.gleanStop := ⟨rfl, rfl, rfl⟩

theorem num_noteGlean (hs : Canonical s) : (s.noteGlean d g).num (0x607100 + d) = gleanCode g := by
  unfold State.noteGlean
  exact State.num_setNum_same (State.canonical_setNum (State.canonical_of_eq hs rfl rfl rfl) _ _) _ _

theorem domainNoted_keeps (s : State) (d : Nat) (g : GleanResult) :
    (domainNoted d g s).ctl = s.ctl ∧ (domainNoted d g s).recovery.gleanLeft = s.recovery.gleanLeft ∧
      (domainNoted d g s).recovery.gleanStop = s.recovery.gleanStop := by
  unfold domainNoted
  rw [mapHeadland_frame]
  exact noteGlean_keeps s d g

theorem num_domainNoted (hs : Canonical s) : (domainNoted d g s).num (0x607100 + d) = gleanCode g :=
  (num_mapHeadland _ _ _ _).trans (num_noteGlean hs)

theorem canonical_domainNoted (hs : Canonical s) : Canonical (domainNoted d g s) :=
  (Keeps.refl s).noteGlean.mapHeadland.mapRecovery.canonical hs

/-- A domain's result stands; the next domain's test begins, or the sweep ends. -/
theorem gleanDomainDone_sweeps (hs : Canonical s) (hcur : s.ctl.cur = .gleaning) (hdomain : s.recovery.gleanDomain = some d) :
    (∀ e l, s.recovery.gleanLeft = e :: l → s.recovery.gleanStop = false →
      ∃ t, exec (.gleanDomainDone g) s = .next t ∧ t.ctl.cur = .gleaning ∧ t.recovery.gleanDomain = some e ∧
        t.num (0x607100 + d) = gleanCode g) ∧
    ((s.recovery.gleanLeft = [] ∨ s.recovery.gleanStop = true) →
      ∃ t, exec (.gleanDomainDone g) s = .next t ∧ t.ctl.cur = .tilled ∧ t.recovery.gleanDomain = none ∧
        t.recovery.gleanLeft = [] ∧ t.num (0x607100 + d) = gleanCode g ∧ (t.num 0x102001).testBit 7 = true) := by
  have hexec : exec (.gleanDomainDone g) s = .next (gleanDomainDone g s) := rfl
  obtain ⟨hctl, hleft, hstop⟩ := domainNoted_keeps s d g
  rw [gleanDomainDone_eq hcur hdomain] at hexec
  refine ⟨fun e l hnext hgo => ?_, fun hend => ?_⟩
  · rw [nextGlean_of_cons (hleft.trans hnext) (hstop.trans hgo)] at hexec
    refine ⟨_, hexec, ?_, ?_, ?_⟩
    · rw [beginGlean_frame, hctl]
      exact hcur
    · rw [beginGlean_frame]
    · rw [num_beginGlean _ _ (by omega), num_domainNoted hs]
  · rw [nextGlean_of_end (hend.imp hleft.trans hstop.trans)] at hexec
    obtain ⟨htilled, hnone, hempty, hvector, -, hnum⟩ := endGlean_ends (canonical_domainNoted (d := d) (g := g) hs)
    refine ⟨_, hexec, htilled, hnone, hempty, ?_, hvector⟩
    rw [hnum _ (by omega) (by simp only [eventCause]; omega), num_domainNoted hs]

end

theorem gleanerSweep : Claims.GleanerSweep := by
  refine ⟨fun r s hs h _ => ?_, fun g d s hs hcur hdomain => gleanDomainDone_sweeps hs hcur hdomain, fun s hs hcur hstop => ?_,
    fun s hidle => ?_⟩
  · exact glean_verb hs h (gleanSelected_eq (leNat r.data))
  · have hexec : exec .gleanSegment s = .next (gleanSegment s) := rfl
    rw [gleanSegment, if_pos (by simp [hcur, hstop])] at hexec
    obtain ⟨htilled, hnone, hempty, hvector, -⟩ := endGlean_ends hs
    exact ⟨_, hexec, htilled, hnone, hempty, hvector⟩
  · have hexec : exec .gleanSegment s = .next (gleanSegment s) := rfl
    rw [hexec, gleanSegment, if_neg]
    rcases hidle with hcur | hstop
    · simp [hcur]
    · simp [hstop]

/-! ### A repair asks a peer (R355, R356) -/

theorem fabricHold_frame (s : State) (status : W32) :
    s.fabricHold status = { s with job := (s.fabricHold status).job, outbox := (s.fabricHold status).outbox } := by
  unfold State.fabricHold
  dsimp only
  split
  · rfl
  · split
    · unfold State.announce
      dsimp only
      split <;> rfl
    · rfl

/-- What a line of HBM says, and every entry but the counter of dropped frames, stay from one state to another. -/
structure KeepsLines (s t : State) : Prop where
  host : t.host = s.host
  num : ∀ k, 0x404008 ≠ k → t.num k = s.num k

namespace KeepsLines

variable {s t : State}

theorem refl (s : State) : KeepsLines s s := ⟨rfl, fun _ _ => rfl⟩

theorem mapRecovery (h : KeepsLines s t) {f : Recovery → Recovery} : KeepsLines s (t.mapRecovery f) := ⟨h.host, h.num⟩

theorem sendBest (h : KeepsLines s t) {dest : Nat} {c : BestEffort} : KeepsLines s (t.sendBest dest c) := by
  have hsent := (Spreads.refl t).sendBest (dest := dest) (c := c)
  exact ⟨hsent.host.trans h.host, fun k hk => (hsent.num k hk).trans (h.num k hk)⟩

theorem fabricHold (h : KeepsLines s t) {status : W32} : KeepsLines s (t.fabricHold status) := by
  rw [fabricHold_frame]
  exact ⟨h.host, h.num⟩

theorem askRepair (h : KeepsLines s t) {x : Repair} : KeepsLines s (t.askRepair x) := by
  unfold State.askRepair
  dsimp only
  split
  · exact h.mapRecovery.sendBest
  · exact h.mapRecovery.fabricHold

theorem listRepair (h : KeepsLines s t) {addr : Nat} {tag : Tag} : KeepsLines s (t.listRepair addr tag) := by
  unfold State.listRepair
  dsimp only
  generalize hlisted : (tag.valid && t.mutableTensor tag.tensorId && _ && _) = listed
  cases listed with
  | true => exact h.mapRecovery.askRepair
  | false => exact h

end KeepsLines

/-! ### Lines of HBM (R347, R349) -/

/-- What is not the default stands where it was set. -/
theorem get_set_of_ne {α : Type} [DecidableEq α] {d : α} (m : SMap α) (k : Nat) {v : α} (h : v ≠ d) :
    SMap.get d (SMap.set d m k v) k = v := by
  rw [SMap.set, if_neg h, SMap.get_put_same]

/-- A poisoned line reads as poisoned. -/
theorem linePoison_poisonLine (s : State) (l : Nat) : (s.poisonLine l).linePoison l = true := by
  have hbit : (s.lineMeta l ||| BitVec.ofNat 36 (2 ^ 35)).getLsbD 35 = true := by
    rw [BitVec.getLsbD_or]
    simp
  have hne : s.lineMeta l ||| BitVec.ofNat 36 (2 ^ 35) ≠ 0 := by
    intro h
    rw [h] at hbit
    simp at hbit
  have hline : (s.poisonLine l).lineMeta l = s.lineMeta l ||| BitVec.ofNat 36 (2 ^ 35) := get_set_of_ne _ _ hne
  rw [State.linePoison, hline]
  exact hbit

/-- A corrected line is counted, and what its row keeps changes no counter. -/
theorem num_correctedLine {s : State} (hs : Canonical s) (l : Nat) :
    (s.correctedLine l).num 0x601001 = min (s.num 0x601001 + 1) (2 ^ 32 - 1) := by
  have hcount := num_bump_counter hs (k := 0x601001) (by decide +kernel)
  unfold State.correctedLine
  dsimp only
  split
  · rw [State.num_setNum_other _ _ (by decide)]
    exact hcount
  · exact hcount

/-- A line lost is counted and reads as poisoned, whatever repair it starts. -/
theorem lostLine_loses {s : State} (hs : Canonical s) {l : Nat} (hgood : s.linePoison l = false) :
    (s.lostLine l).num 0x601002 = min (s.num 0x601002 + 1) (2 ^ 32 - 1) ∧ (s.lostLine l).linePoison l = true := by
  have hcount : ((s.poisonLine l).bump 0x601002).num 0x601002 = min (s.num 0x601002 + 1) (2 ^ 32 - 1) :=
    num_bump_counter (State.canonical_of_eq hs rfl rfl rfl) (by decide +kernel)
  have hpoison : ((s.poisonLine l).bump 0x601002).linePoison l = true := linePoison_poisonLine s l
  unfold State.lostLine
  rw [if_neg (by simp [hgood])]
  dsimp only
  split
  · next a _ =>
    obtain ⟨hhost, hnum⟩ := (KeepsLines.refl ((s.poisonLine l).bump 0x601002)).listRepair (addr := a * 64)
      (tag := tagOfBytes (Memory.readBytes ((s.poisonLine l).bump 0x601002).host.window (a * 64) 32))
    refine ⟨(hnum _ (by decide)).trans hcount, ?_⟩
    unfold State.linePoison State.lineMeta at hpoison ⊢
    rw [hhost]
    exact hpoison
  · exact ⟨hcount, hpoison⟩

/-! ### Patrol reads (R347 to R350) -/

section

variable {s : State} {p : Nat} {pl : Plot}

theorem patrolRead_eq {x : PatrolStore} {e : EccResult} {t : State}
    (h : patrolRead x e s = t) : exec (.patrolRead x e) s = .next t := by
  have hexec : exec (.patrolRead x e) s = .next (patrolRead x e s) := rfl
  rw [hexec, h]

theorem suspectPlot_frame (s : State) (p : Nat) : s.suspectPlot p = { s with recovery := (s.suspectPlot p).recovery } := by
  unfold State.suspectPlot
  split <;> rfl

theorem regionAt_suspectPlot (s : State) (q p : Nat) (l : Loc) : (s.suspectPlot q).regionAt p l = s.regionAt p l := by
  rw [suspectPlot_frame]
  rfl

/-- A region whose tile is poisoned. -/
def poisonedRegion (g : Region) : Region := { g with tile := { g.tile with tag := { g.tile.tag with poison := true } } }

theorem patrolRegion_uncorrectable (s : State) (p : Nat) (l : Loc) :
    s.patrolRegion p l true .uncorrectable =
      ((s.bump 0x601004).setRegion p l (poisonedRegion (s.regionAt p l))).suspectPlot p := rfl

/-- A corrected word of a store that is there is counted. -/
theorem patrolRead_corrected (hcur : s.ctl.cur ≠ .fallow) {x : PatrolStore}
    (hx : x = .control ∨ x = .transport ∨ (∃ i, x = .faultLog i) ∨ (∃ k r, x = .pool k r ∧ s.job.isSome = true) ∨
      ∃ p, (s.plotAt p).isSome = true ∧ ((∃ r, x = .crib p r ∨ x = .loam p r) ∨ (∃ i w, x = .buffer p i w) ∨ x = .program p)) :
    patrolRead x .corrected s = s.bump 0x601003 := by
  unfold patrolRead
  rw [if_neg (by simp [hcur])]
  rcases hx with rfl | rfl | ⟨i, rfl⟩ | ⟨k, r, rfl, hjob⟩ | ⟨p, hp, ⟨r, rfl | rfl⟩ | ⟨i, w, rfl⟩ | rfl⟩
  · rfl
  · rfl
  · rfl
  · exact if_pos hjob
  · exact if_pos hp
  · exact if_pos hp
  · exact if_neg (by simp [Option.isSome_iff_ne_none.mp hp])
  · obtain ⟨pl, hpl⟩ := Option.isSome_iff_exists.mp hp
    simp only [hpl]

/-- A region set in a plot's store with a poisoned tile is there. -/
theorem regionAt_setRegion_poison (hp : s.plotAt p = some pl) {l : Loc} {r : Nat} (hl : l = .crib r ∨ l = .loam r) {g : Region}
    (hg : g.tile.tag.poison = true) : (s.setRegion p l g).regionAt p l = g := by
  have hne : g ≠ {} := fun h => by rw [h] at hg; exact Bool.noConfusion hg
  rcases hl with rfl | rfl
  · have hplot := State.plotAt_mapPlot_same hp fun pl => { pl with crib := SMap.set {} pl.crib r g }
    change (State.mapPlot _ _ _).regionAt p _ = _
    rw [State.regionAt, hplot]
    exact get_set_of_ne _ _ hne
  · have hplot := State.plotAt_mapPlot_same hp fun pl => { pl with loam := SMap.set {} pl.loam r g }
    change (State.mapPlot _ _ _).regionAt p _ = _
    rw [State.regionAt, hplot]
    exact get_set_of_ne _ _ hne

/-- A region whose word is lost holds its tile as poisoned; the plot's site is suspect. -/
theorem patrolRegion_poisons (hs : Canonical s) (hp : s.plotAt p = some pl) {l : Loc} {r : Nat} (hl : l = .crib r ∨ l = .loam r) :
    (s.patrolRegion p l true .uncorrectable).num 0x601004 = min (s.num 0x601004 + 1) (2 ^ 32 - 1) ∧
      (s.patrolRegion p l true .uncorrectable).regionAt p l = poisonedRegion (s.regionAt p l) := by
  rw [patrolRegion_uncorrectable]
  refine ⟨?_, ?_⟩
  · rw [suspectPlot_frame, setRegion_frame]
    exact num_bump_counter hs (by decide +kernel)
  · rw [regionAt_suspectPlot]
    exact regionAt_setRegion_poison (s := s.bump 0x601004) hp hl rfl

end

theorem patrolReads : Claims.PatrolReads := by
  refine fun s hs => ⟨fun hcur x e => ?_, fun hcur => ⟨fun x hx => ?_, ?_, fun p pl hp => ⟨fun x l r hx => ?_, fun i w => ?_⟩,
    fun l => ?_, fun l hgood => ?_⟩⟩
  · have hexec : exec (.patrolRead x e) s = .next (patrolRead x e s) := rfl
    rw [hexec]
    unfold patrolRead
    rw [if_pos (by simp [hcur])]
  · exact ⟨_, patrolRead_eq (patrolRead_corrected hcur hx), num_bump_counter hs (by decide +kernel), rfl⟩
  · refine ⟨_, patrolRead_eq (t := (s.bump 0x601004).enterFaulted 4 0) ?_, enterFaulted_state.1, ?_⟩
    · unfold patrolRead
      rw [if_neg (by simp [hcur])]
    · have hlog := enterFaulted_faultLog (s := s.bump 0x601004) (cause := 4) (domain := 0) (sig := 0)
      cases hhead : ((s.bump 0x601004).enterFaulted 4 0).ctl.faultLog.head? with
      | none => rw [hhead] at hlog; exact nomatch hlog
      | some f =>
        rw [hhead] at hlog
        simp only [Option.map_some, Option.some.injEq, Prod.mk.injEq] at hlog ⊢
        exact ⟨hlog.1, hlog.2.1⟩
  · have hl : l = .crib r ∨ l = .loam r := hx.imp And.right And.right
    obtain ⟨hnum, hregion⟩ := patrolRegion_poisons hs hp hl
    refine ⟨_, patrolRead_eq (t := s.patrolRegion p l true .uncorrectable) ?_, hnum, ?_, ?_⟩
    · unfold patrolRead
      rw [if_neg (by simp [hcur])]
      rcases hx with ⟨rfl, rfl⟩ | ⟨rfl, rfl⟩
      · exact if_pos (by rw [hp]; rfl)
      · exact if_pos (by rw [hp]; rfl)
    · rw [hregion, poisonedRegion]
    · rw [hregion, poisonedRegion]
  · refine ⟨_, patrolRead_eq (t := ((s.bump 0x601004).mapPlot p fun pl =>
      { pl with badWords := addOnce pl.badWords (bufferAddr i 0 / 8 + w) }).suspectPlot p) ?_, ?_, ?_⟩
    · unfold patrolRead
      rw [if_neg (by simp [hcur])]
      exact if_neg (by simp [hp])
    · rw [suspectPlot_frame]
      exact num_bump_counter hs (by decide +kernel)
    · rw [suspectPlot_frame]
      have hplot := State.plotAt_mapPlot_same (s := s.bump 0x601004) hp fun pl =>
        { pl with badWords := addOnce pl.badWords (bufferAddr i 0 / 8 + w) }
      change ((State.mapPlot _ _ _).plotAt p).any _ = true
      rw [hplot]
      exact List.contains_iff_mem.mpr (mem_addOnce _ _)
  · refine ⟨_, patrolRead_eq (t := s.correctedLine l) ?_, num_correctedLine hs l⟩
    unfold patrolRead
    rw [if_neg (by simp [hcur])]
    rfl
  · refine ⟨_, patrolRead_eq (t := s.lostLine l) ?_, lostLine_loses hs hgood⟩
    unfold patrolRead
    rw [if_neg (by simp [hcur])]
    rfl

/-! ### Serving a repair and its reply (R355) -/

section

variable {s : State} {id shard : W32} {bo : BitVec 40}

theorem repairServe_of_good {source : Nat} {tile : Tile} (h : s.sealedTile id shard bo = some tile) :
    repairServe source id shard bo s = (s.bump 0x602002).sendBest source (.repairReply id shard bo (some tile)) := by
  rw [repairServe, h]

theorem repairServe_of_none {source : Nat} (h : s.sealedTile id shard bo = none) :
    repairServe source id shard bo s = s.sendBest source (.repairReply id shard bo none) := by
  rw [repairServe, h]

/-- The repair that a reply names. -/
def repairNamed (s : State) (id shard : W32) (bo : BitVec 40) : Option Repair :=
  s.recovery.repairs.find? fun x => x.tensorId == id && x.shard == shard && x.blockOffset == bo

theorem repairReply_of_unknown (h : repairNamed s id shard bo = none) (tile : Option Tile) : repairReply id shard bo tile s = s := by
  unfold repairNamed at h
  rw [repairReply, h]

theorem repairReply_of_bad {x : Repair} (h : repairNamed s id shard bo = some x) {tile : Option Tile}
    (hbad : ∀ g, tile = some g → s.goodSealed id shard bo g = false) : repairReply id shard bo tile s = s.askRepair x := by
  have hnone : tile.filter (s.goodSealed id shard bo) = none := by
    rw [Option.filter_eq_none_iff]
    intro g hg
    simp [hbad g hg]
  unfold repairNamed at h
  rw [repairReply, h]
  simp only [hnone]

/-- The state in which a repaired tile is written and its repair is off the list. -/
def tileRepaired (x : Repair) (g : Tile) (s : State) : State :=
  ((s.mapRecovery fun r => { r with repairs := r.repairs.filter fun y => y.addr != x.addr }).writeHbmTile x.addr g).bump 0x602001

theorem repairReply_of_good {x : Repair} (h : repairNamed s id shard bo = some x) {g : Tile} (hgood : s.goodSealed id shard bo g = true) :
    repairReply id shard bo (some g) s = (tileRepaired x g s).tryReport := by
  unfold repairNamed at h
  rw [repairReply, h]
  simp only [Option.filter, hgood, if_true]
  rfl

theorem tileRepaired_job (x : Repair) (g : Tile) : (tileRepaired x g s).job = s.job := by
  unfold tileRepaired
  rw [writeHbmTile_frame]
  rfl

/-- Without an undo that waits for repairs, none is reported. -/
theorem tryReport_of_idle (h : ∀ j, s.job = some j → j.undoing = false) : s.tryReport = s := by
  cases hj : s.job with
  | none => exact tryReport_of_no_job hj
  | some j => exact tryReport_of_no_undo hj (h j hj)

theorem repairReply_repairs (hs : Canonical s) {x : Repair} (h : repairNamed s id shard bo = some x) {g : Tile}
    (hgood : s.goodSealed id shard bo g = true) (hjob : ∀ j, s.job = some j → j.undoing = false) :
    repairReply id shard bo (some g) s = tileRepaired x g s ∧
      (tileRepaired x g s).recovery.repairs = s.recovery.repairs.filter (fun y => y.addr != x.addr) ∧
      (tileRepaired x g s).num 0x602001 = min (s.num 0x602001 + 1) (2 ^ 32 - 1) := by
  refine ⟨?_, ?_, ?_⟩
  · rw [repairReply_of_good h hgood, tryReport_of_idle]
    rw [tileRepaired_job]
    exact hjob
  · unfold tileRepaired
    rw [writeHbmTile_frame]
    rfl
  · have hcanon : Canonical ((s.mapRecovery fun r =>
        { r with repairs := r.repairs.filter fun y => y.addr != x.addr }).writeHbmTile x.addr g) :=
      (Keeps.refl s).mapRecovery.writeHbmTile.canonical hs
    rw [tileRepaired, num_bump_counter hcanon (by decide +kernel), writeHbmTile_frame]
    rfl

end

theorem replicaRepair : Claims.ReplicaRepair := by
  refine ⟨fun port source id shard bo s hs => ⟨fun hnone => ?_, fun tile htile => ?_⟩,
    fun id shard bo tile s hs => ⟨fun hnone => ?_, fun x hx => ⟨fun g hg hgood hjob => ?_, fun hbad => ?_⟩⟩, fun x s hx => ?_,
    fun x s => ⟨fun r hr => ?_, fun hnone => ?_⟩⟩
  · have hexec : exec (.repairServe port source id shard bo) s = .next (repairServe source id shard bo s) := rfl
    rw [hexec, repairServe_of_none hnone]
  · have hexec : exec (.repairServe port source id shard bo) s = .next (repairServe source id shard bo s) := rfl
    rw [repairServe_of_good htile] at hexec
    refine ⟨_, hexec, rfl, ?_⟩
    rw [((Spreads.refl (s.bump 0x602002)).sendBest).num _ (by decide)]
    exact num_bump_counter hs (by decide +kernel)
  · have hexec : exec (.repairReply id shard bo tile) s = .next (repairReply id shard bo tile s) := rfl
    rw [hexec, repairReply_of_unknown hnone]
  · have hexec : exec (.repairReply id shard bo tile) s = .next (repairReply id shard bo tile s) := rfl
    obtain ⟨hreply, hrepairs, hnum⟩ := repairReply_repairs hs hx hgood hjob
    rw [hg, hreply] at hexec
    exact ⟨_, hg ▸ hexec, hrepairs, hnum⟩
  · have hexec : exec (.repairReply id shard bo tile) s = .next (repairReply id shard bo tile s) := rfl
    rw [hexec, repairReply_of_bad hx hbad]
  · have hexec : exec .repairPeerTimeout s = .next (repairPeerTimeout s) := rfl
    rw [hexec, repairPeerTimeout, hx]
  · rw [State.askRepair, hr]
    rfl
  · rw [State.askRepair, hnone]
    rfl

/-- Settles O21: the sweep goes through the start, the domain's end and the sweep's end; patrol and repair through what counts and what
a repair leaves of the lines. -/
theorem recovery : Obligations.Recovery := ⟨gleanerSweep, patrolReads, replicaRepair⟩

end Sys2Proof.Proofs
